-- ==== Sys2Proof/Word.lean ====
section
/-!
DEFINITION. The word types of the UF-2340 model and their plainest arithmetic: bytes, 32-bit words, and the
index types of the fixed tables (Table 0-3).
-/
namespace Sys2Proof

/-- One byte of a frame, a block or a record. -/
abbrev Byte := BitVec 8

/-- A run of bytes, lowest offset first. -/
abbrev Bytes := List Byte

/-- A 32-bit word (a CRC, a label serial, a dispatch sequence). -/
abbrev Word32 := BitVec 32

/-- The 16-bit tag a REQ carries and its RESP copies (R174). -/
abbrev Tag := BitVec 16

/-- Stream context n stands for stream channel n + 1, channels 1..32 (R1). -/
abbrev StreamId := Fin 32

/-- Feeds F0..F3 (R41). -/
abbrev FeedId := Fin 4

/-- Drive ports DP0..DP3 (R122). -/
abbrev DriveId := Fin 4

/-- Cartridge table index 0..127 (R83). -/
abbrev CartId := Fin 128

/-- Element number 0..104 (R99). -/
abbrev ElemId := Fin 105

/-- Pool number 0..7 (R97). -/
abbrev PoolId := Fin 8

/-- Restore channel n + 33, channels 33..40 (R144). -/
abbrev RestoreId := Fin 8

/-- The ASCII bytes of a text. -/
def ascii (t : String) : Bytes := t.toList.map fun c => BitVec.ofNat 8 c.toNat

/-- The low `n` bytes of a number, least significant byte first (section 0.6). -/
def leBytes : Nat → Nat → Bytes
  | 0, _ => []
  | n + 1, v => BitVec.ofNat 8 v :: leBytes n (v / 256)

/-- The number a little-endian run of bytes spells (section 0.6). -/
def leNat : Bytes → Nat
  | [] => 0
  | b :: bs => b.toNat + 256 * leNat bs

/-- The link channel number of a stream context. -/
def streamChannel (c : StreamId) : Nat := c.val + 1

/-- The stream context a link channel names, if it is one of 1..32. -/
def streamOf? (ch : Nat) : Option StreamId :=
  if h : 1 ≤ ch ∧ ch ≤ 32 then some ⟨ch - 1, by omega⟩ else none

/-- The link channel number of a restore channel index. -/
def restoreChannel (r : RestoreId) : Nat := r.val + 33

/-- The restore channel index of a link channel, if it is one of 33..40. -/
def restoreOf? (ch : Nat) : Option RestoreId :=
  if h : 33 ≤ ch ∧ ch ≤ 40 then some ⟨ch - 33, by omega⟩ else none

/-- A number as an index below `n`, if it is one. -/
def finOf? (n v : Nat) : Option (Fin n) := if h : v < n then some ⟨v, h⟩ else none

/-- The drive element of drive d is element d + 1 (R122). -/
def driveElem (d : DriveId) : ElemId := ⟨d.val + 1, by omega⟩

/-- The drive whose element this is, for elements 1..4. -/
def driveOfElem? (e : ElemId) : Option DriveId :=
  if h : 1 ≤ e.val ∧ e.val ≤ 4 then some ⟨e.val - 1, by omega⟩ else none

/-- Element 0, the picker. -/
def pickerElem : ElemId := 0

/-- Elements 5..8 are the mail slots M1..M4. -/
def isMail (e : ElemId) : Bool := 5 ≤ e.val && e.val ≤ 8

/-- Elements 9..104 are the storage slots S1..S96. -/
def isStorage (e : ElemId) : Bool := 9 ≤ e.val

/-- Elements 1..4 are the drives. -/
def isDriveElem (e : ElemId) : Bool := 1 ≤ e.val && e.val ≤ 4

end Sys2Proof
end

