-- ==== Sys2Proof/Config.lean ====
section
/-!
DEFINITION. The numbers the device fixes (Table 0-3) and the bounds of its parameters (Table 0-4).
The spec leaves no value of an instruction open, so there is no free value here (NOTES.md, Assumptions).
-/
namespace Sys2Proof.Config

/-- Slots of one stream ring (Table 0-3, R7). -/
def ringSlots : Nat := 256
/-- Largest DATA or RDATA payload (Table 0-3). -/
def maxPayload : Nat := 4096
/-- Largest raw length of a record (R29). -/
def maxRecord : Nat := 65536
/-- Bytes of a record header (Table 11-4). -/
def recordHeader : Nat := 24
/-- Bytes of a block payload (section 11.3). -/
def blockPayload : Nat := 262108
/-- Bytes of a whole tape block (section 11.3). -/
def blockBytes : Nat := 262144
/-- Closed blocks a close may bring staging to (R49). -/
def stagingLimit : Nat := 64
/-- WRITE commands a feed may have in flight (R51). -/
def writeWindow : Nat := 4
/-- Part records of the segment map (R64). -/
def mapSize : Nat := 4096
/-- Entries of the restore queue (R144). -/
def restoreQueue : Nat := 16
/-- Active restores, and verify activities (R144, R165). -/
def maxActive : Nat := 4
/-- Parts one verify pass takes (R167). -/
def passParts : Nat := 64
/-- Contexts of one suspend stack (R138). -/
def stackDepth : Nat := 2
/-- The end-of-medium reserve in blocks (R51). -/
def reserve : Nat := 64
/-- The largest default capacity (Table 5-3). -/
def maxCapacity : Nat := 16777215
/-- 2^32 - 1, the top of the 32-bit counts. -/
def max32 : Nat := 0xFFFFFFFF
/-- 2^24, the largest EOD (Table 5-1). -/
def maxEod : Nat := 16777216
/-- The move timeout in seconds (R107). -/
def moveTimeout : Nat := 120
/-- Part ids one LIST_SEGMENTS answer carries (R82). -/
def listLimit : Nat := 64

end Sys2Proof.Config
end

