-- ==== Sys2Proof/Syntax.lean ====
section
/-!
DEFINITION. The commands of the UF-2340: one constructor of `Instr` for each row of spec/opcode_table.json, with
the operands its rule gives it. A request's numbers are plain `Nat`s and its enumerated values are `Named`, as the
REQ frame spelled them: each request's rule checks its own arguments.
-/
namespace Sys2Proof

/-- An enumerated argument of a request: a value of the enumeration, or a name (or a flag value) it does not have. -/
inductive Named (α : Type) where
  | known (a : α)
  | unknown
deriving DecidableEq, Repr

/-- The expected generation of a conditional edit (R89): the ANY flag, or a number as the request gives it. -/
inductive Expected where
  | any
  | exactly (g : Nat)
deriving DecidableEq, Repr

/-- Compression policies (R31). -/
inductive Policy where
  | always | never | adaptive
deriving DecidableEq, Repr

/-- Cartridge kinds (Table 5-1). -/
inductive CartKind where
  | data | cleaning
deriving DecidableEq, Repr

/-- Protection of a data cartridge (Table 5-2). -/
inductive Protection where
  | writable | locked | held | finalized
deriving DecidableEq, Repr

/-- States of a part record (Table 4-2). -/
inductive PartState where
  | open | closed | verified | suspect | bad
deriving DecidableEq, Repr

/-- Restore priorities (Table 8-1). -/
inductive Priority where
  | urgent | normal
deriving DecidableEq, Repr

/-- The six parameters of Table 0-4. -/
inductive Param where
  | startLevel | assemblyTimeout | minimumDwell | idleUnmount | verifyDriveLimit | restoreStallLimit
deriving DecidableEq, Repr

/-- The six results of a drive completion (R124). -/
inductive DriveResult where
  | ok | mediumError | notReady | hardwareError | endOfMedium | blank
deriving DecidableEq, Repr

/-- Completions of a TRANSFER order (Table 6-4). -/
inductive TransferResult where
  | done | gripSource | gripDestination | sourceEmpty | destinationOccupied
deriving DecidableEq, Repr

/-- What a SCAN or a REHOME reads (R107): nothing, or a barcode. -/
inductive ScanResult where
  | empty
  | barcode (x : Bytes)
deriving DecidableEq, Repr

/-- The optional fields of LOAD_CARTRIDGE (R84, R85). A flag argument is `known true` for SET. -/
structure CartArgs where
  kind : Option (Named CartKind) := none
  pool : Option Nat := none
  protection : Option (Named Protection) := none
  eod : Option Nat := none
  capacity : Option Nat := none
  serial : Option Nat := none
  home : Option Nat := none
  full : Option (Named Bool) := none
  uses : Option Nat := none
deriving DecidableEq, Repr

/-- The optional fields of LOAD_POOL (R98). -/
structure PoolArgs where
  multiplex : Option Nat := none
  interval : Option Nat := none
  retries : Option Nat := none
  takeScratch : Option (Named Bool) := none
  writeEnabled : Option (Named Bool) := none
  defaultCapacity : Option Nat := none
deriving DecidableEq, Repr

/-- The part record LOAD_SEGMENT carries (R80). -/
structure SegmentArgs where
  part : Nat
  jobTag : Nat
  number : Nat
  cart : Nat
  firstBlock : Nat
  lastBlock : Nat
  firstSeq : Nat
  lastSeq : Nat
  rawBytes : Nat
  storedBytes : Nat
  check : Nat
  state : Named PartState
  gap : Named Bool
  truncated : Named Bool
  continued : Named Bool
  closeTime : Nat
deriving DecidableEq, Repr

/-- One command of the UF-2340, one constructor for each row of spec/opcode_table.json. -/
inductive Instr where
  -- frames on the stream and restore channels
  | data (ch : Nat) (payload : Bytes)
  | markCut (ch : Nat)
  | markEnd (ch : Nat)
  | grant (ch : Nat) (count : Nat)
  | frameRefused (frame : Bytes)
  -- requests on channel 0
  | unknownRequest (tag : Tag) (items : Bytes)
  | openStream (tag : Tag) (ch jobTag pool : Nat) (recordSize : Option Nat) (policy : Option (Named Policy))
  | abortStream (tag : Tag) (ch : Nat)
  | loadPool (tag : Tag) (pool : Nat) (expected : Expected) (fields : PoolArgs)
  | loadCartridgeCreate (tag : Tag) (index : Nat) (expected : Expected) (barcode : Bytes) (fields : CartArgs)
  | loadCartridgeEdit (tag : Tag) (index : Nat) (expected : Expected) (fields : CartArgs)
  | loadCartridgeRemove (tag : Tag) (index : Nat) (expected : Expected)
  | lock (tag : Tag) (index : Nat) (expected : Expected)
  | unlock (tag : Tag) (index : Nat) (expected : Expected)
  | hold (tag : Tag) (index : Nat) (expected : Expected)
  | finalize (tag : Tag) (index : Nat) (expected : Expected)
  | recycle (tag : Tag) (index : Nat) (expected : Expected)
  | inventory (tag : Tag) (first last : Option Nat)
  | move (tag : Tag) (source destination : Nat)
  | restore (tag : Tag) (ch part : Nat) (priority : Named Priority) (first count : Option Nat) (follow : Named Bool)
  | cancelRestore (tag : Tag) (ch : Nat)
  | verifyNow (tag : Tag) (index : Nat)
  | loadSegment (tag : Tag) (args : SegmentArgs)
  | releaseSegment (tag : Tag) (part : Nat)
  | readSegment (tag : Tag) (part : Nat)
  | listSegments (tag : Tag) (cart jobTag : Option Nat) (start : Nat)
  | readCartridge (tag : Tag) (index : Nat)
  | readElement (tag : Tag) (element : Nat)
  | readDrive (tag : Tag) (drive : Nat)
  | readFeed (tag : Tag) (feed : Nat)
  | readStream (tag : Tag) (ch : Nat)
  | setParam (tag : Tag) (param : Named Param) (value : Option Nat)
  | setTime (tag : Tag) (value : Option Nat)
  | poll (tag : Tag)
  | resetLink (tag : Tag) (drive : Option Nat)
  | resetDrive (tag : Tag) (drive : Option Nat)
  | resetChanger (tag : Tag) (drive : Option Nat)
  -- indications and input lines
  | linkDown
  | linkUp
  | powerOn (doorOpen holdAsserted : Bool)
  | retentionHoldChange (asserted : Bool)
  | mailDoorOpen
  | mailDoorClosed
  -- events of the engines and the feeds
  | compressionCompletion
  | placement
  | expansionCompletion
  | assemblyTimeout (feed : FeedId)
  | oldestBlockTimeout (feed : FeedId)
  | governorPeriod (feed : FeedId)
  -- drive completions and timers
  | loadCompletion (drive : DriveId) (number : BitVec 16) (result : DriveResult)
  | unloadCompletion (drive : DriveId) (number : BitVec 16) (result : DriveResult)
  | locateCompletion (drive : DriveId) (number : BitVec 16) (result : DriveResult)
  | locateEndCompletion (drive : DriveId) (number : BitVec 16) (result : DriveResult) (end_ : Nat)
  | readCompletion (drive : DriveId) (number : BitVec 16) (result : DriveResult) (block : Bytes)
  | writeCompletion (drive : DriveId) (number : BitVec 16) (result : DriveResult)
  | speedCompletion (drive : DriveId) (number : BitVec 16) (result : DriveResult)
  | cleanCompletion (drive : DriveId) (number : BitVec 16) (result : DriveResult)
  | cleanRequest (drive : DriveId)
  | commandTimeout (drive : DriveId)
  | minimumDwell (drive : DriveId)
  | idleUnmount (drive : DriveId)
  -- changer completions and timers
  | transferCompletion (number : BitVec 16) (result : TransferResult)
  | scanCompletion (number : BitVec 16) (result : ScanResult)
  | rehomeCompletion (number : BitVec 16) (result : ScanResult)
  | orderTimeout
  -- the remaining timers, and the outbound link
  | restoreStall (ch : Nat)
  | libraryTimeAdvance
  | entryOverdue (index : Nat)
  | outboundFrameLeaves (ch : Nat)
deriving DecidableEq, Repr

end Sys2Proof
end

