-- ==== Sys2Proof/Machine/State.lean ====
section
/-!
DEFINITION. The state of the UF-2340: every register, table, ring, queue, counter and line the spec gives each block
(Table 0-1), as plain data, in one structure per block; the agenda of decisions a step still owes; and the queue of
waiting commands. A field that is the model's own and not the spec's says so.
-/
namespace Sys2Proof.Machine

/-! ### Faults and refusals -/

/-- Why a command faults. No command of this hardware faults: the spec gives every one of them an effect in every
state, so the type has no constructor. -/
inductive Fault where
deriving DecidableEq, Repr

/-- Why a command is refused by the model. -/
inductive Refusal where
  /-- Raised by an arm of `exec` whose command has no meaning yet; safe, since nothing is claimed to happen. -/
  | notModelled (mnemonic : String)
deriving DecidableEq, Repr

/-! ### Intake unit (chapter 1) -/

/-- Stream states (Table 1-2). -/
inductive StreamState where
  | closed | waiting | bound | stalled | ending
deriving DecidableEq, Repr

/-- An occupied ring slot: one DATA frame's payload and its cut flag (R7). -/
structure Slot where
  payload : Bytes
  cut : Bool
deriving DecidableEq, Repr

/-- The offered record (Table 1-1), with the sequence number and gap indication its cut gave it (R15, R16). -/
structure Offered where
  rawLen : Nat
  taken : Bool
  seq : Nat
  gap : Bool
deriving DecidableEq, Repr

/-- One opening of a stream channel: the channel, and which opening of it this is. -/
structure Opening where
  chan : StreamId
  no : Nat
deriving DecidableEq, Repr

/-- A current-part reference (R67). `part` is absent once the part it named has been released: the reference keeps its
part number and cartridge and names no part (R79, R80). -/
structure PartRef where
  part : Option Nat
  number : Nat
  cart : CartId
deriving DecidableEq, Repr

/-- A stream context (Table 1-1). `slots` lists the occupied slots from the read slot on, so occupied slots is its
length. `opening` and `limitReached` are the model's own: which opening of the channel this is, and whether the
sequence limit of R17 has been reached. -/
structure Stream where
  state : StreamState := .closed
  jobTag : Nat := 0
  pool : PoolId := 0
  recordSize : Nat := 65536
  policy : Policy := .adaptive
  readSlot : Nat := 0
  byteOffset : Nat := 0
  writeSlot : Nat := 0
  slots : List Slot := []
  offered : Option Offered := none
  credits : Nat := 0
  nextSeq : Nat := 0
  unconfirmed : Nat := 0
  accepted : Nat := 0
  overruns : Nat := 0
  gap : Bool := false
  feed : Option FeedId := none
  part : Option PartRef := none
  storedRun : Nat := 0
  bypass : Nat := 0
  opening : Nat := 0
  limitReached : Bool := false
deriving DecidableEq, Repr

/-- The stream table (R1) and the streams waiting for a feed, oldest first over all pools (R5, R45): a pool's wait
order is the part of this list that is in the pool. -/
structure Intake where
  streams : Vector Stream 32
  waitOrder : List StreamId
deriving DecidableEq, Repr

/-! ### Compression and expansion engines (chapter 2) -/

/-- Record methods (R29). -/
inductive Method where
  | compressed | stored
deriving DecidableEq, Repr

/-- The CE's engine state (R23). -/
inductive CeState where
  | idle | compressing | holding
deriving DecidableEq, Repr

/-- The CE's current record (R23). -/
structure CeRecord where
  opening : Opening
  feed : FeedId
  jobTag : Nat
  seq : Nat
  rawLen : Nat
  gap : Bool
  policy : Policy
  storedRun : Nat
  bypass : Nat
deriving DecidableEq, Repr

/-- A record as a feed holds it: what the CE hands over at placement (R33, section 3.1). -/
structure Record where
  opening : Opening
  jobTag : Nat
  seq : Nat
  rawLen : Nat
  storedLen : Nat
  method : Method
  rawCrc : Word32
  gap : Bool
  stored : Bytes
deriving DecidableEq, Repr

/-- The output hold (R23): the finished record, and whether it took the match finder (R32). -/
structure Hold where
  record : Record
  matched : Bool
deriving DecidableEq, Repr

/-- The compression engine (R23). `head` lists the head table's entries in use, as (hash, position), hashes rising. -/
structure Ce where
  state : CeState
  lastServed : StreamId
  current : Option CeRecord
  head : List (Nat × Nat)
  hold : Option Hold
deriving DecidableEq, Repr

/-- A record as the record walk reads it from a block (Table 11-4). -/
structure TapeRecord where
  jobTag : Nat
  seq : Nat
  rawLen : Nat
  storedLen : Nat
  rawCrc : Word32
  method : Byte
  flags : Byte
  stored : Bytes
deriving DecidableEq, Repr

/-- The requester of an expansion (R35): a restore by its channel, a verify pass by its cartridge. -/
inductive XeClient where
  | restore (r : RestoreId)
  | pass (c : CartId)
deriving DecidableEq, Repr

/-- An entry of the XE's request list (R35). `age` is the arrival or insertion order that R36 breaks ties by;
`dropped` marks a taken record whose requester has ended (R40). -/
structure XeRequest where
  client : XeClient
  record : TapeRecord
  time : Nat
  age : Nat
  dropped : Bool
deriving DecidableEq, Repr

/-- The result of an expansion (R39). -/
inductive XeResult where
  | good (raw : Bytes) (crc : Word32)
  | crcMismatch (crc : Word32)
  | decodeError
deriving DecidableEq, Repr

/-- The XE's decode state (R35): output length, input position and running raw CRC. The rule clears it when a record is
taken and gives no power-on values; the model starts it at 0, 0, 0 (DESIGN CHOICE, log entry 46). -/
structure XeDecode where
  outLen : Nat := 0
  inPos : Nat := 0
  crc : Word32 := 0
deriving DecidableEq, Repr

/-- The expansion engine (R35): IDLE while `current` is absent, EXPANDING while it is present. -/
structure Xe where
  current : Option XeRequest
  decode : XeDecode
  requests : List XeRequest
deriving DecidableEq, Repr

/-! ### Feeds (chapter 3) -/

/-- Feed states (Table 3-2). -/
inductive FeedState where
  | unbound | filling | streaming | paused | spanning | suspended | retiring
deriving DecidableEq, Repr

/-- A feed's set of stall causes (R42). -/
structure Stall where
  span : Bool := false
  suspend : Bool := false
  mapFull : Bool := false
  noMedia : Bool := false
deriving DecidableEq, Repr

/-- A departed entry (R46). -/
structure Departed where
  opening : Opening
  jobTag : Nat
  part : Option PartRef
  lastSeq : Nat
deriving DecidableEq, Repr

/-- The assembly block (Table 3-1): its records in placement order. -/
structure Assembly where
  records : List Record
  used : Nat
  firstTime : Nat
  closePending : Bool
deriving DecidableEq, Repr

/-- A closed block (section 3.1). -/
structure Block where
  dseq : Word32
  closeTime : Nat
  records : List Record
  used : Nat
deriving DecidableEq, Repr

/-- A block as it goes to tape (Table 11-3): the header fields, the used part of the payload (the rest of the payload
is zero) and the trailer CRC. -/
structure TapeBlock where
  kind : Byte
  flags : Byte
  count : Nat
  number : Nat
  serial : Word32
  used : Nat
  payload : Bytes
  trailer : Word32
deriving DecidableEq, Repr

/-- A block in the in-flight list, with what it was stamped with at dispatch (R51). -/
structure Flight where
  block : Block
  tape : TapeBlock
deriving DecidableEq, Repr

/-- A feed entry in use (Table 3-1). Whether its FEED claim is present is read from the claim list. The last three
fields are implied by the rules and not named in the table: the FULL mark a span remembers (R57), whether a suspension
is in progress and not yet pushed (R60), and the elapsed second the current governor period began at (R55). -/
structure Feed where
  state : FeedState := .unbound
  pool : PoolId
  members : List Opening
  departed : List Departed := []
  drive : Option DriveId := none
  cart : Option CartId := none
  assembly : Option Assembly := none
  staging : List Block := []
  nextDseq : Word32 := 0
  flights : List Flight := []
  returned : Nat := 0
  held : Bool := false
  reservations : List Opening := []
  stall : Stall := {}
  estimate : Nat := 0
  step : Nat := 1
  upCount : Nat := 0
  periodCount : Nat := 0
  speedOut : Bool := false
  stops : Nat := 0
  written : Word32 := 0
  spanFull : Bool := false
  suspending : Bool := false
  periodStart : Nat := 0
deriving DecidableEq, Repr

/-! ### Segment map (chapter 4) -/

/-- A part record in use (Table 4-1). -/
structure Part where
  id : Nat
  jobTag : Nat
  number : Nat
  cart : CartId
  firstBlock : Nat
  lastBlock : Nat
  firstSeq : Nat
  lastSeq : Nat
  rawBytes : Nat
  storedBytes : Nat
  check : Word32
  state : PartState
  gap : Bool
  truncated : Bool
  continued : Bool
  hostLoaded : Bool
  closeTime : Option Nat
  suspectTime : Option Nat
  restorePins : Nat
  verifyPin : Bool
deriving DecidableEq, Repr

/-- The segment map (R64): the part records in use, ids rising, the reservation count and the part-id counter. -/
structure SegMap where
  parts : List Part
  reserved : Nat
  counter : Nat
deriving DecidableEq, Repr

/-! ### Media tables (chapter 5) -/

/-- A cartridge's location (Table 5-1). -/
inductive Location where
  | at (e : ElemId)
  | outside
  | unknown
deriving DecidableEq, Repr

/-- A cartridge's reason code (Table 5-1). -/
inductive Reason where
  | none | eodMismatch | labelMismatch
deriving DecidableEq, Repr

/-- A cartridge entry (Table 5-1). An absent pool, protection or FULL flag (kind CLEANING) is `none`; an EOD of
UNKNOWN is `none`. -/
structure Cart where
  barcode : Bytes
  kind : CartKind
  pool : Option PoolId
  protection : Option Protection
  full : Option Bool
  eod : Option Nat
  capacity : Nat
  serial : Word32
  location : Location
  home : Option ElemId
  uses : Nat
  finalizing : Bool
  reason : Reason
deriving DecidableEq, Repr

/-- A row of the cartridge table (R83): its generation, and its entry or nothing. -/
structure CartRow where
  gen : BitVec 8 := 0
  entry : Option Cart := none
deriving DecidableEq, Repr

/-- A pool entry (Table 5-3). -/
structure Pool where
  multiplex : Nat
  interval : Nat
  retries : Nat
  takeScratch : Bool
  writeEnabled : Bool
  defaultCapacity : Nat
  gen : BitVec 8
deriving DecidableEq, Repr

/-- What an element holds (Table 5-4): the status with the field that is present only in it. -/
inductive Content where
  | unknown (former : Option CartId)
  | empty
  | occupied (c : CartId)
  | foreign (barcode : Bytes)
deriving DecidableEq, Repr

/-- An element entry (Table 5-4). The move indications name moves by their identity in the move queue. -/
structure Element where
  content : Content := .unknown none
  incoming : Option Nat := none
  outgoing : Option Nat := none
deriving DecidableEq, Repr

/-- The media tables (R83, R97, R99) and the level of the retention-hold line (R92). -/
structure Media where
  carts : Vector CartRow 128
  pools : Vector Pool 8
  elems : Vector Element 105
  holdLine : Bool
deriving DecidableEq, Repr

/-! ### Changer controller (chapter 6) -/

/-- Picker states (Table 6-2). -/
inductive PickerState where
  | idle | moving | scanning | fault
deriving DecidableEq, Repr

/-- The load of a move (Table 6-3). -/
inductive Load where
  | cart (c : CartId)
  | foreign (barcode : Bytes)
deriving DecidableEq, Repr

/-- The requester of a move (Table 6-3). -/
inductive Requester where
  | drive (d : DriveId)
  | host
  | changer
deriving DecidableEq, Repr

/-- Causes of a failed move (Table 6-3). -/
inductive MoveCause where
  | start | grip | sourceEmpty | destinationOccupied | lost
deriving DecidableEq, Repr

/-- How a move ends (R106). -/
inductive MoveResult where
  | done
  | failed (cause : MoveCause)
deriving DecidableEq, Repr

/-- A move record (Table 6-3). A move that has ended has left the queue, so `running` is its only state bit. The class
of a placement is `none`; a placement that has no destination yet has `dst` absent. `id` is the model's own name of
the move, which stays when R120 gives it a new entry order. -/
structure Move where
  id : Nat
  src : ElemId
  dst : Option ElemId
  load : Load
  cls : Option Nat
  requester : Requester
  order : Int
  running : Bool
  ready : Bool
  atPicker : Bool
  grips : Nat
deriving DecidableEq, Repr

/-- What a SCAN order is for. -/
inductive ScanFor where
  | inventory
  | mail
  | destination (move : Nat)
  | reset
deriving DecidableEq, Repr

/-- The three orders of the changer port (R107). `stale` marks a SCAN whose result R117 discards. -/
inductive OrderKind where
  | transfer (move : Nat) (a b : ElemId)
  | scan (e : ElemId) (purpose : ScanFor) (stale : Bool)
  | rehome
deriving DecidableEq, Repr

/-- The order in progress, with its number and the elapsed second of its issue (R107). -/
structure Order where
  number : BitVec 16
  issued : Nat
  kind : OrderKind
deriving DecidableEq, Repr

/-- Inventory progress (Table 6-1), with the entry order of its pending step (R110). -/
structure Inventory where
  next : Nat
  last : Nat
  scanned : Nat
  skipped : Nat
  created : Nat
  foreigners : Nat
  order : Int
deriving DecidableEq, Repr

/-- The mail scan (Table 6-1), with the entry order of its pending step. -/
structure MailScan where
  next : Nat
  order : Int
deriving DecidableEq, Repr

/-- Where a changer reset sequence stands (R119): waiting for REHOME, placing, or scanning the listed elements. -/
inductive ResetPhase where
  | rehome
  | place
  | rescan (todo : List ElemId)
deriving DecidableEq, Repr

/-- A changer reset in progress (R119): its phase, the interrupted moves (one, and a placement that ran when an earlier
sequence was cut short), the destination of a placement that the reset took up again, and the drive elements rescanned so
far. The spec implies this state and does not name it. -/
structure ResetSeq where
  phase : ResetPhase
  interrupted : List Nat
  extra : List ElemId
  drivesScanned : List DriveId
deriving DecidableEq, Repr

/-- The changer controller (Table 6-1). `entryCount` gives entry orders and `nextMove` gives move identities. -/
structure Changer where
  picker : PickerState
  order : Option Order
  orderNo : BitVec 16
  moves : List Move
  faultElems : List ElemId
  inventory : Option Inventory
  doorOpen : Bool
  mailScan : Option MailScan
  reset : Option ResetSeq
  entryCount : Int
  nextMove : Nat
deriving DecidableEq, Repr

/-! ### Drive ports (chapter 7) -/

/-- Drive states (Table 7-4). -/
inductive DriveState where
  | empty | loading | labelCheck | appendCheck | mountedIdle | positioning
  | writing | reading | verifying | cleaning | unloading | fault
deriving DecidableEq, Repr

/-- A piece of work a drive serves (Table 7-1), with its owner. -/
inductive Work where
  | feed (f : FeedId)
  | restore (r : RestoreId)
  | verify (c : CartId)
  | finalize (c : CartId)
  | cleaning
deriving DecidableEq, Repr

/-- A context on a suspend stack (Table 7-1). -/
structure Context where
  work : Work
  resume : Nat
deriving DecidableEq, Repr

/-- The commands of Table 7-2 with what they carry. -/
inductive DriveCmd where
  | load
  | unload
  | locate (n : Nat)
  | locateEnd
  | read (n : Nat)
  | write (b : TapeBlock)
  | speed (k : Nat)
  | clean
deriving DecidableEq, Repr

/-- The names of the commands of Table 7-2. -/
inductive CmdName where
  | load | unload | locate | locateEnd | read | write | speed | clean
deriving DecidableEq, Repr

/-- An outstanding command (Table 7-1): its number, the elapsed second of its issue, and the command. -/
structure Outstanding where
  number : BitVec 16
  issued : Nat
  cmd : DriveCmd
deriving DecidableEq, Repr

/-- A drive's fault cause (Table 7-1): the command and its result. -/
structure FaultCause where
  cmd : CmdName
  result : DriveResult
deriving DecidableEq, Repr

/-- What a labelling writes (R133): the new label serial, and the pool the cartridge goes to. -/
structure LabelJob where
  serial : Word32
  pool : PoolId
deriving DecidableEq, Repr

/-- Where the drive port stands in its own sequences (R130 to R142). The spec implies this state and does not name it. -/
inductive Phase where
  /-- nothing of the port's own is under way -/
  | rest
  /-- the mount move of the assigned claim is queued or running (R130) -/
  | mountMove
  /-- LOAD outstanding (R130) -/
  | load
  /-- READ 0 of the label check, with the rereadings used (R131) -/
  | label (retries : Nat)
  /-- LOCATE_END of the append check (R132) -/
  | appendEnd
  /-- READ EOD - 1 of the append check; `pop` when a WRITE context was popped (R132, R139) -/
  | appendRead (retries : Nat) (pop : Bool)
  /-- LOCATE EOD - 1 after the pop of a WRITE context (R139) -/
  | popAppendLocate
  /-- READ 0 after the pop of a WRITE context whose EOD is 1 (R139) -/
  | popLabelRead (retries : Nat)
  /-- LOCATE 0 before a label write (R133) -/
  | labelLocate (job : LabelJob)
  /-- the label WRITE (R133) -/
  | labelWrite (job : LabelJob)
  /-- the FINAL WRITE (R134) -/
  | finalWrite
  /-- LOCATE of the start block of a restore, a part of its chain, or a pass (R149, R156, R167) -/
  | startLocate
  /-- LOCATE of a popped context's resume block; `again` when it has failed once (R139) -/
  | popLocate (again : Bool)
  /-- the active work asks for the commands -/
  | working
  /-- the active work has ended; its outstanding READ or LOCATE is let complete and discarded (R157) -/
  | ending
  /-- UNLOAD of an unmount (R135) -/
  | unload
  /-- at the mouth without a destination (R135) -/
  | mouth
  /-- the return move is queued or running (R135) -/
  | returning
  /-- UNLOAD for a host move out of the drive (R134) -/
  | hostUnload
  /-- at the mouth, or empty, for a host move (R134) -/
  | hostMove
  /-- CLEAN outstanding (R137) -/
  | clean
  /-- a drive reset waits for a running move of the drive element to end (R141) -/
  | resetWait
  /-- UNLOAD of a drive reset (R141) -/
  | resetUnload
  /-- the first UNLOAD of the power-on sequence (R142) -/
  | powerUnload
  /-- LOAD of the power-on identification (R142) -/
  | powerLoad
  /-- READ 0 of the power-on identification (R142) -/
  | powerRead
  /-- the second UNLOAD of the power-on identification (R142) -/
  | powerUnloadAgain
  /-- identified, at the mouth, waiting for the next INVENTORY to end (R142) -/
  | powerMouth
deriving DecidableEq, Repr

/-- A found barcode (Table 7-1). -/
inductive Found where
  | barcode (x : Bytes)
  | unreadable
deriving DecidableEq, Repr

/-- A drive port (Table 7-1). `claim` names the assigned claim by its entry order. Four fields are implied by the
rules and not named by them: `phase`; `suspendFor`, the waiting restore claim a suspension in progress is for (R138);
`released`, set from a feed's release of the drive until the decision made at it has ended (R127); and `hostIn`, set
while a cartridge that a host MOVE put in the drive is taken in (R134). -/
structure Drive where
  state : DriveState
  cart : Option CartId := none
  found : Option Found := none
  position : Option Nat := none
  outstanding : List Outstanding
  cmdNo : BitVec 16
  active : Option Work := none
  claim : Option Nat := none
  stack : List Context := []
  mountTime : Option Nat := none
  idleSince : Option Nat := none
  cleaningDue : Bool := false
  autoReset : Bool := false
  faultCause : Option FaultCause := none
  phase : Phase
  suspendFor : Option Nat := none
  released : Bool := false
  hostIn : Bool := false
deriving DecidableEq, Repr

/-- Claims by kind (Table 7-5). -/
inductive ClaimKind where
  | urgent | cleaning | overdue | feed | normal | host | verify
deriving DecidableEq, Repr

/-- The owner of a claim (R126). -/
inductive Owner where
  | restore (r : RestoreId)
  | verify (c : CartId)
  | feed (f : FeedId)
  | cleaning (d : DriveId)
  | finalize (c : CartId)
  | hostMove (move : Nat)
deriving DecidableEq, Repr

/-- The target of a claim (R126). -/
inductive Target where
  | cart (c : CartId)
  | pool (p : PoolId)
  | drive (d : DriveId)
deriving DecidableEq, Repr

/-- A claim (R126). `order` is unique and names the claim. `chosen` and `scratch` are the cartridge chosen for an
assigned claim and whether it was chosen as a takeable scratch cartridge (R129); `reported` says that no media, or no
cleaning cartridge, has been reported since the claim was placed or last found one (R129, R137); `prepared` says that
a host move's drive stands ready for it (R134). -/
structure Claim where
  order : Nat
  kind : ClaimKind
  owner : Owner
  target : Target
  preferred : Option DriveId := none
  drive : Option DriveId := none
  chosen : Option CartId := none
  scratch : Bool := false
  reported : Bool := false
  prepared : Bool := false
deriving DecidableEq, Repr

/-- The drive allocation arbiter (R126): the claim list, oldest entry first, and the next entry order. -/
structure Arbiter where
  claims : List Claim
  nextOrder : Nat
deriving DecidableEq, Repr

/-! ### Restore unit (chapter 8) -/

/-- Restore entry states (Table 8-2). -/
inductive RestoreState where
  | queued | claiming | positioning | reading | sending | suspended | ended
deriving DecidableEq, Repr

/-- Chain ends (Table 8-1). -/
inductive ChainEnd where
  | noPart | open | bad | pinLimit
deriving DecidableEq, Repr

/-- Restore end statuses (Table 8-4). -/
inductive EndStatus where
  | complete | partial_ | cancelled | stalled | media | drive
deriving DecidableEq, Repr

/-- A block buffer: the block's number and its records not yet handled. -/
structure Buffer where
  number : Nat
  records : List TapeRecord
deriving DecidableEq, Repr

/-- A restore entry in use (Table 8-1). `stop` absent is OPEN-ENDED. The frames waiting are of the record `frameSeq`,
as (byte offset, payload). `atXe` is the sequence of the record with the XE and `kept` its result kept over a
suspension (R40). -/
structure Restore where
  chan : RestoreId
  priority : Priority
  arrival : Nat
  state : RestoreState
  follow : Bool
  start : Nat
  stop : Option Nat
  part : Nat
  cart : CartId
  next : Nat
  delivered : Nat := 0
  missing : Nat := 0
  readPos : Option Nat := none
  retries : Nat := 0
  buffer : Option Buffer := none
  frameSeq : Nat := 0
  frames : List (Nat × Bytes) := []
  drive : Option DriveId := none
  stall : Option Nat := none
  chainEnd : Option ChainEnd := none
  atXe : Option TapeRecord := none
  kept : Option XeResult := none
deriving DecidableEq, Repr

/-- The restore unit (R144). -/
structure RestoreUnit where
  queue : List Restore
  nextArrival : Nat
deriving DecidableEq, Repr

/-! ### Verify unit (chapter 9) -/

/-- Block reasons (Table 9-1). -/
inductive BlockReason where
  | none | media | label
deriving DecidableEq, Repr

/-- The activity of a verify list entry (Table 9-1): nothing, a claim (class 7 or 3, as the claim says), or a pass. -/
inductive Activity where
  | none
  | claim (order : Nat)
  | pass
deriving DecidableEq, Repr

/-- A verify list entry (Table 9-1). -/
structure VerifyEntry where
  cart : CartId
  deadline : Nat
  order : Nat
  forced : Option Nat
  raised : Bool
  block : BlockReason
  activity : Activity
deriving DecidableEq, Repr

/-- A pass part record (Table 9-2). -/
structure PassPart where
  id : Nat
  jobTag : Nat
  firstBlock : Nat
  lastBlock : Nat
  firstSeq : Nat
  lastSeq : Nat
  next : Nat
  acc : Word32
  failed : Bool
deriving DecidableEq, Repr

/-- Pass states (Table 9-2). -/
inductive PassState where
  | positioning | reading | suspended
deriving DecidableEq, Repr

/-- A pass context (Table 9-2). `atXe` holds the part id and the record at the XE, `kept` its result kept over a
suspension. -/
structure Pass where
  cart : CartId
  drive : DriveId
  state : PassState
  parts : List PassPart
  first : Nat
  last : Nat
  readPos : Nat
  retries : Nat := 0
  buffer : Option Buffer := none
  atXe : Option (Nat × TapeRecord) := none
  kept : Option XeResult := none
deriving DecidableEq, Repr

/-- The verify unit (R160): the list in ascending deadline, the pass contexts and the insertion count. -/
structure VerifyUnit where
  list : List VerifyEntry
  passes : List Pass
  nextOrder : Nat
deriving DecidableEq, Repr

/-! ### Management unit and link interface (chapters 10 and 11) -/

/-- The statuses of a RESP (R174). -/
inductive Status where
  | ok | busy | stale | noEntry | badArgument | full | protected_ | state
deriving DecidableEq, Repr

/-- The 14 event kinds (Table 10-3), highest priority first. -/
inductive EventKind where
  | powerOn | pickerFault | driveFault | mapFull | segmentBad | eodMismatch | labelMismatch | segmentSuspect
  | verifyOverdue | streamOverrun | noMedia | cartridgeFull | cleanDue | operationEnd
deriving DecidableEq, Repr

/-- FINALIZE results (Table 10-4). -/
inductive FinalizeResult where
  | ok | protected_ | finalized | eodMismatch | labelMismatch | media | drive
deriving DecidableEq, Repr

/-- Event arguments (Tables 10-3 and 10-4). -/
inductive EventArg where
  | number (n : Nat)
  | due (drive : DriveId)
  | expiredCart (c : CartId)
  | expiredDrive (d : DriveId)
  | moveEnd (src dst : Nat) (result : MoveResult)
  | inventoryEnd (scanned skipped created foreigners : Nat)
  | finalizeEnd (c : CartId) (result : FinalizeResult)
  | mailScanned
deriving DecidableEq, Repr

/-- A pending event (R180): its count and its argument. -/
structure Event where
  count : Nat
  arg : EventArg
deriving DecidableEq, Repr

/-- The six parameters (Table 0-4). -/
structure Params where
  startLevel : Nat := 32
  assemblyTimeout : Nat := 5
  minimumDwell : Nat := 60
  idleUnmount : Nat := 300
  verifyDriveLimit : Nat := 1
  restoreStallLimit : Nat := 300
deriving DecidableEq, Repr

/-- The management unit (R186). `elapsed` counts the elapsed seconds the device's timers count (section 0.5). -/
structure Management where
  params : Params
  time : Nat
  events : Vector (Option Event) 14
  elapsed : Nat
deriving DecidableEq, Repr

/-- A named item of a RESP (R189). -/
structure Item where
  name : Bytes
  value : Bytes
deriving DecidableEq, Repr

/-- An outbound frame made ready (Table 11-2). `opens` names the stream whose first CREDIT the RESP precedes (R4). -/
inductive OutFrame where
  | resp (tag : Tag) (status : Status) (items : List Item) (opens : Option StreamId)
  | credit (s : StreamId) (count : Nat)
  | rdata (r : RestoreId) (part seq offset : Nat) (payload : Bytes)
  | rmark (r : RestoreId) (part missing : Nat) (status : EndStatus) (chainEnd : Option ChainEnd)
deriving DecidableEq, Repr

/-- The link interface (R153, R176): whether the link is up, the link error count, the grant counts, and the outbound
frames made ready and not yet sent, oldest first. `wire`, the bytes of the frame that left last, is the model's own
view of the outbound link. -/
structure Link where
  up : Bool
  errors : Nat
  grants : Vector Nat 8
  outbound : List OutFrame
  wire : Option Bytes
deriving DecidableEq, Repr

/-! ### The whole device -/

/-- A decision or a handing over that an event inside a step has made due (DESIGN CHOICE, log entry 1). Each is
carried out in the same step, oldest first. -/
inductive Task where
  | ceSearch
  | bind
  | feedDecide (f : FeedId)
  | feedProgress (f : FeedId)
  | memberLeft (f : FeedId)
  | mapRelease
  | arbiter
  | suspendCheck (d : DriveId)
  | pushReady (d : DriveId)
  | serve (d : DriveId) (work : Work)
  | claimFailed (o : Owner)
  | media (p : PoolId)
  | location (c : CartId)
  | verifyNotify (c : CartId)
  | verifyOverdue (c : CartId)
  | verifySchedule
  | promote
  | xe
  | picker
  | mouth
  | moveEnded (m : Move) (result : MoveResult)
  | driveRescan (d : DriveId)
  | inventoryDone
deriving DecidableEq, Repr

/-- The device. `agenda` holds the decisions a step still owes and is empty between steps; `moment` counts the
commands carried out, and orders times of presentation (R35). Both are the model's own. -/
structure Device where
  intake : Intake
  ce : Ce
  xe : Xe
  feeds : Vector (Option Feed) 4
  map : SegMap
  media : Media
  changer : Changer
  drives : Vector Drive 4
  arb : Arbiter
  ru : RestoreUnit
  vu : VerifyUnit
  mu : Management
  link : Link
  agenda : List Task
  moment : Nat
deriving DecidableEq, Repr

/-- The state of the machine: the device, and the commands waiting for it, first in, first out. -/
structure State where
  dev : Device
  pending : List Instr
deriving DecidableEq, Repr

/-! ### Power-on and reset values -/

/-- Pools 1..7 at power-on (Table 5-3). -/
def Pool.data : Pool :=
  { multiplex := 4, interval := 24, retries := 2, takeScratch := true, writeEnabled := true,
    defaultCapacity := Config.maxCapacity, gen := 0 }

/-- Pool 0 (Table 5-3). -/
def Pool.scratch : Pool :=
  { multiplex := 1, interval := 0, retries := 2, takeScratch := false, writeEnabled := false,
    defaultCapacity := Config.maxCapacity, gen := 0 }

/-- A drive port at power-on: UNLOADING, with the power-on UNLOAD issued as command 0 (Table 7-1, R142). -/
def Drive.powerOn : Drive :=
  { state := .unloading, outstanding := [⟨0, 0, .unload⟩], cmdNo := 1, phase := .powerUnload }

/-- The changer controller at power-on: in its start sequence, with REHOME issued as order 0 (Table 6-1, R104). -/
def Changer.powerOn (doorOpen : Bool) : Changer :=
  { picker := .moving, order := some ⟨0, 0, .rehome⟩, orderNo := 1, moves := [], faultElems := [], inventory := none,
    doorOpen, mailScan := none, reset := some ⟨.rehome, [], [], []⟩, entryCount := 0, nextMove := 0 }

/-- The device at power-on, with the two input lines as sampled then: each block's own power-on values. Where a rule
gives none, the head table starts empty (R23) and the XE's decode state at 0, 0, 0 (R35) (DESIGN CHOICE, log entry
46). -/
def Device.powerOn (doorOpen holdAsserted : Bool) : Device :=
  { intake := { streams := Vector.replicate 32 {}, waitOrder := [] }
    ce := { state := .idle, lastServed := 31, current := none, head := [], hold := none }
    xe := { current := none, decode := {}, requests := [] }
    feeds := Vector.replicate 4 none
    map := { parts := [], reserved := 0, counter := 1 }
    media :=
      { carts := Vector.replicate 128 {}, pools := (Vector.replicate 8 Pool.data).set 0 Pool.scratch,
        elems := Vector.replicate 105 {}, holdLine := holdAsserted }
    changer := Changer.powerOn doorOpen
    drives := Vector.replicate 4 Drive.powerOn
    arb := { claims := [], nextOrder := 0 }
    ru := { queue := [], nextArrival := 0 }
    vu := { list := [], passes := [], nextOrder := 0 }
    mu := { params := {}, time := 0,
            events := (Vector.replicate 14 none).set 0 (some ⟨1, .number 0⟩), elapsed := 0 }
    link := { up := true, errors := 0, grants := Vector.replicate 8 0, outbound := [], wire := none }
    agenda := []
    moment := 0 }

/-- The machine right after power-on, with no command waiting. The two input lines are sampled at power-on; the model
takes the mail door closed and the retention-hold line deasserted (DESIGN CHOICE, log entry 2). -/
def State.reset : State := { dev := Device.powerOn false false, pending := [] }

end Sys2Proof.Machine
end

