-- ==== Sys2Proof/Machine/Formats.lean ====
section
/-!
DEFINITION. The byte layouts of chapter 11: the one CRC-32, tape blocks and the record walk, and outbound frames.
-/
namespace Sys2Proof.Machine

/-! ### The CRC-32 (R187) -/

/-- One shift of the CRC register (R187). -/
def crcShift (c : Word32) : Word32 := if c.getLsbD 0 then (c >>> 1) ^^^ 0xEDB88320#32 else c >>> 1

/-- One byte taken into the CRC register (R187). -/
def crcByte (c : Word32) (b : Byte) : Word32 := Nat.repeat crcShift 8 (c ^^^ b.setWidth 32)

/-- The CRC-32 over a run of bytes (R187). -/
def crc32 (bs : Bytes) : Word32 := bs.foldl crcByte 0xFFFFFFFF#32 ^^^ 0xFFFFFFFF#32

/-! ### Tape blocks (R190) -/

/-- The kind code of a label block (Table 11-3). -/
def labelKind : Byte := 0x4C#8
/-- The kind code of a data block (Table 11-3). -/
def dataKind : Byte := 0x44#8
/-- The FINAL flag (Table 11-3). -/
def finalFlag : Byte := 0x01#8
/-- The method code COMPRESSED (Table 11-4). -/
def compressedCode : Byte := 0x43#8
/-- The method code STORED (Table 11-4). -/
def storedCode : Byte := 0x53#8

/-- A record's method code (Table 11-4). -/
def Method.code : Method → Byte
  | .compressed => compressedCode
  | .stored => storedCode

/-- A record with its header at index `i` (Table 11-4). -/
def recordBytes (i : Nat) (r : Record) : Bytes :=
  leBytes 4 r.jobTag ++ leBytes 4 r.seq ++ leBytes 4 r.rawLen ++ leBytes 4 r.storedLen ++ leBytes 4 r.rawCrc.toNat
    ++ [r.method.code, if r.gap then 1#8 else 0#8] ++ leBytes 2 i ++ r.stored

/-- Records in placement order, each with its index (R190). -/
def recordsBytes : Nat → List Record → Bytes
  | _, [] => []
  | i, r :: rs => recordBytes i r ++ recordsBytes (i + 1) rs

/-- A block without its trailer: the header of Table 11-3 and the payload, padded with zero bytes. -/
def TapeBlock.body (b : TapeBlock) : Bytes :=
  [b.kind, b.flags] ++ leBytes 2 b.count ++ leBytes 4 b.number ++ leBytes 4 b.serial.toNat ++ leBytes 4 b.used
    ++ List.replicate 16 0#8 ++ b.payload ++ List.replicate (Config.blockPayload - b.payload.length) 0#8

/-- The block with its trailer CRC over header and payload (R187, R190). -/
def TapeBlock.sealed (b : TapeBlock) : TapeBlock := { b with trailer := crc32 b.body }

/-- The 262,144 bytes of a block (section 11.3). -/
def TapeBlock.image (b : TapeBlock) : Bytes := b.body ++ leBytes 4 b.trailer.toNat

/-- A closed block stamped for its dispatch (R51, R190): FINAL clear, trailer computed. -/
def dataBlock (b : Block) (number : Nat) (serial : Word32) : TapeBlock :=
  TapeBlock.sealed
    { kind := dataKind, flags := 0, count := b.records.length, number, serial, used := b.used,
      payload := recordsBytes 0 b.records, trailer := 0 }

/-- The label block of a labelling (R133, R190). -/
def labelBlock (barcode : Bytes) (serial : Word32) : TapeBlock :=
  TapeBlock.sealed
    { kind := labelKind, flags := 0, count := 0, number := 0, serial, used := 8, payload := barcode, trailer := 0 }

/-- The FINAL block of a FINALIZE (R134, R190). -/
def finalBlock (number : Nat) (serial : Word32) : TapeBlock :=
  TapeBlock.sealed
    { kind := dataKind, flags := finalFlag, count := 0, number, serial, used := 0, payload := [], trailer := 0 }

/-- A block as read: its fields, if it is whole and its trailer CRC is good (R187, section 11.3). -/
def readBlock (bs : Bytes) : Option TapeBlock :=
  let body := bs.take (Config.blockBytes - 4)
  let trailer := BitVec.ofNat 32 (leNat (bs.drop (Config.blockBytes - 4)))
  if bs.length = Config.blockBytes ∧ crc32 body = trailer then
    some
      { kind := bs.headD 0, flags := (bs.drop 1).headD 0, count := leNat ((bs.drop 2).take 2),
        number := leNat ((bs.drop 4).take 4), serial := BitVec.ofNat 32 (leNat ((bs.drop 8).take 4)),
        used := leNat ((bs.drop 12).take 4), payload := body.drop 32, trailer }
  else none

/-- A label-shaped block (R190): trailer CRC good, kind 4Ch, number 0. -/
def labelShaped (bs : Bytes) : Option TapeBlock :=
  (readBlock bs).filter fun b => b.kind == labelKind && b.number == 0

/-- The barcode a label block carries in payload bytes 0..7 (R190). -/
def TapeBlock.barcode (b : TapeBlock) : Bytes := b.payload.take 8

/-- The record whose header stands at the start of `bs` (Table 11-4). -/
def readRecord (bs : Bytes) : TapeRecord :=
  let stored := leNat ((bs.drop 12).take 4)
  { jobTag := leNat (bs.take 4), seq := leNat ((bs.drop 4).take 4), rawLen := leNat ((bs.drop 8).take 4),
    storedLen := stored, rawCrc := BitVec.ofNat 32 (leNat ((bs.drop 16).take 4)), method := (bs.drop 20).headD 0,
    flags := (bs.drop 21).headD 0, stored := (bs.drop 24).take stored }

/-- The record walk (R190) over `left` records from index `i` and payload offset `at_`, where `bs` is the payload from
that offset on: the records, if every check holds and the walk ends at bytes used. -/
def recordWalk (used : Nat) : (left : Nat) → (i at_ : Nat) → Bytes → Option (List TapeRecord)
  | 0, _, at_, _ => if at_ = used then some [] else none
  | left + 1, i, at_, bs =>
    let r := readRecord bs
    let size := Config.recordHeader + r.storedLen
    if at_ + Config.recordHeader ≤ used ∧ leNat ((bs.drop 22).take 2) = i ∧ at_ + size ≤ used then
      (recordWalk used left (i + 1) (at_ + size) (bs.drop size)).map (r :: ·)
    else none

/-- The block's records by the record walk (R190). -/
def TapeBlock.records (b : TapeBlock) : Option (List TapeRecord) :=
  if b.used ≤ Config.blockPayload then recordWalk b.used b.count 0 0 b.payload else none

/-- What a restore or a verify pass takes from a READ n (R151, R168): the records of the block, if the trailer CRC is
good, the header names block n and the cartridge's label serial, and the record walk holds. -/
def goodBlock (bs : Bytes) (n : Nat) (serial : Word32) : Option (List TapeRecord) :=
  match readBlock bs with
  | some b => if b.number = n ∧ b.serial = serial then b.records else none
  | none => none

/-! ### Outbound frames (R188, R189) -/

/-- Status names as a RESP writes them (R174, R189). -/
def Status.name : Status → Bytes
  | .ok => ascii "OK"
  | .busy => ascii "BUSY"
  | .stale => ascii "STALE"
  | .noEntry => ascii "NO_ENTRY"
  | .badArgument => ascii "BAD_ARGUMENT"
  | .full => ascii "FULL"
  | .protected_ => ascii "PROTECTED"
  | .state => ascii "STATE"

/-- The layout of one item (R189). -/
def Item.bytes (i : Item) : Bytes :=
  BitVec.ofNat 8 i.name.length :: i.name ++ leBytes 2 i.value.length ++ i.value

/-- A run of items (R189). -/
def itemsBytes (is : List Item) : Bytes := is.flatMap Item.bytes

/-- RMARK status codes (Table 11-2). -/
def EndStatus.code : EndStatus → Byte
  | .complete => 1
  | .partial_ => 2
  | .cancelled => 3
  | .stalled => 4
  | .media => 5
  | .drive => 6

/-- RMARK chain end codes (Table 11-2). -/
def chainEndCode : Option ChainEnd → Byte
  | none => 0
  | some .noPart => 1
  | some .open => 2
  | some .bad => 3
  | some .pinLimit => 4

/-- The link channel an outbound frame leaves on (section 0.3). -/
def OutFrame.channel : OutFrame → Nat
  | .resp .. => 0
  | .credit s _ => streamChannel s
  | .rdata r .. => restoreChannel r
  | .rmark r .. => restoreChannel r

/-- Frame kind codes (Table 11-1). -/
def OutFrame.kind : OutFrame → Byte
  | .resp .. => 0x06
  | .credit .. => 0x03
  | .rdata .. => 0x07
  | .rmark .. => 0x08

/-- Frame bodies (Table 11-2). -/
def OutFrame.body : OutFrame → Bytes
  | .resp tag status items _ =>
    leBytes 2 tag.toNat ++ itemsBytes (⟨ascii "STATUS", status.name⟩ :: items)
  | .credit _ count => leBytes 2 count
  | .rdata _ part seq offset payload => leBytes 4 part ++ leBytes 4 seq ++ leBytes 4 offset ++ payload
  | .rmark _ part missing status chainEnd =>
    leBytes 4 part ++ leBytes 4 missing ++ [status.code, chainEndCode chainEnd]

/-- A frame of the given channel, kind, flags and body, with its length and frame check (Table 11-1, R188). -/
def frameBytes (channel : Nat) (kind flags : Byte) (body : Bytes) : Bytes :=
  let head := leBytes 2 (body.length + 9) ++ [BitVec.ofNat 8 channel, kind, flags] ++ body
  head ++ leBytes 4 (crc32 head).toNat

/-- An outbound frame as it leaves, with the attention bit of that moment (R183, R188). -/
def OutFrame.bytes (f : OutFrame) (attention : Bool) : Bytes :=
  frameBytes f.channel f.kind (if attention then 1 else 0) f.body

end Sys2Proof.Machine
end

