-- ==== Sys2Proof/Machine/Compression.lean ====
section
/-!
DEFINITION. The match finder, the record's method and the compression policies (R26 to R32), and the expansion of a
record read from tape (R37 to R39), as functions of bytes.
-/
namespace Sys2Proof.Machine

/-! ### Tokens (R28, Table 11-5) -/

/-- A token: a literal run, or a match of a length and a distance. -/
inductive Token where
  | literal (run : Bytes)
  | copy (len dist : Nat)
deriving DecidableEq, Repr

/-- A token's bytes (R28, Table 11-5). -/
def Token.bytes : Token → Bytes
  | .literal run => BitVec.ofNat 8 (run.length - 1) :: run
  | .copy len dist => BitVec.ofNat 8 (len - 3 + 128) :: leBytes 2 dist

/-- The size a token occupies (R28). -/
def Token.size : Token → Nat
  | .literal run => 1 + run.length
  | .copy .. => 3

/-! ### The match finder (R26, R27) -/

/-- The hash of three bytes (R26). -/
def hash3 (a b c : Byte) : Nat := (16 * a.toNat) ^^^ (4 * b.toNat) ^^^ c.toNat

/-- The head table entry for a hash (R26). -/
def headGet : List (Nat × Nat) → Nat → Option Nat
  | [], _ => none
  | (k, v) :: t, h => if k = h then some v else headGet t h

/-- The head table with the entry for a hash set (R26), hashes kept rising. -/
def headSet : List (Nat × Nat) → Nat → Nat → List (Nat × Nat)
  | [], h, p => [(h, p)]
  | (k, v) :: t, h, p =>
    if h = k then (h, p) :: t else if h < k then (h, p) :: (k, v) :: t else (k, v) :: headSet t h p

/-- How many leading bytes two runs share, up to a limit (R27). -/
def sharedLen : Nat → Bytes → Bytes → Nat
  | 0, _, _ => 0
  | _, [], _ => 0
  | _, _, [] => 0
  | n + 1, x :: xs, y :: ys => if x = y then sharedLen n xs ys + 1 else 0

/-- Where the match finder stands (R27): the position, the bytes from it on, the head table, the pending literals
oldest first, and the tokens emitted, in order, with their total size. -/
structure Finder where
  pos : Nat
  rest : Bytes
  head : List (Nat × Nat)
  pending : Bytes
  out : List Token
  size : Nat
deriving DecidableEq, Repr

/-- A token emitted (R28). -/
def Finder.emit (f : Finder) (t : Token) : Finder := { f with out := f.out ++ [t], size := f.size + t.size }

/-- The pending literals emitted (R28). An append empties the list at 128, so at most one run is left. -/
def Finder.flush (f : Finder) : Finder :=
  if f.pending = [] then f else { f.emit (.literal f.pending) with pending := [] }

/-- One byte appended to the pending literals, which are emitted at 128 (R28). -/
def Finder.literal (f : Finder) (b : Byte) (rest : Bytes) : Finder :=
  let f := { f with pos := f.pos + 1, rest, pending := f.pending ++ [b] }
  if f.pending.length = 128 then f.flush else f

/-- The candidate at the finder's position is used for a match of this length and distance (R27, step 3). -/
def Finder.candidate (record : Bytes) (f : Finder) (q : Option Nat) : Option (Nat × Nat) :=
  match q with
  | none => none
  | some q =>
    if f.pos - q ≤ 65535 ∧ 3 ≤ sharedLen 3 (record.drop q) f.rest then
      some (sharedLen (min 130 f.rest.length) (record.drop q) f.rest, f.pos - q)
    else none

/-- One round of R27 at a position before the record's end. -/
def Finder.step (record : Bytes) (f : Finder) : Finder :=
  match f.rest with
  | a :: b :: c :: t =>
    let h := hash3 a b c
    let q := headGet f.head h
    let g := { f with head := headSet f.head h f.pos }
    match Finder.candidate record f q with
    | some (len, dist) =>
      let g := g.flush.emit (.copy len dist)
      { g with pos := g.pos + len, rest := g.rest.drop len }
    | none => g.literal a (b :: c :: t)
  | a :: t => f.literal a t
  | [] => f

/-- The match finder run on a record (R27), stopped as soon as the token output reaches `n` bytes (R29). -/
def Finder.run (record : Bytes) (n : Nat) : (fuel : Nat) → Finder → Finder
  | 0, f => f.flush
  | fuel + 1, f =>
    if n ≤ f.size then f
    else if f.rest = [] then f.flush
    else Finder.run record n fuel (f.step record)

/-- The match finder on a whole record (R26 to R28). -/
def findMatches (record : Bytes) : Finder :=
  Finder.run record record.length record.length
    { pos := 0, rest := record, head := [], pending := [], out := [], size := 0 }

/-- The bytes of a run of tokens. -/
def tokensBytes (ts : List Token) : Bytes := ts.flatMap Token.bytes

/-- A record compressed by the match finder (R29): the method, the stored bytes, and the head table left behind. -/
def compressRecord (record : Bytes) : Method × Bytes × List (Nat × Nat) :=
  let f := findMatches record
  if f.size < record.length then (.compressed, tokensBytes f.out, f.head) else (.stored, record, f.head)

/-- Whether a taken record takes the match finder (R31). -/
def takesFinder (policy : Policy) (bypass : Nat) : Bool :=
  match policy with
  | .never => false
  | .always => true
  | .adaptive => bypass == 0

/-- The two adaptive counters after a placement (R31, R32): consecutive stored records and bypass remaining. -/
def adaptiveCounters (policy : Policy) (matched : Bool) (method : Method) (storedRun bypass : Nat) : Nat × Nat :=
  match policy with
  | .adaptive =>
    if matched then
      match method with
      | .compressed => (0, bypass)
      | .stored => if storedRun + 1 = 8 then (8, 64) else (storedRun + 1, bypass)
    else if bypass - 1 = 0 then (0, 0) else (storedRun, bypass - 1)
  | _ => (storedRun, bypass)

/-! ### Expansion (R37, R38) -/

/-- Where an expansion stands: the input not yet read, how much has been read, and the output, newest byte first. -/
structure Expander where
  input : Bytes
  read : Nat
  out : Bytes
deriving DecidableEq, Repr

/-- A match copied one byte at a time (R37): each byte is the output byte `dist` positions before it. -/
def copyBack (dist : Nat) : Nat → Bytes → Bytes
  | 0, out => out
  | n + 1, out => copyBack dist n (out.getD (dist - 1) 0 :: out)

/-- One token expanded (R37), or `none` at the first decode error of it (R38, cases 2 to 4). -/
def expandToken (rawLen : Nat) (e : Expander) : Option Expander :=
  match e.input with
  | [] => none
  | c :: rest =>
    let c := c.toNat
    if c < 128 then
      let n := c + 1
      if n ≤ rest.length ∧ e.out.length + n ≤ rawLen then
        some { input := rest.drop n, read := e.read + 1 + n, out := (rest.take n).reverse ++ e.out }
      else none
    else
      let len := c - 128 + 3
      let dist := leNat (rest.take 2)
      if 2 ≤ rest.length ∧ 1 ≤ dist ∧ dist ≤ e.out.length ∧ e.out.length + len ≤ rawLen then
        some { input := rest.drop 2, read := e.read + 3, out := copyBack dist len e.out }
      else none

/-- Tokens expanded until the input is used up (R37). The Boolean is false at a decode error (R38). -/
def expandTokens (rawLen : Nat) : (fuel : Nat) → Expander → Bool × Expander
  | 0, e => (e.input = [] ∧ e.out.length = rawLen, e)
  | fuel + 1, e =>
    match e.input with
    | [] => (e.out.length = rawLen, e)
    | _ =>
      match expandToken rawLen e with
      | some e' => expandTokens rawLen fuel e'
      | none => (false, e)

/-- The header checks of R38, case 1. -/
def expandHeaderOk (r : TapeRecord) : Bool :=
  decide (1 ≤ r.rawLen ∧ r.rawLen ≤ Config.maxRecord) &&
    (if r.method = storedCode then r.storedLen == r.rawLen
     else if r.method = compressedCode then decide (1 ≤ r.storedLen ∧ r.storedLen < r.rawLen)
     else false)

/-- The expansion of a record (R37 to R39): the result and the decode state it leaves. -/
def expandRecord (r : TapeRecord) : XeResult × XeDecode :=
  if expandHeaderOk r then
    let (ok, e) :=
      if r.method = storedCode then (decide (r.stored.length = r.rawLen), ⟨[], r.stored.length, r.stored.reverse⟩)
      else expandTokens r.rawLen r.stored.length ⟨r.stored, 0, []⟩
    let raw := e.out.reverse
    let crc := crc32 raw
    let d : XeDecode := { outLen := raw.length, inPos := e.read, crc }
    if ok then (if crc = r.rawCrc then .good raw crc else .crcMismatch crc, d) else (.decodeError, d)
  else (.decodeError, {})

end Sys2Proof.Machine
end

