-- ==== Sys2Proof/Machine/Ops.lean ====
section
/-!
DEFINITION. The named operations every block uses: reading and writing the tables, raising an event (R180), making an
outbound frame ready (R174, R183), and putting a decision on the agenda.
-/
namespace Sys2Proof.Machine

/-! ### Reading and writing the tables -/

/-- A stream context (R1). -/
def Device.stream (d : Device) (c : StreamId) : Stream := d.intake.streams[c]

/-- A stream context changed. -/
def Device.modStream (d : Device) (c : StreamId) (g : Stream → Stream) : Device :=
  { d with intake := { d.intake with streams := d.intake.streams.set c (g (d.stream c)) } }

/-- A feed entry, if it is in use (R41). -/
def Device.feed (d : Device) (f : FeedId) : Option Feed := d.feeds[f]

/-- A feed entry written. -/
def Device.setFeed (d : Device) (f : FeedId) (v : Option Feed) : Device := { d with feeds := d.feeds.set f v }

/-- A feed entry in use changed; a free entry stays free. -/
def Device.modFeed (d : Device) (f : FeedId) (g : Feed → Feed) : Device := d.setFeed f ((d.feed f).map g)

/-- A drive port (R122). -/
def Device.drive (d : Device) (i : DriveId) : Drive := d.drives[i]

/-- A drive port changed. -/
def Device.modDrive (d : Device) (i : DriveId) (g : Drive → Drive) : Device :=
  { d with drives := d.drives.set i (g (d.drive i)) }

/-- A row of the cartridge table (R83). -/
def Device.row (d : Device) (c : CartId) : CartRow := d.media.carts[c]

/-- A cartridge entry, if the row holds one (R83). -/
def Device.cart (d : Device) (c : CartId) : Option Cart := (d.row c).entry

/-- A row of the cartridge table written. -/
def Device.setRow (d : Device) (c : CartId) (r : CartRow) : Device :=
  { d with media := { d.media with carts := d.media.carts.set c r } }

/-- A pool entry (R97). -/
def Device.pool (d : Device) (p : PoolId) : Pool := d.media.pools[p]

/-- An element entry (R99). -/
def Device.elem (d : Device) (e : ElemId) : Element := d.media.elems[e]

/-- An element entry changed. -/
def Device.modElem (d : Device) (e : ElemId) (g : Element → Element) : Device :=
  { d with media := { d.media with elems := d.media.elems.set e (g (d.elem e)) } }

/-- The device's elapsed seconds (section 0.5). -/
def Device.now (d : Device) : Nat := d.mu.elapsed

/-- Library time (R179). -/
def Device.time (d : Device) : Nat := d.mu.time

/-- The feeds in ascending order. -/
def allFeeds : List FeedId := List.finRange 4
/-- The drives in ascending order. -/
def allDrives : List DriveId := List.finRange 4
/-- The cartridge indexes in ascending order. -/
def allCarts : List CartId := List.finRange 128
/-- The elements in ascending order. -/
def allElems : List ElemId := List.finRange 105
/-- The stream contexts in ascending channel. -/
def allStreams : List StreamId := List.finRange 32
/-- The data pools 1..7. -/
def dataPools : List PoolId := [1, 2, 3, 4, 5, 6, 7]

/-! ### Agenda -/

/-- A decision made due. One that is due already is made once, after both events. -/
def Device.post (d : Device) (t : Task) : Device :=
  if t ∈ d.agenda then d else { d with agenda := d.agenda ++ [t] }

/-- Several decisions made due, in order. -/
def Device.postAll (d : Device) (ts : List Task) : Device := ts.foldl Device.post d

/-! ### Events (R180) -/

/-- The place of an event kind in the fixed priority of Table 10-3, counted from 0. -/
def EventKind.index : EventKind → Fin 14
  | .powerOn => 0
  | .pickerFault => 1
  | .driveFault => 2
  | .mapFull => 3
  | .segmentBad => 4
  | .eodMismatch => 5
  | .labelMismatch => 6
  | .segmentSuspect => 7
  | .verifyOverdue => 8
  | .streamOverrun => 9
  | .noMedia => 10
  | .cartridgeFull => 11
  | .cleanDue => 12
  | .operationEnd => 13

/-- The event kinds in the priority of Table 10-3. -/
def allEvents : List EventKind :=
  [.powerOn, .pickerFault, .driveFault, .mapFull, .segmentBad, .eodMismatch, .labelMismatch, .segmentSuspect,
   .verifyOverdue, .streamOverrun, .noMedia, .cartridgeFull, .cleanDue, .operationEnd]

/-- A pending kind raised again, or a kind made pending (R180). -/
def raiseEvent (old : Option Event) (arg : EventArg) : Event :=
  match old with
  | none => ⟨1, arg⟩
  | some e => ⟨min 255 (e.count + 1), e.arg⟩

/-- The pending event of a kind (R180). -/
def Device.event (d : Device) (k : EventKind) : Option Event := d.mu.events[k.index]

/-- The event set entry of a kind written. -/
def Device.setEvent (d : Device) (k : EventKind) (v : Option Event) : Device :=
  { d with mu := { d.mu with events := d.mu.events.set k.index v } }

/-- An event raised (R180). -/
def Device.raise (d : Device) (k : EventKind) (arg : EventArg) : Device :=
  d.setEvent k (some (raiseEvent (d.event k) arg))

/-- Whether any event kind is pending (R183). -/
def Device.attention (d : Device) : Bool := allEvents.any fun k => (d.event k).isSome

/-! ### Outbound frames -/

/-- A frame made ready for the outbound link. -/
def Device.emit (d : Device) (f : OutFrame) : Device :=
  { d with link := { d.link with outbound := d.link.outbound ++ [f] } }

/-- A RESP frame made ready (R174). -/
def Device.respond (d : Device) (tag : Tag) (status : Status) (items : List Item := []) : Device :=
  d.emit (.resp tag status items none)

/-- The link error count grown by 1, saturating (R175, R176). -/
def Device.linkError (d : Device) : Device :=
  { d with link := { d.link with errors := min 65535 (d.link.errors + 1) } }

/-! ### Response items (R189) -/

/-- A number item of the given width in bytes. -/
def numItem (name : String) (width v : Nat) : Item := ⟨ascii name, leBytes width v⟩

/-- A name item. -/
def nameItem (name value : String) : Item := ⟨ascii name, ascii value⟩

/-- An item that is left out when its result is absent (R189). -/
def optItem {α : Type} (v : Option α) (g : α → Item) : List Item :=
  match v with
  | some a => [g a]
  | none => []

/-! ### Running a command -/

/-- The outcome of a command that changes the device and owes no decision. -/
def State.just (s : State) (g : Device → Device) : Host.Outcome State Fault Refusal :=
  .next { s with dev := g s.dev }

end Sys2Proof.Machine
end

