-- ==== Sys2Proof/Machine/Segments.lean ====
section
/-!
DEFINITION. The segment map's operations (chapter 4): part ids, reservations, building parts at confirmation, closing
them, their states and their pins.
-/
namespace Sys2Proof.Machine

/-! ### The table -/

/-- The part record in use with this id. -/
def Device.part? (d : Device) (id : Nat) : Option Part := d.map.parts.find? fun p => p.id == id

/-- The part records in use that name a cartridge (R64). -/
def Device.partsOn (d : Device) (c : CartId) : List Part := d.map.parts.filter fun p => p.cart == c

/-- Whether any part record in use names a cartridge (R64). -/
def Device.named (d : Device) (c : CartId) : Bool := d.map.parts.any fun p => p.cart == c

/-- The part record with this id changed. -/
def Device.modPart (d : Device) (id : Nat) (g : Part → Part) : Device :=
  { d with map := { d.map with parts := d.map.parts.map fun p => if p.id = id then g p else p } }

/-- A part record put among the others, ids rising. -/
def insertPart (p : Part) : List Part → List Part
  | [] => [p]
  | q :: qs => if p.id ≤ q.id then p :: q :: qs else q :: insertPart p qs

/-- A free part record filled (R70, R80). -/
def Device.addPart (d : Device) (p : Part) : Device :=
  { d with map := { d.map with parts := insertPart p d.map.parts } }

/-- A part record made free (R79). -/
def Device.freePart (d : Device) (id : Nat) : Device :=
  { d with map := { d.map with parts := d.map.parts.filter fun p => p.id != id } }

/-- A reference to a part that is released keeps its part number and cartridge, and names the part no more (R79). -/
def PartRef.forget (r : PartRef) (id : Nat) : PartRef := if r.part = some id then { r with part := none } else r

/-- Every current-part reference, of a stream or of a departed entry, forgets a released part (R79). -/
def Device.forgetPart (d : Device) (id : Nat) : Device :=
  { d with
    intake :=
      { d.intake with streams := d.intake.streams.map fun s => { s with part := s.part.map (·.forget id) } }
    feeds :=
      d.feeds.map fun x =>
        x.map fun x => { x with departed := x.departed.map fun e => { e with part := e.part.map (·.forget id) } } }

/-- The counter one further, wrapping from FFFFFFFFh to 1 (R66). -/
def nextPartId (n : Nat) : Nat := if n ≥ Config.max32 then 1 else n + 1

/-- The first id from the counter on that no record in use holds (R66). -/
def freePartId (used : Nat → Bool) : (fuel : Nat) → Nat → Nat
  | 0, n => n
  | fuel + 1, n => if used n then freePartId used fuel (nextPartId n) else n

/-- The part id the next part takes (R66). -/
def Device.newPartId (d : Device) : Nat :=
  freePartId (fun n => (d.part? n).isSome) (d.map.parts.length + 1) d.map.counter

/-! ### Reservations (R68) -/

/-- Whether the map grants `n` further reservations (R68). -/
def Device.mapHasRoom (d : Device) (n : Nat) : Bool := d.map.parts.length + d.map.reserved + n ≤ Config.mapSize

/-- `n` reservations granted (R68). -/
def Device.reserve (d : Device) (n : Nat) : Device :=
  { d with map := { d.map with reserved := d.map.reserved + n } }

/-- One reservation consumed by a part creation (R68, R70). -/
def Device.consumeReservation (d : Device) : Device :=
  { d with map := { d.map with reserved := d.map.reserved - 1 } }

/-- `n` reservations released by a feed: a release event when the count falls (R68). -/
def Device.releaseReservations (d : Device) (n : Nat) : Device :=
  if n = 0 then d
  else ({ d with map := { d.map with reserved := d.map.reserved - n } } : Device).post .mapRelease

/-! ### Current parts and confirmation (R67, R69, R70) -/

/-- The id of the part a reference names: none when it is absent, or when that part was released (R67, R79). -/
def refPart (r : Option PartRef) : Option Nat := r.bind (·.part)

/-- The part a reference names, if it is the OPEN current part on this cartridge (R67). -/
def Device.currentPart (d : Device) (r : Option PartRef) (c : CartId) : Option Part :=
  if r.any fun x => x.cart == c then
    ((refPart r).bind d.part?).filter fun p => p.state == .open && p.cart == c
  else none

/-- A part extended by a confirmed record (R69). Its last block is the highest confirmed one that holds a record of it
(Table 4-1) and its last sequence the highest confirmed: in a run these are the record's own, since a later record has a
later block and sequence; in every state they keep the law on part extents (R75). -/
def Part.extend (p : Part) (r : Record) (block : Nat) : Part :=
  { p with
    lastBlock := max p.lastBlock block, lastSeq := max p.lastSeq r.seq, rawBytes := p.rawBytes + r.rawLen,
    storedBytes := p.storedBytes + r.storedLen, check := p.check + r.rawCrc, gap := p.gap || r.gap }

/-- A part created by a confirmed record (R70). -/
def Part.create (id number : Nat) (c : CartId) (r : Record) (block : Nat) : Part :=
  { id, jobTag := r.jobTag, number, cart := c, firstBlock := block, lastBlock := block, firstSeq := r.seq,
    lastSeq := r.seq, rawBytes := r.rawLen, storedBytes := r.storedLen, check := r.rawCrc, state := .open,
    gap := r.gap, truncated := false, continued := false, hostLoaded := false, closeTime := none,
    suspectTime := none, restorePins := 0, verifyPin := false }

/-- The part number the next part of an opening takes (R70). -/
def nextPartNumber (r : Option PartRef) : Nat :=
  match r with
  | some r => r.number + 1
  | none => 0

/-- A part created for a record on a cartridge, and the reference that names it (R66, R70). -/
def Device.createPart (d : Device) (r : Option PartRef) (c : CartId) (rec : Record) (block : Nat) :
    Device × PartRef :=
  let id := d.newPartId
  let number := nextPartNumber r
  let d := d.addPart (Part.create id number c rec block)
  ({ d with map := { d.map with counter := nextPartId id } }, ⟨some id, number, c⟩)

/-! ### Closing and states (R71 to R77) -/

/-- A part with the flags of a closing cause added (R71). -/
def Part.flagged (p : Part) (gap truncated continued : Bool) : Part :=
  { p with gap := p.gap || gap, truncated := p.truncated || truncated, continued := p.continued || continued }

/-- A part closed with the flags its cause names, or marked with them if it is closed already (R71). -/
def Device.closePart (d : Device) (id : Nat) (gap truncated continued : Bool) : Device :=
  match d.part? id with
  | none => d
  | some p =>
    if p.state = .open then
      (d.modPart id fun p =>
        { p.flagged gap truncated continued with state := .closed, closeTime := some d.time }).post
        (.verifyNotify p.cart)
    else d.modPart id fun p => p.flagged gap truncated continued

/-- The part a reference names closed (R72, R73); an absent reference leaves the map untouched. -/
def Device.closeRef (d : Device) (r : Option PartRef) (gap truncated : Bool) : Device :=
  match refPart r with
  | some id => d.closePart id gap truncated false
  | none => d

/-- A request to set a part BAD (R76). -/
def Device.setBad (d : Device) (id : Nat) : Device :=
  match d.part? id with
  | none => d
  | some p =>
    if p.state = .open ∨ p.state = .bad then d
    else
      ((d.modPart id fun p => { p with state := .bad, suspectTime := none }).raise .segmentBad (.number id)).post
        (.verifyNotify p.cart)

/-- A request to set a part VERIFIED (R76). -/
def Device.setVerified (d : Device) (id : Nat) : Device :=
  match d.part? id with
  | none => d
  | some p =>
    if p.state = .closed ∨ p.state = .suspect then
      (d.modPart id fun p => { p with state := .verified, suspectTime := none }).post (.verifyNotify p.cart)
    else d

/-- A request to mark a part SUSPECT (R77). -/
def Device.markSuspect (d : Device) (id : Nat) : Device :=
  match d.part? id with
  | none => d
  | some p =>
    if p.state = .closed ∨ p.state = .verified then
      ((d.modPart id fun p => { p with state := .suspect, suspectTime := some d.time }).raise .segmentSuspect
        (.number id)).post (.verifyNotify p.cart)
    else d

/-! ### Pins (R78) -/

/-- Pins of a part (R65): its restore pins and its verify pin. -/
def Part.pins (p : Part) : Nat := p.restorePins + if p.verifyPin then 1 else 0

/-- Whether a restore pin is granted (R78). -/
def Part.restorePinFree (p : Part) : Bool := p.state != .open && p.restorePins < 4

/-- A restore pin taken (R78). -/
def Device.pinRestore (d : Device) (id : Nat) : Device :=
  d.modPart id fun p => { p with restorePins := p.restorePins + 1 }

/-- A restore pin given back (R78). -/
def Device.unpinRestore (d : Device) (id : Nat) : Device :=
  d.modPart id fun p => { p with restorePins := p.restorePins - 1 }

/-- Whether a verify pin is granted (R78). -/
def Part.verifyPinFree (p : Part) : Bool := (p.state == .closed || p.state == .suspect) && !p.verifyPin

/-- A verify pin taken (R78). -/
def Device.pinVerify (d : Device) (id : Nat) : Device := d.modPart id fun p => { p with verifyPin := true }

/-- A verify pin given back (R78). -/
def Device.unpinVerify (d : Device) (id : Nat) : Device := d.modPart id fun p => { p with verifyPin := false }

end Sys2Proof.Machine
end

