-- ==== Sys2Proof/Machine/Media.lean ====
section
/-!
DEFINITION. The media tables' operations (chapter 5): cartridge entries with their generations (R88), what a feed may
take (R96), relocation, picker hold, element loss and scans (R100, R101), and return destinations (R102).
-/
namespace Sys2Proof.Machine

/-! ### What a feed may take (R83, R96) -/

/-- The feed that holds a cartridge (R83). -/
def Device.holder (d : Device) (c : CartId) : Option FeedId :=
  allFeeds.find? fun f => ((d.feed f).bind (·.cart)) == some c

/-- A location in a storage slot or a drive element (R96). -/
def Location.ready : Location → Bool
  | .at e => isStorage e || isDriveElem e
  | _ => false

/-- WRITABLE with FULL clear, of kind DATA, and no finalize pending (R96). -/
def Cart.open (e : Cart) : Bool :=
  e.kind == .data && e.protection == some .writable && e.full == some false && !e.finalizing

/-- Whether the end-of-medium reserve leaves room at the entry's EOD (R96). -/
def Cart.hasRoom (e : Cart) : Bool :=
  match e.eod with
  | none => true
  | some n => n + 1 + Config.reserve ≤ e.capacity

/-- Appendable for pool p, leaving aside whether a feed holds it (R96, R132). -/
def Cart.appendableFor (e : Cart) (p : PoolId) : Bool :=
  e.open && e.pool == some p && e.location.ready && e.hasRoom

/-- A cartridge appendable for pool p (R96). -/
def Device.appendable (d : Device) (p : PoolId) (c : CartId) : Bool :=
  match d.cart c with
  | some e => e.appendableFor p && (d.holder c).isNone
  | none => false

/-- A takeable scratch cartridge for pool p (R96). -/
def Device.takeable (d : Device) (p : PoolId) (c : CartId) : Bool :=
  match d.cart c with
  | some e =>
    (d.pool p).takeScratch && e.open && e.pool == some 0 && (e.eod == none || e.eod == some 1) && e.location.ready
      && !d.named c
  | none => false

/-- Appendable or takeable for pool p (R96). -/
def Device.usable (d : Device) (p : PoolId) (c : CartId) : Bool := d.appendable p c || d.takeable p c

/-- An event has made a cartridge appendable for pool p, or has made it takeable for pool p (R96): the one says nothing
of the other. -/
def Device.newlyUsable (before after : Device) (p : PoolId) (c : CartId) : Bool :=
  (after.appendable p c && !before.appendable p c) || (after.takeable p c && !before.takeable p c)

/-- The signals of R96 for a cartridge that an event has made appendable or takeable for some pool. -/
def Device.signals (before after : Device) (c : CartId) : Device :=
  after.postAll ((dataPools.filter fun p => Device.newlyUsable before after p c).map .media)

/-! ### Cartridge entries (R88) -/

/-- The location an entry has, if there is one. -/
def entryLocation (e : Option Cart) : Option Location := e.map (·.location)

/-- Whether an entry's protection or FULL flag differs between two readings (R90). -/
def guardChanged (a b : Option Cart) : Bool :=
  (a.bind (·.protection)) != (b.bind (·.protection)) || (a.bind (·.full)) != (b.bind (·.full))

/-- A row's entry written as one change (R88): the generation increments when a field changes, the holding feed is
given a dispatch decision when protection or FULL changed (R90), the owners hear of a changed location, and the
signals of R96 are made. -/
def Device.writeCart (d : Device) (c : CartId) (e : Option Cart) : Device :=
  let old := d.cart c
  if old = e then d
  else
    let d' := d.setRow c ⟨(d.row c).gen + 1, e⟩
    let d' := if entryLocation old = entryLocation e then d' else d'.post (.location c)
    let d' : Device :=
      match d.holder c with
      | some f => if guardChanged old e then d'.post (.feedDecide f) else d'
      | none => d'
    Device.signals d d' c

/-- A cartridge entry changed in one step (R88); an empty row stays empty. -/
def Device.editCart (d : Device) (c : CartId) (g : Cart → Cart) : Device :=
  match d.cart c with
  | some e => d.writeCart c (some (g e))
  | none => d

/-- The EOD after block n is written (R95): one more than n, which in a run is above the former EOD, since the block was
stamped at it; never below it (the law on EOD). -/
def eodAfter (e : Cart) (n : Nat) : Nat := max (e.eod.getD 0) (n + 1)

/-- A data cartridge marked FULL by the device, with CARTRIDGE_FULL (R58, R62, R133, R134). With `ends` the mark is a
failed FINAL write's, and finalize pending becomes no in the same change (R88, R93). -/
def Device.markFull (d : Device) (c : CartId) (ends : Bool := false) : Device :=
  (d.editCart c fun e => { e with full := some true, finalizing := e.finalizing && !ends }).raise .cartridgeFull
    (.number c)

/-- The protection after a mismatch: WRITABLE becomes LOCKED (R90). -/
def lockedAtMismatch : Option Protection → Option Protection
  | some .writable => some .locked
  | p => p

/-- A mismatch recorded in the entry (R90). With `ends` it also ends a FINALIZE of the cartridge, and finalize pending
becomes no in the same change (R88, R93). -/
def Device.markMismatch (d : Device) (c : CartId) (r : Reason) (ends : Bool := false) : Device :=
  d.editCart c fun e =>
    { e with protection := lockedAtMismatch e.protection, reason := r, finalizing := e.finalizing && !ends }

/-- A FINAL block found (R90). With `ends` it also ends a FINALIZE of the cartridge, in the same change (R88, R93). -/
def Device.markFinalized (d : Device) (c : CartId) (ends : Bool := false) : Device :=
  d.editCart c fun e =>
    { e with protection := some .finalized, reason := .none, finalizing := e.finalizing && !ends }

/-- The entry that holds a barcode. -/
def Device.byBarcode (d : Device) (x : Bytes) : Option CartId :=
  allCarts.find? fun c => (d.cart c).any fun e => e.barcode == x

/-- The lowest empty row. -/
def Device.emptyRow (d : Device) : Option CartId := allCarts.find? fun c => (d.cart c).isNone

/-! ### Elements -/

/-- An element's content set. An element that becomes EMPTY is an event at the picker arbiter (R110), and a storage
slot that becomes EMPTY also at the drives that wait for a destination (R102, R135). -/
def Device.setContent (d : Device) (e : ElemId) (v : Content) : Device :=
  let d' := d.modElem e fun x => { x with content := v }
  if v = .empty ∧ (d.elem e).content ≠ .empty then
    let d' := d'.post .picker
    if isStorage e then d'.post .mouth else d'
  else d'

/-- The occupant of an element. -/
def Device.occupant (d : Device) (e : ElemId) : Option CartId :=
  match (d.elem e).content with
  | .occupied c => some c
  | _ => none

/-- The former occupant of an element (Table 5-4). -/
def Device.former (d : Device) (e : ElemId) : Option CartId :=
  match (d.elem e).content with
  | .unknown c => c
  | _ => none

/-- The occupant or former occupant d of an element whose location a scan changes: a former occupant only while its
location is still UNKNOWN (R101). -/
def Device.displaced (d : Device) (e : ElemId) : Option CartId :=
  match (d.elem e).content with
  | .occupied c => some c
  | .unknown (some c) => if (d.cart c).any (fun x => x.location == .unknown) then some c else none
  | _ => none

/-- A cartridge's location set to UNKNOWN. A FINALIZE of the cartridge ends by it (R93), and finalize pending becomes no
in the same change (R88). -/
def Device.loseCart (d : Device) (c : CartId) : Device :=
  d.editCart c fun e => { e with location := .unknown, finalizing := false }

/-- The displaced occupant of an element loses its place: its location becomes UNKNOWN (R101). -/
def Device.loseDisplaced (d : Device) (e : ElemId) : Device :=
  match d.displaced e with
  | some o => d.loseCart o
  | none => d

/-- A cartridge that has left the library by a mail slot: OUTSIDE, and its home slot lost (R101). A FINALIZE of the
cartridge ends by it (R93), and finalize pending becomes no in the same change (R88). -/
def Device.cartOutside (d : Device) (c : CartId) : Device :=
  d.editCart c fun e => { e with location := .outside, home := none, finalizing := false }

/-- Cartridge c is no longer the former occupant of any element (R101). -/
def Device.forgetFormer (d : Device) (c : CartId) : Device :=
  { d with
    media :=
      { d.media with
        elems := d.media.elems.map fun x =>
          if x.content = .unknown (some c) then { x with content := .unknown none } else x } }

/-- Cartridge c recorded in element e by a scan: e is OCCUPIED by c, c's location is e, and a storage slot becomes the
home of a cartridge that has none (R101). -/
def Device.settleIn (d : Device) (e : ElemId) (c : CartId) : Device :=
  let d := (d.setContent e (.occupied c)).forgetFormer c
  d.editCart c fun x =>
    { x with location := .at e, home := if x.home.isNone && isStorage e then some e else x.home }

/-- The entry a scan creates (Table 5-1). -/
def Cart.scanned (x : Bytes) (e : ElemId) : Cart :=
  let cleaning := x.take 3 == ascii "CLN"
  { barcode := x
    kind := if cleaning then .cleaning else .data
    pool := if cleaning then none else some 0
    protection := if cleaning then none else some .writable
    full := if cleaning then none else some false
    eod := none
    capacity := Config.maxCapacity
    serial := 0
    location := .at e
    home := if isStorage e then some e else none
    uses := if cleaning then 50 else 0
    finalizing := false
    reason := .none }

/-- A scan result of "empty" applied to an element (R101). -/
def Device.scanEmpty (d : Device) (e : ElemId) : Device :=
  let gone := d.displaced e
  let d := d.setContent e .empty
  match gone with
  | some c => if isMail e then d.cartOutside c else d.loseCart c
  | none => d

/-- A scan result of barcode x applied to an element (R101), and whether it created an entry. -/
def Device.scanBarcode (d : Device) (e : ElemId) (x : Bytes) : Device × Bool :=
  match d.byBarcode x with
  | some c =>
    let d : Device :=
      match entryLocation (d.cart c) with
      | some (.at f) => if f = e then d else d.setContent f (.unknown none)
      | _ => d
    let d : Device :=
      match d.displaced e with
      | some o => if o = c then d else d.loseCart o
      | none => d
    (d.settleIn e c, false)
  | none =>
    let d := d.loseDisplaced e
    match d.emptyRow with
    | some c => (((d.setContent e (.occupied c)).forgetFormer c).writeCart c (some (Cart.scanned x e)), true)
    | none => (d.setContent e (.foreign x), false)

/-- A scan result applied to an element (R101), and whether it created an entry. -/
def Device.scan (d : Device) (e : ElemId) (r : ScanResult) : Device × Bool :=
  match r with
  | .empty => (d.scanEmpty e, false)
  | .barcode x => d.scanBarcode e x

/-- Eight question marks (3Fh), the barcode seen of an unreadable label (R101, R142). -/
def unreadableBarcode : Bytes := List.replicate 8 0x3F#8

/-- An UNREADABLE label applied to a drive element (R101): FOREIGN, whatever rows are empty. -/
def Device.scanUnreadable (d : Device) (e : ElemId) : Device :=
  (d.loseDisplaced e).setContent e (.foreign unreadableBarcode)

/-- The element loss of R100. -/
def Device.loseElem (d : Device) (e : ElemId) : Device :=
  match (d.elem e).content with
  | .occupied c => (d.setContent e (.unknown (some c))).loseCart c
  | .foreign _ => d.setContent e (.unknown none)
  | .empty => d.setContent e (.unknown none)
  | .unknown _ => d

/-- The home slot after a relocation (R102): a host MOVE into a storage slot makes it the home; another relocation into
a storage slot does when there is none. -/
def homeAfter (home : Option ElemId) (b : ElemId) (hostMove : Bool) : Option ElemId :=
  if isStorage b && (hostMove || home.isNone) then some b else home

/-- What a load that leaves element a now is: a FOREIGN load whose element a CREATE has meanwhile made OCCUPIED is that
cartridge (R84). -/
def Device.loadFrom (d : Device) (a : ElemId) (load : Load) : Load :=
  match load, d.occupant a with
  | .foreign _, some c => .cart c
  | l, _ => l

/-- The occupant of an element that is about to hold another load loses its place there: its location becomes UNKNOWN
(the location law, R99). -/
def Device.evict (d : Device) (e : ElemId) : Device :=
  match d.occupant e with
  | some c => d.loseCart c
  | none => d

/-- The element that a cartridge's location names becomes UNKNOWN, as at a scan that finds the cartridge elsewhere (R99,
R101). -/
def Device.vacate (d : Device) (c : CartId) : Device :=
  match entryLocation (d.cart c) with
  | some (.at e) => d.setContent e (.unknown none)
  | _ => d

/-- The relocation of R100 and R111: the load passes from element a to element b in both tables. In a run the cartridge
stands in a, or in no element after an element loss, and b holds no other; the location law (R99) is kept in every other
state too. -/
def Device.relocate (d : Device) (a b : ElemId) (load : Load) (hostMove : Bool) : Device :=
  match d.loadFrom a load with
  | .cart c =>
    let d := d.vacate c
    let d := ((d.evict a).evict b).setContent a .empty
    if (d.cart c).isNone then d.setContent b (.unknown none)
    else
      (d.setContent b (.occupied c)).editCart c fun x =>
        { x with location := .at b, home := homeAfter x.home b hostMove }
  | .foreign x => ((d.evict b).setContent a .empty).setContent b (.foreign x)

/-- The picker hold of R100: the load passes from element a to element 0. -/
def Device.pickerHold (d : Device) (a : ElemId) (load : Load) : Device :=
  if a = pickerElem then d else d.relocate a pickerElem load false

/-! ### Destinations (R102) -/

/-- An element that is EMPTY with no incoming move (R102). -/
def Device.slotFree (d : Device) (e : ElemId) : Bool :=
  (d.elem e).content == .empty && (d.elem e).incoming.isNone

/-- The lowest storage slot that is EMPTY with no incoming move (R102). -/
def Device.lowestFreeSlot (d : Device) : Option ElemId := allElems.find? fun e => isStorage e && d.slotFree e

/-- The destination R102 gives a load, if there is one. -/
def Device.destination (d : Device) (load : Load) : Option ElemId :=
  match load with
  | .cart c =>
    match (d.cart c).bind (·.home) with
    | some h => if d.slotFree h then some h else d.lowestFreeSlot
    | none => d.lowestFreeSlot
  | .foreign _ => d.lowestFreeSlot

/-- A destination taken: a slot that is not the cartridge's home becomes it (R102). -/
def Device.takeDestination (d : Device) (load : Load) (e : ElemId) : Device :=
  match load with
  | .cart c => d.editCart c fun x => { x with home := some e }
  | .foreign _ => d

end Sys2Proof.Machine
end

