-- ==== Sys2Proof/Machine/Streams.lean ====
section
/-!
DEFINITION. The intake unit's operations (chapter 1): the ring, record cutting, finishing, closing and aborting; and
the compression engine's arbiter and its work on a taken record (R24, R25, R30, R31).
-/
namespace Sys2Proof.Machine

/-! ### The ring (R7) -/

/-- The bytes a run of slots holds. -/
def slotsLen (ss : List Slot) : Nat := (ss.map fun x => x.payload.length).sum

/-- Occupied slots (Table 1-1). -/
def Stream.occupied (s : Stream) : Nat := s.slots.length

/-- The number of unfinished bytes (R7). -/
def Stream.unfinished (s : Stream) : Nat := slotsLen s.slots - s.byteOffset

/-- The raw length of the offered record, 0 when it is absent. -/
def Stream.offeredLen (s : Stream) : Nat :=
  match s.offered with
  | some o => o.rawLen
  | none => 0

/-- The number of unconsumed bytes (R7). -/
def Stream.unconsumed (s : Stream) : Nat := s.unfinished - s.offeredLen

/-- The bytes of the ring from the byte offset on, in stream order (R7). -/
def Stream.bytes (s : Stream) : Bytes := (s.slots.flatMap fun x => x.payload).drop s.byteOffset

/-- The stream takes DATA and marks: WAITING, BOUND or STALLED (R8, R13, R14). -/
def StreamState.takes : StreamState → Bool
  | .waiting | .bound | .stalled => true
  | _ => false

/-- The first run of slots that holds `n` bytes, the last one shortened to them; a shortened slot loses its cut flag. -/
def takeSlots : Nat → List Slot → List Slot
  | _, [] => []
  | n, x :: xs =>
    if n = 0 then []
    else if x.payload.length ≤ n then x :: takeSlots (n - x.payload.length) xs
    else [⟨x.payload.take n, false⟩]

/-- The unconsumed bytes discarded, and every slot freed that holds none of the offered record (R17, R20). The write
slot stands as R7 has it; an empty ring has byte offset 0. -/
def Stream.dropUnconsumed (s : Stream) : Stream :=
  let slots := if s.offered.isSome then takeSlots (s.byteOffset + s.offeredLen) s.slots else []
  { s with
    slots, byteOffset := if slots = [] then 0 else s.byteOffset,
    writeSlot := (s.readSlot + slots.length) % Config.ringSlots }

/-- A DATA payload stored in the write slot (R8, steps 1 to 4). -/
def Stream.store (s : Stream) (payload : Bytes) : Stream :=
  { s with
    credits := s.credits - 1, slots := s.slots ++ [⟨payload, false⟩],
    writeSlot := (s.writeSlot + 1) % Config.ringSlots, accepted := s.accepted + payload.length }

/-- The cut flag of the last occupied slot set. -/
def flagLast : List Slot → List Slot
  | [] => []
  | [x] => [{ x with cut := true }]
  | x :: xs => x :: flagLast xs

/-- A CUT mark recorded at the position reached by bytes accepted, unless it stands at the record boundary (R14). -/
def Stream.mark (s : Stream) : Stream :=
  if s.unconsumed = 0 then s else { s with slots := flagLast s.slots }

/-! ### Record cutting (R15) -/

/-- Bytes from the start of a run of slots to its first cut point. -/
def firstCut : List Slot → Option Nat
  | [] => none
  | x :: xs => if x.cut then some x.payload.length else (firstCut xs).map (· + x.payload.length)

/-- A run of slots with its first cut flag cleared. -/
def clearCut : List Slot → List Slot
  | [] => []
  | x :: xs => if x.cut then { x with cut := false } :: xs else x :: clearCut xs

/-- The cases of Table 1-4. -/
inductive CutCase where
  | mark (n : Nat)
  | plain (n : Nat)
deriving DecidableEq, Repr

/-- The first case of Table 1-4 that holds, when no record is offered. -/
def Stream.cutCase (s : Stream) : Option CutCase :=
  let cut := (firstCut s.slots).map (· - s.byteOffset)
  let n := s.unconsumed
  let markCut := cut.filter fun x => x ≤ s.recordSize
  match markCut with
  | some x => some (.mark x)
  | none =>
    if s.recordSize ≤ n then some (.plain s.recordSize)
    else if s.state = .ending ∧ 1 ≤ n then some (.plain n)
    else if s.occupied = Config.ringSlots ∧ cut.isNone then some (.plain n)
    else none

/-- The steps of a cut of `n` bytes (R15, R17). -/
def Stream.cutRecord (s : Stream) (n : Nat) : Stream :=
  { s with
    offered := some ⟨n, false, s.nextSeq, s.gap⟩, unconfirmed := s.unconfirmed + 1,
    nextSeq := min Config.max32 (s.nextSeq + 1) }

/-- A cut case carried out, the mark's cut flag cleared. -/
def Stream.cut (s : Stream) : CutCase → Stream
  | .mark n => { s with slots := clearCut s.slots }.cutRecord n
  | .plain n => s.cutRecord n

/-- The consequences of the sequence limit after the cut of sequence FFFFFFFFh (R17). -/
def Stream.atLimit (s : Stream) : Stream :=
  let lost := s.unconsumed
  { s.dropUnconsumed with
    state := .ending, credits := 0, limitReached := true, accepted := s.accepted - lost, gap := s.gap || 0 < lost }

/-- A feed's dispatch decision made due, if the stream has a feed. -/
def Device.postFeed (d : Device) (f : Option FeedId) (t : FeedId → Task) : Device :=
  match f with
  | some f => d.post (t f)
  | none => d

/-- The record-cutting decision (R15). -/
def Device.cutDecision (d : Device) (c : StreamId) : Device :=
  let s := d.stream c
  if s.offered.isSome then d
  else
    match s.cutCase with
    | none => d
    | some k =>
      let cut := s.cut k
      if s.nextSeq = Config.max32 then
        let d' := d.modStream c fun _ => cut.atLimit
        let d' := if 0 < cut.unconsumed then d'.raise .streamOverrun (.number (streamChannel c)) else d'
        (d'.post .ceSearch).postFeed s.feed .feedDecide
      else (d.modStream c fun _ => cut).post .ceSearch

/-! ### Finishing a record (R11) -/

/-- The slots whose bytes all belong to the first `n` bytes freed: the slots left, and the finished bytes in the first
of them. -/
def freeSlots : Nat → List Slot → List Slot × Nat
  | _, [] => ([], 0)
  | n, x :: xs => if x.payload.length ≤ n then freeSlots (n - x.payload.length) xs else (x :: xs, n)

/-- The context after the finish of its offered record (R11, steps 1 to 3), and the number of slots freed. -/
def Stream.finish (s : Stream) : Stream × Nat :=
  let (slots, offset) := freeSlots (s.byteOffset + s.offeredLen) s.slots
  let freed := s.slots.length - slots.length
  ({ s with
     slots, byteOffset := offset, readSlot := (s.readSlot + freed) % Config.ringSlots, offered := none }, freed)

/-- The finish of the stream's offered record (R11): slots freed, credit returned, and the next cut decided. -/
def Device.finishRecord (d : Device) (c : StreamId) : Device :=
  let (s, freed) := (d.stream c).finish
  if s.state.takes ∧ 0 < freed then
    (((d.modStream c fun _ => { s with credits := s.credits + freed }).emit (.credit c freed)).cutDecision c)
  else
    let d := d.modStream c fun _ => s
    if s.state = .closed then d else d.cutDecision c

/-! ### Closing (R18, R20) -/

/-- A context as every close leaves it (R1): CLOSED, without credit, feed and current part. -/
def Stream.closedUp (s : Stream) : Stream :=
  { s with state := .closed, credits := 0, feed := none, part := none }

/-- The opening a context stands for. -/
def Device.opening (d : Device) (c : StreamId) : Opening := ⟨c, (d.stream c).opening⟩

/-- A stream taken out of its pool's wait order, or out of its feed's member list (R18, R20). -/
def Device.leaveFeed (d : Device) (c : StreamId) : Device :=
  match (d.stream c).feed with
  | none => { d with intake := { d.intake with waitOrder := d.intake.waitOrder.filter (· != c) } }
  | some f =>
    (d.modFeed f fun x => { x with members := x.members.filter (· != d.opening c) }).post (.memberLeft f)

/-- An ENDING stream closes when its ring is empty, no record is offered and all its records are confirmed (R18, R72). -/
def Device.closeIfDone (d : Device) (c : StreamId) : Device :=
  let s := d.stream c
  if s.state = .ending ∧ s.slots = [] ∧ s.offered = none ∧ s.unconfirmed = 0 then
    ((d.closeRef s.part s.gap false).leaveFeed c).modStream c Stream.closedUp
  else d

/-- The sequence of the last record of the opening that was cut and not discarded (R20, step 6). -/
def Stream.lastWritten (s : Stream) : Nat :=
  match s.offered with
  | some o => if o.taken then o.seq else o.seq - 1
  | none => if s.limitReached then Config.max32 else s.nextSeq - 1

/-- The context after steps 1 to 4 of R20: an untaken record and every unconsumed byte discarded. -/
def Stream.abandon (s : Stream) : Stream :=
  let untaken := s.offered.any fun o => !o.taken
  let s' := if untaken then { s with offered := none, unconfirmed := s.unconfirmed - 1 } else s
  s'.dropUnconsumed

/-- The departed entry handed to the feed (R20, R46), or the part closed with TRUNCATED at once when no record of the
opening is still to be written (R73). -/
def Device.handOver (d : Device) (c : StreamId) (f : FeedId) (s after : Stream) : Device :=
  if after.unconfirmed = 0 then d.closeRef s.part false true
  else
    d.modFeed f fun x => { x with departed := x.departed ++ [⟨⟨c, s.opening⟩, s.jobTag, s.part, s.lastWritten⟩] }

/-- An unsent CREDIT of a stream. -/
def OutFrame.isCreditOf (c : StreamId) : OutFrame → Bool
  | .credit x _ => x == c
  | _ => false

/-- A stream closed at once, whatever its state (R20): also the close a link reset makes (R21). -/
def Device.abort (d : Device) (c : StreamId) : Device :=
  let s := d.stream c
  let after := s.abandon
  let d' : Device :=
    match s.feed with
    | some f => d.handOver c f s after
    | none => d
  let d' := (d'.leaveFeed c).modStream c fun _ => after.closedUp
  { d' with link := { d'.link with outbound := d'.link.outbound.filter fun x => !x.isCreditOf c } }

/-! ### The compression engine's arbiter (R24, R25) -/

/-- Whether a stall cause stands (R42). -/
def Stall.any (s : Stall) : Bool := s.span || s.suspend || s.mapFull || s.noMedia

/-- A feed accepts records (R49). -/
def Feed.accepts (f : Feed) : Bool :=
  (f.state == .unbound || f.state == .filling || f.state == .streaming || f.state == .paused) && !f.stall.any
    && f.staging.length < Config.stagingLimit

/-- A stream is eligible for the CE (R24): its feed, if it is. -/
def Device.eligible (d : Device) (c : StreamId) : Option (FeedId × Offered) :=
  let s := d.stream c
  match s.state, s.offered, s.feed with
  | .closed, _, _ => none
  | _, some o, some f => if !o.taken && (d.feed f).any Feed.accepts then some (f, o) else none
  | _, _, _ => none

/-- The channels in the order the search visits them (R25): from the one after the last-served, wrapping. -/
def searchOrder (last : StreamId) : List StreamId :=
  allStreams.filter (fun c => last < c) ++ allStreams.filter fun c => c ≤ last

/-- A stream's offered record taken by the CE (R16, R25). -/
def Device.takeRecord (d : Device) (c : StreamId) (f : FeedId) (o : Offered) : Device :=
  let s := d.stream c
  let d := d.modStream c fun s => { s with offered := some { o with taken := true } }
  { d with
    ce :=
      { d.ce with
        state := .compressing, lastServed := c, head := [],
        current :=
          some ⟨⟨c, s.opening⟩, f, s.jobTag, o.seq, o.rawLen, o.gap, s.policy, s.storedRun, s.bypass⟩ } }

/-- The CE arbiter's search (R25). -/
def Device.ceSearch (d : Device) : Device :=
  if d.ce.state = .idle then
    match (searchOrder d.ce.lastServed).findSome? fun c => (d.eligible c).map fun x => (c, x) with
    | some (c, f, o) => d.takeRecord c f o
    | none => d
  else d

/-- The CE's work on its current record (R29 to R31): the finished record in the output hold, HOLDING. -/
def Device.compress (d : Device) : Device :=
  match d.ce.current with
  | none => d
  | some r =>
    let raw := ((d.stream r.opening.chan).bytes).take r.rawLen
    let matched := takesFinder r.policy r.bypass
    let (method, stored, head) := if matched then compressRecord raw else (.stored, raw, d.ce.head)
    let record : Record :=
      { opening := r.opening, jobTag := r.jobTag, seq := r.seq, rawLen := r.rawLen, storedLen := stored.length, method,
        rawCrc := crc32 raw, gap := r.gap, stored }
    { d with ce := { d.ce with state := .holding, head, hold := some ⟨record, matched⟩ } }

end Sys2Proof.Machine
end

