-- ==== Sys2Proof/Machine/Ports.lean ====
section
/-!
DEFINITION. The shared operations on the drive ports, the changer's move queue and the claim list: issuing a drive
command (R123), entering and removing a move (R106, R108), and placing, returning and withdrawing a claim (R126, R134).
-/
namespace Sys2Proof.Machine

/-! ### Drive commands (R123) -/

/-- The name of a command. -/
def DriveCmd.name : DriveCmd → CmdName
  | .load => .load
  | .unload => .unload
  | .locate _ => .locate
  | .locateEnd => .locateEnd
  | .read _ => .read
  | .write _ => .write
  | .speed _ => .speed
  | .clean => .clean

/-- A command given the next command number and added to the outstanding ones (R123). -/
def Drive.issued (x : Drive) (now : Nat) (cmd : DriveCmd) : Drive :=
  { x with outstanding := x.outstanding ++ [⟨x.cmdNo, now, cmd⟩], cmdNo := x.cmdNo + 1 }

/-- A command issued to a drive (R123). -/
def Device.issue (d : Device) (i : DriveId) (cmd : DriveCmd) : Device :=
  d.modDrive i fun x => x.issued d.now cmd

/-- A drive port's phase set. -/
def Device.setPhase (d : Device) (i : DriveId) (p : Phase) : Device := d.modDrive i fun x => { x with phase := p }

/-- A drive's state and phase set. -/
def Device.setDrive (d : Device) (i : DriveId) (s : DriveState) (p : Phase) : Device :=
  d.modDrive i fun x => { x with state := s, phase := p }

/-! ### The move queue (R106, R108) -/

/-- The next entry order of the changer (R110), taken. -/
def Device.takeEntry (d : Device) : Device :=
  { d with changer := { d.changer with entryCount := d.changer.entryCount + 1 } }

/-- A move in the queue. -/
def Device.move? (d : Device) (id : Nat) : Option Move := d.changer.moves.find? fun m => m.id == id

/-- A move in the queue changed. -/
def Device.modMove (d : Device) (id : Nat) (g : Move → Move) : Device :=
  { d with
    changer := { d.changer with moves := d.changer.moves.map fun m => if m.id = id then g m else m } }

/-- An element named by a queued or running move. -/
def Device.moveNames (d : Device) (e : ElemId) : Bool :=
  (d.elem e).incoming.isSome || (d.elem e).outgoing.isSome

/-- A move entered in the queue with the next entry order, its two indications marked (R106). -/
def Device.enterMove (d : Device) (src : ElemId) (dst : Option ElemId) (load : Load) (cls : Option Nat)
    (requester : Requester) (ready : Bool) : Device :=
  let id := d.changer.nextMove
  let m : Move :=
    { id, src, dst, load, cls, requester, order := d.changer.entryCount, running := false, ready, atPicker := false,
      grips := 0 }
  let d := d.takeEntry
  let d := { d with changer := { d.changer with moves := d.changer.moves ++ [m], nextMove := id + 1 } }
  let d := d.modElem src fun x => { x with outgoing := some id }
  let d : Device :=
    match dst with
    | some b => d.modElem b fun x => { x with incoming := some id }
    | none => d
  d.post .picker

/-- A move's two indications cleared (R106). -/
def Device.clearMarks (d : Device) (id : Nat) : Device :=
  { d with
    media :=
      { d.media with
        elems := d.media.elems.map fun x =>
          { x with
            incoming := if x.incoming = some id then none else x.incoming,
            outgoing := if x.outgoing = some id then none else x.outgoing } } }

/-- A move taken out of the queue at its end or its withdrawal (R106). -/
def Device.dropMove (d : Device) (id : Nat) : Device :=
  let d := d.clearMarks id
  { d with changer := { d.changer with moves := d.changer.moves.filter fun m => m.id != id } }

/-- Whether the changer accepts a drive port's request to move cartridge c to element b (R108): its source. -/
def Device.moveSource (d : Device) (c : CartId) (b : ElemId) : Option ElemId :=
  match entryLocation (d.cart c) with
  | some (.at a) =>
    let free := (d.elem b).content == .empty || (driveOfElem? b).any fun i => (d.drive i).state == .empty
    if (d.elem a).content = .occupied c ∧ free ∧ a ≠ b ∧ !d.moveNames a ∧ !d.moveNames b then some a else none
  | _ => none

/-- A drive port's request for a move (R108): the queue with it, or `none` for BUSY. -/
def Device.requestMove (d : Device) (i : DriveId) (c : CartId) (b : ElemId) (cls : Nat) : Option Device :=
  (d.moveSource c b).map fun a => d.enterMove a (some b) (.cart c) (some cls) (.drive i) true

/-- The moves a drive port has asked for. -/
def Device.movesOf (d : Device) (i : DriveId) : List Move :=
  d.changer.moves.filter fun m => m.requester == .drive i

/-- A drive port's queued moves withdrawn; a running move runs on (R108). -/
def Device.withdrawMoves (d : Device) (i : DriveId) : Device :=
  ((d.movesOf i).filter fun m => !m.running).foldl (fun d m => d.dropMove m.id) d

/-! ### Claims (R126) -/

/-- Claim classes (Table 7-5). -/
def ClaimKind.cls : ClaimKind → Nat
  | .urgent => 1
  | .cleaning => 2
  | .overdue => 3
  | .feed => 4
  | .normal => 5
  | .host => 6
  | .verify => 7

/-- A restore claim. -/
def ClaimKind.isRestore : ClaimKind → Bool
  | .urgent | .normal => true
  | _ => false

/-- A verify claim, class 3 or 7. -/
def ClaimKind.isVerify : ClaimKind → Bool
  | .overdue | .verify => true
  | _ => false

/-- A claim in the list. -/
def Device.claim? (d : Device) (order : Nat) : Option Claim := d.arb.claims.find? fun c => c.order == order

/-- The claim of an owner. -/
def Device.claimOf (d : Device) (o : Owner) : Option Claim := d.arb.claims.find? fun c => c.owner == o

/-- A claim changed. -/
def Device.modClaim (d : Device) (order : Nat) (g : Claim → Claim) : Device :=
  { d with arb := { d.arb with claims := d.arb.claims.map fun c => if c.order = order then g c else c } }

/-- A claim taken out of the list. -/
def Device.removeClaim (d : Device) (order : Nat) : Device :=
  { d with arb := { d.arb with claims := d.arb.claims.filter fun c => c.order != order } }

/-- The location of a claim's cartridge is to be looked at: its owner is told of OUTSIDE or UNKNOWN (R127). -/
def Device.postTarget (d : Device) : Target → Device
  | .cart c => d.post (.location c)
  | _ => d

/-- A claim placed with the next entry order (R126); the arbiter decides. -/
def Device.placeClaim (d : Device) (kind : ClaimKind) (owner : Owner) (target : Target)
    (preferred : Option DriveId := none) : Device :=
  let c : Claim := { order := d.arb.nextOrder, kind, owner, target, preferred }
  ((({ d with arb := { claims := d.arb.claims ++ [c], nextOrder := d.arb.nextOrder + 1 } } : Device).postTarget
    target).post .arbiter).postAll (allDrives.map .suspendCheck)

/-- The verify list entry of a cartridge. -/
def Device.entry? (d : Device) (c : CartId) : Option VerifyEntry := d.vu.list.find? fun e => e.cart == c

/-- An entry is overdue while its deadline is not later than the present library time (R164). -/
def VerifyEntry.overdue (e : VerifyEntry) (time : Nat) : Bool := e.deadline ≤ time

/-- The kind a verify claim has when it returns to waiting (R164); other claims keep theirs. -/
def Device.kindAtReturn (d : Device) (c : Claim) : ClaimKind :=
  match c.owner with
  | .verify x => if (d.entry? x).any fun e => e.overdue d.time then .overdue else .verify
  | _ => c.kind

/-- An assigned claim returned to waiting with its entry order (R126); the arbiter decides. A host move's claim makes
its move not ready again (R141). -/
def Device.returnClaim (d : Device) (i : DriveId) : Device :=
  match (d.drive i).claim with
  | none => d
  | some o =>
    let d := d.modDrive i fun x => { x with claim := none }
    match d.claim? o with
    | none => d
    | some c =>
      let kind := d.kindAtReturn c
      let d := d.modClaim o fun c =>
        { c with kind, drive := none, chosen := none, scratch := false, reported := false, prepared := false }
      let d : Device :=
        match c.owner with
        | .hostMove m => d.modMove m fun m => { m with ready := false }
        | _ => d
      (d.postTarget c.target).post .arbiter

/-- The claim assigned to a drive. -/
def Device.assigned (d : Device) (i : DriveId) : Option Claim := ((d.drive i).claim).bind d.claim?

/-- The assigned claim of a drive leaves the list: it is served, or its work or move has ended (R126). -/
def Device.clearClaim (d : Device) (i : DriveId) : Device :=
  match (d.drive i).claim with
  | none => d
  | some o => (d.removeClaim o).modDrive i fun x => { x with claim := none }

/-- A suspension in progress for a withdrawn claim cancelled (R60, R138): a feed drops SUSPEND and decides, a restore
or a pass goes on. -/
def Device.cancelSuspension (d : Device) (order : Nat) : Device :=
  allDrives.foldl
    (fun d i =>
      if (d.drive i).suspendFor = some order then
        (d.modDrive i fun x => { x with suspendFor := none }).post (.pushReady i)
      else d) d

/-- A claim withdrawn by its owner (R126, R134). A waiting claim leaves the list. Of a claim whose mount is in
progress, a queued mount move is withdrawn and the drive is EMPTY again; any other step under way completes. -/
def Device.withdrawClaim (d : Device) (order : Nat) : Device :=
  match d.claim? order with
  | none => d
  | some c =>
    let d := (d.removeClaim order).cancelSuspension order
    match c.drive with
    | none => d
    | some i =>
      let d := d.modDrive i fun x => { x with claim := none }
      let d : Device :=
        if (d.drive i).phase = .mountMove ∧ (d.movesOf i).all fun m => !m.running then
          (d.withdrawMoves i).setPhase i .rest
        else d
      d.post .arbiter

/-- The claim of an owner withdrawn, if it has one. -/
def Device.withdrawOf (d : Device) (o : Owner) : Device :=
  match d.claimOf o with
  | some c => d.withdrawClaim c.order
  | none => d

end Sys2Proof.Machine
end

