-- ==== Sys2Proof/Machine/Feeds.lean ====
section
/-!
DEFINITION. The feed unit's operations (chapter 3): stalls, binding, packing, closing, dispatch, reservations,
confirmation, underrun, the governor, spans, suspension, retirement and the drive reset's unbinding.
-/
namespace Sys2Proof.Machine

/-! ### Stalls (R42) -/

/-- A stream's state after its feed is declared stalled (R6). -/
def StreamState.stall : StreamState → StreamState
  | .bound => .stalled
  | s => s

/-- A stream's state after its feed is declared recovered (R6). -/
def StreamState.recover : StreamState → StreamState
  | .stalled => .bound
  | s => s

/-- Every member stream of a feed follows a declaration (R6). -/
def Device.declare (d : Device) (members : List Opening) (g : StreamState → StreamState) : Device :=
  members.foldl (fun d o => d.modStream o.chan fun s => { s with state := g s.state }) d

/-- A feed's stall causes changed, with the declaration the change calls for (R42). -/
def Device.setStall (d : Device) (f : FeedId) (g : Stall → Stall) : Device :=
  match d.feed f with
  | none => d
  | some x =>
    let stall := g x.stall
    let d := d.setFeed f (some { x with stall })
    if !x.stall.any && stall.any then d.declare x.members StreamState.stall
    else if x.stall.any && !stall.any then (d.declare x.members StreamState.recover).post .ceSearch
    else d

/-! ### Binding (R5, R45) -/

/-- A stream made a member of a feed: its feed field written, WAITING to BOUND, and STALLED at once when the feed is
stalled (R42, R45). -/
def Device.join (d : Device) (c : StreamId) (f : FeedId) : Device :=
  match d.feed f with
  | none => d
  | some x =>
    let d := d.setFeed f (some { x with members := x.members ++ [d.opening c] })
    let d := d.modStream c fun s =>
      { s with
        feed := some f,
        state := if s.state = .waiting then (if x.stall.any then .stalled else .bound) else s.state }
    ({ d with intake := { d.intake with waitOrder := d.intake.waitOrder.filter (· != c) } } : Device).post .ceSearch

/-- The lowest-numbered existing feed a stream of pool p joins (R45). -/
def Device.joinable (d : Device) (p : PoolId) : Option FeedId :=
  allFeeds.find? fun f =>
    (d.feed f).any fun x =>
      x.pool == p && (x.state == .filling || x.state == .streaming || x.state == .paused)
        && x.members.length < (d.pool p).multiplex

/-- The lowest-numbered free feed entry (R45). -/
def Device.freeFeed (d : Device) : Option FeedId := allFeeds.find? fun f => (d.feed f).isNone

/-- A candidate bound to a feed if it can be: it joins one, or a feed is created for it (R45). -/
def Device.bindOne (d : Device) (c : StreamId) : Device :=
  let p := (d.stream c).pool
  match d.joinable p with
  | some f => d.join c f
  | none =>
    match d.freeFeed with
    | some f => ((d.setFeed f (some { pool := p, members := [] })).join c f).placeClaim .feed (.feed f) (.pool p)
    | none => d

/-- The binding pass over the waiting streams, the longest waiting first (R5, R45). -/
def Device.bindAll (d : Device) : Device := d.intake.waitOrder.foldl Device.bindOne d

/-! ### Packing and closing (R47, R48) -/

/-- The size a record takes in a block (R29, R47). -/
def Record.size (r : Record) : Nat := Config.recordHeader + r.storedLen

/-- The feed's assembly block closed into staging (R48, steps 1 to 5). -/
def Feed.close (x : Feed) (now : Nat) : Feed :=
  match x.assembly with
  | none => x
  | some a =>
    { x with
      staging := x.staging ++ [⟨x.nextDseq, now, a.records, a.used⟩], nextDseq := x.nextDseq + 1, assembly := none,
      periodCount :=
        if x.state = .streaming ∨ x.state = .paused then min 4095 (x.periodCount + 1) else x.periodCount }

/-- The assembly block closed, or set close-pending when staging holds 64 blocks or more (R48, a pending cause). -/
def Device.closePending (d : Device) (f : FeedId) : Device :=
  match d.feed f with
  | none => d
  | some x =>
    match x.assembly with
    | none => d
    | some a =>
      if x.staging.length < Config.stagingLimit then (d.setFeed f (some (x.close d.now))).post (.feedDecide f)
      else d.setFeed f (some { x with assembly := some { a with closePending := true } })

/-- A close-pending block closed once staging holds fewer than 64 blocks (R48). -/
def Device.closeWaiting (d : Device) (f : FeedId) : Device :=
  match (d.feed f).bind (·.assembly) with
  | some a => if a.closePending then d.closePending f else d
  | none => d

/-- A feed is drained (R48): every member is ENDING with an empty ring and no offered record, and no held record waits. -/
def Device.drained (d : Device) (x : Feed) : Bool :=
  !x.held && x.members.all fun o =>
    let s := d.stream o.chan
    s.state == .ending && s.slots.isEmpty && s.offered.isNone

/-- The close a drained feed makes (R48). -/
def Device.closeDrained (d : Device) (f : FeedId) : Device :=
  match d.feed f with
  | some x => if x.assembly.isSome && d.drained x then d.closePending f else d
  | none => d

/-- The three cases of R47. -/
inductive PlaceCase where
  | open | append | renew
deriving DecidableEq, Repr

/-- How a record is placed in a feed now, or `none` when placement waits (R47, R48). A feed whose suspension is in
progress takes no record (log entry 9). -/
def Feed.placeCase (x : Feed) (size : Nat) : Option PlaceCase :=
  if x.state = .spanning ∨ x.state = .suspended ∨ x.suspending then none
  else
    match x.assembly with
    | none => some .open
    | some a =>
      if a.closePending then none
      else if size ≤ Config.blockPayload - a.used then some .append
      else if x.staging.length < Config.stagingLimit then some .renew
      else none

/-- A record opening a new assembly block (R47, case 1). -/
def Feed.openWith (x : Feed) (r : Record) (now : Nat) : Feed :=
  { x with assembly := some ⟨[r], r.size, now, false⟩, held := false }

/-- A record placed in its feed by one of the cases of R47; in the third the block it did not fit in has been closed. -/
def Feed.place (x : Feed) (r : Record) (now : Nat) : PlaceCase → Feed
  | .open | .renew => x.openWith r now
  | .append =>
    { x with
      held := false,
      assembly := x.assembly.map fun a => { a with records := a.records ++ [r], used := a.used + r.size } }

/-! ### Speed and the governor (R55, R56) -/

/-- SPEED issued to the feed's drive with its current step (R56). -/
def Device.issueSpeed (d : Device) (f : FeedId) : Device :=
  match d.feed f with
  | none => d
  | some x =>
    match x.drive with
    | none => d
    | some i => (d.setFeed f (some { x with speedOut := true })).issue i (.speed x.step)

/-- The estimate at the end of a period (R55). -/
def nextEstimate (e i : Nat) : Nat :=
  let v : Int := e + Int.fdiv (16 * i - e) 4
  min 65535 v.toNat

/-- The target step (R56): the largest k in 1..8 with 16·(300 + 100·k) ≤ e + ⌊e/8⌋, or 1. -/
def targetStep (e : Nat) : Nat :=
  [8, 7, 6, 5, 4, 3, 2].find? (fun k => 16 * (300 + 100 * k) ≤ e + e / 8) |>.getD 1

/-- The end of a governor period at one feed (R55, R56): the feed, and whether it changes its speed step. -/
def Feed.governor (x : Feed) (startLevel : Nat) : Feed × Bool :=
  let e := nextEstimate x.estimate x.periodCount
  let x := { x with estimate := e, periodCount := 0, periodStart := x.periodStart + 1 }
  let k := targetStep e
  if k < x.step then
    if x.speedOut then ({ x with upCount := 0 }, false) else ({ x with upCount := 0, step := k }, true)
  else if x.step < k then
    let up := min 2 (x.upCount + 1)
    if up = 2 ∧ startLevel ≤ x.staging.length ∧ !x.speedOut then ({ x with upCount := 0, step := x.step + 1 }, true)
    else ({ x with upCount := up }, false)
  else ({ x with upCount := 0 }, false)

/-! ### Spans (R57, R58) -/

/-- A span trigger taken (R57): SPANNING, SPAN added, the assembly block closed, and the FULL mark remembered. During a
suspension's drain it takes the suspension's place (R60). -/
def Device.spanTrigger (d : Device) (f : FeedId) (full : Bool) : Device :=
  match d.feed f with
  | none => d
  | some x =>
    if x.state = .spanning then d.setFeed f (some { x with spanFull := x.spanFull || full })
    else
      let d := d.setFeed f (some { x with state := .spanning, spanFull := full, suspending := false })
      let d := d.setStall f fun s => { s with span := true, suspend := false }
      (d.closePending f).post (.feedProgress f)

/-- A part of an opening closed at a departure, if it is OPEN on the cartridge (R74). -/
def Device.closeAtDeparture (d : Device) (c : CartId) (r : Option PartRef) (truncated : Bool) : Device :=
  match d.currentPart r c with
  | some p => d.closePart p.id false truncated true
  | none => d

/-- Every OPEN part of the feed's members and departed entries on the cartridge closed (R58 step 2, R62 step 3, R74). -/
def Device.closeParts (d : Device) (x : Feed) (c : CartId) : Device :=
  let d := x.members.foldl (fun d o => d.closeAtDeparture c (d.stream o.chan).part false) d
  x.departed.foldl (fun d e => d.closeAtDeparture c e.part true) d

/-- A feed's reservations released (R58, R62, R68). -/
def Device.dropReservations (d : Device) (f : FeedId) : Device :=
  match d.feed f with
  | none => d
  | some x => (d.setFeed f (some { x with reservations := [] })).releaseReservations x.reservations.length

/-- A drive released MOUNTED_IDLE by a feed (R58, R61): the arbiter decides with the drive just released (R127). -/
def Device.releaseDrive (d : Device) (i : DriveId) : Device :=
  (d.modDrive i fun x =>
    { x with
      state := .mountedIdle, phase := .rest, active := none, suspendFor := none, idleSince := some d.now,
      released := true }).post .arbiter

/-- The signals of R96 that the release of a feed's hold makes. -/
def Device.signalRelease (d : Device) (c : CartId) : Device :=
  d.postAll ((dataPools.filter fun p => d.appendable p c).map .media)

/-- A feed's UNBOUND entry removed when nothing of it is left to write (R61), its claim withdrawn. -/
def Feed.nothingToWrite (x : Feed) : Bool :=
  x.members.isEmpty && x.assembly.isNone && x.staging.isEmpty && x.departed.isEmpty && !x.held

/-- A feed entry made free (R61): its reservations, of which none remain after the last confirmation, are released, its
claim is withdrawn, and a waiting stream may take a new feed there. -/
def Device.removeFeed (d : Device) (f : FeedId) : Device :=
  (((d.dropReservations f).withdrawOf (.feed f)).setFeed f none).post .bind

/-- The departure of a SPANNING feed (R58). -/
def Device.depart (d : Device) (f : FeedId) (x : Feed) : Device :=
  match x.drive, x.cart with
  | some i, some c =>
    let d := if x.spanFull then d.markFull c else d
    let d := d.closeParts x c
    let d := (d.dropReservations f).setStall f fun s => { s with mapFull := false }
    let d := d.modFeed f fun x => { x with drive := none, cart := none, state := .unbound, spanFull := false }
    let d := (d.releaseDrive i).placeClaim .feed (.feed f) (.pool x.pool) (some i)
    let d := d.signalRelease c
    if x.nothingToWrite then d.removeFeed f else d
  | _, _ => d

/-- A RETIRING feed with everything written is removed, its drive released (R61). -/
def Device.retire (d : Device) (f : FeedId) (x : Feed) : Device :=
  let d := d.removeFeed f
  match x.drive, x.cart with
  | some i, some c => (d.releaseDrive i).signalRelease c
  | _, _ => d

/-- A RETIRING feed has everything written (R61; log entry 10 for the departed list). -/
def Feed.allWritten (x : Feed) : Bool :=
  x.nothingToWrite && x.flights.isEmpty && x.returned == 0 && !x.speedOut

/-- Nothing of the feed is outstanding at its drive (R58, R60). -/
def Feed.quiet (x : Feed) : Bool := x.flights.isEmpty && x.returned == 0 && !x.speedOut

/-- The drain is complete: the drive port may push the context (R60, step 3). -/
def Device.postReady (d : Device) (x : Feed) : Device :=
  match x.drive with
  | some i => d.post (.pushReady i)
  | none => d

/-- What a feed does as soon as it can: complete its departure (R58), report its drain complete (R60), or be removed
(R61). -/
def Device.feedProgress (d : Device) (f : FeedId) : Device :=
  match d.feed f with
  | none => d
  | some x =>
    match x.state with
    | .spanning => if x.quiet then d.depart f x else d
    | .retiring => if x.allWritten then d.retire f x else if x.suspending && x.quiet then d.postReady x else d
    | .unbound => if x.nothingToWrite then d.removeFeed f else d
    | _ => if x.suspending && x.quiet then d.postReady x else d

/-- A feed whose last member has left (R61): it retires, or is removed, as its state has it; otherwise a waiting stream
may join. When the last member leaves while a stream of the pool waits, R5 and R45 would let that stream join at the
leaving and R61 retires the feed at the same event: the model retires the feed first, and the waiting stream does not
join it (DESIGN CHOICE, log entry 47). -/
def Device.memberLeft (d : Device) (f : FeedId) : Device :=
  let d : Device :=
    match d.feed f with
    | none => d
    | some x =>
      if x.members.isEmpty && (x.state == .filling || x.state == .streaming || x.state == .paused) then
        d.setFeed f (some { x with state := .retiring })
      else d
  ((d.post .bind).post (.feedDecide f)).post (.feedProgress f)

/-! ### Dispatch (R50, R51, R52) -/

/-- The current-part reference of an opening, from its stream or its departed entry (R67), if it has either. -/
def Device.refOf (d : Device) (x : Feed) (o : Opening) : Option (Option PartRef) :=
  if o ∈ x.members then some (d.stream o.chan).part
  else (x.departed.find? fun e => e.opening == o).map (·.part)

/-- The openings with a record in a block that need a reservation for a new part on the cartridge (R52). -/
def Device.needed (d : Device) (x : Feed) (c : CartId) (b : Block) : List Opening :=
  ((b.records.map fun r => r.opening).eraseDups).filter fun o =>
    !(x.reservations.contains o) &&
      match d.refOf x o with
      | some r => (d.currentPart r c).isNone
      | none => false

/-- The feed asks for the reservations its head block needs (R52): the device after, and whether it has them. -/
def Device.askReservations (d : Device) (f : FeedId) (x : Feed) (c : CartId) (b : Block) : Device × Bool :=
  let os := d.needed x c b
  if os = [] then (d, true)
  else if d.mapHasRoom os.length then
    ((d.reserve os.length).setFeed f (some { x with reservations := x.reservations ++ os }), true)
  else ((d.setStall f fun s => { s with mapFull := true }).raise .mapFull (.number f), false)

/-- The block position of the next dispatch (R51): EOD plus the blocks in flight. -/
def nextBlock (e : Cart) (x : Feed) : Nat := e.eod.getD 0 + x.flights.length

/-- The next dispatch would break the end-of-medium reserve (R51, R57): the one trigger found at a dispatch decision
that marks the cartridge FULL. -/
def reserveBroken (e : Cart) (x : Feed) : Bool := e.capacity < nextBlock e x + 1 + Config.reserve

/-- The cartridge and position conditions of R51. -/
def writable (e : Cart) (x : Feed) : Bool :=
  e.protection == some .writable && e.full == some false && !reserveBroken e x

/-- A feed whose staging queue has come down from the limit accepts records again, and the CE searches (R6, R25, R49). -/
def Device.roomAgain (d : Device) (before after : Nat) : Device :=
  if Config.stagingLimit ≤ before ∧ after < Config.stagingLimit then d.post .ceSearch else d

/-- The head block dispatched (R51): stamped, in flight, and one WRITE issued. -/
def Device.dispatchHead (d : Device) (f : FeedId) (i : DriveId) (e : Cart) : Device :=
  match d.feed f with
  | none => d
  | some x =>
    match x.staging with
    | [] => d
    | b :: bs =>
      let tape := dataBlock b (nextBlock e x) e.serial
      let d := (d.setFeed f (some { x with staging := bs, flights := x.flights ++ [⟨b, tape⟩] })).issue i (.write tape)
      d.roomAgain x.staging.length bs.length

/-- Blocks dispatched from the head of staging while R51 allows each. -/
def Device.dispatchLoop (f : FeedId) : (fuel : Nat) → Device → Device
  | 0, d => d
  | fuel + 1, d =>
    match d.feed f with
    | none => d
    | some x =>
      match x.staging, x.drive, x.cart with
      | b :: _, some i, some c =>
        match d.cart c with
        | none => d
        | some e =>
          if !writable e x then d.spanTrigger f (reserveBroken e x)
          else if Config.writeWindow ≤ x.flights.length ∨ x.stall.mapFull then d
          else
            let asked := d.askReservations f x c b
            if asked.2 then Device.dispatchLoop f fuel (asked.1.dispatchHead f i e) else asked.1
      | _, _, _ => d

/-- The start condition of R50. -/
def Device.startCondition (d : Device) (x : Feed) : Bool :=
  decide (d.mu.params.startLevel ≤ x.staging.length) ||
    (match x.staging with
     | [] => false
     | b :: _ =>
       decide (b.closeTime + d.mu.params.assemblyTimeout < d.now) ||
         x.members.all fun o => (d.stream o.chan).state == .ending)

/-- The feed enters STREAMING (R50); from FILLING the governor's first period starts (R55). -/
def Feed.start (x : Feed) (now : Nat) : Feed :=
  if x.state = .filling then { x with state := .streaming, periodCount := 0, upCount := 0, periodStart := now }
  else { x with state := .streaming }

/-- A dispatch decision (R50). That of R53's step 6 comes before R61's removal test: a RETIRING feed with nothing left to
write, whose cartridge's end-of-medium reserve is broken or which is no longer writable, takes the span trigger and
departs (DESIGN CHOICE, log entry 91). -/
def Device.feedDecide (d : Device) (f : FeedId) : Device :=
  let d := (d.closeDrained f).closeWaiting f
  let d : Device :=
    match d.feed f with
    | none => d
    | some x =>
      let active := x.state == .filling || x.state == .streaming || x.state == .paused || x.state == .retiring
      match x.cart.bind d.cart with
      | none => d
      | some e =>
        if !active || x.suspending then d
        else if !writable e x then d.spanTrigger f (reserveBroken e x)
        else if x.state == .streaming || x.state == .retiring then Device.dispatchLoop f 5 d
        else if d.startCondition x then Device.dispatchLoop f 5 (d.setFeed f (some (x.start d.now)))
        else d
  ((d.closeWaiting f).feedProgress f)

/-- The feeds whose dispatch is held for reservation ask again after a release, in ascending number (R52, R68). A feed
that is granted its request dispatches at once, and asks for its following blocks too, before the next held feed asks:
the rule orders the held feeds alone (DESIGN CHOICE, log entry 48). -/
def Device.askAgain (d : Device) (f : FeedId) : Device :=
  match d.feed f with
  | none => d
  | some x =>
    if !x.stall.mapFull then d
    else
      match x.staging, x.cart with
      | b :: _, some c =>
        let asked := d.askReservations f x c b
        if asked.2 then (asked.1.setStall f fun s => { s with mapFull := false }).feedDecide f else asked.1
      | _, _ => d

/-! ### Placement (R33, R47) -/

/-- The assembly block closed at once, with the dispatch decision that is the close's last step (R48, steps 1 to 6): the
feed's state, its governor and its cartridge are looked at before anything is placed after the close. -/
def Device.closeNow (d : Device) (f : FeedId) : Device :=
  match d.feed f with
  | none => d
  | some x => ((d.setFeed f (some (x.close d.now))).post (.feedDecide f)).feedDecide f

/-- A close-pending block that staging has room for closed, before any waiting placement is made (R48). -/
def Device.closeBefore (d : Device) (f : FeedId) : Device :=
  if ((d.feed f).any fun x => x.staging.length < Config.stagingLimit && x.assembly.any (·.closePending)) then
    d.closeNow f
  else d

/-- The finish of the CE's record after its placement (R33, steps 1 to 4). -/
def Device.placed (d : Device) (r : CeRecord) (h : Hold) : Device :=
  let c := r.opening.chan
  let next := adaptiveCounters r.policy h.matched h.record.method r.storedRun r.bypass
  let d : Device :=
    if (d.stream c).opening = r.opening.no ∧ (d.stream c).state ≠ .closed then
      d.modStream c fun s => { s with storedRun := next.1, bypass := next.2 }
    else d
  let d := (d.finishRecord c).closeIfDone c
  let d := { d with ce := { d.ce with state := .idle, current := none, hold := none } }
  d.post .ceSearch

/-- A record placed by one of the three cases of R47. In the third, the block it does not fit in is closed first, with
its dispatch decision (R48), and the record then opens the next block, also where that decision has made the feed leave
its cartridge (DESIGN CHOICE, log entry 83). The feed's decision on what the placement leaves, a ring that may be empty,
is due before the search of R33, step 4. -/
def Device.placeHeld (d : Device) (r : CeRecord) (h : Hold) (k : PlaceCase) : Device :=
  let d : Device :=
    match k with
    | .renew => d.closeNow r.feed
    | .open | .append => d.post (.feedDecide r.feed)
  (d.modFeed r.feed fun x => x.place h.record d.now k).placed r h

/-- The held record offered to its feed (R33, R47): placed when one of the three cases holds, and waiting otherwise. -/
def Device.offerHeld (d : Device) : Device :=
  match d.ce.current, d.ce.hold with
  | some r, some h =>
    let d := d.closeBefore r.feed
    match d.feed r.feed with
    | none => d
    | some x =>
      match x.placeCase h.record.size with
      | some k => d.placeHeld r h k
      | none => d.setFeed r.feed (some { x with held := true })
  | _, _ => d

/-! ### Confirmation (R53, R54, R59) -/

/-- An opening's current-part reference written, in its stream or its departed entry (R67). -/
def Device.setRef (d : Device) (f : FeedId) (o : Opening) (r : PartRef) : Device :=
  match d.feed f with
  | none => d
  | some x =>
    if o ∈ x.members then d.modStream o.chan fun s => { s with part := some r }
    else
      d.setFeed f (some { x with
        departed := x.departed.map fun e => if e.opening = o then { e with part := some r } else e })

/-- The reservation of an opening consumed by its part's creation (R68, R70). In a run the opening has one, asked for at
the dispatch (R52); without one the part is made only where the map has room for it, so that the law on map capacity
(R68) is kept in every state. -/
def Device.spendReservation (d : Device) (f : FeedId) (x : Feed) (o : Opening) : Option Device :=
  if o ∈ x.reservations then
    some (d.setFeed f (some { x with reservations := x.reservations.erase o })).consumeReservation
  else if d.mapHasRoom 1 then some d
  else none

/-- A confirmed record taken by the segment map (R69, R70). -/
def Device.mapRecord (d : Device) (f : FeedId) (c : CartId) (block : Nat) (r : Record) : Device :=
  match d.feed f with
  | none => d
  | some x =>
    let ref := (d.refOf x r.opening).join
    match d.currentPart ref c with
    | some p => d.modPart p.id fun p => p.extend r block
    | none =>
      match d.spendReservation f x r.opening with
      | none => d
      | some d =>
        let made := d.createPart ref c r block
        made.1.setRef f r.opening made.2

/-- A confirmed record counted off (R18), or the departed entry whose last record it is closed (R46, R73). -/
def Device.countOff (d : Device) (f : FeedId) (r : Record) : Device :=
  match d.feed f with
  | none => d
  | some x =>
    if r.opening ∈ x.members then
      (d.modStream r.opening.chan fun s => { s with unconfirmed := s.unconfirmed - 1 }).closeIfDone r.opening.chan
    else
      match x.departed.find? fun e => e.opening == r.opening && e.lastSeq == r.seq with
      | some e =>
        (d.closeRef e.part false true).modFeed f fun x =>
          { x with departed := x.departed.filter fun e => e.opening != r.opening }
      | none => d

/-- A confirmed block (R53, steps 1 to 4). The map takes its records on the cartridge's entry, which a held cartridge
always has (R86). -/
def Device.confirm (d : Device) (f : FeedId) (c : CartId) (b : Flight) : Device :=
  let d := d.modFeed f fun x => { x with flights := x.flights.tail, written := x.written + 1 }
  if (d.cart c).isSome then
    let d := d.editCart c fun e => { e with eod := some (eodAfter e b.tape.number) }
    b.block.records.foldl (fun d r => (d.mapRecord f c b.tape.number r).countOff f r) d
  else d

/-- The underrun of R54. -/
def Device.underrun (d : Device) (f : FeedId) : Device :=
  match d.feed f with
  | none => d
  | some x =>
    if x.state = .streaming ∧ x.flights = [] ∧ x.staging = [] ∧
        x.members.any fun o => (d.stream o.chan).state != .ending then
      d.setFeed f (some { x with state := .paused, stops := min 65535 (x.stops + 1), upCount := 0 })
    else d

/-- In-flight blocks returned to the head of staging in their order (R49, R59, R62). -/
def Feed.returnFlights (x : Feed) : Feed :=
  { x with staging := x.flights.map (·.block) ++ x.staging, flights := [] }

/-- A WRITE completion of a feed's block that is not a drive fault (R53, R59). A confirmation by END_OF_MEDIUM takes its
span trigger (R57) and no underrun, though it may leave nothing staged or in flight in STREAMING: the stop count stands
(DESIGN CHOICE, log entry 49). -/
def Device.feedWrite (d : Device) (f : FeedId) (r : DriveResult) : Device :=
  match d.feed f with
  | none => d
  | some x =>
    if 0 < x.returned then
      (d.setFeed f (some { x with returned := x.returned - 1 })).post (.feedProgress f)
    else
      match x.flights, x.cart with
      | b :: bs, some c =>
        if r = .ok ∨ r = .endOfMedium then
          let d := d.confirm f c b
          let d := if r = .endOfMedium then d.spanTrigger f true else d.underrun f
          d.post (.feedDecide f)
        else
          let d := d.setFeed f (some { x.returnFlights with returned := bs.length })
          (d.spanTrigger f true).post (.feedDecide f)
      | _, _ => d

/-- A SPEED completion of a feed that is not a drive fault (R56). -/
def Device.feedSpeed (d : Device) (f : FeedId) : Device :=
  (d.modFeed f fun x => { x with speedOut := false }).post (.feedProgress f)

/-! ### Serving, suspension and reset (R44, R60, R62) -/

/-- The state in which a feed takes its drive (R44, R60). -/
def Feed.bound (x : Feed) : FeedState := if x.members = [] then .retiring else .filling

/-- The feed's claim is served (R44). -/
def Device.feedServed (d : Device) (f : FeedId) (i : DriveId) (c : CartId) : Device :=
  let d := (d.dropReservations f).modFeed f fun x =>
    { x with drive := some i, cart := some c, state := x.bound }
  let d := d.setStall f fun s => { s with span := false, noMedia := false }
  ((d.issueSpeed f).post .bind).post (.feedDecide f)

/-- No media for the feed's claim (R44). -/
def Device.feedNoMedia (d : Device) (f : FeedId) : Device :=
  let d := d.setStall f fun s => { s with noMedia := true }
  match d.feed f with
  | some x => d.raise .noMedia (.number x.pool)
  | none => d

/-- The feed's side of a suspension's start (R60, step 1). -/
def Device.feedSuspend (d : Device) (f : FeedId) : Device :=
  let d := d.setStall f fun s => { s with suspend := true }
  let d := (d.modFeed f fun x => { x with suspending := true }).closePending f
  d.post (.feedProgress f)

/-- A suspension cancelled before the push (R60, step 5). -/
def Device.feedUnsuspend (d : Device) (f : FeedId) : Device :=
  let d := d.modFeed f fun x => { x with suspending := false }
  (d.setStall f fun s => { s with suspend := false }).post (.feedDecide f)

/-- The feed's context is pushed (R60, step 3). -/
def Device.feedPushed (d : Device) (f : FeedId) : Device :=
  d.modFeed f fun x => { x with state := .suspended, suspending := false }

/-- The feed's context is popped and its append check is good (R60). -/
def Device.feedResumed (d : Device) (f : FeedId) : Device :=
  let d := d.modFeed f fun x => { x with state := x.bound }
  let d := d.setStall f fun s => { s with suspend := false }
  ((d.issueSpeed f).post .bind).post (.feedDecide f)

/-- The feed's context is popped and its append check failed (R60): it spans without a FULL mark. -/
def Device.feedResumeFailed (d : Device) (f : FeedId) : Device := d.spanTrigger f false

/-- The feed's side of a drive reset (R62). -/
def Device.feedUnbind (d : Device) (f : FeedId) : Device :=
  match d.feed f with
  | none => d
  | some x =>
    let d := d.setFeed f (some { x.returnFlights with returned := 0, speedOut := false })
    let d : Device :=
      match x.cart with
      | some c => (d.markFull c).closeParts x c
      | none => d
    let d := d.dropReservations f
    let d := d.setStall f fun s => { s with mapFull := false, suspend := false, span := true }
    let d := d.modFeed f fun x =>
      { x with drive := none, cart := none, state := .unbound, suspending := false, spanFull := false }
    let d := d.placeClaim .feed (.feed f) (.pool x.pool)
    d.post (.feedProgress f)

end Sys2Proof.Machine
end

