-- ==== Sys2Proof/Machine/Picker.lean ====
section
/-!
DEFINITION. The changer controller's operations (chapter 6): the picker arbiter, running a move, faults and timeouts,
inventory and mail scan steps, and the reset sequence with the resolution of an interrupted move.
-/
namespace Sys2Proof.Machine

/-! ### Orders (R107) -/

/-- An order given to the picker, with the next order number (R107). -/
def Device.giveOrder (d : Device) (p : PickerState) (k : OrderKind) : Device :=
  { d with
    changer :=
      { d.changer with
        picker := p, order := some ⟨d.changer.orderNo, d.now, k⟩, orderNo := d.changer.orderNo + 1 } }

/-- The picker enters IDLE with no order in progress, and its arbiter chooses (R110). -/
def Device.freePicker (d : Device) : Device :=
  ({ d with changer := { d.changer with picker := .idle, order := none } } : Device).post .picker

/-- The picker enters FAULT with PICKER_FAULT raised (R112, R113). -/
def Device.faultPicker (d : Device) (elems : List ElemId) (arg : ElemId) : Device :=
  ({ d with changer := { d.changer with picker := .fault, order := none, faultElems := elems } } : Device).raise
    .pickerFault (.number arg)

/-- The order in progress, if its number is this one (R107). -/
def Device.orderNumbered (d : Device) (n : BitVec 16) : Option OrderKind :=
  match d.changer.order with
  | some o => if o.number = n then some o.kind else none
  | none => none

/-! ### Placement moves (R112, R119) -/

/-- What element 0 holds, as a load. -/
def Device.pickerLoad (d : Device) : Option Load :=
  match (d.elem pickerElem).content with
  | .occupied c => some (.cart c)
  | .foreign x => some (.foreign x)
  | _ => none

/-- A placement move of what element 0 holds (R112, R119). -/
def Move.places (m : Move) : Bool := m.requester == .changer && m.src == pickerElem

/-- The placement move that waits in the queue. -/
def Device.placementMove (d : Device) : Option Move := d.changer.moves.find? fun m => m.places && !m.running

/-- The placement move that element 0 calls for (R119, step 3): entered unless one is already queued. -/
def Device.ensurePlacement (d : Device) : Device :=
  match d.placementMove, d.pickerLoad with
  | none, some l => d.enterMove pickerElem none l none .changer true
  | _, _ => d

/-- A placement given its destination by R102's choice, its incoming move marked (R119, step 3). A queued placement whose
load element 0 no longer holds is given none: it fails its start check (R111). -/
def Device.aimPlacement (d : Device) (m : Move) : Option Device :=
  if d.pickerLoad = some m.load then
    (d.destination m.load).map fun b =>
      ((d.takeDestination m.load b).modMove m.id fun m => { m with dst := some b }).modElem b fun x =>
        { x with incoming := some m.id }
  else some d

/-! ### The end of a move (R114) -/

/-- A move's end: it leaves the queue with its indications cleared, and the result goes to its requester (R114). -/
def Device.endMove (d : Device) (m : Move) (r : MoveResult) : Device :=
  let d := d.dropMove m.id
  match m.requester with
  | .drive _ => d.post (.moveEnded m r)
  | .host =>
    (d.raise .operationEnd (.moveEnd m.src (m.dst.getD 0) r)).post (.moveEnded m r)
  | .changer => d

/-- The element loss on the mail slots a move touched, while the door is open (R117). -/
def Device.loseMail (d : Device) (m : Move) : Device :=
  if d.changer.doorOpen then
    (m.src :: m.dst.toList).foldl (fun d e => if isMail e then d.loseElem e else d) d
  else d

/-! ### Running a move (R111) -/

/-- An element holds a load. -/
def Device.holds (d : Device) (e : ElemId) (l : Load) : Bool :=
  match l with
  | .cart c => (d.elem e).content == .occupied c
  | .foreign x => (d.elem e).content == .foreign x

/-- The start check of R111. -/
def Device.startOk (d : Device) (m : Move) : Bool :=
  d.holds m.src m.load && m.dst.any fun b => (d.elem b).content == .empty || isDriveElem b

/-- A move started (R111): RUNNING with a TRANSFER issued, or ended FAILED with cause START. The Boolean says whether
an order was issued. -/
def Device.startMove (d : Device) (m : Move) : Device × Bool :=
  match m.dst with
  | some b =>
    if d.startOk m then
      ((d.modMove m.id fun m => { m with running := true }).giveOrder .moving (.transfer m.id m.src b), true)
    else (d.endMove m (.failed .start), false)
  | none => (d.endMove m (.failed .start), false)

/-! ### The reset sequence (R119, R120) -/

/-- The elements step 4 of R119 scans, in ascending order. -/
def Device.rescanList (d : Device) (r : ResetSeq) : List ElemId :=
  let moved := (r.interrupted.filterMap d.move?).flatMap fun m => m.src :: m.dst.toList
  allElems.filter fun e => e != pickerElem && (d.changer.faultElems ++ moved ++ r.extra).contains e

/-- Where a load now stands (R120): an element, or nowhere known. Of several FOREIGN elements that show a FOREIGN load's
barcode it is the one with the lowest number (DESIGN CHOICE, log entry 55). -/
def Device.whereIs (d : Device) (l : Load) : Option ElemId :=
  match l with
  | .cart c =>
    match entryLocation (d.cart c) with
    | some (.at e) => some e
    | _ => none
  | .foreign x => allElems.find? fun e => (d.elem e).content == .foreign x

/-- An entry order older than every item of a class (R120). -/
def Device.oldestOrder (d : Device) : Int :=
  let steps := (d.changer.inventory.map (·.order)).toList ++ (d.changer.mailScan.map (·.order)).toList
  (d.changer.moves.map (·.order) ++ steps).foldl min 0 - 1

/-- The interrupted move returned to QUEUED with its load's element as source (R120). -/
def Device.requeueMove (d : Device) (m : Move) (e : ElemId) : Device :=
  let order := d.oldestOrder
  let d := d.modElem m.src fun x => { x with outgoing := if x.outgoing = some m.id then none else x.outgoing }
  let d := d.modElem e fun x => { x with outgoing := some m.id }
  d.modMove m.id fun m => { m with src := e, running := false, atPicker := false, grips := 0, order }

/-- The interrupted move resolved by where its load now stands (R120). A load whose location is UNKNOWN or OUTSIDE ends
the move with LOST, whatever its destination holds (DESIGN CHOICE, log entry 89). -/
def Device.resolveMove (d : Device) (m : Move) : Device :=
  match d.whereIs m.load, m.dst with
  | some e, some b =>
    if e = b then d.endMove m .done
    else if e = pickerElem then d.endMove m (.failed .grip)
    else if (d.elem b).content = .empty then d.requeueMove m e
    else d.endMove m (.failed .destinationOccupied)
  | _, _ => d.endMove m (.failed .lost)

/-- An interrupted move that still runs resolved (R120). -/
def Device.resolveInterrupted (d : Device) (id : Nat) : Device :=
  match d.move? id with
  | some m => if m.running then d.resolveMove m else d
  | none => d

/-- Step 5 of R119: the interrupted move resolved, the fault elements none, the picker IDLE, and the drive ports given
the rescans of their elements (R141). Of two interrupted moves the one that stands first in the queue is resolved first
(DESIGN CHOICE, log entry 95). -/
def Device.resetResolve (d : Device) (r : ResetSeq) : Device :=
  let d := r.interrupted.foldl Device.resolveInterrupted d
  let d := { d with changer := { d.changer with faultElems := [], reset := none } }
  (d.postAll (r.drivesScanned.map .driveRescan)).freePicker

/-- Step 4 of R119 over the elements still to scan; then step 5. -/
def Device.resetScan (d : Device) (r : ResetSeq) (todo : List ElemId) : Device :=
  match todo with
  | [] => d.resetResolve r
  | e :: es =>
    ({ d with changer := { d.changer with reset := some { r with phase := .rescan es } } } : Device).giveOrder .scanning
      (.scan e .reset false)

/-- An interrupted placement whose load the REHOME has found in element 0 is the placement that R119, step 3, calls for:
it is queued again, its destination to be chosen anew, and the former destination is scanned with the fault elements
(DESIGN CHOICE, log entry 30). Any other interrupted placement is left to R120. -/
def Device.takeUpPlacement (d : Device) (r : ResetSeq) : Device × ResetSeq :=
  match d.changer.moves.find? fun m => m.places && m.running with
  | some m =>
    if d.pickerLoad = some m.load then
      let elems := d.media.elems.map fun x =>
        { x with incoming := if x.incoming = some m.id then none else x.incoming }
      let d := { d with media := { d.media with elems } }
      (d.modMove m.id fun m => { m with dst := none, running := false, atPicker := false, grips := 0 },
       { r with extra := m.dst.toList ++ r.extra })
    else (d, r)
  | none => (d, r)

/-- Step 3 of R119: a placement with a destination is run at once; without one, or with no load in element 0, the
sequence goes on to step 4. A queued placement that fails its start check, because element 0 holds another load now, gives
way to a new one, which waits in the queue (DESIGN CHOICE, log entry 56). -/
def Device.runPlacement (d : Device) (r : ResetSeq) : Device :=
  let d := d.ensurePlacement
  let d := { d with changer := { d.changer with reset := some { r with phase := .place } } }
  match (if d.pickerLoad.isSome then d.placementMove else none) with
  | none => d.resetScan r (d.rescanList r)
  | some m =>
    match d.aimPlacement m with
    | none => d.resetScan r (d.rescanList r)
    | some aimed =>
      match aimed.move? m.id with
      | none => d.resetScan r (d.rescanList r)
      | some m =>
        let begun := aimed.startMove m
        if begun.2 then begun.1
        else
          let d := begun.1.ensurePlacement
          d.resetScan r (d.rescanList r)

/-- Step 3 of R119: an interrupted placement taken up again, and the placement that waits run. -/
def Device.resetPlace (d : Device) (r : ResetSeq) : Device :=
  (d.takeUpPlacement r).1.runPlacement (d.takeUpPlacement r).2

/-- The reset sequence begun (R119, steps 1 and 2). A move that was RUNNING, a placement among them, is interrupted. -/
def Device.changerReset (d : Device) : Device :=
  let interrupted := (d.changer.moves.filter (·.running)).map (·.id)
  let extra := (d.changer.reset.map (·.extra)).getD []
  let reset : ResetSeq := ⟨.rehome, interrupted, extra, []⟩
  ({ d with changer := { d.changer with order := none, reset := some reset } } : Device).giveOrder .moving .rehome

/-- The picker after a move's end: the sequence goes on when a reset runs, and otherwise it is IDLE. -/
def Device.afterMove (d : Device) : Device :=
  match d.changer.reset with
  | some r => d.resetPlace r
  | none => d.freePicker

/-! ### Transfer completions (R111, R112) -/

/-- A move that has ended FAILED while the picker goes on (R112). A placement whose own destination is found OCCUPIED has
ended with its load in element 0, and a new placement is entered at once; within a reset step 3 is made again with it
before step 4 (DESIGN CHOICE, log entry 57). -/
def Device.failMove (d : Device) (m : Move) (c : MoveCause) : Device :=
  (((d.endMove m (.failed c)).loseMail m).ensurePlacement).afterMove

/-- The second grip failure of a move (R112): the picker enters FAULT. -/
def Device.gripFault (d : Device) (m : Move) : Device :=
  ((d.endMove m (.failed .grip)).loseMail m).faultPicker (m.src :: m.dst.toList) m.src

/-- The load passes to element 0 (R100, R112). -/
def Device.holdInPicker (d : Device) (m : Move) : Device := d.pickerHold m.src m.load

/-- A grip failure (R112). -/
def Device.gripFailure (d : Device) (m : Move) (b : ElemId) (atSource : Bool) : Device :=
  if m.atPicker then (d.holdInPicker m).gripFault m
  else if atSource then
    if m.grips = 0 then
      (d.modMove m.id fun m => { m with grips := 1 }).giveOrder .moving (.transfer m.id m.src b)
    else d.gripFault m
  else if m.grips = 0 then
    (d.modMove m.id fun m => { m with grips := 1, atPicker := true }).giveOrder .moving (.transfer m.id pickerElem b)
  else (d.holdInPicker m).gripFault m

/-- A transfer completion of the order in progress (R111, R112). -/
def Device.transferEnd (d : Device) (m : Move) (b : ElemId) (r : TransferResult) : Device :=
  match r with
  | .done =>
    let d := d.relocate m.src b m.load (m.requester == .host)
    ((d.endMove m .done).loseMail m).afterMove
  | .gripSource => d.gripFailure m b true
  | .gripDestination => d.gripFailure m b false
  | .sourceEmpty => (d.scanEmpty m.src).failMove m .sourceEmpty
  | .destinationOccupied =>
    let d := if m.atPicker then (d.holdInPicker m).loseMail m else d
    d.giveOrder .scanning (.scan b (.destination m.id) false)

/-! ### Inventory and mail scan (R115 to R118) -/

/-- An inventory that has done or skipped its step goes on to the next element, or ends (R116). -/
def Device.advanceInventory (d : Device) (v : Inventory) : Device :=
  if v.last < v.next + 1 then
    (({ d with changer := { d.changer with inventory := none } } : Device).raise .operationEnd
      (.inventoryEnd v.scanned v.skipped v.created v.foreigners)).post .inventoryDone
  else
    let v := { v with next := v.next + 1, order := d.changer.entryCount }
    (({ d with changer := { d.changer with inventory := some v } } : Device).takeEntry).post .picker

/-- The inventory step taken by the arbiter (R116). -/
def Device.inventoryStep (d : Device) (v : Inventory) : Device :=
  match finOf? 105 v.next with
  | none => { d with changer := { d.changer with inventory := none } }
  | some e =>
    if isMail e && (d.changer.doorOpen || d.changer.mailScan.isSome) then
      (d.advanceInventory { v with skipped := v.skipped + 1 }).post .picker
    else d.giveOrder .scanning (.scan e .inventory false)

/-- An inventory step's scan completed (R116, R117). -/
def Device.inventoryScanned (d : Device) (e : ElemId) (r : ScanResult) (stale : Bool) : Device :=
  match d.changer.inventory with
  | none => d.freePicker
  | some v =>
    if stale then (d.freePicker).advanceInventory { v with skipped := v.skipped + 1 }
    else
      let scanned := d.scan e r
      let d := scanned.1
      let foreigner :=
        match (d.elem e).content with
        | .foreign _ => 1
        | _ => 0
      (d.freePicker).advanceInventory
        { v with
          scanned := v.scanned + 1, created := v.created + (if scanned.2 then 1 else 0),
          foreigners := v.foreigners + foreigner }

/-- A mail scan step's scan completed (R118); a stale one leaves nothing behind (R117). -/
def Device.mailScanned (d : Device) (e : ElemId) (r : ScanResult) (stale : Bool) : Device :=
  if stale then d.freePicker
  else
    let d := (d.scan e r).1.freePicker
    match d.changer.mailScan with
    | none => d
    | some v =>
      if 8 ≤ v.next then
        ({ d with changer := { d.changer with mailScan := none } } : Device).raise .operationEnd .mailScanned
      else
        let v := { v with next := v.next + 1, order := d.changer.entryCount }
        ({ d with changer := { d.changer with mailScan := some v } } : Device).takeEntry

/-- A SCAN of the order in progress completed (R112, R116, R118, R119). -/
def Device.scanEnd (d : Device) (e : ElemId) (purpose : ScanFor) (stale : Bool) (r : ScanResult) : Device :=
  match purpose with
  | .inventory => d.inventoryScanned e r stale
  | .mail => d.mailScanned e r stale
  | .destination id =>
    let d := if stale then d else (d.scan e r).1
    match d.move? id with
    | some m => d.failMove m .destinationOccupied
    | none => d.freePicker
  | .reset =>
    let d := if stale then d else (d.scan e r).1
    match d.changer.reset with
    | some v =>
      let v := { v with drivesScanned := v.drivesScanned ++ (driveOfElem? e).toList }
      match v.phase with
      | .rescan todo => d.resetScan v todo
      | _ => d.resetScan v []
    | none => d.freePicker

/-- A REHOME of the order in progress completed (R119, steps 2 and 3). -/
def Device.rehomeEnd (d : Device) (r : ScanResult) : Device :=
  let d := (d.scan pickerElem r).1
  match d.changer.reset with
  | some v => d.resetPlace v
  | none => d.freePicker

/-! ### The picker arbiter (R110) -/

/-- What the picker may take. -/
inductive Pick where
  | move (m : Move)
  | inventory (v : Inventory)
  | mail (v : MailScan)
deriving DecidableEq, Repr

/-- The place of an item in R110's order: the placement move first, then the highest class. -/
def Pick.cls : Pick → Nat
  | .move m => m.cls.getD 0
  | _ => 6

/-- An item's entry order (R110). -/
def Pick.order : Pick → Int
  | .move m => m.order
  | .inventory v => v.order
  | .mail v => v.order

/-- A move is eligible (R110). A placement that R120 has given another source than element 0 keeps its destination, and
waits like any other move while element 0 is not EMPTY. -/
def Device.moveEligible (d : Device) (m : Move) : Bool :=
  let touchesMail := isMail m.src || m.dst.any isMail
  !m.running && m.ready && !(touchesMail && (d.changer.doorOpen || d.changer.mailScan.isSome))
    && ((d.elem pickerElem).content == .empty || m.places)
    && (!m.places || (d.destination m.load).isSome)

/-- The eligible items (R110). -/
def Device.picks (d : Device) : List Pick :=
  (d.changer.moves.filter d.moveEligible).map .move ++ (d.changer.inventory.map Pick.inventory).toList
    ++ (d.changer.mailScan.map Pick.mail).toList

/-- Item a goes before item b (R110). -/
def Pick.before (a b : Pick) : Bool := a.cls < b.cls || (a.cls == b.cls && a.order < b.order)

/-- The item the arbiter takes: the oldest of the highest class (R110). -/
def bestPick : List Pick → Option Pick
  | [] => none
  | p :: ps =>
    match bestPick ps with
    | none => some p
    | some q => if q.before p then some q else some p

/-- The picker arbiter's choice (R110), carried out as R111, R116 and R118 state. After a placement that fails its start
check, because element 0 holds another load now, a new placement is entered for that load (DESIGN CHOICE, log entry
56). -/
def Device.pickerChoose (d : Device) : Device :=
  if d.changer.picker = .idle then
    match bestPick d.picks with
    | none => d
    | some (.move m) =>
      let aimed := if m.places then d.aimPlacement m else some d
      match aimed with
      | none => d
      | some d =>
        match d.move? m.id with
        | none => d
        | some m =>
          let begun := d.startMove m
          if begun.2 then begun.1 else (begun.1.ensurePlacement).post .picker
    | some (.inventory v) => d.inventoryStep v
    | some (.mail v) =>
      match finOf? 105 v.next with
      | some e => d.giveOrder .scanning (.scan e .mail false)
      | none => d
  else d

/-! ### Timeouts (R113) and the mail door (R117, R118) -/

/-- An order timeout (R113). R113 names no fault element for a REHOME: those of the earlier fault stay, so that the next
changer reset scans them (DESIGN CHOICE, log entry 70). -/
def Device.orderTimedOut (d : Device) (k : OrderKind) : Device :=
  match k with
  | .transfer id a b =>
    let src := ((d.move? id).map (·.src)).getD a
    (((d.loseElem src).loseElem b).loseElem pickerElem).faultPicker [src, b] src
  | .scan e _ _ => (d.loseElem e).faultPicker [e] e
  | .rehome => (d.loseElem pickerElem).faultPicker d.changer.faultElems pickerElem

/-- The mail slots M1..M4. -/
def mailElems : List ElemId := [5, 6, 7, 8]

/-- The element loss of every mail slot (R117, R118). -/
def Device.loseMailSlots (d : Device) : Device := mailElems.foldl Device.loseElem d

/-- The SCAN of a mail slot in progress marked so that its result is discarded (R117). -/
def Device.staleScan (d : Device) : Device :=
  match d.changer.order with
  | some o =>
    match o.kind with
    | .scan e p _ =>
      if isMail e then { d with changer := { d.changer with order := some { o with kind := .scan e p true } } } else d
    | _ => d
  | none => d

/-- The mail door opens (R117). -/
def Device.doorOpens (d : Device) : Device :=
  let d := { d with changer := { d.changer with doorOpen := true } }
  let d := d.loseMailSlots.staleScan
  ({ d with changer := { d.changer with mailScan := none } } : Device).post .picker

/-- The mail door closes (R118). -/
def Device.doorCloses (d : Device) : Device :=
  let d := { d with changer := { d.changer with doorOpen := false } }
  let d := d.loseMailSlots
  let v : MailScan := ⟨5, d.changer.entryCount⟩
  (({ d with changer := { d.changer with mailScan := some v } } : Device).takeEntry).post .picker

end Sys2Proof.Machine
end

