-- ==== Sys2Proof/Machine/Drives.lean ====
section
/-!
DEFINITION. The drive ports' operations (chapter 7): the allocation arbiter, mounting with the label check, the append
check and labelling, FINALIZE, unmounting, cleaning, the suspend stack and the end of work.
-/
namespace Sys2Proof.Machine

/-! ### Restore entries and passes, as the drive ports see them -/

/-- The restore entry in use on a channel. -/
def Device.restore? (d : Device) (r : RestoreId) : Option Restore := d.ru.queue.find? fun e => e.chan == r

/-- A restore entry changed. -/
def Device.modRestore (d : Device) (r : RestoreId) (g : Restore → Restore) : Device :=
  { d with ru := { d.ru with queue := d.ru.queue.map fun e => if e.chan = r then g e else e } }

/-- The pass of a cartridge. -/
def Device.pass? (d : Device) (c : CartId) : Option Pass := d.vu.passes.find? fun p => p.cart == c

/-- A pass changed. -/
def Device.modPass (d : Device) (c : CartId) (g : Pass → Pass) : Device :=
  { d with vu := { d.vu with passes := d.vu.passes.map fun p => if p.cart = c then g p else p } }

/-- The owner of the claim assigned to a drive. -/
def Device.assignedOwner (d : Device) (i : DriveId) : Option Owner := (d.assigned i).map fun k => k.owner

/-! ### Availability (R127) -/

/-- The minimum dwell has passed since the drive's mount time (R127). -/
def Device.dwellPassed (d : Device) (i : DriveId) : Bool :=
  (d.drive i).mountTime.any fun t => t + d.mu.params.minimumDwell ≤ d.now

/-- The cartridge mounted in a MOUNTED_IDLE drive. -/
def Device.idleCart (d : Device) (i : DriveId) : Option CartId :=
  if (d.drive i).state = .mountedIdle then (d.drive i).cart else none

/-- A host move's claim on drive i is for a move out of it. -/
def Device.movesOut (d : Device) (m : Nat) (i : DriveId) : Bool := (d.move? m).any fun m => m.src == driveElem i

/-- A cartridge chosen for, or targeted by, another assigned claim (R129). -/
def Device.spokenFor (d : Device) (c : CartId) : Bool :=
  d.arb.claims.any fun k => k.drive.isSome && (k.chosen == some c || k.target == .cart c)

/-- A claim is for the cartridge mounted in a MOUNTED_IDLE drive (R127, second case). A FEED claim is not for a cartridge
that R129 passes over, one already chosen for another assigned claim (log entry 81). -/
def Device.wantsMounted (d : Device) (i : DriveId) (k : Claim) : Bool :=
  match d.idleCart i with
  | none => false
  | some c =>
    match k.target with
    | .cart x => x == c
    | .pool p => d.appendable p c && !d.spokenFor c
    | .drive j =>
      j == i &&
        match k.owner with
        | .hostMove m => d.movesOut m i
        | _ => false

/-- A drive can be handed to a claim at all: nothing of its own is under way, and its stack is empty (R127). -/
def Device.freeDrive (d : Device) (i : DriveId) : Bool :=
  let x := d.drive i
  x.claim.isNone && x.stack.isEmpty && x.active.isNone && x.phase == .rest
    && (x.state == .empty || x.state == .mountedIdle)

/-- A drive is available to a claim (R127). -/
def Device.available (d : Device) (i : DriveId) (k : Claim) : Bool :=
  let x := d.drive i
  let empty := x.state == .empty
  let ownTurn := empty || d.dwellPassed i
  d.freeDrive i &&
    if x.cleaningDue then k.owner == .cleaning i && ownTurn
    else
      match k.owner with
      | .cleaning j => j == i && ownTurn
      | .hostMove m => k.target == .drive i && (if d.movesOut m i then !empty else empty)
      | _ => empty || d.wantsMounted i k || d.dwellPassed i || k.kind == .urgent || x.released

/-- A cartridge stands in a slot with no move naming it (R127). -/
def Device.fetchable (d : Device) (c : CartId) : Bool :=
  match entryLocation (d.cart c) with
  | some (.at e) => (isStorage e || isMail e) && (d.elem e).content == .occupied c && !d.moveNames e
  | _ => false

/-- A cartridge stands in a storage slot with no move naming it (R129, R137). -/
def Device.stored (d : Device) (c : CartId) : Bool :=
  d.fetchable c &&
    match entryLocation (d.cart c) with
    | some (.at e) => isStorage e
    | _ => false

/-- A cartridge in a storage slot that a FEED claim may choose: not chosen for another assigned claim (R129). -/
def Device.slotChoice (d : Device) (c : CartId) : Bool := d.stored c && !d.spokenFor c

/-! ### Choosing a cartridge (R129, R137) -/

/-- What a claim takes when it takes a drive: the drive, the cartridge if it names one, and whether it was chosen as a
takeable scratch cartridge. -/
structure Choice where
  drive : DriveId
  cart : Option CartId
  scratch : Bool
deriving DecidableEq, Repr

/-- The cartridge with the largest known EOD, EOD UNKNOWN below every known value, ties to the lowest index (R129). -/
def largestEod (d : Device) : List CartId → Option CartId
  | [] => none
  | c :: cs =>
    match largestEod d cs with
    | none => some c
    | some b =>
      let eod := fun c => ((d.cart c).bind (·.eod)).getD 0
      if eod c < eod b then some b else some c

/-- The cartridge of a FEED claim of pool p weighed for drive i (R129). Of several other drives that could serve its step
2 it is the lowest-numbered (DESIGN CHOICE, log entry 84). -/
def Device.feedChoice (d : Device) (i : DriveId) (k : Claim) (p : PoolId) : Option Choice :=
  let mounted := fun j => (d.idleCart j).filter fun c => d.appendable p c && !d.spokenFor c
  match mounted i with
  | some c => some ⟨i, some c, false⟩
  | none =>
    match allDrives.find? fun j => j != i && d.available j k && (mounted j).isSome with
    | some j => some ⟨j, mounted j, false⟩
    | none =>
      match largestEod d (allCarts.filter fun c => d.appendable p c && d.slotChoice c) with
      | some c => some ⟨i, some c, false⟩
      | none =>
        (allCarts.find? fun c => d.takeable p c && d.slotChoice c).map fun c => ⟨i, some c, true⟩

/-- The cleaning cartridge with the most uses remaining, above 0, ties to the lowest index (R137). -/
def mostUses (d : Device) : List CartId → Option CartId
  | [] => none
  | c :: cs =>
    match mostUses d cs with
    | none => some c
    | some b =>
      let uses := fun c => ((d.cart c).map (·.uses)).getD 0
      if uses c < uses b then some b else some c

/-- The cleaning cartridge a CLEANING claim takes (R137). Unlike R129, R137 passes none over that another assigned claim
has chosen: it is found until a move names it. -/
def Device.cleaningChoice (d : Device) : Option CartId :=
  mostUses d
    (allCarts.filter fun c => (d.cart c).any (fun e => e.kind == .cleaning && 0 < e.uses) && d.stored c)

/-- What a claim takes if it can be served on drive i (R127, R129, R137). -/
def Device.choice (d : Device) (i : DriveId) (k : Claim) : Option Choice :=
  match k.owner, k.target with
  | .cleaning _, _ => d.cleaningChoice.map fun c => ⟨i, some c, false⟩
  | .hostMove _, _ => some ⟨i, none, false⟩
  | _, .pool p => d.feedChoice i k p
  | _, .cart c => if d.idleCart i = some c || d.fetchable c then some ⟨i, some c, false⟩ else none
  | _, .drive _ => none

/-- The changer would take the move of a choice's cartridge into its drive (R108): an EMPTY drive whose element another
move names is BUSY, and the claim waits without a report (R129, R130; log entry 29). -/
def Device.deliverable (d : Device) (c : Choice) : Bool :=
  c.cart.isNone || (d.drive c.drive).state != .empty || !d.moveNames (driveElem c.drive)

/-! ### The arbiter's decision (R128) -/

/-- A drive serves verify work (R128, step 3). -/
def Device.servesVerify (d : Device) (i : DriveId) : Bool :=
  (d.assigned i).any (fun k => k.kind.isVerify) ||
    match (d.drive i).active with
    | some (.verify _) => true
    | _ => false

/-- A verify claim is passed over at the verify drive limit (R128, step 3). -/
def Device.passedOver (d : Device) (k : Claim) : Bool :=
  k.kind.isVerify && d.mu.params.verifyDriveLimit ≤ (allDrives.filter d.servesVerify).length

/-- A claim's age on a drive: a FEED claim that prefers the drive counts as the oldest of its class. R128 says so in its
step 2; the model counts it so in step 1 too (DESIGN CHOICE, log entry 61). -/
def Claim.age (k : Claim) (i : DriveId) : Nat := if k.preferred = some i then 0 else k.order + 1

/-- Claim a goes before claim b on drive i (R128): by class, then by age on the drive, and of two FEED claims that both
prefer the drive by entry order, the older first (DESIGN CHOICE, log entry 61). -/
def Claim.before (i : DriveId) (a b : Claim) : Bool :=
  a.kind.cls < b.kind.cls ||
    (a.kind.cls == b.kind.cls && (a.age i < b.age i || (a.age i == b.age i && a.order < b.order)))

/-- A claim put in its place among others ordered for drive i. -/
def insertClaim (i : DriveId) (k : Claim) : List Claim → List Claim
  | [] => [k]
  | x :: xs => if k.before i x then k :: x :: xs else x :: insertClaim i k xs

/-- The waiting claims that drive i is available to and that are not passed over, in the order of R128. -/
def Device.contenders (d : Device) (i : DriveId) : List Claim :=
  (d.arb.claims.filter fun k => k.drive.isNone && d.available i k && !d.passedOver k).foldr (insertClaim i) []

/-- A FEED or CLEANING claim that has found no cartridge: reported once (R129, R137). -/
def Device.reportNone (d : Device) (k : Claim) : Device :=
  if k.reported then d
  else
    match k.owner with
    | .feed f => (d.modClaim k.order fun k => { k with reported := true }).feedNoMedia f
    | .cleaning i =>
      (d.modClaim k.order fun k => { k with reported := true }).raise .cleanDue (.expiredDrive i)
    | _ => d

/-- The first of the claims that can be served on drive i, with what it takes; those weighed before it that found no
cartridge report it. -/
def Device.weigh (i : DriveId) : List Claim → Device → Device × Option (Claim × Choice)
  | [], d => (d, none)
  | k :: ks, d =>
    match d.choice i k with
    | some c => if d.deliverable c then (d, some (k, c)) else Device.weigh i ks d
    | none => Device.weigh i ks (d.reportNone k)

/-! ### Commands of the drive port's own sequences -/

/-- The drive enters UNLOADING and UNLOAD is issued (R135). -/
def Device.startUnload (d : Device) (i : DriveId) (p : Phase) : Device :=
  (d.modDrive i fun x => { x with state := .unloading, phase := p, idleSince := none }).issue i .unload

/-- An unmount begun (R135). -/
def Device.startUnmount (d : Device) (i : DriveId) : Device := d.startUnload i .unload

/-- The cartridge a drive holds, and its entry. -/
def Device.driveCart (d : Device) (i : DriveId) : Option (CartId × Cart) :=
  (d.drive i).cart.bind fun c => (d.cart c).map fun e => (c, e)

/-- The drive is left MOUNTED_IDLE (R136). -/
def Device.toIdle (d : Device) (i : DriveId) : Device :=
  (d.modDrive i fun x =>
    { x with
      state := .mountedIdle, phase := .rest, active := none, suspendFor := none, hostIn := false,
      idleSince := some d.now }).post .arbiter

/-- Whether a claim waits for the cartridge mounted in a MOUNTED_IDLE drive (R136). -/
def Device.mountedWanted (d : Device) (i : DriveId) : Bool :=
  d.arb.claims.any fun k => k.drive.isNone && d.wantsMounted i k

/-- The end of read work with an empty stack (R136): MOUNTED_IDLE, and unmounted at once when no claim waits for the
mounted cartridge. A cleaning-due drive stays mounted (log entry 14). -/
def Device.idleOrUnmount (d : Device) (i : DriveId) : Device :=
  let d := d.toIdle i
  if d.mountedWanted i || (d.drive i).cleaningDue then d else d.startUnmount i

/-- The drive is handed to the owner of its assigned claim as active work, and the claim leaves the list (R126). -/
def Device.handOverDrive (d : Device) (i : DriveId) (w : Work) : Device :=
  ((d.clearClaim i).modDrive i fun x => { x with active := some w, idleSince := none }).post (.serve i w)

/-! ### FINALIZE (R93, R134) -/

/-- The end of a FINALIZE (R93): finalize pending becomes no, its claim leaves the list, and OPERATION_END is raised. -/
def Device.finalizeEnd (d : Device) (c : CartId) (r : FinalizeResult) : Device :=
  let d := d.editCart c fun e => { e with finalizing := false }
  (d.withdrawOf (.finalize c)).raise .operationEnd (.finalizeEnd c r)

/-- The FINAL block written (R93): the entry in one change, and OPERATION_END with OK. -/
def Device.finalizeDone (d : Device) (c : CartId) (n : Nat) : Device :=
  let d := d.editCart c fun e =>
    { e with eod := some (eodAfter e n), protection := some .finalized, reason := .none, finalizing := false }
  (d.withdrawOf (.finalize c)).raise .operationEnd (.finalizeEnd c .ok)

/-- The FINAL WRITE after a good append check, or its withholding (R134). A completion at which the check has learnt an
EOD or adopted a label serial and the WRITE is then withheld makes two changes of the entry, that of the check and that of
the operation's end (R88; DESIGN CHOICE, log entry 59). -/
def Device.finalWrite (d : Device) (i : DriveId) (c : CartId) (e : Cart) : Device :=
  if e.protection = some .writable then
    (d.modDrive i fun x => { x with state := .writing, active := some (.finalize c), phase := .finalWrite }).issue i
      (.write (finalBlock (e.eod.getD 1) e.serial))
  else (d.finalizeEnd c .protected_).idleOrUnmount i

/-! ### The append check (R132) -/

/-- A mount that ends without service: the claim returns to waiting and the cartridge is unmounted; the cartridge of a
host MOVE into the drive stays mounted (R131, R132). -/
def Device.mountFailed (d : Device) (i : DriveId) : Device :=
  if (d.drive i).hostIn then d.toIdle i else (d.returnClaim i).startUnmount i

/-- A READ of the label check or the append check completing NOT_READY ends the check with no finding (R131, R132). With
the claim withdrawn meanwhile, and no host MOVE's cartridge in the drive, the drive stands as one whose work has ended
(R134, R136; DESIGN CHOICE, log entry 87). -/
def Device.checkNotReady (d : Device) (i : DriveId) : Device :=
  if (d.assigned i).isSome || (d.drive i).hostIn then d.mountFailed i else d.idleOrUnmount i

/-- A check that ends a FEED or FINALIZE mount (R132): a FINALIZE ends with the result given. -/
def Device.checkFailed (d : Device) (i : DriveId) (r : FinalizeResult) : Device :=
  match d.assignedOwner i with
  | some (.finalize c) => (d.finalizeEnd c r).idleOrUnmount i
  | some _ => d.mountFailed i
  | none => d.idleOrUnmount i

/-- The assigned claim of drive i is for the FINALIZE of this cartridge: what its check finds in the entry and the end of
the operation are one change (R88, R93). -/
def Device.finalizes (d : Device) (i : DriveId) (c : CartId) : Bool := d.assignedOwner i == some (.finalize c)

/-- An EOD mismatch recorded and raised (R90, R132); `ends` when it ends a FINALIZE of the cartridge. -/
def Device.eodMismatch (d : Device) (c : CartId) (ends : Bool := false) : Device :=
  (d.markMismatch c .eodMismatch ends).raise .eodMismatch (.number c)

/-- An EOD mismatch of a mount (R132). -/
def Device.appendMismatch (d : Device) (i : DriveId) (c : CartId) : Device :=
  (d.eodMismatch c (d.finalizes i c)).checkFailed i .eodMismatch

/-- A good append check (R132): the position is EOD, and the claim is served if the entry still allows it. -/
def Device.appendGood (d : Device) (i : DriveId) (c : CartId) (e : Cart) : Device :=
  let d := d.modDrive i fun x => { x with position := e.eod }
  match d.assigned i with
  | some k =>
    match k.owner, k.target with
    | .feed f, .pool p =>
      if d.appendable p c then
        let d := (d.clearClaim i).modDrive i fun x =>
          { x with state := .writing, active := some (.feed f), phase := .working }
        (d.feedServed f i c).post (.suspendCheck i)
      else d.mountFailed i
    | .finalize _, _ => d.finalWrite i c e
    | _, _ => d.mountFailed i
  | none => d.idleOrUnmount i

/-- The append check from its second step on (R132). -/
def Device.appendRead (d : Device) (i : DriveId) (c : CartId) : Device :=
  match d.cart c with
  | none => d.mountFailed i
  | some e =>
    let eod := e.eod.getD 1
    if eod ≤ 1 then d.appendGood i c e
    else (d.setDrive i .appendCheck (.appendRead 0 false)).issue i (.read (eod - 1))

/-- The append check begun (R132). -/
def Device.beginAppend (d : Device) (i : DriveId) : Device :=
  match d.driveCart i with
  | none => d.mountFailed i
  | some (c, e) =>
    let d := d.modDrive i fun x => { x with state := .appendCheck, idleSince := none }
    match e.eod with
    | none => (d.setPhase i .appendEnd).issue i .locateEnd
    | some _ => d.appendRead i c

/-- What a block read at EOD - 1 shows (R132, step 3). -/
inductive TailCheck where
  | good | final | mismatch
deriving DecidableEq, Repr

/-- The block read at EOD - 1 judged (R132, step 3). -/
def tailCheck (bs : Bytes) (n : Nat) (serial : Word32) : TailCheck :=
  match readBlock bs with
  | some b =>
    if b.number = n ∧ b.serial = serial then (if b.flags &&& finalFlag = 0 then .good else .final) else .mismatch
  | none => .mismatch

/-- The read retries of the pool of a cartridge (R131, R151, R168). -/
def Device.readRetries (d : Device) (c : CartId) : Nat :=
  (d.pool (((d.cart c).bind (·.pool)).getD 0)).retries

/-- A READ to be made again: MEDIUM_ERROR, or a block whose trailer CRC is bad (R131, R132). -/
def rereads (r : DriveResult) (block : Bytes) : Bool :=
  r == .mediumError || (r == .ok && (readBlock block).isNone)

/-! ### Labelling (R133) -/

/-- The label serial the media tables give a labelling (R95). -/
def nextSerial (s : Word32) : Word32 := if s = 0xFFFFFFFF#32 then 1 else s + 1

/-- A cartridge still of the kind a labelling may take: of kind DATA with an EOD of UNKNOWN or 1 (the law on EOD, R95). -/
def Cart.labellable (e : Cart) : Bool := e.kind == .data && (e.eod == none || e.eod == some 1)

/-- The label WRITE, made only while the cartridge is WRITABLE and not FULL (R133), and still in pool 0 with an EOD of
UNKNOWN or 1 (R95). -/
def Device.writeLabel (d : Device) (i : DriveId) (c : CartId) (job : LabelJob) : Device :=
  match d.cart c with
  | none => d.mountFailed i
  | some e =>
    if (d.assigned i).isNone then d.idleOrUnmount i
    else if e.protection = some .writable ∧ e.full = some false ∧ e.pool = some 0 ∧ e.labellable then
      (d.setPhase i (.labelWrite job)).issue i (.write (labelBlock e.barcode job.serial))
    else d.mountFailed i

/-- A labelling begun (R133). -/
def Device.beginLabelling (d : Device) (i : DriveId) (c : CartId) (e : Cart) (p : PoolId) : Device :=
  let job : LabelJob := { serial := nextSerial e.serial, pool := p }
  if (d.drive i).position = some 0 then d.writeLabel i c job
  else (d.setPhase i (.labelLocate job)).issue i (.locate 0)

/-- A failed label write (R133). -/
def Device.labelFailed (d : Device) (i : DriveId) (c : CartId) : Device :=
  (d.markFull c).checkFailed i .media

/-- The entry a written label leaves (R95, R133). -/
def Cart.labelledAs (e : Cart) (job : LabelJob) (capacity : Nat) : Cart :=
  { e with serial := job.serial, pool := some job.pool, capacity, eod := some 1 }

/-- A label written (R95, R133): the entry in one change, and the FEED claim served. An entry that an EDIT has given
another kind or a known EOD above 1 while the WRITE was out is left as it is, and the mount ends: a labelling sets EOD 1
only where EOD is UNKNOWN or 1 (R95; log entry 50). -/
def Device.labelled (d : Device) (i : DriveId) (c : CartId) (job : LabelJob) : Device :=
  match d.cart c with
  | some e =>
    if e.labellable then
      let new := e.labelledAs job (d.pool job.pool).defaultCapacity
      (d.writeCart c (some new)).appendGood i c new
    else d.mountFailed i
  | none => d.mountFailed i

/-! ### The label check (R131) -/

/-- The label check begun (R131). -/
def Device.beginLabel (d : Device) (i : DriveId) : Device :=
  (d.setDrive i .labelCheck (.label 0)).issue i (.read 0)

/-- A good label check (R131). -/
def Device.labelGood (d : Device) (i : DriveId) (c : CartId) : Device :=
  match d.assigned i, d.cart c with
  | some k, some e =>
    match k.owner, k.target with
    | .restore r, _ => d.handOverDrive i (.restore r)
    | .verify x, _ => d.handOverDrive i (.verify x)
    | .feed _, .pool p => if k.scratch then d.beginLabelling i c e p else d.beginAppend i
    | .finalize _, _ => d.beginAppend i
    | _, _ => d.mountFailed i
  | _, _ => if (d.drive i).hostIn then d.toIdle i else d.idleOrUnmount i

/-- A label mismatch (R131). With a verify claim gone from the drive, a drive serves verify work no more, and the arbiter
decides (R128). -/
def Device.labelBad (d : Device) (i : DriveId) (c : CartId) : Device :=
  let d := (d.markMismatch c .labelMismatch (d.finalizes i c)).raise .labelMismatch (.number c)
  match d.assignedOwner i with
  | some (.restore r) => ((d.clearClaim i).post (.claimFailed (.restore r))).startUnmount i
  | some (.verify x) => (((d.clearClaim i).post .arbiter).post (.claimFailed (.verify x))).startUnmount i
  | some (.finalize x) => (d.finalizeEnd x .labelMismatch).startUnmount i
  | some _ => d.mountFailed i
  | none => if (d.drive i).hostIn then d.toIdle i else d.idleOrUnmount i

/-- What a READ 0 shows of the label (R131). -/
inductive LabelCheck where
  | good
  | adopt (serial : Word32)
  | mismatch
deriving DecidableEq, Repr

/-- The table of R131 for a READ 0 that is not read again: `scratch` for a takeable scratch cartridge taken by a FEED
claim. -/
def labelCheck (e : Cart) (scratch : Bool) (r : DriveResult) (block : Bytes) : LabelCheck :=
  if r = .blank then (if scratch then .good else .mismatch)
  else if r = .ok then
    match labelShaped block with
    | some b =>
      if b.barcode = e.barcode then
        if e.serial = 0 then .adopt b.serial else if b.serial = e.serial then .good else .mismatch
      else .mismatch
    | none => .mismatch
  else .mismatch

/-- A READ 0 of the label check completed (R131). -/
def Device.labelRead (d : Device) (i : DriveId) (retries : Nat) (r : DriveResult) (block : Bytes) : Device :=
  match d.driveCart i with
  | none => d.mountFailed i
  | some (c, e) =>
    if rereads r block && retries < d.readRetries c then
      (d.setPhase i (.label (retries + 1))).issue i (.read 0)
    else if r = .notReady then d.checkNotReady i
    else
      match labelCheck e ((d.assigned i).any (·.scratch)) r block with
      | .good => d.labelGood i c
      | .adopt s => (d.editCart c fun e => { e with serial := s }).labelGood i c
      | .mismatch => d.labelBad i c

/-- A READ EOD - 1 of a mount's append check completed (R132). -/
def Device.appendReadEnd (d : Device) (i : DriveId) (retries : Nat) (r : DriveResult) (block : Bytes) : Device :=
  match d.driveCart i with
  | none => d.mountFailed i
  | some (c, e) =>
    let n := e.eod.getD 1 - 1
    if rereads r block && retries < d.readRetries c then
      (d.setPhase i (.appendRead (retries + 1) false)).issue i (.read n)
    else if r = .notReady then d.checkNotReady i
    else if r = .ok then
      match tailCheck block n e.serial with
      | .good => d.appendGood i c e
      | .final => (d.markFinalized c (d.finalizes i c)).checkFailed i .finalized
      | .mismatch => d.appendMismatch i c
    else d.appendMismatch i c

/-- A LOCATE_END of the append check completed (R132, step 1). It sets the EOD of an entry whose EOD is still UNKNOWN; one
that an EDIT has meanwhile given a known EOD is checked at that EOD (the law on EOD, R95; log entry 50). Where the claim
has been withdrawn while the command was out, the check under way goes on to its end in the same way, with READ EOD - 1
(R134; DESIGN CHOICE, log entry 73). -/
def Device.appendEndFound (d : Device) (i : DriveId) (r : DriveResult) (n : Nat) : Device :=
  match (d.drive i).cart with
  | none => d.mountFailed i
  | some c =>
    if r = .ok ∧ 1 ≤ n then (d.editCart c fun e => { e with eod := some (e.eod.getD n) }).appendRead i c
    else d.appendMismatch i c

/-! ### Mounting and host moves (R130, R134) -/

/-- A host move is ready once every claim of it is prepared (R109, R134). -/
def Device.hostReady (d : Device) (m : Nat) : Device :=
  if d.arb.claims.all fun k => k.owner != .hostMove m || k.prepared then
    (d.modMove m fun m => { m with ready := true }).post .picker
  else d

/-- The assigned host move's drive stands ready for it (R134). -/
def Device.prepareHost (d : Device) (i : DriveId) : Device :=
  match d.assigned i with
  | some k =>
    match k.owner with
    | .hostMove m => ((d.modClaim k.order fun k => { k with prepared := true }).setPhase i .hostMove).hostReady m
    | _ => d
  | none => d

/-- The queued host move out of a drive, if there is one. -/
def Device.hostMoveFrom (d : Device) (i : DriveId) : Option Move :=
  d.changer.moves.find? fun m => m.requester == .host && m.src == driveElem i && !m.running

/-- A HOST claim served on the drive it is for (R134, R141): the claim is assigned to the drive, unless the drive has
another claim assigned, and stands prepared. -/
def Device.serveHost (d : Device) (i : DriveId) (k : Claim) : Device :=
  let free := (d.drive i).claim.isNone
  let d := d.modClaim k.order fun k => { k with drive := if free then some i else k.drive, prepared := true }
  if free then d.modDrive i fun x => { x with claim := some k.order } else d

/-- A host move out of a drive that finds its cartridge at the mouth already, or gone, waits for this drive no longer:
the drive is served to its claim, and the move is ready (R134, R141; log entry 13). -/
def Device.presentHost (d : Device) (i : DriveId) : Device :=
  match d.hostMoveFrom i with
  | some m =>
    match d.arb.claims.find? fun k => k.owner == .hostMove m.id && k.target == .drive i with
    | some k => (d.serveHost i k).hostReady m.id
    | none => d.hostReady m.id
  | none => d

/-- The mount of the assigned claim begun on an EMPTY drive (R130, R134). -/
def Device.beginMount (d : Device) (i : DriveId) : Device :=
  match d.assigned i with
  | none => d.post .arbiter
  | some k =>
    match k.owner with
    | .hostMove _ => d.prepareHost i
    | _ =>
      match k.chosen with
      | none => d.returnClaim i
      | some c =>
        match d.requestMove i c (driveElem i) k.kind.cls with
        | some d => d.setPhase i .mountMove
        | none => d.returnClaim i

/-- A claim takes a drive (R128): it becomes the assigned claim, and the drive port goes on as section 7.5 states. A
restore or verify claim for the mounted cartridge is served at once, without a new label check, also where the last check
of that mount found a mismatch or nothing (R131; DESIGN CHOICE, log entry 75). -/
def Device.assign (d : Device) (k : Claim) (c : Choice) : Device :=
  let i := c.drive
  let wanted := d.wantsMounted i k
  let d := d.modClaim k.order fun k =>
    { k with drive := some i, chosen := c.cart, scratch := c.scratch, reported := false }
  let d := d.modDrive i fun x => { x with claim := some k.order, released := false }
  if (d.drive i).state = .empty then d.beginMount i
  else if wanted then
    match k.owner with
    | .restore r => d.handOverDrive i (.restore r)
    | .verify x => d.handOverDrive i (.verify x)
    | .hostMove _ => d.startUnload i .hostUnload
    | _ => d.beginAppend i
  else d.startUnmount i

/-- One drive decided against the waiting claims (R128), and decided again when a FEED claim has taken another drive. -/
def Device.decideDrive (i : DriveId) : (fuel : Nat) → Device → Device
  | 0, d => d
  | fuel + 1, d =>
    if d.freeDrive i then
      let cs := d.contenders i
      let first := (cs.filter fun k => d.wantsMounted i k).findSome? fun k => (d.choice i k).map fun c => (k, c)
      match first with
      | some (k, c) => d.assign k c
      | none =>
        match Device.weigh i cs d with
        | (d, some (k, c)) => if c.drive = i then d.assign k c else Device.decideDrive i fuel (d.assign k c)
        | (d, none) => d
    else d

/-- A drive just released by a feed and left with no claim unmounts at once (R128, R136). A cleaning-due drive stays
mounted (log entry 14). -/
def Device.settleRelease (d : Device) (i : DriveId) : Device :=
  if (d.drive i).released then
    let d := d.modDrive i fun x => { x with released := false }
    if (d.drive i).state = .mountedIdle ∧ (d.drive i).claim = none ∧ !(d.drive i).cleaningDue then d.startUnmount i
    else d
  else d

/-- A decision of the drive allocation arbiter (R128), and of each drive's suspension (R138). -/
def Device.arbitrate (d : Device) : Device :=
  let d := allDrives.foldl (fun d i => Device.decideDrive i 5 d) d
  (allDrives.foldl Device.settleRelease d).postAll (allDrives.map .suspendCheck)

/-- The drive's element is empty: the drive enters EMPTY, and mounts its assigned claim if it has one (R135). -/
def Device.driveEmptied (d : Device) (i : DriveId) : Device :=
  (d.modDrive i fun x =>
    { x with
      state := .empty, phase := .rest, cart := none, mountTime := none, idleSince := none, position := none,
      hostIn := false }).presentHost i |>.beginMount i

/-- The mount move's DONE (R130): the drive takes the cartridge and LOAD is issued. -/
def Device.mountDone (d : Device) (i : DriveId) (l : Load) (host : Bool) : Device :=
  match l with
  | .cart c =>
    (d.modDrive i fun x =>
      { x with state := .loading, phase := .load, cart := some c, hostIn := host }).issue i .load
  | .foreign _ => d

/-! ### Unmounting (R135) -/

/-- A cartridge at the drive mouth sent to the destination R102 gives (R135), a slot that is not its home becoming it at
the asking. A port whose request is answered BUSY keeps the cartridge at its mouth, and asks again as one that was given
no destination (DESIGN CHOICE, log entry 85). A host move that waits for this very cartridge is made ready in its place
(log entry 13). -/
def Device.askReturn (d : Device) (i : DriveId) : Device :=
  match (d.drive i).cart with
  | none => d.setPhase i .mouth
  | some c =>
    match d.hostMoveFrom i with
    | some _ => (d.setPhase i .hostMove).presentHost i
    | none =>
      match d.destination (.cart c) with
      | none => d.setPhase i .mouth
      | some b =>
        let cls := ((d.assigned i).map fun k => k.kind.cls).getD 7
        let d := d.takeDestination (.cart c) b
        match d.requestMove i c b cls with
        | some d => d.setPhase i .returning
        | none => d.setPhase i .mouth

/-- Every drive that waits at its mouth without a destination asks again (R102, R135), in ascending drive number (DESIGN
CHOICE, log entry 86). -/
def Device.askAllReturns (d : Device) : Device :=
  allDrives.foldl (fun d i => if (d.drive i).phase = .mouth then d.askReturn i else d) d

/-- The same move asked for again, to whatever element it went (R134, R135); a destination is asked for anew when the
changer refuses that move (log entry 51). -/
def Device.returnAgain (d : Device) (i : DriveId) (b : Option ElemId) : Device :=
  match (d.drive i).cart, b with
  | some c, some b =>
    let cls := ((d.assigned i).map fun k => k.kind.cls).getD 7
    match d.requestMove i c b cls with
    | some d => d.setPhase i .returning
    | none => d.askReturn i
  | _, _ => d.askReturn i

/-- A return move's end (R135), or the end of a host move out of the drive (R134). -/
def Device.returnEnded (d : Device) (i : DriveId) (m : Move) (r : MoveResult) : Device :=
  if r = .done then d.driveEmptied i
  else if d.whereIs m.load = some (driveElem i) then
    match m.load with
    | .foreign _ => d.setPhase i .powerMouth
    | .cart _ => if r = .failed .destinationOccupied then d.askReturn i else d.returnAgain i m.dst
  else d.driveEmptied i

/-! ### The suspend stack (R138, R139) -/

/-- Whether a restore claim may suspend a piece of work (R138). -/
def Device.maySuspend (d : Device) (k : ClaimKind) (w : Work) : Bool :=
  match k, w with
  | .urgent, .feed _ => true
  | .urgent, .verify _ => true
  | .urgent, .restore r => (d.restore? r).any fun e => e.priority == .normal
  | .normal, .verify _ => true
  | _, _ => false

/-- The waiting restore claim for a cartridge that suspends a piece of work, or takes the drive at a pop (R138, R139): of
several, the oldest of the highest class, as R128 orders claims (DESIGN CHOICE, log entry 63). -/
def Device.suspender (d : Device) (c : CartId) (w : Work) : Option Claim :=
  ((d.arb.claims.filter fun k =>
      k.drive.isNone && k.kind.isRestore && k.target == .cart c && d.maySuspend k.kind w).foldr (insertClaim 0)
    []).head?

/-- The active work is in a state a claim can suspend: a feed that writes and is not leaving, or reading work (R60, R138). -/
def Device.suspendable (d : Device) (i : DriveId) : Bool :=
  let x := d.drive i
  x.phase == .working &&
    match x.state, x.active with
    | .writing, some (.feed f) =>
      (d.feed f).any fun y => y.state == .filling || y.state == .streaming || y.state == .paused || y.state == .retiring
    | .reading, some (.restore _) => true
    | .verifying, some (.verify _) => true
    | _, _ => false

/-- The suspension of a drive's active work decided (R138). -/
def Device.checkSuspension (d : Device) (i : DriveId) : Device :=
  let x := d.drive i
  match x.active, x.cart with
  | some w, some c =>
    if !x.cleaningDue && x.stack.length < Config.stackDepth && x.suspendFor.isNone && d.suspendable i then
      match d.suspender c w with
      | some k =>
        let d := d.modDrive i fun x => { x with suspendFor := some k.order }
        match w with
        | .feed f => d.feedSuspend f
        | _ => if x.outstanding = [] then d.post (.pushReady i) else d
      | none => d
    else d
  | _, _ => d

/-- A context popped (R139): a restore or a pass is positioned at its resume block, a feed's cartridge is checked again. -/
def Device.popContext (d : Device) (i : DriveId) (k : Context) (rest : List Context) : Device :=
  let d := d.modDrive i fun x => { x with stack := rest, active := some k.work }
  match k.work with
  | .restore r =>
    let d := d.modRestore r fun e => { e with state := .positioning }
    (d.setDrive i .positioning (.popLocate false)).issue i (.locate k.resume)
  | .verify c =>
    let d := d.modPass c fun p => { p with state := .positioning }
    (d.setDrive i .positioning (.popLocate false)).issue i (.locate k.resume)
  | _ =>
    let eod := (((d.driveCart i).bind fun x => x.2.eod)).getD 1
    (d.setDrive i .appendCheck .popAppendLocate).issue i (.locate (eod - 1))

/-- The end of a drive's active work (R136, R139), with nothing outstanding: a waiting restore claim that could suspend
the top context takes the drive, or the context is popped, or the drive is MOUNTED_IDLE. -/
def Device.workEnded (d : Device) (i : DriveId) : Device :=
  let d := d.modDrive i fun x => { x with active := none, phase := .rest, suspendFor := none }
  let x := d.drive i
  match x.stack.reverse with
  | [] => d.idleOrUnmount i
  | k :: rest =>
    let taker := if x.cleaningDue then none else x.cart.bind fun c => d.suspender c k.work
    match taker with
    | some t =>
      match t.owner with
      | .restore r =>
        ((d.removeClaim t.order).modDrive i fun x => { x with active := some (.restore r) }).post
          (.serve i (.restore r))
      | _ => d.popContext i k rest.reverse
    | none => d.popContext i k rest.reverse

/-- The end of a drive's active work by its owner (R139, R157, R170): an outstanding command is let complete first. -/
def Device.endWork (d : Device) (i : DriveId) : Device :=
  if (d.drive i).outstanding = [] then d.workEnded i
  else d.modDrive i fun x => { x with active := none, phase := .ending, suspendFor := none }

/-- A context taken off every suspend stack, the others keeping their order (R157, R172). -/
def Device.dropContext (d : Device) (w : Work) : Device :=
  allDrives.foldl
    (fun d i =>
      if (d.drive i).stack.any fun k => k.work == w then
        d.modDrive i fun x => { x with stack := x.stack.filter fun k => k.work != w }
      else d) d

/-! ### Cleaning (R137) -/

/-- A CLEAN_REQUEST (R137). -/
def Device.cleanRequested (d : Device) (i : DriveId) : Device :=
  let first := !(d.drive i).cleaningDue
  let d := (d.modDrive i fun x => { x with cleaningDue := true }).raise .cleanDue (.due i)
  if first then d.placeClaim .cleaning (.cleaning i) (.drive i) else d

/-- The CLEAN issued after the LOAD of a cleaning cartridge (R137). -/
def Device.beginClean (d : Device) (i : DriveId) : Device :=
  (d.modDrive i fun x => { x with state := .cleaning, active := some .cleaning, phase := .clean }).issue i .clean

/-- A CLEAN completion that is not a drive fault (R137). At OK the CLEANING claim leaves the list; any claim still
assigned returns to waiting. -/
def Device.cleanEnd (d : Device) (i : DriveId) (r : DriveResult) : Device :=
  let d : Device :=
    match (d.drive i).cart with
    | none => d
    | some c =>
      let last := (d.cart c).any fun e => e.uses == 1
      let d := d.editCart c fun e => { e with uses := e.uses - 1 }
      if last then d.raise .cleanDue (.expiredCart c) else d
  let d := d.modDrive i fun x => { x with active := none }
  let d : Device :=
    if r = .ok then (d.withdrawOf (.cleaning i)).modDrive i fun x => { x with cleaningDue := false } else d
  (d.returnClaim i).startUnmount i

end Sys2Proof.Machine
end

