-- ==== Sys2Proof/Machine/Restore.lean ====
section
/-!
DEFINITION. The expansion engine's request list and arbiter (R35, R36, R39, R40), and the restore unit's operations
(chapter 8): promotion, positioning, reading, selecting and sending records, parts and chains, and the end of a restore.
-/
namespace Sys2Proof.Machine

/-! ### The expansion engine (R35, R36, R40) -/

/-- A record presented to the XE (R35); `age` is the requester's own age (R36). -/
def Device.present (d : Device) (client : XeClient) (record : TapeRecord) (age : Nat) : Device :=
  ({ d with
     xe := { d.xe with requests := d.xe.requests ++ [⟨client, record, d.moment, age, false⟩] } } : Device).post .xe

/-- A requester's record is in the request list. -/
def Device.inXeList (d : Device) (client : XeClient) : Bool := d.xe.requests.any fun q => q.client == client

/-- A requester's record withdrawn from the request list (R40). -/
def Device.withdrawXe (d : Device) (client : XeClient) : Device :=
  { d with xe := { d.xe with requests := d.xe.requests.filter fun q => q.client != client } }

/-- A requester that has ended: its record in the list is withdrawn, and one taken is discarded at its result (R40). -/
def Device.dropXe (d : Device) (client : XeClient) : Device :=
  let d := d.withdrawXe client
  { d with
    xe :=
      { d.xe with
        current := d.xe.current.map fun q => if q.client = client then { q with dropped := true } else q } }

/-- A restore request. -/
def XeClient.isRestore : XeClient → Bool
  | .restore _ => true
  | .pass _ => false

/-- Request a goes before request b (R36). -/
def XeRequest.before (a b : XeRequest) : Bool :=
  if a.client.isRestore != b.client.isRestore then a.client.isRestore
  else a.time < b.time || (a.time == b.time && a.age < b.age)

/-- The request the XE arbiter chooses (R36). -/
def bestRequest : List XeRequest → Option XeRequest
  | [] => none
  | q :: qs =>
    match bestRequest qs with
    | none => some q
    | some b => if b.before q then some b else some q

/-- The XE arbiter's choice (R36). -/
def Device.xeChoose (d : Device) : Device :=
  if d.xe.current.isSome then d
  else
    match bestRequest d.xe.requests with
    | none => d
    | some q =>
      { d with
        xe := { current := some q, decode := {}, requests := d.xe.requests.filter fun x => x.client != q.client } }

/-! ### Promotion (R147) -/

/-- An entry is active (R144). -/
def Restore.active (e : Restore) : Bool := e.state != .queued && e.state != .ended

/-- Entry a goes before entry b in queue order (R147). -/
def Restore.before (a b : Restore) : Bool :=
  if a.priority = b.priority then a.arrival < b.arrival else a.priority == .urgent

/-- The first of a run of entries in queue order (R147). -/
def firstInQueue : List Restore → Option Restore
  | [] => none
  | e :: es =>
    match firstInQueue es with
    | none => some e
    | some b => if b.before e then some b else some e

/-- A restore claim placed for a cartridge (R147, R156). -/
def Device.claimRestore (d : Device) (e : Restore) (c : CartId) : Device :=
  d.placeClaim (if e.priority = .urgent then .urgent else .normal) (.restore e.chan) (.cart c)

/-- One promotion, if there is room and a QUEUED entry (R147). -/
def Device.promoteOne (d : Device) : Device :=
  if (d.ru.queue.filter Restore.active).length < Config.maxActive then
    match firstInQueue (d.ru.queue.filter fun e => e.state == .queued) with
    | some e => (d.modRestore e.chan fun e => { e with state := .claiming }).claimRestore e e.cart
    | none => d
  else d

/-- The promotion decision (R147). -/
def Device.promote (d : Device) : Device := Nat.repeat Device.promoteOne Config.maxActive d

/-! ### Extents -/

/-- A number within an end that may be OPEN-ENDED. -/
def withinStop (stop : Option Nat) (q : Nat) : Bool :=
  match stop with
  | none => true
  | some n => q ≤ n

/-- The smaller of a range end and a part's last sequence (R155). -/
def lowerStop (stop : Option Nat) (last : Nat) : Nat :=
  match stop with
  | none => last
  | some n => min n last

/-- The sequences of a part within a restore's range (R155, R156). -/
def inRange (e : Restore) (p : Part) : Nat := lowerStop e.stop p.lastSeq + 1 - max e.start p.firstSeq

/-- Records missing grown, saturating (R155, R156). -/
def Restore.miss (e : Restore) (n : Nat) : Restore := { e with missing := min Config.max32 (e.missing + n) }

/-- The undelivered sequences of the current part added to records missing (R155). -/
def Restore.missRest (e : Restore) (p : Part) : Restore := e.miss (inRange e p - e.delivered)

/-! ### The end of a restore (R157) -/

/-- The drive whose active work this is. -/
def Device.driveOf (d : Device) (w : Work) : Option DriveId := allDrives.find? fun i => (d.drive i).active == some w

/-- A drive's active work ended, if it is this work (R157, R170, R172). -/
def Device.endWorkOf (d : Device) (w : Work) : Device :=
  match d.driveOf w with
  | some i => d.endWork i
  | none => d

/-- The grant count of a restore channel (R153). -/
def Device.grants (d : Device) (r : RestoreId) : Nat := d.link.grants[r]

/-- The grant count of a restore channel written. -/
def Device.setGrants (d : Device) (r : RestoreId) (n : Nat) : Device :=
  { d with link := { d.link with grants := d.link.grants.set r n } }

/-- A restore entry freed (R157). -/
def Device.freeRestore (d : Device) (r : RestoreId) : Device :=
  { d with ru := { d.ru with queue := d.ru.queue.filter fun e => e.chan != r } }

/-- An end that is not the end of the reading (R157, step 5). -/
def EndStatus.early : EndStatus → Bool
  | .complete | .partial_ => false
  | _ => true

/-- The undelivered sequences of the current part counted at an end other than COMPLETE or PARTIAL (R157, step 5). -/
def Device.countMissing (d : Device) (e : Restore) (status : EndStatus) : Restore :=
  match d.part? e.part with
  | some p => if status.early then e.missRest p else e
  | none => e

/-- An entry that has entered ENDED (R157, step 1): it holds nothing of its reading any more. -/
def Restore.over (e : Restore) : Restore :=
  { e with
    state := .ended, buffer := none, frames := [], stall := none, atXe := none, kept := none, drive := none,
    readPos := none }

/-- Steps 1 to 3 of a restore's end (R157): ENDED, its claim, its record at the XE and its context given up, its pin given
back. -/
def Device.leaveRestore (d : Device) (r : RestoreId) (e : Restore) : Device :=
  let d := d.modRestore r fun _ => e.over
  let d := ((d.withdrawOf (.restore r)).dropXe (.restore r)).dropContext (.restore r)
  d.unpinRestore e.part

/-- The end of a restore (R157), with its RMARK. -/
def Device.endRestore (d : Device) (r : RestoreId) (status : EndStatus) : Device :=
  match d.restore? r with
  | none => d
  | some e =>
    if e.state = .ended then d
    else
      let e := d.countMissing e status
      let d := ((d.leaveRestore r e).endWorkOf (.restore r)).emit (.rmark r e.part e.missing status e.chainEnd)
      (d.setGrants r 0).post .promote

/-- The restores that have not ended. -/
def Device.liveRestores (d : Device) : List Restore := d.ru.queue.filter fun e => e.state != .ended

/-- Every restore in use ended by a link reset (R159, R185), with no RMARK: all of them first leave their claims,
contexts and pins, in queue order; then the works of drives end, so that no drive waits or locates for a restore that
ends with it; then the entries are freed. -/
def Device.cancelRestores (d : Device) : Device :=
  let es := d.liveRestores
  let d := es.foldl (fun d e => d.leaveRestore e.chan e) d
  let d := es.foldl (fun d e => d.endWorkOf (.restore e.chan)) d
  (es.foldl (fun d e => (d.freeRestore e.chan).setGrants e.chan 0) d).post .promote

/-- The end of a restore whose range or chain was read to its end (R155, R156). -/
def Device.endRead (d : Device) (r : RestoreId) : Device :=
  match d.restore? r with
  | some e => d.endRestore r (if e.missing = 0 then .complete else .partial_)
  | none => d

/-! ### Positioning (R149) -/

/-- LOCATE of a restore's start block (R149). -/
def Device.locateStart (d : Device) (r : RestoreId) (i : DriveId) (n : Nat) : Device :=
  let d := d.modRestore r fun e => { e with state := .positioning, drive := some i, readPos := some n, retries := 0 }
  (d.modDrive i fun x =>
    { x with state := .positioning, active := some (.restore r), phase := .startLocate, idleSince := none }).issue i
    (.locate n)

/-- A restore's claim is served (R148, R149). -/
def Device.restoreServed (d : Device) (r : RestoreId) (i : DriveId) : Device :=
  match d.restore? r with
  | none => d.endWorkOf (.restore r)
  | some e =>
    match e.state, d.part? e.part with
    | .claiming, some p => d.locateStart r i p.firstBlock
    | _, _ => d.endWorkOf (.restore r)

/-! ### Parts and chains (R155, R156) -/

/-- The next part of a chain (R156): the lowest id that qualifies. -/
def Device.nextPart (d : Device) (p : Part) : Option Part :=
  d.map.parts.find? fun q => q.jobTag == p.jobTag && q.number == p.number + 1 && q.firstSeq == p.lastSeq + 1

/-- A restore that goes on with the next part of its chain (R156). While a suspension of it is in progress, on the same
cartridge, the LOCATE of the new part is issued first, and the context is pushed at its completion with the new part's
first block to resume at (DESIGN CHOICE, log entry 66). -/
def Device.chainTo (d : Device) (e : Restore) (q : Part) : Device :=
  let r := e.chan
  let d := (d.pinRestore q.id).unpinRestore e.part
  let d := d.modRestore r fun e =>
    { e with
      part := q.id, cart := q.cart, delivered := 0, next := max e.start q.firstSeq, readPos := none, buffer := none }
  if q.cart = e.cart then
    match d.driveOf (.restore r) with
    | some i => d.locateStart r i q.firstBlock
    | none => d
  else
    let d := d.modRestore r fun e => { e with state := .claiming, drive := none }
    (d.endWorkOf (.restore r)).claimRestore e q.cart

/-- The chain step (R156). -/
def Device.chainStep (d : Device) (e : Restore) (p : Part) : Device :=
  let ends := fun (d : Device) c => (d.modRestore e.chan fun e => { e with chainEnd := some c }).endRead e.chan
  match d.nextPart p with
  | none => ends d .noPart
  | some q =>
    if q.state = .open then ends d .open
    else if q.state = .bad then ends (d.modRestore e.chan fun e => e.miss (inRange e q)) .bad
    else if q.restorePinFree then d.chainTo e q
    else ends d .pinLimit

/-- The end of a restore's reading of its current part (R155). -/
def Device.partEnd (d : Device) (e : Restore) (p : Part) : Device :=
  let covered := e.stop.any fun n => n ≤ p.lastSeq
  let d := d.modRestore e.chan fun e => { e.missRest p with buffer := none }
  if !e.follow || covered then d.endRead e.chan else d.chainStep e p

/-! ### Reading (R151, R152) -/

/-- The records of a block from the first one a restore selects on (R152): the ones before it are passed over. -/
def selectFrom (jobTag next last : Nat) (stop : Option Nat) : List TapeRecord → List TapeRecord
  | [] => []
  | q :: qs =>
    if q.jobTag = jobTag ∧ next ≤ q.seq ∧ q.seq ≤ last ∧ withinStop stop q.seq then q :: qs
    else selectFrom jobTag next last stop qs

/-- A suspension is in progress on a drive (R138). -/
def Device.suspending (d : Device) (i : DriveId) : Bool := (d.drive i).suspendFor.isSome

/-- The next READ of a restore or a pass, held back while a suspension is in progress (R150, R171). -/
def Device.readOn (d : Device) (i : DriveId) (n : Nat) : Device :=
  if d.suspending i then d.post (.pushReady i) else d.issue i (.read n)

/-- The next READ of a restore, or the end of its part (R151, R155). -/
def Device.nextRead (d : Device) (e : Restore) (p : Part) : Device :=
  let n := e.readPos.getD p.firstBlock
  if p.lastBlock < n then d.partEnd e p
  else
    match d.driveOf (.restore e.chan) with
    | some i => d.readOn i n
    | none => d

/-- A restore in READING goes on (R151, R152): with the next record of its buffer, the next READ, or its part's end. -/
def Device.restoreGoOn (d : Device) (r : RestoreId) : Device :=
  match d.restore? r with
  | none => d
  | some e =>
    match d.part? e.part with
    | none => d
    | some p =>
      if e.state != .reading || e.atXe.isSome then d
      else if p.lastSeq < e.next || !withinStop e.stop e.next then d.partEnd e p
      else
        match e.buffer with
        | none => d.nextRead e p
        | some b =>
          match selectFrom p.jobTag e.next p.lastSeq e.stop b.records with
          | [] => (d.modRestore r fun e => { e with buffer := none }).nextRead e p
          | q :: qs =>
            let d := d.modRestore r fun e =>
              { e with next := q.seq, buffer := some { b with records := q :: qs }, atXe := some q }
            d.present (.restore r) q e.arrival

/-- After a restore or a pass has handled what it could: a suspension in progress goes on to the push (R150, R171). -/
def Device.pushIfReady (d : Device) (i : DriveId) : Device :=
  if d.suspending i && (d.drive i).outstanding.isEmpty then d.post (.pushReady i) else d

/-- A READ completed for a restore (R151). -/
def Device.restoreRead (d : Device) (r : RestoreId) (i : DriveId) (res : DriveResult) (block : Bytes) : Device :=
  match d.restore? r with
  | none => d
  | some e =>
    let n := e.readPos.getD 0
    let serial := ((d.cart e.cart).map (·.serial)).getD 0
    if res = .notReady then d.endRestore r .drive
    else
      let good := if res = .ok then goodBlock block n serial else none
      match good with
      | some records =>
        let d := d.modRestore r fun e =>
          { e with buffer := some ⟨n, records⟩, retries := 0, readPos := some (n + 1) }
        (d.restoreGoOn r).pushIfReady i
      | none =>
        if e.retries < d.readRetries e.cart then
          (d.modRestore r fun e => { e with retries := e.retries + 1 }).readOn i n
        else
          let d := (d.modRestore r fun e => { e with retries := 0, readPos := some (n + 1) }).markSuspect e.part
          (d.restoreGoOn r).pushIfReady i

/-! ### Sending (R153) -/

/-- The frames of a record's raw bytes, as (byte offset, payload) (R153). -/
def cutFrames : (fuel : Nat) → Nat → Bytes → List (Nat × Bytes)
  | 0, _, _ => []
  | fuel + 1, at_, bs =>
    if bs = [] then []
    else (at_, bs.take Config.maxPayload) :: cutFrames fuel (at_ + Config.maxPayload) (bs.drop Config.maxPayload)

/-- The frames of a GOOD record, at most 16 (R153). -/
def recordFrames (raw : Bytes) : List (Nat × Bytes) := cutFrames 16 0 raw

/-- The frames waiting sent, one for each grant (R153): the restore goes on when the last has left, and is SENDING with
its stall timer started when the grants run out. -/
def Device.sendFrames (d : Device) (r : RestoreId) : Device :=
  match d.restore? r with
  | none => d
  | some e =>
    let n := min (d.grants r) e.frames.length
    let d := (e.frames.take n).foldl (fun d f => d.emit (.rdata r e.part e.frameSeq f.1 f.2)) d
    let d := d.setGrants r (d.grants r - n)
    let rest := e.frames.drop n
    if rest = [] then (d.modRestore r fun e => { e with state := .reading, frames := [], stall := none }).restoreGoOn r
    else d.modRestore r fun e => { e with state := .sending, frames := rest, stall := some d.now }

/-- The result of a restore's record (R152). -/
def Device.restoreResult (d : Device) (r : RestoreId) (res : XeResult) : Device :=
  match d.restore? r with
  | none => d
  | some e =>
    match e.atXe with
    | none => d
    | some q =>
      let d := d.modRestore r fun e =>
        { e with
          atXe := none, kept := none, next := q.seq + 1,
          buffer := e.buffer.map fun b => { b with records := b.records.tail } }
      match res with
      | .good raw _ =>
        (d.modRestore r fun e =>
          { e with delivered := e.delivered + 1, frameSeq := q.seq, frames := recordFrames raw }).sendFrames r
      | _ => (d.setBad e.part).restoreGoOn r

/-- The XE returns a result to a restore: a SUSPENDED one keeps it (R40, R150), and it takes effect (R152) when the
restore resumes; a restore that ends before that counts the record missing and sets nothing BAD (DESIGN CHOICE, log entry
65). -/
def Device.resultToRestore (d : Device) (r : RestoreId) (res : XeResult) : Device :=
  match d.restore? r with
  | none => d
  | some e =>
    match e.state with
    | .suspended | .positioning => d.modRestore r fun e => { e with kept := some res }
    | .reading => d.restoreResult r res
    | _ => d

/-- A restore whose context was popped and whose LOCATE is OK goes on (R150). -/
def Device.restoreResume (d : Device) (r : RestoreId) : Device :=
  let d := d.modRestore r fun e => { e with state := .reading }
  match d.restore? r with
  | none => d
  | some e =>
    if e.frames != [] then d.sendFrames r
    else
      match e.kept with
      | some res => d.restoreResult r res
      | none => d.restoreGoOn r

/-- A restore's context is pushed (R150): a record still in the request list is withdrawn, and the restore is
SUSPENDED. -/
def Device.restorePushed (d : Device) (r : RestoreId) : Device :=
  let listed := d.inXeList (.restore r)
  let d := d.withdrawXe (.restore r)
  d.modRestore r fun e =>
    { e with state := .suspended, stall := none, atXe := if listed then none else e.atXe }

/-- The restore stall limit is reached by a restore in SENDING (R154). -/
def Device.stallDue (d : Device) (e : Restore) : Bool :=
  e.state == .sending && e.stall.any fun t => t + d.mu.params.restoreStallLimit ≤ d.now

end Sys2Proof.Machine
end

