-- ==== Sys2Proof/Machine/Verify.lean ====
section
/-!
DEFINITION. The verify unit's operations (chapter 9): deadlines and the list, the overdue test, scheduling, blocks, and
a pass from its start to its end or abandonment.
-/
namespace Sys2Proof.Machine

/-! ### Deadlines (R161) -/

/-- A part is CLOSED or SUSPECT (section 9.2). -/
def Part.unsettled (p : Part) : Bool := p.state == .closed || p.state == .suspect

/-- The verify interval of a cartridge's pool (R161). -/
def Device.interval (d : Device) (c : CartId) : Nat :=
  match (d.cart c).bind (·.pool) with
  | some p => (d.pool p).interval
  | none => 0

/-- A part is due (R161). -/
def Device.partDue (d : Device) (p : Part) : Bool := p.unsettled && 0 < d.interval p.cart

/-- A due part's contribution (R161). -/
def contribution (p : Part) (interval : Nat) : Nat :=
  if p.state = .suspect then p.suspectTime.getD 0
  else min Config.max32 (p.closeTime.getD 0 + 3600 * interval)

/-- The due parts of a cartridge. -/
def Device.dueParts (d : Device) (c : CartId) : List Part := (d.partsOn c).filter d.partDue

/-- A cartridge's deadline (R161). -/
def Device.deadline (d : Device) (c : CartId) (forced : Option Nat) : Nat :=
  (forced.toList ++ (d.dueParts c).map fun p => contribution p (d.interval c)).foldl min Config.max32

/-! ### The list (R160, R162) -/

/-- Entry a stands before entry b in the list (R162). -/
def VerifyEntry.before (a b : VerifyEntry) : Bool :=
  a.deadline < b.deadline || (a.deadline == b.deadline && a.order < b.order)

/-- An entry put in its place in the list (R162). -/
def insertEntry (e : VerifyEntry) : List VerifyEntry → List VerifyEntry
  | [] => [e]
  | x :: xs => if e.before x then e :: x :: xs else x :: insertEntry e xs

/-- An entry taken out of the list. -/
def Device.removeEntry (d : Device) (c : CartId) : Device :=
  { d with vu := { d.vu with list := d.vu.list.filter fun e => e.cart != c } }

/-- An entry written, at its place by its deadline (R162). -/
def Device.putEntry (d : Device) (e : VerifyEntry) : Device :=
  let d := d.removeEntry e.cart
  { d with vu := { d.vu with list := insertEntry e d.vu.list } }

/-- An entry in the list changed, and put in its place. -/
def Device.modEntry (d : Device) (c : CartId) (g : VerifyEntry → VerifyEntry) : Device :=
  match d.entry? c with
  | some e => d.putEntry (g e)
  | none => d

/-- A new entry for a cartridge (R162). -/
def Device.insertNew (d : Device) (c : CartId) : Device :=
  let order := d.vu.nextOrder
  let d := { d with vu := { d.vu with nextOrder := order + 1 } }
  d.putEntry
    { cart := c, deadline := d.deadline c none, order, forced := none, raised := false, block := .none,
      activity := .none }

/-- Whether a cartridge belongs in the list, with the forced time of its entry (R162). -/
def Device.belongs (d : Device) (c : CartId) (forced : Option Nat) : Bool :=
  !(d.dueParts c).isEmpty || (forced.isSome && (d.partsOn c).any Part.unsettled)

/-- An entry's deadline computed anew (R162). -/
def Device.recompute (d : Device) (c : CartId) : Device :=
  d.modEntry c fun e => { e with deadline := d.deadline c e.forced }

/-! ### The overdue test (R164) -/

/-- A waiting verify claim of one kind changed to the other, keeping its entry order; the arbiter decides (R164). -/
def Device.reclass (d : Device) (c : CartId) (src dst : ClaimKind) : Device :=
  match d.claimOf (.verify c) with
  | some k =>
    if k.drive.isNone && k.kind == src then
      ((d.modClaim k.order fun k => { k with kind := dst }).post .arbiter).post .verifySchedule
    else d
  | none => d

/-- The overdue test of one entry (R164). A change it makes is a change of the entry's overdue state, and the scheduling
decision follows (R165), after every other test due at the same moment. -/
def Device.overdueTest (d : Device) (c : CartId) : Device :=
  match d.entry? c with
  | none => d
  | some e =>
    if e.overdue d.time then
      let d : Device :=
        if e.forced.isNone && !e.raised then
          ((d.modEntry c fun e => { e with raised := true }).raise .verifyOverdue (.number c)).post .verifySchedule
        else d
      d.reclass c .verify .overdue
    else
      let d : Device :=
        if e.raised then (d.modEntry c fun e => { e with raised := false }).post .verifySchedule else d
      d.reclass c .overdue .verify

/-- The tests that follow a change of library time (R164, R179): every entry in list order, and a scheduling decision
when the overdue state of an entry has changed (R165). -/
def Device.timeChanged (d : Device) (old : Nat) : Device :=
  let d := d.postAll (d.vu.list.map fun e => .verifyOverdue e.cart)
  if d.vu.list.any fun e => e.overdue old != e.overdue d.time then d.post .verifySchedule else d

/-! ### Scheduling (R165) -/

/-- The entries whose activity is a claim or a pass (R165). -/
def Device.activities (d : Device) : Nat := (d.vu.list.filter fun e => e.activity != .none).length

/-- An entry may be given a claim: activity none and block reason none (R165). -/
def VerifyEntry.free (e : VerifyEntry) : Bool := e.activity == .none && e.block == .none

/-- A verify claim placed, which becomes the entry's activity (R165). -/
def Device.claimVerify (d : Device) (e : VerifyEntry) (kind : ClaimKind) : Device :=
  (d.modEntry e.cart fun e => { e with activity := .claim d.arb.nextOrder }).placeClaim kind (.verify e.cart)
    (.cart e.cart)

/-- A class-7 verify claim that waits, its mount not begun (R165). -/
def Claim.idleVerify (k : Claim) : Bool := k.kind == .verify && k.drive.isNone

/-- The newest of a run of claims, oldest entry order first in the list (R165). -/
def newestClaim (ks : List Claim) : Option Claim := ks.getLast?

/-- A verify claim withdrawn by the verify unit: the entry's activity becomes none (R165, R166). -/
def Device.withdrawVerify (d : Device) (c : CartId) : Device :=
  (d.withdrawOf (.verify c)).modEntry c fun e => { e with activity := .none }

/-- The steps of the scheduling decision (R165). A blocked overdue entry may claim nothing, and does not keep step 3 from
placing the head entry's claim (DESIGN CHOICE, log entry 67). -/
def Device.scheduleLoop : (fuel : Nat) → Device → Device
  | 0, d => d
  | fuel + 1, d =>
    match d.vu.list.find? fun e => e.free && e.overdue d.time with
    | some e =>
      if d.activities < Config.maxActive then Device.scheduleLoop fuel (d.claimVerify e .overdue)
      else
        match newestClaim (d.arb.claims.filter Claim.idleVerify) with
        | some k =>
          match k.owner with
          | .verify c => Device.scheduleLoop fuel (d.withdrawVerify c)
          | _ => d
        | none => d
    | none =>
      if d.activities < Config.maxActive && !d.arb.claims.any Claim.idleVerify then
        match d.vu.list.find? VerifyEntry.free with
        | some e => d.claimVerify e .verify
        | none => d
      else d

/-- The scheduling decision (R165): at most four withdrawals and four placements, and the head entry. -/
def Device.verifySchedule (d : Device) : Device := Device.scheduleLoop 9 d

/-! ### Notifications (R162) -/

/-- The overdue test and then the scheduling decision that follow a change to the list, at once (R162): where one event
concerns several cartridges, each of their changes is followed by its own test and decision before the next. -/
def Device.entryChanged (d : Device) (c : CartId) : Device := (d.overdueTest c).verifySchedule

/-- A notification of the verify unit about a cartridge (R162). An entry whose claim's mount is in progress leaves like
one whose claim waits (log entry 16). An entry that stays for its running pass with nothing due and no forced time keeps
the deadline it has, for which R161 gives no other (R173; DESIGN CHOICE, log entry 69). -/
def Device.verifyNotify (d : Device) (c : CartId) : Device :=
  match d.entry? c with
  | none => if d.belongs c none then (d.insertNew c).entryChanged c else d
  | some e =>
    if d.belongs c e.forced then (d.recompute c).entryChanged c
    else if e.activity = .pass then d
    else ((d.withdrawOf (.verify c)).removeEntry c).entryChanged c

/-- An entry blocked (R166). -/
def Device.blockEntry (d : Device) (c : CartId) (r : BlockReason) : Device :=
  ((d.withdrawVerify c).modEntry c fun e => { e with block := r }).post .verifySchedule

/-- A block reason cleared at its event (R166). -/
def Device.unblock (d : Device) (c : CartId) (r : BlockReason) : Device :=
  match d.entry? c with
  | some e => if e.block = r then (d.modEntry c fun e => { e with block := .none }).post .verifySchedule else d
  | none => d

/-! ### A pass (R167 to R172) -/

/-- The candidates of a pass (R167, step 1). -/
def Device.candidates (d : Device) (c : CartId) (forced : Option Nat) : List Part :=
  if forced.isSome then (d.partsOn c).filter Part.unsettled else d.dueParts c

/-- A part put in the order of R167: ascending first block, ties in ascending part id. -/
def insertCandidate (p : Part) : List Part → List Part
  | [] => [p]
  | q :: qs =>
    if p.firstBlock < q.firstBlock || (p.firstBlock == q.firstBlock && p.id < q.id) then p :: q :: qs
    else q :: insertCandidate p qs

/-- The parts a pass takes (R167, steps 1 to 3). -/
def Device.passParts (d : Device) (c : CartId) (forced : Option Nat) : List Part :=
  (((d.candidates c forced).foldr insertCandidate []).take Config.passParts).filter Part.verifyPinFree

/-- A pass part record (R167, step 4). -/
def PassPart.of (p : Part) : PassPart :=
  { id := p.id, jobTag := p.jobTag, firstBlock := p.firstBlock, lastBlock := p.lastBlock, firstSeq := p.firstSeq,
    lastSeq := p.lastSeq, next := p.firstSeq, acc := 0, failed := false }

/-- The map holds a part BAD. -/
def Device.isBad (d : Device) (id : Nat) : Bool := (d.part? id).any fun p => p.state == .bad

/-- The outcome of a pass part at the end of a pass (R170, step 1). -/
def Device.settlePart (d : Device) (p : PassPart) : Device :=
  if p.failed || d.isBad p.id then d
  else if p.next = p.lastSeq + 1 ∧ (d.part? p.id).any fun q => q.check == p.acc then d.setVerified p.id
  else d.setBad p.id

/-- A pass context freed, its verify pins given back (R170, steps 2 and 3; R172, steps 3 and 4). The number of drives
serving verify work falls, and the arbiter decides (R128). -/
def Device.freePass (d : Device) (p : Pass) : Device :=
  let d := p.parts.foldl (fun d q => d.unpinVerify q.id) d
  ({ d with vu := { d.vu with passes := d.vu.passes.filter fun x => x.cart != p.cart } } : Device).post .arbiter

/-- The verify list entry after the end of a pass (R170, step 4). -/
def Device.entryAfterPass (d : Device) (c : CartId) : Device :=
  let d := d.modEntry c fun e => { e with activity := .none, forced := none, raised := false }
  d.verifyNotify c

/-- The end of a pass (R170). The membership of step 4 is followed by R162's test and decision at once, so that a claim
placed there for the same cartridge waits when step 5 ends the work on the drive (DESIGN CHOICE, log entry 68). -/
def Device.endPass (d : Device) (c : CartId) : Device :=
  match d.pass? c with
  | none => d
  | some p =>
    let d := p.parts.foldl Device.settlePart d
    let d := (d.freePass p).entryAfterPass c
    (d.endWorkOf (.verify c)).post .verifySchedule

/-- The abandonment of a pass (R172); `work` says that the pass's work on the drive ends with it. The entry stays and may
claim again without a new test of its membership (DESIGN CHOICE, log entry 77). -/
def Device.abandonPass (d : Device) (c : CartId) (work : Bool) : Device :=
  match d.pass? c with
  | none => d
  | some p =>
    let d := ((d.dropXe (.pass c)).dropContext (.verify c)).freePass p
    let d := d.modEntry c fun e => { e with activity := .none }
    (if work then d.endWorkOf (.verify c) else d).post .verifySchedule

/-- A verify claim is served: the pass starts (R167). -/
def Device.passStart (d : Device) (c : CartId) (i : DriveId) : Device :=
  match d.entry? c with
  | none => d.endWorkOf (.verify c)
  | some e =>
    let parts := d.passParts c e.forced
    let first := (parts.map (·.firstBlock)).foldl min Config.max32
    let last := (parts.map (·.lastBlock)).foldl max 0
    let d := parts.foldl (fun d p => d.pinVerify p.id) d
    let p : Pass :=
      { cart := c, drive := i, state := .positioning, parts := parts.map PassPart.of, first, last, readPos := first }
    let d := { d with vu := { d.vu with passes := d.vu.passes ++ [p] } }
    let d := d.modEntry c fun e => { e with activity := .pass }
    if parts = [] then d.endPass c
    else
      (d.modDrive i fun x =>
        { x with state := .positioning, active := some (.verify c), phase := .startLocate, idleSince := none }).issue i
        (.locate first)

/-- The pass part a record of a block belongs to: the one with the lowest part id (R169). -/
def passPartOf (parts : List PassPart) (block : Nat) (q : TapeRecord) : Option PassPart :=
  let qualify := parts.filter fun p =>
    p.jobTag == q.jobTag && p.firstSeq ≤ q.seq && q.seq ≤ p.lastSeq && p.firstBlock ≤ block && block ≤ p.lastBlock
  qualify.find? fun p => qualify.all fun x => p.id ≤ x.id

/-- A pass part changed. -/
def Pass.modPart (p : Pass) (id : Nat) (g : PassPart → PassPart) : Pass :=
  { p with parts := p.parts.map fun q => if q.id = id then g q else q }

/-- A pass part fails: it is set BAD at once (R168, R169). -/
def Device.failPart (d : Device) (c : CartId) (id : Nat) : Device :=
  (d.modPass c fun p => p.modPart id fun q => { q with failed := true }).setBad id

/-- The records of a buffered block handled up to the next one to present (R169). -/
def Device.passRecords (c : CartId) (block order : Nat) : List TapeRecord → Device → Device × Bool
  | [], d => (d.modPass c fun p => { p with buffer := none }, false)
  | q :: qs, d =>
    match (d.pass? c).bind fun p => passPartOf p.parts block q with
    | none => Device.passRecords c block order qs d
    | some pp =>
      if pp.failed || d.isBad pp.id then Device.passRecords c block order qs d
      else if q.seq = pp.next then
        let d := d.modPass c fun p => { p with buffer := some ⟨block, q :: qs⟩, atXe := some (pp.id, q) }
        (d.present (.pass c) q order, true)
      else Device.passRecords c block order qs (d.failPart c pp.id)

/-- The next READ of a pass, or its end (R168, R170). -/
def Device.passNextRead (d : Device) (c : CartId) : Device :=
  match d.pass? c with
  | none => d
  | some p =>
    if p.last < p.readPos then d.endPass c
    else
      match d.driveOf (.verify c) with
      | some i => d.readOn i p.readPos
      | none => d

/-- A pass in READING goes on (R168, R169). -/
def Device.passGoOn (d : Device) (c : CartId) : Device :=
  match d.pass? c with
  | none => d
  | some p =>
    if p.state != .reading || p.atXe.isSome then d
    else
      match p.buffer with
      | none => d.passNextRead c
      | some b =>
        let order := ((d.entry? c).map (·.order)).getD 0
        let shown := Device.passRecords c b.number order b.records d
        if shown.2 then shown.1 else shown.1.passNextRead c

/-- A lost block of a pass (R168): every live pass part that covers it fails, in the order in which the pass took its
parts (DESIGN CHOICE, log entry 76). -/
def Device.passLost (d : Device) (c : CartId) (n : Nat) : Device :=
  match d.pass? c with
  | none => d
  | some p =>
    let hit := p.parts.filter fun q => q.firstBlock ≤ n && n ≤ q.lastBlock && !q.failed
    hit.foldl (fun d q => d.failPart c q.id) d

/-- A READ completed for a pass (R168). -/
def Device.passRead (d : Device) (c : CartId) (i : DriveId) (res : DriveResult) (block : Bytes) : Device :=
  match d.pass? c with
  | none => d
  | some p =>
    let n := p.readPos
    let serial := ((d.cart c).map (·.serial)).getD 0
    if res = .notReady then d.abandonPass c true
    else
      let good := if res = .ok then goodBlock block n serial else none
      match good with
      | some records =>
        let d := d.modPass c fun p => { p with buffer := some ⟨n, records⟩, retries := 0, readPos := n + 1 }
        (d.passGoOn c).pushIfReady i
      | none =>
        if p.retries < d.readRetries c then
          (d.modPass c fun p => { p with retries := p.retries + 1 }).readOn i n
        else
          let d := (d.modPass c fun p => { p with retries := 0, readPos := n + 1 }).passLost c n
          (d.passGoOn c).pushIfReady i

/-- The result of a pass's record (R169). -/
def Device.passResult (d : Device) (c : CartId) (res : XeResult) : Device :=
  match d.pass? c with
  | none => d
  | some p =>
    match p.atXe with
    | none => d
    | some (id, q) =>
      let d := d.modPass c fun p =>
        { p with
          atXe := none, kept := none, buffer := p.buffer.map fun b => { b with records := b.records.tail } }
      let d : Device :=
        match res with
        | .good _ crc => d.modPass c fun p => p.modPart id fun x => { x with acc := x.acc + crc, next := q.seq + 1 }
        | _ => d.failPart c id
      d.passGoOn c

/-- The XE returns a result to a pass: a SUSPENDED one keeps it (R40, R171). -/
def Device.resultToPass (d : Device) (c : CartId) (res : XeResult) : Device :=
  match d.pass? c with
  | none => d
  | some p =>
    if p.state = .reading then d.passResult c res else d.modPass c fun p => { p with kept := some res }

/-- A pass whose context was popped and whose LOCATE is OK goes on (R171). -/
def Device.passResume (d : Device) (c : CartId) : Device :=
  let d := d.modPass c fun p => { p with state := .reading }
  match (d.pass? c).bind (·.kept) with
  | some res => d.passResult c res
  | none => d.passGoOn c

/-- A pass's context is pushed (R171). -/
def Device.passPushed (d : Device) (c : CartId) : Device :=
  let listed := d.inXeList (.pass c)
  let d := d.withdrawXe (.pass c)
  d.modPass c fun p => { p with state := .suspended, atXe := if listed then none else p.atXe }

end Sys2Proof.Machine
end

