-- ==== Sys2Proof/Machine/DriveEvents.lean ====
section
/-!
DEFINITION. What a drive port does with a completion, a timeout and a reset (R123, R124, R130 to R142), and with the
reports it makes and takes: a served claim, a push, a move's end, a rescan, an inventory's end and a changed location.
-/
namespace Sys2Proof.Machine

/-! ### Completions as they arrive (R123, R124) -/

/-- The results each command can give besides HARDWARE_ERROR (R124). -/
def canAnswer (c : CmdName) (r : DriveResult) : Bool :=
  match r with
  | .ok | .notReady | .hardwareError => true
  | .endOfMedium => c == .write
  | .blank => c == .read || c == .locate || c == .write
  | .mediumError => c == .read || c == .write || c == .locate || c == .locateEnd || c == .clean

/-- A result that its command cannot give is taken as HARDWARE_ERROR (R124). -/
def takenAs (c : CmdName) (r : DriveResult) : DriveResult := if canAnswer c r then r else .hardwareError

/-- The position after an OK completion (Table 7-2); `found` is what a LOCATE_END carries. -/
def positionOk (cmd : DriveCmd) (pos : Option Nat) (found : Nat) : Option Nat :=
  match cmd with
  | .load => some 0
  | .unload => none
  | .locate n => some n
  | .locateEnd => some found
  | .read n => some (n + 1)
  | .write _ => pos.map (· + 1)
  | .speed _ | .clean => pos

/-- A BLANK of a READ 0 or a LOCATE 0 (R124). -/
def blankAtStart (cmd : DriveCmd) : Bool :=
  match cmd with
  | .read n | .locate n => n == 0
  | _ => false

/-- The position after a completion (R124). -/
def positionAfter (cmd : DriveCmd) (r : DriveResult) (pos : Option Nat) (found : Nat) : Option Nat :=
  match r with
  | .ok | .endOfMedium => positionOk cmd pos found
  | .blank => if blankAtStart cmd then some 0 else none
  | _ => none

/-- A completion that is a drive fault (R140). -/
def isFault (c : CmdName) (r : DriveResult) : Bool := r == .hardwareError || (c == .load && r != .ok)

/-- The timeout of a command in seconds (Table 7-2). -/
def CmdName.timeout : CmdName → Nat
  | .load | .unload => 180
  | .locate | .locateEnd | .clean => 600
  | .read | .write | .speed => 60

/-! ### Resets (R141) -/

/-- A running move of a drive's element (R141, step 3). -/
def Device.elementMoving (d : Device) (i : DriveId) : Bool :=
  d.changer.moves.any fun m => m.running && (m.src == driveElem i || m.dst == some (driveElem i))

/-- A drive port's queued moves withdrawn by a reset (R141, step 1). A reset that a rescan causes leaves a move that
R120 has re-queued, which is the one with an entry order older than every other. -/
def Device.resetMoves (d : Device) (i : DriveId) (rescan : Bool) : Device :=
  ((d.movesOf i).filter fun m => !m.running && !(rescan && m.order < 0)).foldl (fun d m => d.dropMove m.id) d

/-- A host move out of the drive that stands ready is not ready until the drive presents its load again (R141). R141 says
it of a move with a HOST claim; that of a FOREIGN load at the mouth without one (R142) waits in the same way (DESIGN
CHOICE, log entry 88). -/
def Device.unreadyHost (d : Device) (i : DriveId) : Device :=
  match d.hostMoveFrom i with
  | some m => d.modMove m.id fun m => { m with ready := false }
  | none => d

/-- A piece of work ended by a drive reset or a halting fault (R141, step 2). -/
def Device.endContext (d : Device) (w : Work) : Device :=
  match w with
  | .feed f => d.feedUnbind f
  | .restore r => d.endRestore r .drive
  | .verify c => d.abandonPass c false
  | .finalize c => d.finalizeEnd c .drive
  | .cleaning => d

/-- The active work and every context of a drive ended, top first, and its assigned claim returned (R141, step 2). -/
def Device.endContexts (d : Device) (i : DriveId) : Device :=
  let x := d.drive i
  let works := x.active.toList ++ x.stack.reverse.map (·.work)
  let d := d.modDrive i fun x =>
    { x with
      active := none, stack := [], suspendFor := none, released := false, idleSince := none, hostIn := false,
      phase := .rest }
  (works.foldl Device.endContext d).returnClaim i

/-- The unload of a drive reset (R141, step 3): with the drive element EMPTY the drive is EMPTY. -/
def Device.resetStep3 (d : Device) (i : DriveId) : Device :=
  if (d.elem (driveElem i)).content = .empty then
    (d.modDrive i fun x => { x with found := none }).driveEmptied i
  else
    let d := d.modDrive i fun x => { x with cart := d.occupant (driveElem i) }
    d.startUnload i .resetUnload

/-- The drive reset (R141). Its steps do not name the position: it is UNKNOWN from step 1 on, as after a command that
did not complete OK (R124; DESIGN CHOICE, log entry 71). -/
def Device.driveReset (d : Device) (i : DriveId) (rescan : Bool) : Device :=
  let d := (d.modDrive i fun x => { x with outstanding := [], position := none }).resetMoves i rescan
  let d := (d.endContexts i).unreadyHost i
  let d := d.modDrive i fun x => { x with faultCause := none }
  if d.elementMoving i then d.setDrive i .unloading .resetWait else d.resetStep3 i

/-- A FINALIZE whose claim is assigned to a drive that faults ends with DRIVE (R93). A host RESET_DRIVE is no fault: the
claim it finds assigned returns to waiting (R141) (DESIGN CHOICE, log entry 52). A FINALIZE that is the active work ends
as step 2 of R141 has it. -/
def Device.faultFinalize (d : Device) (i : DriveId) : Device :=
  match d.assignedOwner i with
  | some (.finalize c) => if (d.drive i).active = some (.finalize c) then d else d.finalizeEnd c .drive
  | _ => d

/-- A drive fault (R140), or the failure of a reset's unload (R141, step 4). -/
def Device.driveFault (d : Device) (i : DriveId) (cause : FaultCause) : Device :=
  let x := d.drive i
  let d := ((d.modDrive i fun x => { x with state := .fault, faultCause := some cause }).raise .driveFault
    (.number i)).faultFinalize i
  if x.phase != .resetUnload && !x.autoReset then
    (d.modDrive i fun x => { x with autoReset := true }).driveReset i false
  else
    ((d.modDrive i fun x => { x with outstanding := [] }).resetMoves i false).endContexts i

/-- A completion taken (R123, R124, R140): discarded when its number or its command is not that of the oldest
outstanding command; a drive fault; or handed on by `k` with the command it answers and its result. A HARDWARE_ERROR is
a drive fault (R124, R140) also for a WRITE whose block has been returned to staging, of which R53 says that it is
discarded whatever its result (DESIGN CHOICE, log entry 53). -/
def Device.completion (d : Device) (i : DriveId) (number : BitVec 16) (name : CmdName) (r : DriveResult)
    (found : Nat) (k : Device → DriveCmd → DriveResult → Device) : Device :=
  match (d.drive i).outstanding with
  | [] => d
  | o :: os =>
    if o.number = number ∧ o.cmd.name = name then
      let r := takenAs name r
      let d := d.modDrive i fun x =>
        { x with outstanding := os, position := positionAfter o.cmd r x.position found }
      if isFault name r then d.driveFault i ⟨name, r⟩ else (k d o.cmd r).post (.suspendCheck i)
    else d

/-- A command timeout (R124): the oldest outstanding command is taken as answered HARDWARE_ERROR. -/
def Device.commandTimedOut (d : Device) (i : DriveId) : Device :=
  match (d.drive i).outstanding with
  | [] => d
  | o :: os =>
    if o.issued + o.cmd.name.timeout ≤ d.now then
      (d.modDrive i fun x => { x with outstanding := os, position := none }).driveFault i ⟨o.cmd.name, .hardwareError⟩
    else d

/-! ### LOAD and UNLOAD (R130, R135, R142) -/

/-- A FINALIZE whose cartridge an EDIT has made a cleaning cartridge before its mount (R85) has failed: it ends with
MEDIA (R93; DESIGN CHOICE, log entry 52). -/
def Device.cleaningLoaded (d : Device) (i : DriveId) : Device :=
  match d.assignedOwner i with
  | some (.finalize c) => d.finalizeEnd c .media
  | _ => d

/-- An OK completion of LOAD (R130, R137, R142). -/
def Device.loadEnd (d : Device) (i : DriveId) : Device :=
  let d := d.modDrive i fun x => { x with autoReset := false }
  match (d.drive i).phase with
  | .load =>
    let d := d.modDrive i fun x => { x with mountTime := some d.now }
    if (d.driveCart i).any fun x => x.2.kind == .cleaning then (d.cleaningLoaded i).beginClean i
    else d.beginLabel i
  | .powerLoad => (d.setPhase i .powerRead).issue i (.read 0)
  | _ => d

/-- A load stands at the drive mouth without an entry of its own (R142): a host move out of the drive is made ready. -/
def Device.toPowerMouth (d : Device) (i : DriveId) : Device :=
  (d.setPhase i .powerMouth).presentHost i

/-- A reset's or the power-on UNLOAD is OK (R141, R142): a known cartridge is returned, and an unknown one is
identified from its label. -/
def Device.presented (d : Device) (i : DriveId) : Device :=
  match (d.drive i).cart, (d.elem (driveElem i)).content with
  | some _, _ => d.askReturn i
  | none, .unknown _ =>
    if (d.drive i).found.isSome then d.toPowerMouth i else (d.setPhase i .powerLoad).issue i .load
  | none, _ => d.toPowerMouth i

/-- An UNLOAD completed OK or NOT_READY (R135, R141, R142). A cartridge that an INVENTORY has placed during the
identification's second UNLOAD is returned to a slot. -/
def Device.unloadEnd (d : Device) (i : DriveId) (r : DriveResult) : Device :=
  if r = .ok then
    match (d.drive i).phase with
    | .unload => d.askReturn i
    | .hostUnload => d.prepareHost i
    | .resetUnload | .powerUnload => d.presented i
    | .powerUnloadAgain => if (d.drive i).cart.isSome then d.askReturn i else d.toPowerMouth i
    | _ => d
  else
    let d := d.scanEmpty (driveElem i)
    (d.modDrive i fun x => { x with found := none }).driveEmptied i

/-! ### LOCATE and LOCATE_END (R132, R133, R139, R149, R167) -/

/-- The active work of a drive reads on at its position: READING for a restore, VERIFYING for a pass (R149, R167). -/
def Device.startReading (d : Device) (i : DriveId) : Device :=
  match (d.drive i).active with
  | some (.restore r) =>
    let d := d.setDrive i .reading .working
    (d.modRestore r fun e => { e with state := .reading }).restoreGoOn r
  | some (.verify c) =>
    let d := d.setDrive i .verifying .working
    (d.modPass c fun p => { p with state := .reading }).passGoOn c
  | _ => d

/-- A popped context resumes at its block (R139, R150, R171). -/
def Device.resumeReading (d : Device) (i : DriveId) : Device :=
  match (d.drive i).active with
  | some (.restore r) => (d.setDrive i .reading .working).restoreResume r
  | some (.verify c) => (d.setDrive i .verifying .working).passResume c
  | _ => d

/-- The second failed LOCATE of a popped context (R139, R150, R172). -/
def Device.popLost (d : Device) (i : DriveId) : Device :=
  match (d.drive i).active with
  | some (.restore r) => d.endRestore r .drive
  | some (.verify c) => d.abandonPass c true
  | _ => d

/-- The feed that writes on a drive, and the cartridge it holds there. -/
def Device.writingFeed (d : Device) (i : DriveId) : Option (FeedId × CartId × Cart) :=
  match (d.drive i).active, d.driveCart i with
  | some (.feed f), some (c, e) => some (f, c, e)
  | _, _ => none

/-- The checks after a pop of a WRITE context have failed (R60, R139). -/
def Device.popMismatch (d : Device) (i : DriveId) : Device :=
  match d.writingFeed i with
  | some (f, c, _) => (d.eodMismatch c).feedResumeFailed f
  | none => d

/-- The checks after a pop of a WRITE context are good: the feed has its drive again (R60, R139). -/
def Device.popGood (d : Device) (i : DriveId) (f : FeedId) (e : Cart) : Device :=
  let d := d.modDrive i fun x => { x with state := .writing, phase := .working, position := e.eod }
  d.feedResumed f

/-- The LOCATE after the pop of a WRITE context (R139). -/
def Device.popLocated (d : Device) (i : DriveId) (r : DriveResult) : Device :=
  match d.writingFeed i with
  | none => d
  | some (_, _, e) =>
    let eod := e.eod.getD 1
    if r != .ok then d.popMismatch i
    else if eod ≤ 1 then (d.setPhase i (.popLabelRead 0)).issue i (.read 0)
    else (d.setPhase i (.appendRead 0 true)).issue i (.read (eod - 1))

/-- A LOCATE n completed, its result not a drive fault (R123, R133, R139, R149, R157, R167). -/
def Device.locateDone (d : Device) (i : DriveId) (cmd : DriveCmd) (r : DriveResult) : Device :=
  match (d.drive i).phase with
  | .startLocate => d.startReading i
  | .popLocate again =>
    if r = .ok then d.resumeReading i
    else if again then d.popLost i
    else (d.setPhase i (.popLocate true)).issue i cmd
  | .popAppendLocate => d.popLocated i r
  | .labelLocate job =>
    match (d.drive i).cart with
    | some c => if r = .ok then d.writeLabel i c job else d.labelFailed i c
    | none => d
  | .ending => d.workEnded i
  | _ => d

/-! ### READ (R131, R132, R139, R142, R151, R168) -/

/-- A READ EOD - 1 after the pop of a WRITE context (R132, R139). -/
def Device.popAppendRead (d : Device) (i : DriveId) (retries : Nat) (r : DriveResult) (block : Bytes) : Device :=
  match d.writingFeed i with
  | none => d
  | some (f, c, e) =>
    let n := e.eod.getD 1 - 1
    if rereads r block && retries < d.readRetries c then
      (d.setPhase i (.appendRead (retries + 1) true)).issue i (.read n)
    else if r = .ok then
      match tailCheck block n e.serial with
      | .good => d.popGood i f e
      | .final => (d.markFinalized c).feedResumeFailed f
      | .mismatch => d.popMismatch i
    else d.popMismatch i

/-- A READ 0 after the pop of a WRITE context whose EOD is 1 (R139). -/
def Device.popLabelRead (d : Device) (i : DriveId) (retries : Nat) (r : DriveResult) (block : Bytes) : Device :=
  match d.writingFeed i with
  | none => d
  | some (f, c, e) =>
    let good := (labelShaped block).any fun b => b.barcode == e.barcode && b.serial == e.serial
    if rereads r block && retries < d.readRetries c then
      (d.setPhase i (.popLabelRead (retries + 1))).issue i (.read 0)
    else if r == .ok && good then d.popGood i f e
    else d.popMismatch i

/-- The READ 0 of the power-on identification (R142). -/
def Device.identified (d : Device) (i : DriveId) (r : DriveResult) (block : Bytes) : Device :=
  let found : Found :=
    match if r = .ok then labelShaped block else none with
    | some b => .barcode b.barcode
    | none => .unreadable
  (d.modDrive i fun x => { x with found := some found, phase := .powerUnloadAgain }).issue i .unload

/-- A READ completed, its result not a drive fault, handed to the work it belongs to (R124). -/
def Device.readDone (d : Device) (i : DriveId) (r : DriveResult) (block : Bytes) : Device :=
  match (d.drive i).phase with
  | .label retries => d.labelRead i retries r block
  | .appendRead retries false => d.appendReadEnd i retries r block
  | .appendRead retries true => d.popAppendRead i retries r block
  | .popLabelRead retries => d.popLabelRead i retries r block
  | .powerRead => d.identified i r block
  | .working =>
    match (d.drive i).active with
    | some (.restore x) => d.restoreRead x i r block
    | some (.verify c) => d.passRead c i r block
    | _ => d
  | .ending => d.workEnded i
  | _ => d

/-! ### WRITE and SPEED (R53, R56, R133, R134) -/

/-- The FINAL WRITE completed (R134). -/
def Device.finalWritten (d : Device) (i : DriveId) (cmd : DriveCmd) (r : DriveResult) : Device :=
  match (d.drive i).cart, cmd with
  | some c, .write b =>
    if r = .ok ∨ r = .endOfMedium then (d.finalizeDone c b.number).idleOrUnmount i
    else ((d.markFull c true).finalizeEnd c .media).idleOrUnmount i
  | _, _ => d

/-- A WRITE completed, its result not a drive fault (R53, R133, R134); one of a FINALIZE that has ended is let complete
(R157). -/
def Device.writeDone (d : Device) (i : DriveId) (cmd : DriveCmd) (r : DriveResult) : Device :=
  match (d.drive i).phase with
  | .labelWrite job =>
    match (d.drive i).cart with
    | some c => if r = .ok then d.labelled i c job else d.labelFailed i c
    | none => d
  | .finalWrite => d.finalWritten i cmd r
  | .ending => d.workEnded i
  | _ =>
    match (d.drive i).active with
    | some (.feed f) => d.feedWrite f r
    | _ => d

/-- A SPEED completed, its result not a drive fault (R56). -/
def Device.speedDone (d : Device) (i : DriveId) : Device :=
  match (d.drive i).active with
  | some (.feed f) => d.feedSpeed f
  | _ => d

/-! ### Reports between the ports and the owners -/

/-- A drive is handed to its owner, which positions it (R126, R149, R167). -/
def Device.serve (d : Device) (i : DriveId) (w : Work) : Device :=
  if (d.drive i).active = some w then
    match w with
    | .restore r => d.restoreServed r i
    | .verify c => d.passStart c i
    | _ => d
  else d

/-- A work that only the bottom of a stack may hold: a WRITE context's (R138). -/
def Work.isFeed : Work → Bool
  | .feed _ => true
  | _ => false

/-- Whether a context of this work may be pushed (R138): below 2 contexts, and a WRITE context only at the bottom. -/
def Drive.takesPush (x : Drive) (w : Work) : Bool :=
  x.stack.length < Config.stackDepth && (!w.isFeed || x.stack.isEmpty)

/-- The context of a drive's active work pushed, and the suspending claim served (R138). A pass pushed makes the number
of drives serving verify work fall, and the arbiter decides (R128). -/
def Device.push (d : Device) (i : DriveId) (w : Work) (resume order : Nat) : Device :=
  match d.claim? order with
  | none => d
  | some k =>
    let d := d.modDrive i fun x =>
      { x with
        stack := if x.takesPush w then x.stack ++ [⟨w, resume⟩] else x.stack, suspendFor := none, phase := .rest }
    let d : Device :=
      match w with
      | .verify _ => d.post .arbiter
      | _ => d
    match k.owner with
    | .restore r =>
      ((d.removeClaim order).modDrive i fun x => { x with active := some (.restore r) }).post (.serve i (.restore r))
    | _ => d

/-- The push of a suspended piece of work, once it has nothing outstanding (R60, R138, R150, R171). R138 gives the resume
block of a RESTORE and of a VERIFY context; that of a WRITE context is the cartridge's EOD (DESIGN CHOICE, log entry
62). -/
def Device.pushWork (d : Device) (i : DriveId) (w : Work) (order : Nat) : Device :=
  if (d.drive i).outstanding != [] then d
  else
    match w with
    | .feed f =>
      if (d.feed f).any fun x => x.suspending && x.quiet then
        (d.feedPushed f).push i w ((((d.driveCart i).bind fun x => x.2.eod)).getD 1) order
      else d
    | .restore r =>
      match d.restore? r with
      | some e => (d.restorePushed r).push i w (e.readPos.getD 0) order
      | none => d
    | .verify c =>
      match d.pass? c with
      | some p => (d.passPushed c).push i w p.readPos order
      | none => d
    | _ => d

/-- A suspension cancelled before the push (R60, R138): a feed drops SUSPEND, a restore or a pass reads on. -/
def Device.resumeCancelled (d : Device) (i : DriveId) : Device :=
  match (d.drive i).active with
  | some (.feed f) => if (d.feed f).any (·.suspending) then d.feedUnsuspend f else d
  | some (.restore r) =>
    if (d.drive i).phase = .working ∧ (d.drive i).outstanding = [] then d.restoreGoOn r else d
  | some (.verify c) =>
    if (d.drive i).phase = .working ∧ (d.drive i).outstanding = [] then d.passGoOn c else d
  | _ => d

/-- The push, or the cancellation, of a suspension (R138). A CLEAN_REQUEST that comes between the decision and the push
does not stop it: the context is pushed and the restore claim served (R137; DESIGN CHOICE, log entry 72). -/
def Device.pushReady (d : Device) (i : DriveId) : Device :=
  match (d.drive i).suspendFor, (d.drive i).active with
  | some k, some w => d.pushWork i w k
  | none, some _ => d.resumeCancelled i
  | _, none => d

/-- A claim's owner is told that the label does not match (R131, R148, R166). -/
def Device.claimFailed (d : Device) (o : Owner) : Device :=
  match o with
  | .restore r => d.endRestore r .media
  | .verify c =>
    (d.modEntry c fun e => { e with block := .label, activity := .none }).post .verifySchedule
  | _ => d

/-- The owner of a waiting claim is told that its cartridge is OUTSIDE or UNKNOWN (R93, R148, R166). -/
def Device.tellLost (d : Device) (k : Claim) : Device :=
  match k.owner with
  | .restore r => d.endRestore r .media
  | .verify c => d.blockEntry c .media
  | .finalize c => d.finalizeEnd c .media
  | _ => d

/-- A FINALIZE of a cartridge that is OUTSIDE or UNKNOWN ends with MEDIA however far it has come (R93): its claim
waiting or assigned, or its FINAL WRITE out, which is let complete (DESIGN CHOICE, log entry 52). -/
def Device.finalizeLost (d : Device) (c : CartId) : Device :=
  if (d.claimOf (.finalize c)).isSome || (d.driveOf (.finalize c)).isSome then
    (d.finalizeEnd c .media).endWorkOf (.finalize c)
  else d

/-- A cartridge's location looked at (R93, R127, R128, R148, R166). -/
def Device.locationChanged (d : Device) (c : CartId) : Device :=
  let d : Device :=
    match entryLocation (d.cart c) with
    | some (.at e) => if e = pickerElem then d else d.unblock c .media
    | some _ =>
      ((d.arb.claims.filter fun k => k.drive.isNone && k.target == .cart c).foldl Device.tellLost d).finalizeLost c
    | none => d
  d.post .arbiter

/-- The signal that a cartridge may be taken for a pool (R44, R96, R129): the FEED claims of the pool tell their feeds that
media has returned, and the arbiter decides. A claim that had reported no media, and that a decision at the same event has
given a drive already, tells its feed too (log entry 82). -/
def Device.mediaReturned (d : Device) (p : PoolId) : Device :=
  let ks := d.arb.claims.filter fun k => k.target == .pool p
  let d := ks.foldl
    (fun d k =>
      let d := d.modClaim k.order fun k => { k with reported := false }
      match k.owner with
      | .feed f => d.setStall f fun s => { s with noMedia := false }
      | _ => d) d
  d.post .arbiter

/-! ### Moves that have ended (R114, R130, R134, R135, R141) -/

/-- A move into drive j is DONE (R130, R134): an EMPTY drive takes the load in; `host` for the cartridge of a host
MOVE. -/
def Device.takenIn (d : Device) (j : DriveId) (m : Move) (host : Bool) : Device :=
  if (d.drive j).state = .empty then d.mountDone j m.load host else d

/-- A move that drive i has asked for into another drive, that of a host MOVE asked for again (R134, R135; log entry 51),
has ended: a reset of the other drive that waited for it goes on with its step 3 (R141), and otherwise a load that is DONE
is taken in there. -/
def Device.passedOn (d : Device) (i : DriveId) (m : Move) (r : MoveResult) : Device :=
  match m.dst.bind driveOfElem? with
  | some j =>
    if j = i then d
    else if (d.drive j).phase = .resetWait then d.resetStep3 j
    else if r = .done then d.takenIn j m true
    else d
  | none => d

/-- The end of a drive port's own move. -/
def Device.driveMoveEnded (d : Device) (i : DriveId) (m : Move) (r : MoveResult) : Device :=
  let d : Device :=
    if (d.drive i).phase = .resetWait then d.resetStep3 i
    else if m.dst = some (driveElem i) then
      if r = .done then d.takenIn i m false
      else if (d.drive i).phase = .mountMove then ((d.setPhase i .rest).returnClaim i).post .arbiter
      else d
    else if (d.drive i).phase = .returning then d.returnEnded i m r
    else d
  d.passedOn i m r

/-- The claims of a host move leave the list at its end (R134). -/
def Device.releaseHostClaims (d : Device) (m : Nat) : Device :=
  (d.arb.claims.filter fun k => k.owner == .hostMove m).foldl
    (fun d k =>
      let d := d.removeClaim k.order
      match k.drive with
      | some i => d.modDrive i fun x => { x with claim := none }
      | none => d) d

/-- The source drive of a host move that has ended (R134, R142). -/
def Device.hostSource (d : Device) (i : DriveId) (m : Move) (r : MoveResult) : Device :=
  match (d.drive i).phase with
  | .resetWait => d.resetStep3 i
  | .hostMove => d.returnEnded i m r
  | .powerMouth =>
    if r = .done ∨ d.whereIs m.load != some (driveElem i) then
      (d.modDrive i fun x => { x with found := none }).driveEmptied i
    else d
  | _ => d

/-- The destination drive of a host move that has ended (R130, R134). -/
def Device.hostDestination (d : Device) (i : DriveId) (m : Move) (r : MoveResult) : Device :=
  if (d.drive i).phase = .resetWait then d.resetStep3 i
  else if r = .done then d.takenIn i m true
  else if (d.drive i).phase = .hostMove then (d.setPhase i .rest).post .arbiter
  else d

/-- A move's end taken by its requester (R114). -/
def Device.moveEnded (d : Device) (m : Move) (r : MoveResult) : Device :=
  match m.requester with
  | .drive i => d.driveMoveEnded i m r
  | .host =>
    let d := d.releaseHostClaims m.id
    let d : Device :=
      match driveOfElem? m.src with
      | some i => d.hostSource i m r
      | none => d
    let d : Device :=
      match m.dst.bind driveOfElem? with
      | some i => d.hostDestination i m r
      | none => d
    d.post .arbiter
  | .changer => d

/-! ### Rescans and inventories (R141, R142) -/

/-- The test of a drive port after a rescan of its element (R141): a reset when the element is not as the port has it. An
earlier reset whose step 3 has waited for a running move, which R120 has re-queued, goes on with it: no move of the
element runs (DESIGN CHOICE, log entry 94). -/
def Device.driveRescan (d : Device) (i : DriveId) : Device :=
  let content := (d.elem (driveElem i)).content
  let asHeld : Bool :=
    match (d.drive i).cart with
    | some c => content == .occupied c
    | none => content == .empty
  if !asHeld then d.driveReset i true
  else if (d.drive i).phase = .resetWait ∧ d.elementMoving i = false then d.resetStep3 i
  else d

/-- A found barcode applied at the end of an INVENTORY as a scan of the drive element, and the cartridge so placed
returned to a slot (R142). -/
def Device.applyFound (d : Device) (i : DriveId) : Device :=
  match (d.drive i).found with
  | none => d
  | some x =>
    let e := driveElem i
    let d : Device :=
      match x with
      | .barcode b => (d.scanBarcode e b).1
      | .unreadable => d.scanUnreadable e
    let d := d.modDrive i fun x => { x with found := none, cart := d.occupant e }
    if (d.drive i).phase = .powerMouth ∧ (d.drive i).cart.isSome then d.askReturn i else d

/-- The found barcodes applied at the end of an INVENTORY (R142), in ascending drive number (DESIGN CHOICE, log entry
90). -/
def Device.inventoryDone (d : Device) : Device := allDrives.foldl Device.applyFound d

end Sys2Proof.Machine
end

