-- ==== Sys2Proof/Machine/Settle.lean ====
section
/-!
DEFINITION. The decisions a command owes, carried out in the same step (spec/95: each step is whole and indivisible):
one task, the agenda worked off oldest first, and the outcome of a command that may owe decisions.
-/
namespace Sys2Proof.Machine

/-- One decision or handing over carried out. -/
def Device.perform (d : Device) (t : Task) : Device :=
  match t with
  | .ceSearch => d.ceSearch
  | .bind => d.bindAll
  | .feedDecide f => d.feedDecide f
  | .feedProgress f => d.feedProgress f
  | .memberLeft f => d.memberLeft f
  | .mapRelease => allFeeds.foldl Device.askAgain d
  | .arbiter => d.arbitrate
  | .suspendCheck i => d.checkSuspension i
  | .pushReady i => d.pushReady i
  | .serve i w => d.serve i w
  | .claimFailed o => d.claimFailed o
  | .media p => d.mediaReturned p
  | .location c => d.locationChanged c
  | .verifyNotify c => d.verifyNotify c
  | .verifyOverdue c => d.overdueTest c
  | .verifySchedule => d.verifySchedule
  | .promote => d.promote
  | .xe => d.xeChoose
  | .picker => d.pickerChoose
  | .mouth => d.askAllReturns
  | .moveEnded m r => d.moveEnded m r
  | .driveRescan i => d.driveRescan i
  | .inventoryDone => d.inventoryDone

/-- The decisions made due, carried out oldest first, until none is left or the bound is used up. -/
def Device.settleLoop : (fuel : Nat) → Device → Device
  | 0, d => d
  | fuel + 1, d =>
    match d.agenda with
    | [] => d
    | t :: ts => Device.settleLoop fuel (({ d with agenda := ts } : Device).perform t)

/-- The bound on the decisions of one step (DESIGN CHOICE, log entry 1). -/
def Device.settleBound : Nat := 1000000

/-- Every decision a command owes carried out (spec/95). -/
def Device.settle (d : Device) : Device := d.settleLoop Device.settleBound

/-- The outcome of a command: its change of the device, and the decisions that change makes due. -/
def State.run (s : State) (g : Device → Device) : Host.Outcome State Fault Refusal :=
  .next { s with dev := (g { s.dev with moment := s.dev.moment + 1 }).settle }

end Sys2Proof.Machine
end

