-- ==== Sys2Proof/Machine/Names.lean ====
section
/-!
DEFINITION. How a RESP spells the values of the device (R189), and how a request is checked and answered (R174, R89).
The item names and the widths of the numbers are the model's where the owning rule does not spell them (log entry 17).
-/
namespace Sys2Proof.Machine

/-! ### Names -/

/-- A flag's name. -/
def flagName (b : Bool) : String := if b then "SET" else "CLEAR"
/-- A yes-or-no answer's name. -/
def yesName (b : Bool) : String := if b then "YES" else "NO"
/-- A switch's name. -/
def onName (b : Bool) : String := if b then "ON" else "OFF"

/-- Stream states (Table 1-2). -/
def StreamState.name : StreamState → String
  | .closed => "CLOSED"
  | .waiting => "WAITING"
  | .bound => "BOUND"
  | .stalled => "STALLED"
  | .ending => "ENDING"

/-- Policies (R31). -/
def policyName : Policy → String
  | .always => "ALWAYS"
  | .never => "NEVER"
  | .adaptive => "ADAPTIVE"

/-- Feed states (Table 3-2). -/
def FeedState.name : FeedState → String
  | .unbound => "UNBOUND"
  | .filling => "FILLING"
  | .streaming => "STREAMING"
  | .paused => "PAUSED"
  | .spanning => "SPANNING"
  | .suspended => "SUSPENDED"
  | .retiring => "RETIRING"

/-- Part states (Table 4-2). -/
def partStateName : PartState → String
  | .open => "OPEN"
  | .closed => "CLOSED"
  | .verified => "VERIFIED"
  | .suspect => "SUSPECT"
  | .bad => "BAD"

/-- Cartridge kinds (Table 5-1). -/
def kindName : CartKind → String
  | .data => "DATA"
  | .cleaning => "CLEANING"

/-- Protections (Table 5-2). -/
def protectionName : Protection → String
  | .writable => "WRITABLE"
  | .locked => "LOCKED"
  | .held => "HELD"
  | .finalized => "FINALIZED"

/-- Reason codes (Table 5-1). -/
def Reason.name : Reason → String
  | .none => "NONE"
  | .eodMismatch => "EOD_MISMATCH"
  | .labelMismatch => "LABEL_MISMATCH"

/-- Picker states (Table 6-2). -/
def PickerState.name : PickerState → String
  | .idle => "IDLE"
  | .moving => "MOVING"
  | .scanning => "SCANNING"
  | .fault => "FAULT"

/-- Causes of a failed move (Table 6-3). -/
def MoveCause.name : MoveCause → String
  | .start => "START"
  | .grip => "GRIP"
  | .sourceEmpty => "SOURCE_EMPTY"
  | .destinationOccupied => "DESTINATION_OCCUPIED"
  | .lost => "LOST"

/-- Drive states (Table 7-4). -/
def DriveState.name : DriveState → String
  | .empty => "EMPTY"
  | .loading => "LOADING"
  | .labelCheck => "LABEL_CHECK"
  | .appendCheck => "APPEND_CHECK"
  | .mountedIdle => "MOUNTED_IDLE"
  | .positioning => "POSITIONING"
  | .writing => "WRITING"
  | .reading => "READING"
  | .verifying => "VERIFYING"
  | .cleaning => "CLEANING"
  | .unloading => "UNLOADING"
  | .fault => "FAULT"

/-- Drive commands (Table 7-2). -/
def CmdName.text : CmdName → String
  | .load => "LOAD"
  | .unload => "UNLOAD"
  | .locate => "LOCATE"
  | .locateEnd => "LOCATE_END"
  | .read => "READ"
  | .write => "WRITE"
  | .speed => "SPEED"
  | .clean => "CLEAN"

/-- Completion results (R124). -/
def driveResultName : DriveResult → String
  | .ok => "OK"
  | .mediumError => "MEDIUM_ERROR"
  | .notReady => "NOT_READY"
  | .hardwareError => "HARDWARE_ERROR"
  | .endOfMedium => "END_OF_MEDIUM"
  | .blank => "BLANK"

/-- Context kinds (Table 7-1). -/
def Work.kindName : Work → String
  | .feed _ => "FEED"
  | .restore _ => "RESTORE"
  | .verify _ => "VERIFY"
  | .finalize _ => "HOST"
  | .cleaning => "CLEANING"

/-- The owner of a piece of work on drive i, as a number: a feed, a restore channel, a cartridge, or for CLEANING the
drive port itself (Tables 7-1 and 7-5). -/
def Work.ownerNumber (i : DriveId) : Work → Nat
  | .feed f => f.val
  | .restore r => restoreChannel r
  | .verify c => c.val
  | .finalize c => c.val
  | .cleaning => i.val

/-- Claim kinds (Table 7-5). -/
def ClaimKind.name : ClaimKind → String
  | .urgent => "URGENT"
  | .cleaning => "CLEANING"
  | .overdue => "OVERDUE"
  | .feed => "FEED"
  | .normal => "NORMAL"
  | .host => "HOST"
  | .verify => "VERIFY"

/-- Parameters (Table 0-4). -/
def paramName : Param → String
  | .startLevel => "START_LEVEL"
  | .assemblyTimeout => "ASSEMBLY_TIMEOUT"
  | .minimumDwell => "MINIMUM_DWELL"
  | .idleUnmount => "IDLE_UNMOUNT"
  | .verifyDriveLimit => "VERIFY_DRIVE_LIMIT"
  | .restoreStallLimit => "RESTORE_STALL_LIMIT"

/-- Event kinds (Table 10-3). -/
def EventKind.name : EventKind → String
  | .powerOn => "POWER_ON"
  | .pickerFault => "PICKER_FAULT"
  | .driveFault => "DRIVE_FAULT"
  | .mapFull => "MAP_FULL"
  | .segmentBad => "SEGMENT_BAD"
  | .eodMismatch => "EOD_MISMATCH"
  | .labelMismatch => "LABEL_MISMATCH"
  | .segmentSuspect => "SEGMENT_SUSPECT"
  | .verifyOverdue => "VERIFY_OVERDUE"
  | .streamOverrun => "STREAM_OVERRUN"
  | .noMedia => "NO_MEDIA"
  | .cartridgeFull => "CARTRIDGE_FULL"
  | .cleanDue => "CLEAN_DUE"
  | .operationEnd => "OPERATION_END"

/-- FINALIZE results (Table 10-4). -/
def FinalizeResult.name : FinalizeResult → String
  | .ok => "OK"
  | .protected_ => "PROTECTED"
  | .finalized => "FINALIZED"
  | .eodMismatch => "EOD_MISMATCH"
  | .labelMismatch => "LABEL_MISMATCH"
  | .media => "MEDIA"
  | .drive => "DRIVE"

/-! ### Items -/

/-- An item whose value is a barcode. -/
def barcodeItem (name : String) (x : Bytes) : Item := ⟨ascii name, x⟩

/-- A list of numbers, 4 bytes each, laid end to end in one item (R189). -/
def listItem (name : String) (ns : List Nat) : Item := ⟨ascii name, ns.flatMap (leBytes 4)⟩

/-- A flag item. -/
def flagItem (name : String) (b : Bool) : Item := nameItem name (flagName b)

/-- A location's item: an element number, or its name (Table 5-1). -/
def locationItem (l : Location) : Item :=
  match l with
  | .at e => numItem "LOCATION" 1 e.val
  | .outside => nameItem "LOCATION" "OUTSIDE"
  | .unknown => nameItem "LOCATION" "UNKNOWN"

/-- An item whose number may be UNKNOWN. -/
def knownItem (name : String) (width : Nat) (v : Option Nat) : Item :=
  match v with
  | some n => numItem name width n
  | none => nameItem name "UNKNOWN"

/-- A run of names, one item each, numbered from 1. -/
def namesItems (name : String) : Nat → List String → List Item
  | _, [] => []
  | n, x :: xs => ⟨ascii (name ++ "_" ++ toString n), ascii x⟩ :: namesItems name (n + 1) xs

/-! ### Requests (R89, R174) -/

/-- A refusal: its status and what the owning rule adds to it. -/
structure RefusalOf where
  status : Status
  items : List Item := []
deriving DecidableEq, Repr

/-- The first refusal among checks made in order: each check says whether it fails, and with what status. -/
def firstFailing : List (Bool × Status) → Option RefusalOf
  | [] => none
  | (fails, status) :: cs => if fails then some { status } else firstFailing cs

/-- A generation item. -/
def genItem (g : BitVec 8) : Item := numItem "GENERATION" 1 g.toNat

/-- The check of a conditional edit against a generation passes (R89). -/
def expectPasses (e : Expected) (g : BitVec 8) : Bool :=
  match e with
  | .any => true
  | .exactly n => n == g.toNat

/-- An expected generation beyond 00h..FFh (R89, R189). -/
def expectWide (e : Expected) : Bool :=
  match e with
  | .any => false
  | .exactly n => 255 < n

/-- A named argument that its argument does not take (R189). -/
def namedUnknown {α : Type} (x : Named α) : Bool :=
  match x with
  | .known _ => false
  | .unknown => true

/-- The value of an optional named argument. -/
def namedValue {α : Type} (x : Option (Named α)) : Option α :=
  match x with
  | some (.known a) => some a
  | _ => none

/-- Checks made before and after the generation check of a conditional edit (R89): STALE carries the generation. -/
def conditional (before : List (Bool × Status)) (e : Expected) (g : BitVec 8) (after : List (Bool × Status)) :
    Option RefusalOf :=
  match firstFailing before with
  | some r => some r
  | none => if expectPasses e g then firstFailing after else some { status := .stale, items := [genItem g] }

/-- A request carried out (R174): nothing is taken while the link is down (R185); a refusal is answered and changes
nothing; otherwise the request's effect, which makes its own RESP ready. -/
def State.request (s : State) (tag : Tag) (refusal : Option RefusalOf) (g : Device → Device) :
    Host.Outcome State Fault Refusal :=
  if s.dev.link.up then
    match refusal with
    | some r => s.just fun d => d.respond tag r.status r.items
    | none => s.run g
  else .next s

/-- A request that only reads (R174): refused, or answered OK with its results. -/
def State.answer (s : State) (tag : Tag) (refusal : Option RefusalOf) (items : Device → List Item) :
    Host.Outcome State Fault Refusal :=
  if s.dev.link.up then
    match refusal with
    | some r => s.just fun d => d.respond tag r.status r.items
    | none => s.just fun d => d.respond tag .ok (items d)
  else .next s

/-- An inbound frame on a stream or restore channel: not taken while the link is down (R185). -/
def State.inbound (s : State) (o : Host.Outcome State Fault Refusal) : Host.Outcome State Fault Refusal :=
  if s.dev.link.up then o else .next s

/-- A command that something is due for, and nothing otherwise. -/
def State.runIf (s : State) (due : Bool) (g : Device → Device) : Host.Outcome State Fault Refusal :=
  if due then s.run g else .next s

end Sys2Proof.Machine
end

