-- ==== Sys2Proof/Decode.lean ====
section
/-!
DEFINITION. `decodeTableWord`: no row of spec/opcode_table.json has bits, so it answers none; and the decoding the spec
does give: an inbound frame's checks (R188), its routing (R175) and the items of a REQ (R189), as the command it is.
-/
namespace Sys2Proof

/-- The command a word spells by the table's bits. No row of the table gives bits (log entry 3). -/
def decodeTableWord (_nbits _w : Nat) : Option Instr := none

namespace Decode

open Sys2Proof.Machine (crc32)

/-! ### Items (R189) -/

/-- A name and a value. -/
abbrev Args := List (Bytes × Bytes)

/-- A character of an item name: a capital, a digit or the underscore (R189). -/
def nameChar (b : Byte) : Bool :=
  let n := b.toNat
  (0x41 ≤ n && n ≤ 0x5A) || (0x30 ≤ n && n ≤ 0x39) || n == 0x5F

/-- The item at the start of a body and the bytes after it (R189). -/
def readItem (bs : Bytes) : Option ((Bytes × Bytes) × Bytes) :=
  match bs with
  | [] => none
  | l :: rest =>
    let l := l.toNat
    let name := rest.take l
    let after := rest.drop l
    let v := leNat (after.take 2)
    let value := (after.drop 2).take v
    if 1 ≤ l ∧ l ≤ 32 ∧ name.length = l ∧ name.all nameChar ∧ 2 ≤ after.length ∧ v ≤ 4096 ∧ value.length = v then
      some ((name, value), after.drop (2 + v))
    else none

/-- The items of a body, if they end exactly at its end (R189). -/
def readItems : (fuel : Nat) → Bytes → Option Args
  | 0, bs => if bs = [] then some [] else none
  | fuel + 1, bs =>
    if bs = [] then some []
    else
      match readItem bs with
      | some (i, rest) => (readItems fuel rest).map (i :: ·)
      | none => none

/-- No item name appears twice (R189). -/
def distinctNames : Args → Bool
  | [] => true
  | a :: as => !(as.any fun b => b.1 == a.1) && distinctNames as

/-! ### Values (R189) -/

/-- The value of an argument, if it is given. -/
def arg (a : Args) (name : String) : Option Bytes := (a.find? fun x => x.1 == ascii name).map (·.2)

/-- A number of 1..8 bytes, taken by its value: one sent in more bytes than its field has, the high ones zero, is no
wider than its field (R189; DESIGN CHOICE, log entry 79). -/
def number (v : Bytes) : Option Nat := if 1 ≤ v.length ∧ v.length ≤ 8 then some (leNat v) else none

/-- A required number. -/
def num (a : Args) (name : String) : Option Nat := (arg a name).bind number

/-- An optional number: `none` for a value that is no number. -/
def optNum (a : Args) (name : String) : Option (Option Nat) :=
  match arg a name with
  | none => some none
  | some v => (number v).map some

/-- A name value looked up in an enumeration. -/
def named {α : Type} (table : List (String × α)) (v : Bytes) : Named α :=
  match table.find? fun x => ascii x.1 == v with
  | some x => .known x.2
  | none => .unknown

/-- An optional name value. -/
def optNamed {α : Type} (a : Args) (name : String) (table : List (String × α)) : Option (Named α) :=
  (arg a name).map (named table)

/-- A name value that is absent with a default. -/
def namedOr {α : Type} (a : Args) (name : String) (table : List (String × α)) (default : α) : Named α :=
  (optNamed a name table).getD (.known default)

/-- The flag values. -/
def flagTable : List (String × Bool) := [("SET", true), ("CLEAR", false)]
/-- The switch values. -/
def switchTable : List (String × Bool) := [("ON", true), ("OFF", false)]
/-- The policies (R3). -/
def policyTable : List (String × Policy) := [("ALWAYS", .always), ("NEVER", .never), ("ADAPTIVE", .adaptive)]
/-- The kinds (Table 5-1). -/
def kindTable : List (String × CartKind) := [("DATA", .data), ("CLEANING", .cleaning)]
/-- The protections (Table 5-2). -/
def protectionTable : List (String × Protection) :=
  [("WRITABLE", .writable), ("LOCKED", .locked), ("HELD", .held), ("FINALIZED", .finalized)]
/-- The part states (Table 4-2). -/
def partStateTable : List (String × PartState) :=
  [("OPEN", .open), ("CLOSED", .closed), ("VERIFIED", .verified), ("SUSPECT", .suspect), ("BAD", .bad)]
/-- The priorities (Table 8-1). -/
def priorityTable : List (String × Priority) := [("URGENT", .urgent), ("NORMAL", .normal)]
/-- The parameters (Table 0-4). -/
def paramTable : List (String × Param) :=
  [("START_LEVEL", .startLevel), ("ASSEMBLY_TIMEOUT", .assemblyTimeout), ("MINIMUM_DWELL", .minimumDwell),
   ("IDLE_UNMOUNT", .idleUnmount), ("VERIFY_DRIVE_LIMIT", .verifyDriveLimit),
   ("RESTORE_STALL_LIMIT", .restoreStallLimit)]

/-- The expected generation: ANY or a number (R89, R189). -/
def expected (a : Args) : Option Expected :=
  match arg a "EXPECTED_GENERATION" with
  | none => none
  | some v => if v = ascii "ANY" then some .any else (number v).map .exactly

/-! ### Requests (R174, Table 10-1) -/

/-- The fields of LOAD_CARTRIDGE (R84, R85). -/
def cartArgs (a : Args) : Option CartArgs := do
  let pool ← optNum a "POOL"
  let eod ← optNum a "EOD"
  let capacity ← optNum a "CAPACITY"
  let serial ← optNum a "LABEL_SERIAL"
  let home ← optNum a "HOME_SLOT"
  let uses ← optNum a "CLEANING_USES"
  return { kind := optNamed a "KIND" kindTable, pool, protection := optNamed a "PROTECTION" protectionTable, eod,
           capacity, serial, home, full := optNamed a "FULL" flagTable, uses }

/-- LOAD_CARTRIDGE by its action (R84 to R86): CREATE takes a barcode, and REMOVE takes no field. -/
def loadCartridge (tag : Tag) (a : Args) : Option Instr := do
  let index ← num a "INDEX"
  let e ← expected a
  let fields ← cartArgs a
  let action ← arg a "ACTION"
  if action = ascii "CREATE" then return .loadCartridgeCreate tag index e (← arg a "BARCODE") fields
  else if action = ascii "EDIT" ∧ arg a "BARCODE" = none then return .loadCartridgeEdit tag index e fields
  else if action = ascii "REMOVE" ∧ arg a "BARCODE" = none ∧ fields = {} then
    return .loadCartridgeRemove tag index e
  else none

/-- LOAD_POOL (R98). -/
def loadPool (tag : Tag) (a : Args) : Option Instr := do
  let pool ← num a "POOL"
  let e ← expected a
  let multiplex ← optNum a "MULTIPLEX_LIMIT"
  let interval ← optNum a "VERIFY_INTERVAL"
  let retries ← optNum a "READ_RETRIES"
  let defaultCapacity ← optNum a "DEFAULT_CAPACITY"
  return .loadPool tag pool e
    { multiplex, interval, retries, takeScratch := optNamed a "TAKE_SCRATCH" switchTable,
      writeEnabled := optNamed a "WRITE_ENABLED" switchTable, defaultCapacity }

/-- LOAD_SEGMENT (R80). No rule gives its flags a default, so a request that leaves out GAP, TRUNCATED or CONTINUED is
BAD_ARGUMENT, as one that leaves out any other of its arguments (R189; DESIGN CHOICE, log entry 93). -/
def loadSegment (tag : Tag) (a : Args) : Option Instr := do
  let flag := fun name => (arg a name).map (named flagTable)
  return .loadSegment tag
    { part := ← num a "PART_ID", jobTag := ← num a "JOB_TAG", number := ← num a "PART_NUMBER",
      cart := ← num a "CARTRIDGE", firstBlock := ← num a "FIRST_BLOCK", lastBlock := ← num a "LAST_BLOCK",
      firstSeq := ← num a "FIRST_RECORD_SEQUENCE", lastSeq := ← num a "LAST_RECORD_SEQUENCE",
      rawBytes := ← num a "RAW_BYTES", storedBytes := ← num a "STORED_BYTES", check := ← num a "PART_CHECK",
      state := named partStateTable (← arg a "STATE"), gap := ← flag "GAP", truncated := ← flag "TRUNCATED",
      continued := ← flag "CONTINUED", closeTime := ← num a "CLOSE_TIME" }

/-- RESET by its scope (R184). -/
def reset (tag : Tag) (a : Args) : Option Instr := do
  let scope ← arg a "SCOPE"
  let drive ← optNum a "DRIVE_NUMBER"
  if scope = ascii "LINK" then return .resetLink tag drive
  else if scope = ascii "DRIVE" then return .resetDrive tag drive
  else if scope = ascii "CHANGER" then return .resetChanger tag drive
  else none

/-- A request: its name, the arguments it takes, and the command its arguments make it, or `none` for one that is
answered BAD_ARGUMENT by R174 or R189. -/
structure Form where
  name : String
  takes : List String
  make : Tag → Args → Option Instr

/-- A conditional request on one cartridge entry. -/
def onEntry (name : String) (k : Tag → Nat → Expected → Instr) : Form :=
  ⟨name, ["INDEX", "EXPECTED_GENERATION"], fun tag a => do return k tag (← num a "INDEX") (← expected a)⟩

/-- A request with one number. -/
def oneNumber (name arg : String) (k : Tag → Nat → Instr) : Form :=
  ⟨name, [arg], fun tag a => do return k tag (← num a arg)⟩

/-- The requests of Table 10-1. A RESTORE without FOLLOW takes it as CLEAR, for which no rule gives a default (R146, R174,
R189; DESIGN CHOICE, log entry 78). -/
def forms : List Form :=
  [⟨"OPEN_STREAM", ["CHANNEL", "JOB_TAG", "POOL", "RECORD_SIZE", "POLICY"], fun tag a => do
      return .openStream tag (← num a "CHANNEL") (← num a "JOB_TAG") (← num a "POOL") (← optNum a "RECORD_SIZE")
        (optNamed a "POLICY" policyTable)⟩,
   oneNumber "ABORT_STREAM" "CHANNEL" .abortStream,
   ⟨"LOAD_POOL",
     ["POOL", "EXPECTED_GENERATION", "MULTIPLEX_LIMIT", "VERIFY_INTERVAL", "READ_RETRIES", "TAKE_SCRATCH",
      "WRITE_ENABLED", "DEFAULT_CAPACITY"], loadPool⟩,
   ⟨"LOAD_CARTRIDGE",
     ["ACTION", "INDEX", "EXPECTED_GENERATION", "BARCODE", "KIND", "POOL", "PROTECTION", "EOD", "CAPACITY",
      "LABEL_SERIAL", "HOME_SLOT", "FULL", "CLEANING_USES"], loadCartridge⟩,
   onEntry "LOCK" .lock, onEntry "UNLOCK" .unlock, onEntry "HOLD" .hold, onEntry "FINALIZE" .finalize,
   onEntry "RECYCLE" .recycle,
   ⟨"INVENTORY", ["FIRST_ELEMENT", "LAST_ELEMENT"], fun tag a => do
      return .inventory tag (← optNum a "FIRST_ELEMENT") (← optNum a "LAST_ELEMENT")⟩,
   ⟨"MOVE", ["SOURCE", "DESTINATION"], fun tag a => do
      return .move tag (← num a "SOURCE") (← num a "DESTINATION")⟩,
   ⟨"RESTORE", ["CHANNEL", "PART_ID", "PRIORITY", "FIRST_RECORD_SEQUENCE", "RECORD_COUNT", "FOLLOW"], fun tag a => do
      return .restore tag (← num a "CHANNEL") (← num a "PART_ID") (named priorityTable (← arg a "PRIORITY"))
        (← optNum a "FIRST_RECORD_SEQUENCE") (← optNum a "RECORD_COUNT") (namedOr a "FOLLOW" flagTable false)⟩,
   oneNumber "CANCEL_RESTORE" "CHANNEL" .cancelRestore, oneNumber "VERIFY_NOW" "INDEX" .verifyNow,
   ⟨"LOAD_SEGMENT",
     ["PART_ID", "JOB_TAG", "PART_NUMBER", "CARTRIDGE", "FIRST_BLOCK", "LAST_BLOCK", "FIRST_RECORD_SEQUENCE",
      "LAST_RECORD_SEQUENCE", "RAW_BYTES", "STORED_BYTES", "PART_CHECK", "STATE", "GAP", "TRUNCATED", "CONTINUED",
      "CLOSE_TIME"], loadSegment⟩,
   oneNumber "RELEASE_SEGMENT" "PART_ID" .releaseSegment, oneNumber "READ_SEGMENT" "PART_ID" .readSegment,
   ⟨"LIST_SEGMENTS", ["CARTRIDGE", "JOB_TAG", "START_INDEX"], fun tag a => do
      return .listSegments tag (← optNum a "CARTRIDGE") (← optNum a "JOB_TAG") (← num a "START_INDEX")⟩,
   oneNumber "READ_CARTRIDGE" "INDEX" .readCartridge, oneNumber "READ_ELEMENT" "ELEMENT" .readElement,
   oneNumber "READ_DRIVE" "DRIVE" .readDrive, oneNumber "READ_FEED" "FEED" .readFeed,
   oneNumber "READ_STREAM" "CHANNEL" .readStream,
   ⟨"SET_PARAM", ["PARAMETER", "VALUE"], fun tag a => do
      return .setParam tag (named paramTable (← arg a "PARAMETER")) (← optNum a "VALUE")⟩,
   ⟨"SET_TIME", ["VALUE"], fun tag a => do return .setTime tag (← optNum a "VALUE")⟩,
   ⟨"POLL", [], fun tag _ => some (.poll tag)⟩,
   ⟨"RESET", ["SCOPE", "DRIVE_NUMBER"], reset⟩]

/-- The command of a REQ body's items (R174, R189), or `none` for one that is answered BAD_ARGUMENT before any rule. -/
def requestOf (tag : Tag) (items : Bytes) : Option Instr := do
  let args ← readItems items.length items
  match args with
  | [] => none
  | (n, name) :: rest =>
    if n = ascii "NAME" ∧ distinctNames args then
      let form ← forms.find? fun f => ascii f.name == name
      if rest.all fun x => form.takes.any fun t => ascii t == x.1 then form.make tag rest else none
    else none

/-- The command of a REQ body (R174, R189). -/
def request (body : Bytes) : Instr :=
  let tag := BitVec.ofNat 16 (leNat (body.take 2))
  (requestOf tag (body.drop 2)).getD (.unknownRequest tag (body.drop 2))

/-! ### Frames (R175, R188) -/

/-- The first two checks of an inbound frame (R188): its length, its length field and its frame check. -/
def envelopeOk (f : Bytes) : Bool :=
  decide (10 ≤ f.length ∧ f.length ≤ 4117) && leNat (f.take 2) == f.length
    && BitVec.ofNat 32 (leNat (f.drop (f.length - 4))) == crc32 (f.take (f.length - 4))

/-- The command an inbound frame is (R175, R188): the last two checks, and the routing by channel and kind. -/
def frameCommand (f : Bytes) : Instr :=
  let ch := ((f.drop 2).headD 0).toNat
  let kind := (f.drop 3).headD 0
  let body := (f.drop 5).take (f.length - 9)
  if !envelopeOk f then .frameRefused f
  else if 1 ≤ ch ∧ ch ≤ 32 ∧ kind = 0x01#8 then .data ch body
  else if 1 ≤ ch ∧ ch ≤ 32 ∧ kind = 0x02#8 then
    (if body = [0x01#8] then .markCut ch else if body = [0x02#8] then .markEnd ch else .frameRefused f)
  else if 33 ≤ ch ∧ ch ≤ 40 ∧ kind = 0x04#8 then
    (if body.length = 2 then .grant ch (leNat body) else .frameRefused f)
  else if ch = 0 ∧ kind = 0x05#8 then (if 2 ≤ body.length then request body else .frameRefused f)
  else .frameRefused f

end Decode

end Sys2Proof
end

