-- ==== Sys2Proof/Machine/ChangerCommands.lean ====
section
/-!
DEFINITION. The changer's commands (chapter 6): INVENTORY, MOVE, READ_ELEMENT, RESET_CHANGER, the mail door, and the
completions and the timeout of the changer port's orders.
-/
namespace Sys2Proof.Machine

/-! ### INVENTORY (R115) -/

/-- The checks of INVENTORY (R115). -/
def Device.inventoryRefusal (d : Device) (first last : Option Nat) : Option RefusalOf :=
  let a := first.getD 5
  let b := last.getD 104
  firstFailing [(a < 5 || 104 < a || b < 5 || 104 < b || b < a, .badArgument), (d.changer.inventory.isSome, .busy)]

/-- An inventory begun (R115). -/
def Device.beginInventory (d : Device) (tag : Tag) (first last : Nat) : Device :=
  let v : Inventory :=
    { next := first, last, scanned := 0, skipped := 0, created := 0, foreigners := 0, order := d.changer.entryCount }
  let d := d.respond tag .ok
  (({ d with changer := { d.changer with inventory := some v } } : Device).takeEntry).post .picker

/-- INVENTORY (R115). -/
def execInventory (tag : Tag) (first last : Option Nat) (s : State) : Host.Outcome State Fault Refusal :=
  s.request tag (s.dev.inventoryRefusal first last) fun d => d.beginInventory tag (first.getD 5) (last.getD 104)

/-! ### MOVE (R109) -/

/-- What an element holds, as a load. -/
def Device.loadAt (d : Device) (e : ElemId) : Option Load :=
  match (d.elem e).content with
  | .occupied c => some (.cart c)
  | .foreign x => some (.foreign x)
  | _ => none

/-- A FOREIGN load at the source. -/
def Device.foreignLoad (d : Device) (e : ElemId) : Bool :=
  match (d.elem e).content with
  | .foreign _ => true
  | _ => false

/-- A FOREIGN load that waits at a drive's mouth after power-on (R109, R142). -/
def Device.foreignAtMouth (d : Device) (e : ElemId) : Bool :=
  match driveOfElem? e with
  | some i => d.foreignLoad e && (d.drive i).phase == .powerMouth
  | none => false

/-- The source stands in a drive that a MOVE is refused for (R109, check 3). -/
def Device.driveBusy (d : Device) (e : ElemId) : Bool :=
  match driveOfElem? e with
  | some i => !d.foreignAtMouth e && ((d.drive i).state != .mountedIdle || !(d.drive i).stack.isEmpty)
  | none => false

/-- The cartridge at the source is one that a MOVE is refused for (R109, check 3). -/
def Device.loadBusy (d : Device) (e : ElemId) : Bool :=
  match d.occupant e with
  | some c =>
    (d.holder c).isSome || (d.cart c).any (·.finalizing)
      || (d.partsOn c).any fun p => p.state == .open || 0 < p.pins
  | none => false

/-- The host moves queued or running (R109, check 4). -/
def Device.hostMoves (d : Device) : Nat := (d.changer.moves.filter fun m => m.requester == .host).length

/-- The checks of MOVE (R109). -/
def Device.moveRefusal (d : Device) (source destination : Nat) : Option RefusalOf :=
  match finOf? 105 source, finOf? 105 destination with
  | some a, some b =>
    firstFailing
      [(a == 0 || b == 0 || a == b, .badArgument),
       ((d.loadAt a).isNone || (d.elem b).content != .empty || (isDriveElem b && d.foreignLoad a), .state),
       (d.moveNames a || d.moveNames b || d.loadBusy a || d.driveBusy a, .busy),
       (4 ≤ d.hostMoves, .full)]
  | _, _ => some { status := .badArgument }

/-- A HOST claim for a drive element of a host move (R109). -/
def Device.claimHost (d : Device) (move : Nat) (e : ElemId) : Device :=
  match driveOfElem? e with
  | some i => d.placeClaim .host (.hostMove move) (.drive i)
  | none => d

/-- A host move entered, with its HOST claims (R109). -/
def Device.hostMove (d : Device) (tag : Tag) (a b : ElemId) (load : Load) : Device :=
  let id := d.changer.nextMove
  let atMouth := d.foreignAtMouth a
  let ready := !isDriveElem b && (!isDriveElem a || atMouth)
  let d := (d.respond tag .ok).enterMove a (some b) load (some 6) .host ready
  let d := if atMouth then d else d.claimHost id a
  d.claimHost id b

/-- MOVE (R109). -/
def execMove (tag : Tag) (source destination : Nat) (s : State) : Host.Outcome State Fault Refusal :=
  s.request tag (s.dev.moveRefusal source destination) fun d =>
    match finOf? 105 source, finOf? 105 destination with
    | some a, some b =>
      match d.loadAt a with
      | some load => d.hostMove tag a b load
      | none => d
    | _, _ => d

/-! ### READ_ELEMENT (R103, R121) -/

/-- An element's status and the field that stands beside it (R103). -/
def Device.contentItems (d : Device) (e : ElemId) : List Item :=
  match (d.elem e).content with
  | .unknown c => nameItem "STATUS" "UNKNOWN" :: optItem c (fun c => numItem "FORMER_OCCUPANT" 1 c.val)
  | .empty => [nameItem "STATUS" "EMPTY"]
  | .occupied c =>
    [nameItem "STATUS" "OCCUPIED", numItem "OCCUPANT" 1 c.val]
      ++ optItem (d.cart c) (fun x => barcodeItem "BARCODE" x.barcode) ++ [genItem (d.row c).gen]
  | .foreign x => [nameItem "STATUS" "FOREIGN", barcodeItem "BARCODE_SEEN" x]

/-- The results of READ_ELEMENT that every element has (R103). -/
def Device.elementItems (d : Device) (e : ElemId) : List Item :=
  d.contentItems e
    ++ [nameItem "INCOMING_MOVE" (yesName (d.elem e).incoming.isSome),
        nameItem "OUTGOING_MOVE" (yesName (d.elem e).outgoing.isSome)]

/-- The running move as READ_ELEMENT 0 reports it (R121). -/
def Move.items (m : Move) : List Item :=
  numItem "RUNNING_SOURCE" 1 m.src.val :: optItem m.dst (fun b => numItem "RUNNING_DESTINATION" 1 b.val)
    ++ [match m.cls with
        | some k => numItem "RUNNING_CLASS" 1 k
        | none => nameItem "RUNNING_CLASS" "PLACEMENT"]

/-- The number of queued moves of a class (R121). -/
def Device.queuedOf (d : Device) (k : Nat) : Nat :=
  (d.changer.moves.filter fun m => !m.running && m.cls == some k).length

/-- The inventory progress as READ_ELEMENT 0 reports it (R121). -/
def Inventory.items (v : Inventory) : List Item :=
  [numItem "INVENTORY_NEXT" 1 v.next, numItem "INVENTORY_LAST" 1 v.last, numItem "SCANNED" 1 v.scanned,
   numItem "SKIPPED" 1 v.skipped, numItem "CREATED" 1 v.created, numItem "FOREIGN" 1 v.foreigners]

/-- The items of an absent or present thing. -/
def itemsOf {α : Type} (v : Option α) (g : α → List Item) : List Item :=
  match v with
  | some a => g a
  | none => []

/-- The changer status of READ_ELEMENT 0 (R121). Of two moves that are RUNNING at once, an interrupted one and the
placement of a reset sequence, it reports the one that stands first in the queue (DESIGN CHOICE, log entry 60). -/
def Device.changerItems (d : Device) : List Item :=
  let x := d.changer
  nameItem "PICKER_STATE" x.picker.name :: itemsOf (x.moves.find? (·.running)) Move.items
    ++ [listItem "QUEUED_MOVES" ([1, 2, 3, 4, 5, 6, 7].map d.queuedOf),
        nameItem "PLACEMENT_WAITS"
          (yesName (x.moves.any fun m => m.requester == .changer && !m.running)),
        listItem "FAULT_ELEMENTS" (x.faultElems.map (·.val))]
    ++ itemsOf x.inventory Inventory.items
    ++ [nameItem "MAIL_DOOR_LEVEL" (if x.doorOpen then "OPEN" else "CLOSED")]
    ++ optItem x.mailScan (fun v => numItem "MAIL_SCAN_NEXT" 1 v.next)

/-- READ_ELEMENT (R103, R121). -/
def execReadElement (tag : Tag) (element : Nat) (s : State) : Host.Outcome State Fault Refusal :=
  match finOf? 105 element with
  | none => s.answer tag (some { status := .badArgument }) fun _ => []
  | some e =>
    s.answer tag none fun d => d.elementItems e ++ if e = pickerElem then d.changerItems else []

/-! ### RESET_CHANGER and the mail door (R117 to R119, R184) -/

/-- RESET_CHANGER (R119, R184): a drive number with this scope is refused. -/
def execResetChanger (tag : Tag) (drive : Option Nat) (s : State) : Host.Outcome State Fault Refusal :=
  s.request tag (firstFailing [(drive.isSome, .badArgument)]) fun d => (d.respond tag .ok).changerReset

/-- MAIL_DOOR_OPEN (R117): a change of the level to OPEN. -/
def execMailDoorOpen (s : State) : Host.Outcome State Fault Refusal :=
  s.runIf (!s.dev.changer.doorOpen) Device.doorOpens

/-- MAIL_DOOR_CLOSED (R118): a change of the level to CLOSED. -/
def execMailDoorClosed (s : State) : Host.Outcome State Fault Refusal :=
  s.runIf s.dev.changer.doorOpen Device.doorCloses

/-! ### The changer port (R107, R111 to R113) -/

/-- A TRANSFER completion taken, or discarded when it is not of the order in progress (R107, R111, R112). -/
def Device.transferDone (d : Device) (n : BitVec 16) (r : TransferResult) : Device :=
  match d.orderNumbered n with
  | some (.transfer id _ b) =>
    match d.move? id with
    | some m => d.transferEnd m b r
    | none => d
  | _ => d

/-- TRANSFER_COMPLETION (R111, R112). -/
def execTransferCompletion (number : BitVec 16) (result : TransferResult) (s : State) :
    Host.Outcome State Fault Refusal :=
  s.run fun d => d.transferDone number result

/-- A SCAN completion taken, or discarded when it is not of the order in progress (R101, R107). -/
def Device.scanDone (d : Device) (n : BitVec 16) (r : ScanResult) : Device :=
  match d.orderNumbered n with
  | some (.scan e purpose stale) => d.scanEnd e purpose stale r
  | _ => d

/-- SCAN_COMPLETION (R101). -/
def execScanCompletion (number : BitVec 16) (result : ScanResult) (s : State) : Host.Outcome State Fault Refusal :=
  s.run fun d => d.scanDone number result

/-- A REHOME completion taken, or discarded when it is not of the order in progress (R107, R119). -/
def Device.rehomeDone (d : Device) (n : BitVec 16) (r : ScanResult) : Device :=
  match d.orderNumbered n with
  | some .rehome => d.rehomeEnd r
  | _ => d

/-- REHOME_COMPLETION (R119). -/
def execRehomeCompletion (number : BitVec 16) (result : ScanResult) (s : State) : Host.Outcome State Fault Refusal :=
  s.run fun d => d.rehomeDone number result

/-- The order in progress has reached the move timeout (R107, R113). -/
def Device.orderDue (d : Device) : Option OrderKind :=
  match d.changer.order with
  | some o => if o.issued + Config.moveTimeout ≤ d.now then some o.kind else none
  | none => none

/-- ORDER_TIMEOUT (R113). -/
def execOrderTimeout (s : State) : Host.Outcome State Fault Refusal :=
  match s.dev.orderDue with
  | some k => s.run fun d => d.orderTimedOut k
  | none => .next s

end Sys2Proof.Machine
end

