-- ==== Sys2Proof/Machine/DriveCommands.lean ====
section
/-!
DEFINITION. The commands of the drive ports (chapter 7): the completions of the eight drive commands, CLEAN_REQUEST, the
drives' timers, RESET_DRIVE and READ_DRIVE.
-/
namespace Sys2Proof.Machine

/-! ### Completions (R123, R124) -/

/-- LOAD_COMPLETION (R130): every result but OK is a drive fault (R140). -/
def execLoadCompletion (drive : DriveId) (number : BitVec 16) (result : DriveResult) (s : State) :
    Host.Outcome State Fault Refusal :=
  s.run fun d => d.completion drive number .load result 0 fun d _ _ => d.loadEnd drive

/-- UNLOAD_COMPLETION (R135). -/
def execUnloadCompletion (drive : DriveId) (number : BitVec 16) (result : DriveResult) (s : State) :
    Host.Outcome State Fault Refusal :=
  s.run fun d => d.completion drive number .unload result 0 fun d _ r => d.unloadEnd drive r

/-- LOCATE_COMPLETION (R123, R133, R139, R149, R167). -/
def execLocateCompletion (drive : DriveId) (number : BitVec 16) (result : DriveResult) (s : State) :
    Host.Outcome State Fault Refusal :=
  s.run fun d => d.completion drive number .locate result 0 fun d cmd r => d.locateDone drive cmd r

/-- LOCATE_END_COMPLETION (R132). -/
def execLocateEndCompletion (drive : DriveId) (number : BitVec 16) (result : DriveResult) (end_ : Nat) (s : State) :
    Host.Outcome State Fault Refusal :=
  s.run fun d => d.completion drive number .locateEnd result end_ fun d _ r => d.appendEndFound drive r end_

/-- READ_COMPLETION (R131, R132, R139, R142, R151, R168). -/
def execReadCompletion (drive : DriveId) (number : BitVec 16) (result : DriveResult) (block : Bytes) (s : State) :
    Host.Outcome State Fault Refusal :=
  s.run fun d => d.completion drive number .read result 0 fun d _ r => d.readDone drive r block

/-- WRITE_COMPLETION (R53, R133, R134). -/
def execWriteCompletion (drive : DriveId) (number : BitVec 16) (result : DriveResult) (s : State) :
    Host.Outcome State Fault Refusal :=
  s.run fun d => d.completion drive number .write result 0 fun d cmd r => d.writeDone drive cmd r

/-- SPEED_COMPLETION (R56). -/
def execSpeedCompletion (drive : DriveId) (number : BitVec 16) (result : DriveResult) (s : State) :
    Host.Outcome State Fault Refusal :=
  s.run fun d => d.completion drive number .speed result 0 fun d _ _ => d.speedDone drive

/-- CLEAN_COMPLETION (R137). -/
def execCleanCompletion (drive : DriveId) (number : BitVec 16) (result : DriveResult) (s : State) :
    Host.Outcome State Fault Refusal :=
  s.run fun d => d.completion drive number .clean result 0 fun d _ r => d.cleanEnd drive r

/-- CLEAN_REQUEST (R137). -/
def execCleanRequest (drive : DriveId) (s : State) : Host.Outcome State Fault Refusal :=
  s.run fun d => d.cleanRequested drive

/-! ### Timers (R124, R128, R136) -/

/-- The oldest outstanding command of a drive has reached its timeout (R124). -/
def Device.commandDue (d : Device) (i : DriveId) : Bool :=
  match (d.drive i).outstanding with
  | [] => false
  | o :: _ => o.issued + o.cmd.name.timeout ≤ d.now

/-- COMMAND_TIMEOUT (R124). -/
def execCommandTimeout (drive : DriveId) (s : State) : Host.Outcome State Fault Refusal :=
  s.runIf (s.dev.commandDue drive) fun d => d.commandTimedOut drive

/-- MINIMUM_DWELL (R128): the dwell has passed for a mounted drive, and the arbiter decides. -/
def execMinimumDwell (drive : DriveId) (s : State) : Host.Outcome State Fault Refusal :=
  s.runIf ((s.dev.drive drive).state == .mountedIdle && s.dev.dwellPassed drive) fun d => d.post .arbiter

/-- A MOUNTED_IDLE drive has been idle for a time (R136). -/
def Device.idleFor (d : Device) (i : DriveId) (limit : Nat) : Bool :=
  (d.drive i).state == .mountedIdle && (d.drive i).phase == .rest && (d.drive i).active.isNone
    && (d.drive i).idleSince.any fun t => t + limit ≤ d.now

/-- IDLE_UNMOUNT (R136). -/
def execIdleUnmount (drive : DriveId) (s : State) : Host.Outcome State Fault Refusal :=
  s.runIf (s.dev.idleFor drive s.dev.mu.params.idleUnmount) fun d => d.startUnmount drive

/-! ### RESET_DRIVE (R141, R184) -/

/-- RESET_DRIVE (R141, R184): a drive number is required, and is 0..3. -/
def execResetDrive (tag : Tag) (drive : Option Nat) (s : State) : Host.Outcome State Fault Refusal :=
  match drive.bind (finOf? 4) with
  | some i => s.request tag none fun d => (d.respond tag .ok).driveReset i false
  | none => s.request tag (some { status := .badArgument }) fun d => d

/-! ### READ_DRIVE (R143) -/

/-- The number of waiting claims of a class (R143). -/
def Device.waitingOf (d : Device) (k : Nat) : Nat :=
  (d.arb.claims.filter fun c => c.drive.isNone && c.kind.cls == k).length

/-- A context of drive i: its kind and owner as items. -/
def workItems (i : DriveId) (name : String) (w : Work) : List Item :=
  [nameItem (name ++ "_KIND") w.kindName, numItem (name ++ "_OWNER") 1 (w.ownerNumber i)]

/-- The suspend stack's items, bottom first (R143). -/
def stackItems (i : DriveId) : Nat → List Context → List Item
  | _, [] => []
  | n, k :: ks =>
    let name := "CONTEXT_" ++ toString n
    workItems i name k.work ++ [numItem (name ++ "_RESUME_BLOCK") 4 k.resume] ++ stackItems i (n + 1) ks

/-- The found barcode's item (R142, R143). -/
def foundItem (f : Found) : Item :=
  match f with
  | .barcode x => barcodeItem "FOUND_BARCODE" x
  | .unreadable => nameItem "FOUND_BARCODE" "UNREADABLE"

/-- The snapshot of READ_DRIVE (R143). -/
def Device.driveItems (d : Device) (i : DriveId) : List Item :=
  let x := d.drive i
  nameItem "DRIVE_STATE" x.state.name :: optItem x.cart (fun c => numItem "CARTRIDGE" 1 c.val)
  ++ optItem x.found foundItem
  ++ [knownItem "POSITION" 4 x.position]
  ++ namesItems "OUTSTANDING_COMMAND" 1 (x.outstanding.map fun o => o.cmd.name.text)
  ++ (match x.active with
      | some w => workItems i "ACTIVE_WORK" w
      | none => [])
  ++ (match d.assigned i with
      | some k => [nameItem "CLAIM_KIND" k.kind.name, numItem "CLAIM_CLASS" 1 k.kind.cls]
      | none => [])
  ++ stackItems i 1 x.stack
  ++ optItem x.mountTime (fun t => numItem "SECONDS_MOUNTED" 4 (d.now - t))
  ++ optItem x.idleSince (fun t => numItem "SECONDS_IDLE" 4 (d.now - t))
  ++ [flagItem "CLEANING_DUE" x.cleaningDue, nameItem "AUTOMATIC_RESET_USED" (yesName x.autoReset)]
  ++ (match x.faultCause with
      | some f => [nameItem "FAULT_COMMAND" f.cmd.text, nameItem "FAULT_RESULT" (driveResultName f.result)]
      | none => [])
  ++ [listItem "WAITING_CLAIMS" ([1, 2, 3, 4, 5, 6, 7].map d.waitingOf)]

/-- READ_DRIVE (R143). -/
def execReadDrive (tag : Tag) (drive : Nat) (s : State) : Host.Outcome State Fault Refusal :=
  match finOf? 4 drive with
  | some i => s.answer tag none fun d => d.driveItems i
  | none => s.answer tag (some { status := .badArgument }) fun _ => []

end Sys2Proof.Machine
end

