-- ==== Sys2Proof/Machine/FeedCommands.lean ====
section
/-!
DEFINITION. The commands of the compression engine and the feeds (chapters 2 and 3): COMPRESSION_COMPLETION, PLACEMENT,
the feeds' timers, and READ_FEED.
-/
namespace Sys2Proof.Machine

/-- COMPRESSION_COMPLETION (R30, R33): the record is held and offered to its feed. -/
def execCompressionCompletion (s : State) : Host.Outcome State Fault Refusal :=
  s.runIf (s.dev.ce.state == .compressing) fun d => d.compress.offerHeld

/-- PLACEMENT (R33, R47): a held record is placed once its feed can take it. -/
def execPlacement (s : State) : Host.Outcome State Fault Refusal :=
  s.runIf (s.dev.ce.state == .holding) Device.offerHeld

/-- The assembly timeout of a feed's block has expired (R48). -/
def Device.assemblyDue (d : Device) (f : FeedId) : Bool :=
  ((d.feed f).bind (·.assembly)).any fun a => a.firstTime + d.mu.params.assemblyTimeout ≤ d.now

/-- ASSEMBLY_TIMEOUT (R48). -/
def execAssemblyTimeout (feed : FeedId) (s : State) : Host.Outcome State Fault Refusal :=
  s.runIf (s.dev.assemblyDue feed) fun d => d.closePending feed

/-- The oldest staged block has waited longer than the assembly timeout (R50). -/
def Device.stagedDue (d : Device) (f : FeedId) : Bool :=
  (d.feed f).any fun x =>
    match x.staging with
    | [] => false
    | b :: _ => b.closeTime + d.mu.params.assemblyTimeout < d.now

/-- OLDEST_BLOCK_TIMEOUT (R50). -/
def execOldestBlockTimeout (feed : FeedId) (s : State) : Host.Outcome State Fault Refusal :=
  s.runIf (s.dev.stagedDue feed) fun d => d.post (.feedDecide feed)

/-- A governor period of a feed has ended (R55). -/
def Device.periodDue (d : Device) (f : FeedId) : Bool :=
  (d.feed f).any fun x => (x.state == .streaming || x.state == .paused) && x.periodStart + 1 ≤ d.now

/-- The end of a governor period (R55, R56). -/
def Device.periodEnd (d : Device) (f : FeedId) : Device :=
  match d.feed f with
  | none => d
  | some x =>
    let (x, changed) := x.governor d.mu.params.startLevel
    let d := d.setFeed f (some x)
    if changed then d.issueSpeed f else d

/-- GOVERNOR_PERIOD (R55, R56). -/
def execGovernorPeriod (feed : FeedId) (s : State) : Host.Outcome State Fault Refusal :=
  s.runIf (s.dev.periodDue feed) fun d => d.periodEnd feed

/-! ### READ_FEED (R63) -/

/-- A feed's FEED claim is present (R63). -/
def Device.feedClaim (d : Device) (f : FeedId) : Bool := (d.claimOf (.feed f)).isSome

/-- The snapshot of READ_FEED (R63). -/
def Device.feedItems (d : Device) (f : FeedId) (x : Feed) : List Item :=
  [nameItem "STATE" x.state.name, numItem "POOL" 1 x.pool.val, flagItem "SPAN" x.stall.span,
   flagItem "SUSPEND" x.stall.suspend, flagItem "MAP_FULL" x.stall.mapFull, flagItem "NO_MEDIA" x.stall.noMedia,
   listItem "MEMBER_CHANNELS" (x.members.map fun o => streamChannel o.chan), numItem "DEPARTED_ENTRIES" 1 x.departed.length]
  ++ optItem x.drive (fun i => numItem "DRIVE" 1 i.val)
  ++ optItem x.cart (fun c => numItem "CARTRIDGE" 1 c.val)
  ++ optItem x.assembly (fun a => numItem "ASSEMBLY_RECORD_COUNT" 2 a.records.length)
  ++ optItem x.assembly (fun a => numItem "ASSEMBLY_BYTES_USED" 4 a.used)
  ++ optItem x.assembly (fun a => nameItem "CLOSE_PENDING" (yesName a.closePending))
  ++ [numItem "STAGING_COUNT" 1 x.staging.length, numItem "IN_FLIGHT_COUNT" 1 x.flights.length,
      numItem "RETURNED_OUTSTANDING" 1 x.returned, numItem "GOVERNOR_ESTIMATE" 2 x.estimate, numItem "SPEED_STEP" 1 x.step,
      numItem "UP_COUNTER" 1 x.upCount, nameItem "SPEED_OUTSTANDING" (yesName x.speedOut),
      numItem "STOP_COUNT" 2 x.stops, numItem "BLOCKS_WRITTEN" 4 x.written.toNat,
      numItem "RESERVATIONS" 1 x.reservations.length, nameItem "FEED_CLAIM" (yesName (d.feedClaim f))]

/-- READ_FEED (R63). -/
def execReadFeed (tag : Tag) (feed : Nat) (s : State) : Host.Outcome State Fault Refusal :=
  match finOf? 4 feed with
  | none => s.answer tag (some { status := .badArgument }) fun _ => []
  | some f =>
    match s.dev.feed f with
    | none => s.answer tag (some { status := .noEntry }) fun _ => []
    | some x => s.answer tag none fun d => d.feedItems f x

end Sys2Proof.Machine
end

