-- ==== Sys2Proof/Machine/ControlCommands.lean ====
section
/-!
DEFINITION. The management unit's own commands (chapter 10): SET_PARAM, SET_TIME, POLL, LIBRARY_TIME_ADVANCE, and the
link's: RESET_LINK, LINK_DOWN, LINK_UP, POWER_ON and OUTBOUND_FRAME_LEAVES.
-/
namespace Sys2Proof.Machine

/-! ### SET_PARAM (R177, R178) -/

/-- A parameter's value. -/
def Params.get (p : Params) : Param → Nat
  | .startLevel => p.startLevel
  | .assemblyTimeout => p.assemblyTimeout
  | .minimumDwell => p.minimumDwell
  | .idleUnmount => p.idleUnmount
  | .verifyDriveLimit => p.verifyDriveLimit
  | .restoreStallLimit => p.restoreStallLimit

/-- A parameter's value written. -/
def Params.put (p : Params) (k : Param) (v : Nat) : Params :=
  match k with
  | .startLevel => { p with startLevel := v }
  | .assemblyTimeout => { p with assemblyTimeout := v }
  | .minimumDwell => { p with minimumDwell := v }
  | .idleUnmount => { p with idleUnmount := v }
  | .verifyDriveLimit => { p with verifyDriveLimit := v }
  | .restoreStallLimit => { p with restoreStallLimit := v }

/-- A parameter's range (Table 0-4). -/
def paramRange : Param → Nat × Nat
  | .startLevel => (8, 64)
  | .assemblyTimeout => (1, 60)
  | .minimumDwell => (0, 3600)
  | .idleUnmount => (10, 3600)
  | .verifyDriveLimit => (0, 4)
  | .restoreStallLimit => (10, 3600)

/-- A value clamped to a parameter's range (R177). -/
def clampParam (k : Param) (v : Nat) : Nat := max (paramRange k).1 (min (paramRange k).2 v)

/-- The feeds in FILLING or PAUSED make dispatch decisions (R178), in ascending feed number (DESIGN CHOICE, log entry
95). -/
def Device.decideWaiting (d : Device) : Device :=
  d.postAll
    ((allFeeds.filter fun f => (d.feed f).any fun x => x.state == .filling || x.state == .paused).map .feedDecide)

/-- The assembly blocks whose age now exceeds the assembly timeout take it at once (R178). -/
def Device.closeOld (d : Device) : Device :=
  allFeeds.foldl
    (fun d f =>
      if ((d.feed f).bind (·.assembly)).any fun a => a.firstTime + d.mu.params.assemblyTimeout < d.now then
        d.closePending f
      else d) d

/-- The drives idle for the idle-unmount time unmount at once (R178). -/
def Device.unmountIdle (d : Device) : Device :=
  allDrives.foldl (fun d i => if d.idleFor i d.mu.params.idleUnmount then d.startUnmount i else d) d

/-- The restores at or past the stall limit end STALLED at once (R154, R178), in queue order (DESIGN CHOICE, log entry
95). -/
def Device.endStalled (d : Device) : Device :=
  d.ru.queue.foldl (fun d e => if d.stallDue e then d.endRestore e.chan .stalled else d) d

/-- The effects of a parameter change (Table 10-2). -/
def Device.paramEffects (d : Device) : Param → Device
  | .startLevel => d.decideWaiting
  | .assemblyTimeout => d.closeOld.decideWaiting
  | .minimumDwell => d.post .arbiter
  | .idleUnmount => d.unmountIdle
  | .verifyDriveLimit => d.post .arbiter
  | .restoreStallLimit => d.endStalled

/-- A parameter's value applied and reported (R177, R178). -/
def Device.setParam (d : Device) (tag : Tag) (k : Param) (v : Nat) : Device :=
  let old := d.mu.params.get k
  let new := clampParam k v
  let d := d.respond tag .ok [numItem "VALUE_BEFORE" 2 old, numItem "VALUE_APPLIED" 2 new]
  if new = old then d
  else ({ d with mu := { d.mu with params := d.mu.params.put k new } } : Device).paramEffects k

/-- SET_PARAM (R177). -/
def execSetParam (tag : Tag) (param : Named Param) (value : Option Nat) (s : State) :
    Host.Outcome State Fault Refusal :=
  match param, value with
  | .unknown, _ => s.answer tag (some { status := .badArgument }) fun _ => []
  | .known k, none =>
    s.answer tag none fun d => [nameItem "PARAMETER" (paramName k), numItem "VALUE" 2 (d.mu.params.get k)]
  | .known k, some v => s.request tag none fun d => d.setParam tag k v

/-! ### Library time (R179) -/

/-- Library time set, and every verify list entry tested (R164, R179). -/
def Device.setTime (d : Device) (tag : Tag) (t : Nat) : Device :=
  let old := d.time
  let d := { d with mu := { d.mu with time := t } }
  (d.respond tag .ok [numItem "TIME_BEFORE" 4 old, numItem "TIME_SET" 4 t]).timeChanged old

/-- SET_TIME (R179). -/
def execSetTime (tag : Tag) (value : Option Nat) (s : State) : Host.Outcome State Fault Refusal :=
  s.request tag (firstFailing [(value.isNone || value.any fun t => Config.max32 < t, .badArgument)]) fun d =>
    d.setTime tag (value.getD 0)

/-- One second (R179): elapsed time and library time, which stays at FFFFFFFFh, and the tests of R164. -/
def Device.second (d : Device) : Device :=
  let old := d.time
  ({ d with
     mu := { d.mu with time := min Config.max32 (old + 1), elapsed := d.mu.elapsed + 1 } } : Device).timeChanged old

/-- LIBRARY_TIME_ADVANCE (R179). -/
def execLibraryTimeAdvance (s : State) : Host.Outcome State Fault Refusal := s.run Device.second

/-! ### POLL (R181) -/

/-- A moved result's name. -/
def moveResultItems (r : MoveResult) : List Item :=
  match r with
  | .done => [nameItem "RESULT" "DONE"]
  | .failed c => [nameItem "RESULT" "FAILED", nameItem "CAUSE" c.name]

/-- An event's argument (Tables 10-3 and 10-4). -/
def EventArg.items : EventArg → List Item
  | .number n => [numItem "ARGUMENT" 4 n]
  | .due i => [nameItem "FORM" "DUE", numItem "ARGUMENT" 4 i.val]
  | .expiredCart c => [nameItem "FORM" "EXPIRED", numItem "ARGUMENT" 4 c.val]
  | .expiredDrive i => [nameItem "FORM" "EXPIRED", numItem "ARGUMENT" 4 i.val]
  | .moveEnd a b r =>
    [nameItem "OPERATION" "MOVE", numItem "SOURCE" 1 a, numItem "DESTINATION" 1 b] ++ moveResultItems r
  | .inventoryEnd n k c f =>
    [nameItem "OPERATION" "INVENTORY", numItem "SCANNED" 1 n, numItem "SKIPPED" 1 k, numItem "CREATED" 1 c,
     numItem "FOREIGN" 1 f]
  | .finalizeEnd c r =>
    [nameItem "OPERATION" "FINALIZE", numItem "CARTRIDGE" 1 c.val, nameItem "RESULT" r.name]
  | .mailScanned => [nameItem "OPERATION" "MAIL"]

/-- The pending kind of highest priority (R181). -/
def Device.topEvent (d : Device) : Option (EventKind × Event) :=
  allEvents.findSome? fun k => (d.event k).map fun e => (k, e)

/-- The set of kinds still pending, as one number with bit n - 1 for kind n: R181 and R189 give no form for a set (DESIGN
CHOICE, log entry 80). -/
def Device.pendingSet (d : Device) : Nat :=
  (allEvents.map fun k => if (d.event k).isSome then 2 ^ k.index.val else 0).sum

/-- The management status of POLL (R181). -/
def Device.managementItems (d : Device) : List Item :=
  [numItem "PENDING_KINDS" 2 d.pendingSet, numItem "LIBRARY_TIME" 4 d.time,
   numItem "LINK_ERROR_COUNT" 2 d.link.errors,
   nameItem "RETENTION_HOLD" (if d.media.holdLine then "ASSERTED" else "DEASSERTED"),
   nameItem "MAIL_DOOR" (if d.changer.doorOpen then "OPEN" else "CLOSED"),
   numItem "PARTS_IN_USE" 2 d.map.parts.length, numItem "RESERVATION_COUNT" 2 d.map.reserved]

/-- POLL's answer (R181): the pending kind of highest priority is taken and cleared. -/
def Device.poll (d : Device) (tag : Tag) : Device :=
  match d.topEvent with
  | some (k, e) =>
    let d := d.setEvent k none
    d.respond tag .ok
      ([nameItem "KIND" k.name, numItem "COUNT" 1 e.count] ++ e.arg.items ++ d.managementItems)
  | none => d.respond tag .ok (nameItem "KIND" "NONE" :: d.managementItems)

/-- POLL (R181). -/
def execPoll (tag : Tag) (s : State) : Host.Outcome State Fault Refusal :=
  s.inbound (s.just fun d => d.poll tag)

/-! ### Link resets (R185) and the outbound link (R183, R188) -/

/-- The UNBOUND feeds that have lost their last member and have nothing to write are removed, their claims withdrawn
(R61). -/
def Device.removeEmptied (d : Device) : Device :=
  allFeeds.foldl
    (fun d f => if (d.feed f).any fun x => x.members.isEmpty && x.state == .unbound then d.feedProgress f else d) d

/-- The streams, the restores and the link interface at a link reset (R21, R159, R185). The order in which the open
streams close, which R21 and R185 leave open and which orders the parts that close at once, is ascending channel (DESIGN
CHOICE, log entry 54). -/
def Device.linkReset (d : Device) : Device :=
  let d := allStreams.foldl (fun d c => if (d.stream c).state = .closed then d else d.abort c) d
  let d := d.removeEmptied.cancelRestores
  { d with link := { d.link with grants := Vector.replicate 8 0, errors := 0 } }

/-- The RMARK frames among unsent frames that are discarded free their ENDED entries (R145, R157). -/
def Device.freeMarked (d : Device) (fs : List OutFrame) : Device :=
  fs.foldl
    (fun d f =>
      match f with
      | .rmark r _ _ _ _ => d.freeRestore r
      | _ => d) d

/-- A RESP frame. -/
def OutFrame.isResp : OutFrame → Bool
  | .resp .. => true
  | _ => false

/-- The unsent frames that do not stay discarded (R184, R185). -/
def Device.discardUnsent (d : Device) (stays : OutFrame → Bool) : Device :=
  let gone := d.link.outbound.filter fun f => !stays f
  ({ d with link := { d.link with outbound := d.link.outbound.filter stays } } : Device).freeMarked gone

/-- RESET_LINK (R184, R185): the RESP first, then the link reset; the other frames not yet sent are discarded
(log entry 21). -/
def execResetLink (tag : Tag) (drive : Option Nat) (s : State) : Host.Outcome State Fault Refusal :=
  s.request tag (firstFailing [(drive.isSome, .badArgument)]) fun d =>
    ((d.respond tag .ok).linkReset).discardUnsent OutFrame.isResp

/-- LINK_DOWN (R185): a link reset; no frame is taken or sent until the link is up, and unsent frames are discarded. -/
def execLinkDown (s : State) : Host.Outcome State Fault Refusal :=
  s.run fun d =>
    let d := d.linkReset.discardUnsent fun _ => false
    { d with link := { d.link with up := false } }

/-- LINK_UP (R185): frames are taken and sent again. -/
def execLinkUp (s : State) : Host.Outcome State Fault Refusal :=
  s.just fun d => { d with link := { d.link with up := true } }

/-- POWER_ON (R186): every block takes its power-on values, with the two input lines as sampled then. -/
def execPowerOn (doorOpen holdAsserted : Bool) (s : State) : Host.Outcome State Fault Refusal :=
  s.just fun _ => Device.powerOn doorOpen holdAsserted

/-- The first frame of a channel that may leave, and the frames left: a CREDIT does not pass the OPEN_STREAM OK of its
own stream (R4). `opened` lists the streams whose OK has been passed over. -/
def takeFrame (ch : Nat) (opened : List StreamId) : List OutFrame → Option (OutFrame × List OutFrame)
  | [] => none
  | f :: fs =>
    let blocked : Bool :=
      match f with
      | .credit c _ => opened.contains c
      | _ => false
    let opened' : List StreamId :=
      match f with
      | .resp _ _ _ (some c) => c :: opened
      | _ => opened
    if f.channel = ch then (if blocked then none else some (f, fs))
    else (takeFrame ch opened' fs).map fun x => (x.1, f :: x.2)

/-- A frame leaves with its attention bit and frame check (R183, R188); an RMARK leaving frees its entry (R145). -/
def Device.sendFrame (d : Device) (f : OutFrame) (rest : List OutFrame) : Device :=
  ({ d with link := { d.link with outbound := rest, wire := some (f.bytes d.attention) } } : Device).freeMarked [f]

/-- OUTBOUND_FRAME_LEAVES (R183, R188): the oldest frame made ready on a channel leaves, while the link is up. -/
def execOutboundFrameLeaves (ch : Nat) (s : State) : Host.Outcome State Fault Refusal :=
  if s.dev.link.up then
    match takeFrame ch [] s.dev.link.outbound with
    | some (f, rest) => s.just fun d => d.sendFrame f rest
    | none => .next s
  else .next s

end Sys2Proof.Machine
end

