-- ==== Sys2Proof/Machine/MapCommands.lean ====
section
/-!
DEFINITION. The segment map's requests (section 4.6): LOAD_SEGMENT, RELEASE_SEGMENT, READ_SEGMENT and LIST_SEGMENTS.
-/
namespace Sys2Proof.Machine

/-! ### LOAD_SEGMENT (R80) -/

/-- A LOAD_SEGMENT's arguments outside their ranges (R80, check 1). -/
def segmentArgsBad (a : SegmentArgs) : Bool :=
  a.part == 0 || Config.max32 < a.part || a.jobTag == 0 || Config.max32 < a.jobTag || Config.max32 < a.number
    || a.firstBlock == 0 || a.lastBlock < a.firstBlock || Config.maxEod - 1 < a.lastBlock
    || a.lastSeq < a.firstSeq || Config.max32 < a.lastSeq || a.rawBytes < a.storedBytes || 2 ^ 64 ≤ a.rawBytes
    || Config.max32 < a.check || Config.max32 < a.closeTime
    || (namedValue (some a.state) != some .closed && namedValue (some a.state) != some .verified)
    || namedUnknown a.gap || namedUnknown a.truncated || namedUnknown a.continued

/-- A cartridge that a part record with this last block may not name (R80, check 3). -/
def cartRefusesPart (e : Cart) (lastBlock : Nat) : Bool :=
  e.kind == .cleaning ||
    match e.eod with
    | none => true
    | some n => n ≤ lastBlock

/-- The checks of LOAD_SEGMENT (R80). -/
def Device.loadSegmentRefusal (d : Device) (a : SegmentArgs) : Option RefusalOf :=
  match finOf? 128 a.cart with
  | none => some { status := .badArgument }
  | some c =>
    match d.cart c with
    | none => firstFailing [(segmentArgsBad a, .badArgument), (true, .noEntry)]
    | some e =>
      firstFailing
        [(segmentArgsBad a, .badArgument), (cartRefusesPart e a.lastBlock, .state),
         ((d.part? a.part).isSome, .busy), (!d.mapHasRoom 1, .full)]

/-- A set flag argument. -/
def flagSet (f : Named Bool) : Bool := namedValue (some f) == some true

/-- The part record a LOAD_SEGMENT fills (R80). -/
def Part.loaded (a : SegmentArgs) (c : CartId) : Part :=
  { id := a.part, jobTag := a.jobTag, number := a.number, cart := c, firstBlock := a.firstBlock,
    lastBlock := a.lastBlock, firstSeq := a.firstSeq, lastSeq := a.lastSeq, rawBytes := a.rawBytes,
    storedBytes := a.storedBytes, check := BitVec.ofNat 32 a.check,
    state := (namedValue (some a.state)).getD .closed, gap := flagSet a.gap, truncated := flagSet a.truncated,
    continued := flagSet a.continued, hostLoaded := true, closeTime := some a.closeTime, suspectTime := none,
    restorePins := 0, verifyPin := false }

/-- A part record loaded (R80): one loaded CLOSED is told to the verify unit. -/
def Device.loadSegment (d : Device) (tag : Tag) (a : SegmentArgs) (c : CartId) : Device :=
  let p := Part.loaded a c
  let d := (d.addPart p).respond tag .ok
  if p.state = .closed then d.post (.verifyNotify c) else d

/-- LOAD_SEGMENT (R80). -/
def execLoadSegment (tag : Tag) (args : SegmentArgs) (s : State) : Host.Outcome State Fault Refusal :=
  s.request tag (s.dev.loadSegmentRefusal args) fun d =>
    match finOf? 128 args.cart with
    | some c => d.loadSegment tag args c
    | none => d

/-! ### RELEASE_SEGMENT (R79) -/

/-- The checks of RELEASE_SEGMENT (R79). -/
def Device.releaseRefusal (d : Device) (part : Nat) : Option RefusalOf :=
  if part = 0 ∨ Config.max32 < part then some { status := .badArgument }
  else
    match d.part? part with
    | none => some { status := .noEntry }
    | some p => firstFailing [(p.state == .open, .state), (0 < p.pins, .busy)]

/-- A part record released (R79): the current-part references that named it keep their number and cartridge alone, a
release event is made, and the verify unit is told. -/
def Device.releaseSegment (d : Device) (tag : Tag) (p : Part) : Device :=
  ((((d.freePart p.id).forgetPart p.id).respond tag .ok).post (.verifyNotify p.cart)).post .mapRelease

/-- RELEASE_SEGMENT (R79). -/
def execReleaseSegment (tag : Tag) (part : Nat) (s : State) : Host.Outcome State Fault Refusal :=
  s.request tag (s.dev.releaseRefusal part) fun d =>
    match d.part? part with
    | some p => d.releaseSegment tag p
    | none => d

/-! ### READ_SEGMENT (R81) -/

/-- A time that may be absent, and is then marked so (R81): the item stays and its value is the name ABSENT, where R189
leaves an absent result out (DESIGN CHOICE, log entry 46). -/
def timeItem (name : String) (v : Option Nat) : Item :=
  match v with
  | some t => numItem name 4 t
  | none => nameItem name "ABSENT"

/-- Every field of a part record (Table 4-1, R81). -/
def Part.items (p : Part) : List Item :=
  [numItem "PART_ID" 4 p.id, numItem "JOB_TAG" 4 p.jobTag, numItem "PART_NUMBER" 4 p.number,
   numItem "CARTRIDGE" 1 p.cart.val, numItem "FIRST_BLOCK" 4 p.firstBlock, numItem "LAST_BLOCK" 4 p.lastBlock,
   numItem "FIRST_RECORD_SEQUENCE" 4 p.firstSeq, numItem "LAST_RECORD_SEQUENCE" 4 p.lastSeq,
   numItem "RAW_BYTES" 8 p.rawBytes, numItem "STORED_BYTES" 8 p.storedBytes, numItem "PART_CHECK" 4 p.check.toNat,
   nameItem "STATE" (partStateName p.state), flagItem "GAP" p.gap, flagItem "TRUNCATED" p.truncated,
   flagItem "CONTINUED" p.continued, flagItem "HOST_LOADED" p.hostLoaded, timeItem "CLOSE_TIME" p.closeTime,
   timeItem "SUSPECT_TIME" p.suspectTime, numItem "RESTORE_PINS" 1 p.restorePins,
   numItem "VERIFY_PIN" 1 (if p.verifyPin then 1 else 0)]

/-- READ_SEGMENT (R81). -/
def execReadSegment (tag : Tag) (part : Nat) (s : State) : Host.Outcome State Fault Refusal :=
  if part = 0 ∨ Config.max32 < part then s.answer tag (some { status := .badArgument }) fun _ => []
  else
    match s.dev.part? part with
    | none => s.answer tag (some { status := .noEntry }) fun _ => []
    | some p => s.answer tag none fun _ => p.items

/-! ### LIST_SEGMENTS (R82) -/

/-- The records that match the key, ids rising (R82). -/
def Device.matching (d : Device) (cart jobTag : Option Nat) : List Part :=
  match cart, jobTag with
  | some c, _ => d.map.parts.filter fun p => p.cart.val == c
  | none, some t => d.map.parts.filter fun p => p.jobTag == t
  | none, none => []

/-- One key, in its range (R82). Any start index is in range: one at or past the count selects no ids. -/
def keyOk (cart jobTag : Option Nat) : Bool :=
  match cart, jobTag with
  | some c, none => c < 128
  | none, some t => t != 0 && t ≤ Config.max32
  | _, _ => false

/-- The results of LIST_SEGMENTS (R82). -/
def Device.listItems (d : Device) (cart jobTag : Option Nat) (start : Nat) : List Item :=
  let ps := d.matching cart jobTag
  [numItem "COUNT" 2 ps.length, listItem "PART_IDS" (((ps.drop start).take Config.listLimit).map (·.id))]

/-- LIST_SEGMENTS (R82). -/
def execListSegments (tag : Tag) (cart jobTag : Option Nat) (start : Nat) (s : State) :
    Host.Outcome State Fault Refusal :=
  s.answer tag (if keyOk cart jobTag then none else some { status := .badArgument }) fun d =>
    d.listItems cart jobTag start

end Sys2Proof.Machine
end

