-- ==== Sys2Proof/Machine/RestoreCommands.lean ====
section
/-!
DEFINITION. The restore and verify commands (chapters 2, 8 and 9): GRANT, RESTORE, CANCEL_RESTORE, RESTORE_STALL,
EXPANSION_COMPLETION, VERIFY_NOW and ENTRY_OVERDUE.
-/
namespace Sys2Proof.Machine

/-! ### GRANT (R153) -/

/-- A grant added to a restore channel's count, saturating; waiting frames leave at once (R153). -/
def Device.takeGrant (d : Device) (r : RestoreId) (count : Nat) : Device :=
  let d := d.setGrants r (min 65535 (d.grants r + count))
  if (d.restore? r).any fun e => e.state == .sending then d.sendFrames r else d

/-- GRANT (R153): a count of 0 and any other channel are refused (R175). -/
def execGrant (ch count : Nat) (s : State) : Host.Outcome State Fault Refusal :=
  s.inbound
    (match restoreOf? ch with
     | some r => if count = 0 then s.just Device.linkError else s.run fun d => d.takeGrant r count
     | none => s.just Device.linkError)

/-! ### RESTORE (R146) -/

/-- The last sequence a request covers on its first part, where it gives a record count. -/
def rangeStop (start : Nat) (count : Option Nat) : Option Nat := count.map fun n => start + n - 1

/-- A RESTORE's arguments outside their ranges (R146, check 1). -/
def restoreArgsBad (part : Nat) (priority : Named Priority) (first count : Option Nat) (follow : Named Bool) : Bool :=
  part == 0 || Config.max32 < part || namedUnknown priority || namedUnknown follow
    || (first.any fun q => Config.max32 < q) || (count.any fun n => n == 0 || Config.max32 + 1 < n)
    || first.any fun q => count.any fun n => Config.max32 < q + n - 1

/-- FOLLOW is set. -/
def followSet (follow : Named Bool) : Bool := namedValue (some follow) == some true

/-- A range a RESTORE may not ask of a part (R146, check 5). -/
def rangeBad (p : Part) (first count : Option Nat) (follow : Bool) : Bool :=
  (first.any fun q => q < p.firstSeq || p.lastSeq < q)
    || (!follow && (rangeStop (first.getD p.firstSeq) count).any fun n => p.lastSeq < n)

/-- The checks of RESTORE (R146). -/
def Device.restoreRefusal (d : Device) (ch part : Nat) (priority : Named Priority) (first count : Option Nat)
    (follow : Named Bool) : Option RefusalOf :=
  match restoreOf? ch with
  | none => some { status := .badArgument }
  | some r =>
    let early := firstFailing
      [(restoreArgsBad part priority first count follow, .badArgument),
       (Config.restoreQueue ≤ d.ru.queue.length, .full)]
    match early, d.part? part with
    | some x, _ => some x
    | none, none => some { status := .noEntry }
    | none, some p =>
      firstFailing
        [(p.state == .open || p.state == .bad, .state), (rangeBad p first count (followSet follow), .badArgument),
         ((d.restore? r).isSome || !p.restorePinFree, .busy)]

/-- The range end of a restore (R146). With FOLLOW, a count and no first sequence, check 1 cannot see the start, and the
end may lie above FFFFFFFFh: it is held as it is, and the range covers every sequence from the start on (DESIGN CHOICE,
log entry 64). -/
def restoreStop (p : Part) (start : Nat) (count : Option Nat) (follow : Bool) : Option Nat :=
  match count with
  | some n => some (start + n - 1)
  | none => if follow then none else some p.lastSeq

/-- The entry of an accepted restore (Table 8-1). -/
def Restore.accepted (r : RestoreId) (priority : Priority) (arrival : Nat) (p : Part) (first count : Option Nat)
    (follow : Bool) : Restore :=
  let start := first.getD p.firstSeq
  { chan := r, priority, arrival, state := .queued, follow, start, stop := restoreStop p start count follow,
    part := p.id, cart := p.cart, next := max start p.firstSeq }

/-- A restore accepted (R146): the pin, the entry, OK, and the promotion decision. -/
def Device.acceptRestore (d : Device) (tag : Tag) (r : RestoreId) (priority : Priority) (p : Part)
    (first count : Option Nat) (follow : Bool) : Device :=
  let e := Restore.accepted r priority d.ru.nextArrival p first count follow
  let d := (d.respond tag .ok).pinRestore p.id
  ({ d with ru := { queue := d.ru.queue ++ [e], nextArrival := d.ru.nextArrival + 1 } } : Device).post .promote

/-- RESTORE (R146). -/
def execRestore (tag : Tag) (ch part : Nat) (priority : Named Priority) (first count : Option Nat)
    (follow : Named Bool) (s : State) : Host.Outcome State Fault Refusal :=
  s.request tag (s.dev.restoreRefusal ch part priority first count follow) fun d =>
    match restoreOf? ch, d.part? part with
    | some r, some p =>
      d.acceptRestore tag r ((namedValue (some priority)).getD .normal) p first count (followSet follow)
    | _, _ => d

/-! ### CANCEL_RESTORE and RESTORE_STALL (R154, R158) -/

/-- A restore that has not ended, on a channel (R158; log entry 20). -/
def Device.liveRestore (d : Device) (r : RestoreId) : Bool := (d.restore? r).any fun e => e.state != .ended

/-- The checks of CANCEL_RESTORE (R158). -/
def Device.cancelRefusal (d : Device) (ch : Nat) : Option RefusalOf :=
  match restoreOf? ch with
  | none => some { status := .badArgument }
  | some r => firstFailing [(!d.liveRestore r, .noEntry)]

/-- CANCEL_RESTORE (R158). -/
def execCancelRestore (tag : Tag) (ch : Nat) (s : State) : Host.Outcome State Fault Refusal :=
  s.request tag (s.dev.cancelRefusal ch) fun d =>
    match restoreOf? ch with
    | some r => (d.respond tag .ok).endRestore r .cancelled
    | none => d

/-- The restore on a channel has waited for a grant up to the stall limit (R154). -/
def Device.stalledOut (d : Device) (r : RestoreId) : Bool := (d.restore? r).any d.stallDue

/-- RESTORE_STALL (R154). -/
def execRestoreStall (ch : Nat) (s : State) : Host.Outcome State Fault Refusal :=
  match restoreOf? ch with
  | some r => s.runIf (s.dev.stalledOut r) fun d => d.endRestore r .stalled
  | none => .next s

/-! ### EXPANSION_COMPLETION (R39, R40) -/

/-- The XE ends its record: the result goes to its requester unless that has ended, and the XE is IDLE (R39, R40). -/
def Device.expansionEnd (d : Device) : Device :=
  match d.xe.current with
  | none => d
  | some q =>
    let (res, decode) := expandRecord q.record
    let d := ({ d with xe := { d.xe with current := none, decode } } : Device).post .xe
    if q.dropped then d
    else
      match q.client with
      | .restore r => d.resultToRestore r res
      | .pass c => d.resultToPass c res

/-- EXPANSION_COMPLETION (R39). -/
def execExpansionCompletion (s : State) : Host.Outcome State Fault Refusal :=
  s.runIf s.dev.xe.current.isSome Device.expansionEnd

/-! ### VERIFY_NOW (R163) -/

/-- The checks of VERIFY_NOW (R163). -/
def Device.verifyRefusal (d : Device) (index : Nat) : Option RefusalOf :=
  match finOf? 128 index with
  | none => some { status := .badArgument }
  | some c =>
    firstFailing
      [((d.cart c).isNone, .noEntry), (!(d.partsOn c).any Part.unsettled, .state),
       ((d.entry? c).any fun e => e.activity == .pass, .busy)]

/-- The kind of the claim that is an entry's activity, or what the activity is (R163, Table 9-1). -/
def Device.activityName (d : Device) (e : VerifyEntry) : String :=
  match e.activity with
  | .none => "NONE"
  | .pass => "PASS"
  | .claim o =>
    match d.claim? o with
    | some k => "CLAIM_CLASS_" ++ toString k.kind.cls
    | none => "NONE"

/-- An entry's position in the list, from 1 at the head (R163). -/
def entryPlace (c : CartId) : Nat → List VerifyEntry → Nat
  | n, [] => n
  | n, e :: es => if e.cart = c then n else entryPlace c (n + 1) es

/-- The results of VERIFY_NOW (R163). -/
def Device.verifyItems (d : Device) (c : CartId) : List Item :=
  match d.entry? c with
  | some e =>
    [numItem "DEADLINE" 4 e.deadline, numItem "POSITION" 1 (entryPlace c 1 d.vu.list),
     nameItem "ACTIVITY" (d.activityName e)]
  | none => []

/-- A cartridge's verification forced (R163): the entry, its forced time and its place; then the overdue test and the
scheduling decision. -/
def Device.verifyNow (d : Device) (tag : Tag) (c : CartId) : Device :=
  let d := if (d.entry? c).isSome then d else d.insertNew c
  let d := (d.modEntry c fun e => { e with forced := some d.time, block := .none }).recompute c
  (d.respond tag .ok (d.verifyItems c)).entryChanged c

/-- VERIFY_NOW (R163). -/
def execVerifyNow (tag : Tag) (index : Nat) (s : State) : Host.Outcome State Fault Refusal :=
  s.request tag (s.dev.verifyRefusal index) fun d =>
    match finOf? 128 index with
    | some c => d.verifyNow tag c
    | none => d

/-! ### ENTRY_OVERDUE (R164) -/

/-- An entry's overdue test has something to do (R164): its event has not been raised, or its claim waits in class 7. -/
def Device.overdueDue (d : Device) (c : CartId) : Bool :=
  (d.entry? c).any fun e =>
    e.overdue d.time &&
      ((e.forced.isNone && !e.raised) || (d.claimOf (.verify c)).any Claim.idleVerify)

/-- ENTRY_OVERDUE (R164). -/
def execEntryOverdue (index : Nat) (s : State) : Host.Outcome State Fault Refusal :=
  match finOf? 128 index with
  | some c => s.runIf (s.dev.overdueDue c) fun d => (d.overdueTest c).post .verifySchedule
  | none => .next s

end Sys2Proof.Machine
end

