-- ==== Sys2Proof/Machine/StreamCommands.lean ====
section
/-!
DEFINITION. The stream commands: DATA, MARK_CUT, MARK_END, OPEN_STREAM, ABORT_STREAM, READ_STREAM, and the frames and
requests that are refused before any block takes them: FRAME_REFUSED and UNKNOWN_REQUEST.
-/
namespace Sys2Proof.Machine

/-! ### Frames on stream channels (R8 to R10, R13, R14) -/

/-- A DATA frame on a stream (R8, R9, R10). -/
def Device.takeData (d : Device) (c : StreamId) (payload : Bytes) : Device :=
  let s := d.stream c
  if !s.state.takes || payload.isEmpty || Config.maxPayload < payload.length then d.linkError
  else if s.credits = 0 then
    (d.modStream c fun s => { s with overruns := min 65535 (s.overruns + 1), gap := true }).raise .streamOverrun
      (.number (streamChannel c))
  else (d.modStream c fun s => s.store payload).cutDecision c

/-- DATA (R8): a frame on a channel that is no stream channel is refused (R175). -/
def execData (ch : Nat) (payload : Bytes) (s : State) : Host.Outcome State Fault Refusal :=
  s.inbound
    (match streamOf? ch with
     | some c => s.run fun d => d.takeData c payload
     | none => s.just Device.linkError)

/-- A CUT mark on a stream (R10, R14). -/
def Device.takeCut (d : Device) (c : StreamId) : Device :=
  if (d.stream c).state.takes then (d.modStream c Stream.mark).cutDecision c else d.linkError

/-- MARK_CUT (R14). -/
def execMarkCut (ch : Nat) (s : State) : Host.Outcome State Fault Refusal :=
  s.inbound
    (match streamOf? ch with
     | some c => s.run fun d => d.takeCut c
     | none => s.just Device.linkError)

/-- An END mark on a stream (R10, R13). -/
def Device.takeEnd (d : Device) (c : StreamId) : Device :=
  if (d.stream c).state.takes then
    let f := (d.stream c).feed
    let d := (d.modStream c fun s => { s with state := .ending, credits := 0 }).cutDecision c
    (d.closeIfDone c).postFeed f .feedDecide
  else d.linkError

/-- MARK_END (R13). -/
def execMarkEnd (ch : Nat) (s : State) : Host.Outcome State Fault Refusal :=
  s.inbound
    (match streamOf? ch with
     | some c => s.run fun d => d.takeEnd c
     | none => s.just Device.linkError)

/-! ### OPEN_STREAM (R3, R4) -/

/-- The record sizes a stream may have (Table 0-3). -/
def recordSizes : List Nat := [4096, 8192, 16384, 32768, 65536]

/-- A CLOSED channel's previous opening still has a record with the CE or stands as a departed entry (R3, check 2). -/
def Device.lingering (d : Device) (c : StreamId) : Bool :=
  let o := d.opening c
  (d.ce.current.any fun r => r.opening == o) ||
    allFeeds.any fun f => (d.feed f).any fun x => x.departed.any fun e => e.opening == o

/-- The checks of OPEN_STREAM (R3). -/
def Device.openRefusal (d : Device) (ch jobTag pool : Nat) (size : Option Nat) (policy : Option (Named Policy)) :
    Option RefusalOf :=
  match streamOf? ch, finOf? 8 pool with
  | some c, some p =>
    firstFailing
      [(jobTag == 0 || Config.max32 < jobTag || p == 0 || (size.any fun n => !recordSizes.contains n)
          || policy.any namedUnknown, .badArgument),
       ((d.stream c).state != .closed || d.lingering c, .busy),
       (allStreams.any fun x => (d.stream x).state != .closed && (d.stream x).jobTag == jobTag, .busy),
       (!(d.pool p).writeEnabled, .state)]
  | _, _ => some { status := .badArgument }

/-- A context as OPEN_STREAM sets it (Table 1-1). -/
def Stream.opened (old : Stream) (jobTag : Nat) (p : PoolId) (size : Nat) (policy : Policy) : Stream :=
  { state := .waiting, jobTag, pool := p, recordSize := size, policy, credits := Config.ringSlots,
    opening := old.opening + 1 }

/-- A stream opened (R4): the context, the OK and then the CREDIT, and the wait order. -/
def Device.openStream (d : Device) (tag : Tag) (c : StreamId) (jobTag : Nat) (p : PoolId) (size : Nat)
    (policy : Policy) : Device :=
  let d := d.modStream c fun s => s.opened jobTag p size policy
  let d := (d.emit (.resp tag .ok [numItem "CHANNEL" 1 (streamChannel c)] (some c))).emit (.credit c Config.ringSlots)
  ({ d with intake := { d.intake with waitOrder := d.intake.waitOrder ++ [c] } } : Device).post .bind

/-- OPEN_STREAM (R3, R4). -/
def execOpenStream (tag : Tag) (ch jobTag pool : Nat) (recordSize : Option Nat) (policy : Option (Named Policy))
    (s : State) : Host.Outcome State Fault Refusal :=
  s.request tag (s.dev.openRefusal ch jobTag pool recordSize policy) fun d =>
    match streamOf? ch, finOf? 8 pool with
    | some c, some p => d.openStream tag c jobTag p (recordSize.getD 65536) ((namedValue policy).getD .adaptive)
    | _, _ => d

/-! ### ABORT_STREAM (R20) -/

/-- The checks of ABORT_STREAM (R20). -/
def Device.abortRefusal (d : Device) (ch : Nat) : Option RefusalOf :=
  match streamOf? ch with
  | some c => firstFailing [((d.stream c).state == .closed, .state)]
  | none => some { status := .badArgument }

/-- ABORT_STREAM (R20). -/
def execAbortStream (tag : Tag) (ch : Nat) (s : State) : Host.Outcome State Fault Refusal :=
  s.request tag (s.dev.abortRefusal ch) fun d =>
    match streamOf? ch with
    | some c => (d.respond tag .ok).abort c
    | none => d

/-! ### READ_STREAM (R22) -/

/-- A stream's place in a run of streams, counted from 1. -/
def placeIn (c : StreamId) : Nat → List StreamId → Option Nat
  | _, [] => none
  | n, x :: xs => if x = c then some n else placeIn c (n + 1) xs

/-- A stream's position in its pool's wait order, from 1 at the head (R22). -/
def Device.waitPosition (d : Device) (c : StreamId) : Option Nat :=
  placeIn c 1 (d.intake.waitOrder.filter fun x => (d.stream x).pool == (d.stream c).pool)

/-- The snapshot of READ_STREAM (R22). -/
def Device.streamItems (d : Device) (c : StreamId) : List Item :=
  let s := d.stream c
  [nameItem "STATE" s.state.name, numItem "JOB_TAG" 4 s.jobTag, numItem "POOL" 1 s.pool.val,
   numItem "RECORD_SIZE" 4 s.recordSize, nameItem "COMPRESSION_POLICY" (policyName s.policy),
   numItem "CREDITS_OUTSTANDING" 2 s.credits, numItem "OCCUPIED_SLOTS" 2 s.occupied,
   numItem "UNCONSUMED_BYTES" 4 s.unconsumed]
  ++ optItem s.offered (fun o => numItem "OFFERED_RAW_LENGTH" 4 o.rawLen)
  ++ optItem s.offered (fun o => nameItem "OFFERED_TAKEN" (yesName o.taken))
  ++ [numItem "NEXT_RECORD_SEQUENCE" 4 s.nextSeq, numItem "RECORDS_UNCONFIRMED" 4 s.unconfirmed,
      numItem "BYTES_ACCEPTED" 8 s.accepted, numItem "OVERRUN_COUNT" 2 s.overruns, flagItem "GAP" s.gap]
  ++ optItem s.feed (fun f => numItem "FEED" 1 f.val)
  ++ optItem (refPart s.part) (numItem "CURRENT_PART" 4)
  ++ optItem (d.waitPosition c) (numItem "WAIT_POSITION" 1)

/-- READ_STREAM (R22). -/
def execReadStream (tag : Tag) (ch : Nat) (s : State) : Host.Outcome State Fault Refusal :=
  match streamOf? ch with
  | some c => s.answer tag none fun d => d.streamItems c
  | none => s.answer tag (some { status := .badArgument }) fun _ => []

/-! ### Frames and requests refused (R174, R175) -/

/-- FRAME_REFUSED (R175, R176): the frame is discarded and counted. -/
def execFrameRefused (_frame : Bytes) (s : State) : Host.Outcome State Fault Refusal :=
  s.inbound (s.just Device.linkError)

/-- UNKNOWN_REQUEST (R174, R189): answered BAD_ARGUMENT. -/
def execUnknownRequest (tag : Tag) (_items : Bytes) (s : State) : Host.Outcome State Fault Refusal :=
  s.answer tag (some { status := .badArgument }) fun _ => []

end Sys2Proof.Machine
end

