-- ==== Sys2Proof/Machine/TableCommands.lean ====
section
/-!
DEFINITION. The commands on the pool and cartridge tables: LOAD_POOL, LOAD_CARTRIDGE in its three actions, LOCK, UNLOCK,
HOLD, FINALIZE, RECYCLE and READ_CARTRIDGE (chapter 5), and the retention-hold line.
-/
namespace Sys2Proof.Machine

/-! ### LOAD_POOL (R98) -/

/-- A capacity in its range (Table 5-1). -/
def capacityOk (n : Nat) : Bool := 128 ≤ n && n ≤ Config.maxCapacity

/-- A field value of LOAD_POOL outside its range (R98, check 1). -/
def poolArgsBad (a : PoolArgs) : Bool :=
  (a.multiplex.any fun n => n == 0 || 8 < n) || (a.interval.any fun n => 8760 < n) || (a.retries.any fun n => 3 < n)
    || a.takeScratch.any namedUnknown || a.writeEnabled.any namedUnknown
    || a.defaultCapacity.any fun n => !capacityOk n

/-- The checks of LOAD_POOL (R98). -/
def Device.poolRefusal (d : Device) (pool : Nat) (e : Expected) (a : PoolArgs) : Option RefusalOf :=
  match finOf? 8 pool with
  | some p =>
    conditional [(p == 0 || expectWide e || poolArgsBad a, .badArgument)] e (d.pool p).gen []
  | none => some { status := .badArgument }

/-- The fields given written in one step; the generation increments if any changed (R88, R98). -/
def Pool.load (p : Pool) (a : PoolArgs) : Pool :=
  let q : Pool :=
    { p with
      multiplex := a.multiplex.getD p.multiplex, interval := a.interval.getD p.interval,
      retries := a.retries.getD p.retries, takeScratch := (namedValue a.takeScratch).getD p.takeScratch,
      writeEnabled := (namedValue a.writeEnabled).getD p.writeEnabled,
      defaultCapacity := a.defaultCapacity.getD p.defaultCapacity }
  if q = p then p else { q with gen := p.gen + 1 }

/-- The results of LOAD_POOL (R98). -/
def Pool.items (p : Pool) : List Item :=
  [numItem "MULTIPLEX_LIMIT" 1 p.multiplex, numItem "VERIFY_INTERVAL" 2 p.interval, numItem "READ_RETRIES" 1 p.retries,
   nameItem "TAKE_SCRATCH" (onName p.takeScratch), nameItem "WRITE_ENABLED" (onName p.writeEnabled),
   numItem "DEFAULT_CAPACITY" 4 p.defaultCapacity, genItem p.gen]

/-- The effects of a changed pool on binding, scratch taking and verify deadlines (R98). A changed interval is notified
for the pool's cartridges in ascending index (R162; DESIGN CHOICE, log entry 74). -/
def Device.poolEffects (d : Device) (p : PoolId) (old new : Pool) : Device :=
  let d := if old.multiplex < new.multiplex then d.post .bind else d
  let d := if !old.takeScratch && new.takeScratch && allCarts.any (d.takeable p) then d.post (.media p) else d
  if old.interval != new.interval then
    d.postAll ((allCarts.filter fun c => (d.cart c).any fun e => e.pool == some p).map .verifyNotify)
  else d

/-- A pool entry loaded and reported (R98). -/
def Device.loadPool (d : Device) (tag : Tag) (p : PoolId) (a : PoolArgs) : Device :=
  let old := d.pool p
  let new := old.load a
  let d := { d with media := { d.media with pools := d.media.pools.set p new } }
  (d.respond tag .ok new.items).poolEffects p old new

/-- LOAD_POOL (R98). -/
def execLoadPool (tag : Tag) (pool : Nat) (expected : Expected) (fields : PoolArgs) (s : State) :
    Host.Outcome State Fault Refusal :=
  s.request tag (s.dev.poolRefusal pool expected fields) fun d =>
    match finOf? 8 pool with
    | some p => d.loadPool tag p fields
    | none => d

/-! ### Cartridge entries -/

/-- A cartridge is in motion (R83). -/
def Device.inMotion (d : Device) (c : CartId) : Bool :=
  (d.changer.moves.any fun m => m.load == .cart c) ||
    match entryLocation (d.cart c) with
    | some (.at e) => e == pickerElem || isDriveElem e
    | _ => false

/-- A cartridge is held by a feed (R83). -/
def Device.heldByFeed (d : Device) (c : CartId) : Bool := (d.holder c).isSome

/-- A barcode of 8 characters, each 20h..7Eh (Table 5-1). -/
def barcodeOk (x : Bytes) : Bool := x.length == 8 && x.all fun b => 0x20 ≤ b.toNat && b.toNat ≤ 0x7E

/-- A field value of LOAD_CARTRIDGE outside its range (R84, check 1). -/
def cartArgsBad (a : CartArgs) : Bool :=
  a.kind.any namedUnknown || (a.pool.any fun n => 7 < n) || a.protection.any namedUnknown
    || (a.eod.any fun n => n == 0 || Config.maxEod < n) || (a.capacity.any fun n => !capacityOk n)
    || (a.serial.any fun n => Config.max32 < n) || (a.home.any fun n => n < 9 || 104 < n)
    || (a.uses.any fun n => 99 < n) || a.full.any namedUnknown

/-- The kind an argument gives. -/
def CartArgs.kind? (a : CartArgs) : Option CartKind := namedValue a.kind

/-! ### LOAD_CARTRIDGE, CREATE (R84) -/

/-- The checks of LOAD_CARTRIDGE CREATE (R84). -/
def Device.createRefusal (d : Device) (index : Nat) (e : Expected) (x : Bytes) (a : CartArgs) : Option RefusalOf :=
  match finOf? 128 index with
  | none => some { status := .badArgument }
  | some c =>
    let cleaning := namedValue a.kind == some .cleaning
    let pool := a.pool.getD 0
    conditional
      [(expectWide e || !barcodeOk x || cartArgsBad a || a.full.isSome
          || namedValue a.protection == some .finalized
          || (cleaning && (a.pool.isSome || a.protection.isSome || a.eod.isSome)), .badArgument)]
      e (d.row c).gen
      [((d.cart c).isSome || (d.byBarcode x).isSome, .busy),
       (!cleaning && pool == 0 && a.eod.any fun n => n != 1, .state)]

/-- A label serial argument as a word. -/
def serialArg (v : Option Nat) : Option Word32 := v.map (BitVec.ofNat 32)

/-- A home slot argument as an element. -/
def homeArg (v : Option Nat) : Option ElemId := v.bind (finOf? 105)

/-- A pool argument as a pool. -/
def poolArg (v : Option Nat) : Option PoolId := v.bind (finOf? 8)

/-- The entry a CREATE makes, before its location is found (R84, Table 5-1). Cleaning uses given for a DATA cartridge,
which R84 does not refuse and Table 5-1 gives no field for, are dropped (DESIGN CHOICE, log entry 92). -/
def Cart.created (x : Bytes) (a : CartArgs) : Cart :=
  let cleaning := namedValue a.kind == some .cleaning
  { barcode := x
    kind := if cleaning then .cleaning else .data
    pool := if cleaning then none else some ((poolArg a.pool).getD 0)
    protection := if cleaning then none else some ((namedValue a.protection).getD .writable)
    full := if cleaning then none else some false
    eod := if cleaning then none else a.eod
    capacity := a.capacity.getD Config.maxCapacity
    serial := (serialArg a.serial).getD 0
    location := .outside
    home := homeArg a.home
    uses := if cleaning then a.uses.getD 50 else 0
    finalizing := false
    reason := .none }

/-- The element that is FOREIGN with a barcode seen (R84): of several, as two drives with an unreadable label may make,
the one with the lowest number (DESIGN CHOICE, log entry 55). -/
def Device.foreignAt (d : Device) (x : Bytes) : Option ElemId :=
  allElems.find? fun e => (d.elem e).content == .foreign x

/-- A created entry's element found in a drive: the drive port has its cartridge, and returns it if it stands at the
mouth (R142; log entry 18). -/
def Device.adoptInDrive (d : Device) (e : ElemId) (c : CartId) : Device :=
  match driveOfElem? e with
  | none => d
  | some i =>
    let d := d.modDrive i fun x => { x with cart := some c }
    if (d.drive i).phase = .powerMouth then d.askReturn i else d

/-- A cartridge entry created, its location found from the element table (R84). -/
def Device.createCart (d : Device) (tag : Tag) (c : CartId) (x : Bytes) (a : CartArgs) : Device :=
  let entry := Cart.created x a
  match d.foreignAt x with
  | none =>
    let d := d.writeCart c (some entry)
    d.respond tag .ok [genItem (d.row c).gen]
  | some e =>
    let home := if entry.home.isNone && isStorage e then some e else entry.home
    let d := (d.setContent e (.occupied c)).writeCart c (some { entry with location := .at e, home })
    (d.respond tag .ok [genItem (d.row c).gen]).adoptInDrive e c

/-- LOAD_CARTRIDGE CREATE (R84). -/
def execLoadCartridgeCreate (tag : Tag) (index : Nat) (expected : Expected) (barcode : Bytes) (fields : CartArgs)
    (s : State) : Host.Outcome State Fault Refusal :=
  s.request tag (s.dev.createRefusal index expected barcode fields) fun d =>
    match finOf? 128 index with
    | some c => d.createCart tag c barcode fields
    | none => d

/-! ### LOAD_CARTRIDGE, EDIT (R85) -/

/-- The STATE cases of an EDIT (R85, check 5; log entry 19 for the kind each case reads). -/
def Device.editState (d : Device) (c : CartId) (e : Cart) (a : CartArgs) : Bool :=
  let kind := (namedValue a.kind).getD e.kind
  (a.eod.any fun n => e.eod.any fun m => n < m)
    || (kind != e.kind && e.eod.isSome)
    || (a.pool == some 0 && (d.named c || e.protection == some .finalized))
    || (namedValue a.kind == some .cleaning && (a.pool.isSome || a.eod.isSome))
    || (kind == .data && a.uses.isSome)
    || (e.kind == .cleaning && (a.pool.isSome || a.eod.isSome || a.full.isSome))

/-- The checks of LOAD_CARTRIDGE EDIT (R85). -/
def Device.editRefusal (d : Device) (index : Nat) (x : Expected) (a : CartArgs) : Option RefusalOf :=
  match finOf? 128 index with
  | none => some { status := .badArgument }
  | some c =>
    match d.cart c with
    | none =>
      firstFailing
        [(expectWide x || cartArgsBad a || a.protection.isSome || a.full == some (.known false), .badArgument),
         (true, .noEntry)]
    | some e =>
      conditional
        [(expectWide x || cartArgsBad a || a.protection.isSome || a.full == some (.known false), .badArgument)]
        x (d.row c).gen
        [((a.kind.isSome || a.pool.isSome || a.eod.isSome || a.serial.isSome) && (d.heldByFeed c || d.inMotion c)
            || (a.full.isSome && e.finalizing), .busy),
         (d.editState c e a, .state)]

/-- A change of kind (R85). -/
def Cart.toKind (e : Cart) (k : CartKind) : Cart :=
  if k = e.kind then e
  else
    match k with
    | .cleaning => { e with kind := .cleaning, pool := none, protection := none, full := none, uses := 50 }
    | .data =>
      { e with kind := .data, pool := some 0, protection := some .writable, full := some false, uses := 0 }

/-- The fields an EDIT gives, written in one step (R85). -/
def Cart.edited (e : Cart) (a : CartArgs) : Cart :=
  let e := e.toKind ((namedValue a.kind).getD e.kind)
  { e with
    pool := if a.pool.isSome then poolArg a.pool else e.pool
    eod := if a.eod.isSome then a.eod else e.eod
    capacity := a.capacity.getD e.capacity
    serial := (serialArg a.serial).getD e.serial
    home := if a.home.isSome then homeArg a.home else e.home
    full := if a.full.isSome && e.kind == .data then some true else e.full
    uses := a.uses.getD e.uses }

/-- The fields of a cartridge entry as a RESP carries them (R85, R87). -/
def Cart.items (e : Cart) : List Item :=
  [barcodeItem "BARCODE" e.barcode, nameItem "KIND" (kindName e.kind)]
  ++ optItem e.pool (fun p => numItem "POOL" 1 p.val)
  ++ optItem e.protection (fun p => nameItem "PROTECTION" (protectionName p))
  ++ optItem e.full (flagItem "FULL")
  ++ [knownItem "EOD" 4 e.eod, numItem "CAPACITY" 4 e.capacity, numItem "LABEL_SERIAL" 4 e.serial.toNat,
      locationItem e.location]
  ++ optItem e.home (fun h => numItem "HOME_SLOT" 1 h.val)
  ++ (if e.kind = .cleaning then [numItem "CLEANING_USES_REMAINING" 1 e.uses] else [])
  ++ [nameItem "FINALIZE_PENDING" (yesName e.finalizing), nameItem "REASON_CODE" e.reason.name]

/-- An EDIT that gives no field (R85). -/
def CartArgs.isRead (a : CartArgs) : Bool :=
  a.kind.isNone && a.pool.isNone && a.protection.isNone && a.eod.isNone && a.capacity.isNone && a.serial.isNone
    && a.home.isNone && a.full.isNone && a.uses.isNone

/-- A cartridge entry edited, with the effects on the verify unit (R85, R162, R166). -/
def Device.editEntry (d : Device) (tag : Tag) (c : CartId) (e : Cart) (a : CartArgs) (read : Bool) : Device :=
  let new := e.edited a
  let d := d.writeCart c (some new)
  let d := d.respond tag .ok (genItem (d.row c).gen :: if read then new.items else [])
  let d := if new.pool != e.pool then d.post (.verifyNotify c) else d
  let d := if new.serial != e.serial then d.unblock c .label else d
  if new.kind = .cleaning ∧ new ≠ e then d.post .arbiter else d

/-- LOAD_CARTRIDGE EDIT (R85). -/
def execLoadCartridgeEdit (tag : Tag) (index : Nat) (expected : Expected) (fields : CartArgs) (s : State) :
    Host.Outcome State Fault Refusal :=
  s.request tag (s.dev.editRefusal index expected fields) fun d =>
    match finOf? 128 index with
    | some c =>
      match d.cart c with
      | some e => d.editEntry tag c e fields (CartArgs.isRead fields)
      | none => d
    | none => d

/-! ### Requests on one entry: the checks they share -/

/-- The checks that begin every conditional request on one cartridge entry: BAD_ARGUMENT, NO_ENTRY and STALE (R86, R91,
R93, R94), with the request's own checks after them. -/
def Device.entryRefusal (d : Device) (index : Nat) (x : Expected) (own : CartId → Cart → List (Bool × Status)) :
    Option RefusalOf :=
  match finOf? 128 index with
  | none => some { status := .badArgument }
  | some c =>
    match d.cart c with
    | none => firstFailing [(expectWide x, .badArgument), (true, .noEntry)]
    | some e => conditional [(expectWide x, .badArgument)] x (d.row c).gen (own c e)

/-- A request's change of one entry, answered OK with the generation after it (R89). -/
def Device.changeEntry (d : Device) (tag : Tag) (index : Nat) (g : Cart → Cart) : Device :=
  match finOf? 128 index with
  | some c =>
    let d := d.editCart c g
    d.respond tag .ok [genItem (d.row c).gen]
  | none => d

/-! ### LOAD_CARTRIDGE, REMOVE (R86) -/

/-- The checks of LOAD_CARTRIDGE REMOVE (R86). -/
def Device.removeRefusal (d : Device) (index : Nat) (x : Expected) : Option RefusalOf :=
  d.entryRefusal index x fun c e =>
    [(d.named c || d.heldByFeed c || d.inMotion c || e.finalizing, .busy),
     (e.protection == some .finalized || (e.protection == some .held && d.media.holdLine), .protected_)]

/-- A cartridge entry removed, its element FOREIGN (R86). -/
def Device.removeCart (d : Device) (tag : Tag) (c : CartId) : Device :=
  match d.cart c with
  | none => d
  | some e =>
    let d : Device :=
      match e.location with
      | .at x => d.setContent x (.foreign e.barcode)
      | _ => d
    let d := d.writeCart c none
    d.respond tag .ok [genItem (d.row c).gen]

/-- LOAD_CARTRIDGE REMOVE (R86). -/
def execLoadCartridgeRemove (tag : Tag) (index : Nat) (expected : Expected) (s : State) :
    Host.Outcome State Fault Refusal :=
  s.request tag (s.dev.removeRefusal index expected) fun d =>
    match finOf? 128 index with
    | some c => d.removeCart tag c
    | none => d

/-! ### LOCK, UNLOCK, HOLD (R90, R91) -/

/-- The three protection requests (R91). -/
inductive ProtectionRequest where
  | lock | unlock | hold
deriving DecidableEq, Repr

/-- What Table 5-2 gives a protection request: the new protection, or the status of its refusal. -/
def protectionTable (q : ProtectionRequest) (p : Protection) (lineAsserted : Bool) : Except Status Protection :=
  match p, q with
  | .finalized, _ => .error .protected_
  | .writable, .lock => .ok .locked
  | .writable, .unlock => .error .state
  | .writable, .hold => .ok .held
  | .locked, .lock => .error .state
  | .locked, .unlock => .ok .writable
  | .locked, .hold => .ok .held
  | .held, .lock => .error .state
  | .held, .unlock => if lineAsserted then .error .protected_ else .ok .writable
  | .held, .hold => .error .state

/-- The status Table 5-2 refuses a request with, if it does. -/
def tableRefusal (q : ProtectionRequest) (p : Protection) (line : Bool) : Option Status :=
  match protectionTable q p line with
  | .error s => some s
  | .ok _ => none

/-- The checks of LOCK, UNLOCK and HOLD (R91, R92). -/
def Device.protectRefusal (d : Device) (q : ProtectionRequest) (index : Nat) (x : Expected) : Option RefusalOf :=
  d.entryRefusal index x fun _ e =>
    match if e.kind = .cleaning then none else e.protection with
    | none => [(true, .state)]
    | some p =>
      match tableRefusal q p d.media.holdLine with
      | some st => [(true, st)]
      | none => []

/-- The entry after an accepted LOCK, UNLOCK or HOLD (R91). -/
def Cart.protect (e : Cart) (q : ProtectionRequest) (line : Bool) : Cart :=
  match e.protection with
  | none => e
  | some p =>
    match protectionTable q p line with
    | .ok v => { e with protection := some v, reason := .none }
    | .error _ => e

/-- A protection request carried out (R91). -/
def State.protect (s : State) (q : ProtectionRequest) (tag : Tag) (index : Nat) (x : Expected) :
    Host.Outcome State Fault Refusal :=
  s.request tag (s.dev.protectRefusal q index x) fun d =>
    d.changeEntry tag index fun e => e.protect q d.media.holdLine

/-- LOCK (R91). -/
def execLock (tag : Tag) (index : Nat) (expected : Expected) (s : State) : Host.Outcome State Fault Refusal :=
  s.protect .lock tag index expected

/-- UNLOCK (R91, R92). -/
def execUnlock (tag : Tag) (index : Nat) (expected : Expected) (s : State) : Host.Outcome State Fault Refusal :=
  s.protect .unlock tag index expected

/-- HOLD (R91). -/
def execHold (tag : Tag) (index : Nat) (expected : Expected) (s : State) : Host.Outcome State Fault Refusal :=
  s.protect .hold tag index expected

/-! ### FINALIZE (R93) -/

/-- A location FINALIZE refuses: OUTSIDE, UNKNOWN, a mail slot or the picker (R93, check 4). -/
def Location.unfinalizable : Location → Bool
  | .at e => isMail e || e == pickerElem
  | _ => true

/-- A drive is mounting or append-checking a cartridge for a FEED claim (R93, check 6). -/
def Device.feedMounting (d : Device) (c : CartId) : Bool :=
  d.arb.claims.any fun k =>
    k.drive.isSome && k.chosen == some c &&
      match k.owner with
      | .feed _ => true
      | _ => false

/-- The checks of FINALIZE (R93). -/
def Device.finalizeRefusal (d : Device) (index : Nat) (x : Expected) : Option RefusalOf :=
  d.entryRefusal index x fun c e =>
    [(e.kind == .cleaning || e.pool == some 0 || e.protection == some .finalized || e.location.unfinalizable
        || e.eod.any (fun n => e.capacity < n + 1), .state),
     (e.protection == some .locked || e.protection == some .held, .protected_),
     (e.full == some true || d.heldByFeed c || d.feedMounting c || e.finalizing, .busy)]

/-- FINALIZE (R93). -/
def execFinalize (tag : Tag) (index : Nat) (expected : Expected) (s : State) : Host.Outcome State Fault Refusal :=
  s.request tag (s.dev.finalizeRefusal index expected) fun d =>
    let d := d.changeEntry tag index fun e => { e with finalizing := true }
    match finOf? 128 index with
    | some c => d.placeClaim .host (.finalize c) (.cart c)
    | none => d

/-! ### RECYCLE (R94) -/

/-- The checks of RECYCLE (R94). -/
def Device.recycleRefusal (d : Device) (index : Nat) (x : Expected) : Option RefusalOf :=
  d.entryRefusal index x fun c e =>
    [(e.kind == .cleaning, .state),
     (e.protection == some .finalized || e.protection == some .held, .protected_),
     (d.named c || d.heldByFeed c || d.inMotion c || e.finalizing, .busy)]

/-- The entry after a RECYCLE (R94). -/
def Cart.recycled (e : Cart) : Cart :=
  { e with pool := some 0, protection := some .writable, full := some false, eod := some 1, reason := .none }

/-- RECYCLE (R94). -/
def execRecycle (tag : Tag) (index : Nat) (expected : Expected) (s : State) : Host.Outcome State Fault Refusal :=
  s.request tag (s.dev.recycleRefusal index expected) fun d => d.changeEntry tag index Cart.recycled

/-! ### READ_CARTRIDGE (R87) and the retention-hold line (R92) -/

/-- The entry is appendable for its pool, or a takeable scratch cartridge for some pool (R87, R96). -/
def Device.usableNow (d : Device) (c : CartId) : Bool :=
  (((d.cart c).bind (·.pool)).any fun p => d.appendable p c) || dataPools.any fun p => d.takeable p c

/-- The results of READ_CARTRIDGE (R87). -/
def Device.cartItems (d : Device) (c : CartId) (e : Cart) : List Item :=
  genItem (d.row c).gen :: e.items
  ++ optItem (d.holder c) (fun f => numItem "HOLDING_FEED" 1 f.val)
  ++ [nameItem "NAMED_BY_PART" (yesName (d.named c)), nameItem "USABLE" (yesName (d.usableNow c))]

/-- READ_CARTRIDGE (R87). -/
def execReadCartridge (tag : Tag) (index : Nat) (s : State) : Host.Outcome State Fault Refusal :=
  match finOf? 128 index with
  | none => s.answer tag (some { status := .badArgument }) fun _ => []
  | some c =>
    match s.dev.cart c with
    | none => s.answer tag (some { status := .noEntry, items := [genItem (s.dev.row c).gen] }) fun _ => []
    | some e => s.answer tag none fun d => d.cartItems c e

/-- RETENTION_HOLD_CHANGE (R92): the level is taken; no entry changes. -/
def execRetentionHoldChange (asserted : Bool) (s : State) : Host.Outcome State Fault Refusal :=
  s.just fun d => { d with media := { d.media with holdLine := asserted } }

end Sys2Proof.Machine
end

