-- ==== Sys2Proof/Machine/Dispatch.lean ====
section
/-!
DEFINITION. `exec`: the effect of each command on everything but the queue, one arm for each row of
spec/opcode_table.json, each one call of the command's own meaning.
-/
namespace Sys2Proof.Machine

def exec (i : Instr) (s : State) : Host.Outcome State Fault Refusal :=
  match i with
  | .data ch payload => Sys2Proof.Machine.execData ch payload s
  | .markCut ch => Sys2Proof.Machine.execMarkCut ch s
  | .markEnd ch => Sys2Proof.Machine.execMarkEnd ch s
  | .grant ch count => Sys2Proof.Machine.execGrant ch count s
  | .frameRefused frame => Sys2Proof.Machine.execFrameRefused frame s
  | .unknownRequest tag items => Sys2Proof.Machine.execUnknownRequest tag items s
  | .openStream tag ch jobTag pool recordSize policy => Sys2Proof.Machine.execOpenStream tag ch jobTag pool recordSize policy s
  | .abortStream tag ch => Sys2Proof.Machine.execAbortStream tag ch s
  | .loadPool tag pool expected fields => Sys2Proof.Machine.execLoadPool tag pool expected fields s
  | .loadCartridgeCreate tag index expected barcode fields => Sys2Proof.Machine.execLoadCartridgeCreate tag index expected barcode fields s
  | .loadCartridgeEdit tag index expected fields => Sys2Proof.Machine.execLoadCartridgeEdit tag index expected fields s
  | .loadCartridgeRemove tag index expected => Sys2Proof.Machine.execLoadCartridgeRemove tag index expected s
  | .lock tag index expected => Sys2Proof.Machine.execLock tag index expected s
  | .unlock tag index expected => Sys2Proof.Machine.execUnlock tag index expected s
  | .hold tag index expected => Sys2Proof.Machine.execHold tag index expected s
  | .finalize tag index expected => Sys2Proof.Machine.execFinalize tag index expected s
  | .recycle tag index expected => Sys2Proof.Machine.execRecycle tag index expected s
  | .inventory tag first last => Sys2Proof.Machine.execInventory tag first last s
  | .move tag source destination => Sys2Proof.Machine.execMove tag source destination s
  | .restore tag ch part priority first count follow => Sys2Proof.Machine.execRestore tag ch part priority first count follow s
  | .cancelRestore tag ch => Sys2Proof.Machine.execCancelRestore tag ch s
  | .verifyNow tag index => Sys2Proof.Machine.execVerifyNow tag index s
  | .loadSegment tag args => Sys2Proof.Machine.execLoadSegment tag args s
  | .releaseSegment tag part => Sys2Proof.Machine.execReleaseSegment tag part s
  | .readSegment tag part => Sys2Proof.Machine.execReadSegment tag part s
  | .listSegments tag cart jobTag start => Sys2Proof.Machine.execListSegments tag cart jobTag start s
  | .readCartridge tag index => Sys2Proof.Machine.execReadCartridge tag index s
  | .readElement tag element => Sys2Proof.Machine.execReadElement tag element s
  | .readDrive tag drive => Sys2Proof.Machine.execReadDrive tag drive s
  | .readFeed tag feed => Sys2Proof.Machine.execReadFeed tag feed s
  | .readStream tag ch => Sys2Proof.Machine.execReadStream tag ch s
  | .setParam tag param value => Sys2Proof.Machine.execSetParam tag param value s
  | .setTime tag value => Sys2Proof.Machine.execSetTime tag value s
  | .poll tag => Sys2Proof.Machine.execPoll tag s
  | .resetLink tag drive => Sys2Proof.Machine.execResetLink tag drive s
  | .resetDrive tag drive => Sys2Proof.Machine.execResetDrive tag drive s
  | .resetChanger tag drive => Sys2Proof.Machine.execResetChanger tag drive s
  | .linkDown => Sys2Proof.Machine.execLinkDown s
  | .linkUp => Sys2Proof.Machine.execLinkUp s
  | .powerOn doorOpen holdAsserted => Sys2Proof.Machine.execPowerOn doorOpen holdAsserted s
  | .retentionHoldChange asserted => Sys2Proof.Machine.execRetentionHoldChange asserted s
  | .mailDoorOpen => Sys2Proof.Machine.execMailDoorOpen s
  | .mailDoorClosed => Sys2Proof.Machine.execMailDoorClosed s
  | .compressionCompletion => Sys2Proof.Machine.execCompressionCompletion s
  | .placement => Sys2Proof.Machine.execPlacement s
  | .expansionCompletion => Sys2Proof.Machine.execExpansionCompletion s
  | .assemblyTimeout feed => Sys2Proof.Machine.execAssemblyTimeout feed s
  | .oldestBlockTimeout feed => Sys2Proof.Machine.execOldestBlockTimeout feed s
  | .governorPeriod feed => Sys2Proof.Machine.execGovernorPeriod feed s
  | .loadCompletion drive number result => Sys2Proof.Machine.execLoadCompletion drive number result s
  | .unloadCompletion drive number result => Sys2Proof.Machine.execUnloadCompletion drive number result s
  | .locateCompletion drive number result => Sys2Proof.Machine.execLocateCompletion drive number result s
  | .locateEndCompletion drive number result end_ => Sys2Proof.Machine.execLocateEndCompletion drive number result end_ s
  | .readCompletion drive number result block => Sys2Proof.Machine.execReadCompletion drive number result block s
  | .writeCompletion drive number result => Sys2Proof.Machine.execWriteCompletion drive number result s
  | .speedCompletion drive number result => Sys2Proof.Machine.execSpeedCompletion drive number result s
  | .cleanCompletion drive number result => Sys2Proof.Machine.execCleanCompletion drive number result s
  | .cleanRequest drive => Sys2Proof.Machine.execCleanRequest drive s
  | .commandTimeout drive => Sys2Proof.Machine.execCommandTimeout drive s
  | .minimumDwell drive => Sys2Proof.Machine.execMinimumDwell drive s
  | .idleUnmount drive => Sys2Proof.Machine.execIdleUnmount drive s
  | .transferCompletion number result => Sys2Proof.Machine.execTransferCompletion number result s
  | .scanCompletion number result => Sys2Proof.Machine.execScanCompletion number result s
  | .rehomeCompletion number result => Sys2Proof.Machine.execRehomeCompletion number result s
  | .orderTimeout => Sys2Proof.Machine.execOrderTimeout s
  | .restoreStall ch => Sys2Proof.Machine.execRestoreStall ch s
  | .libraryTimeAdvance => Sys2Proof.Machine.execLibraryTimeAdvance s
  | .entryOverdue index => Sys2Proof.Machine.execEntryOverdue index s
  | .outboundFrameLeaves ch => Sys2Proof.Machine.execOutboundFrameLeaves ch s

end Sys2Proof.Machine
end

