-- ==== Sys2Proof/Safety.lean ====
section
/-!
DEFINITION. What the claims call safe: which parts of the device no decision ever changes, when the parameters, the
pools and the counts stand in the ranges the spec gives them, and when the streams' credits, the governors, the part
ids, the event counts, the grants and the verify list stand as their rules say.
-/
namespace Sys2Proof.Machine

/-! ### What only commands change -/

/-- What only commands change, and no decision inside a step: the parameters, library time and the elapsed seconds,
the pool table, the two input lines, whether the link is up, its error count, the frame on the wire, and the count of
commands. -/
structure Fixed where
  params : Params
  time : Nat
  elapsed : Nat
  pools : Vector Pool 8
  holdLine : Bool
  doorOpen : Bool
  up : Bool
  errors : Nat
  wire : Option Bytes
  moment : Nat
deriving DecidableEq, Repr

/-- That part of a device. -/
def Device.fixed (d : Device) : Fixed :=
  { params := d.mu.params, time := d.mu.time, elapsed := d.mu.elapsed, pools := d.media.pools,
    holdLine := d.media.holdLine, doorOpen := d.changer.doorOpen, up := d.link.up, errors := d.link.errors,
    wire := d.link.wire, moment := d.moment }

/-- Every parameter stands in its range (Table 0-4). -/
def Params.Legal (p : Params) : Prop := ∀ k, (paramRange k).1 ≤ p.get k ∧ p.get k ≤ (paramRange k).2

/-- A pool entry stands in the ranges of Table 5-3. -/
structure Pool.Legal (p : Pool) : Prop where
  multiplex : 1 ≤ p.multiplex ∧ p.multiplex ≤ 8
  interval : p.interval ≤ 8760
  retries : p.retries ≤ 3
  capacity : 128 ≤ p.defaultCapacity ∧ p.defaultCapacity ≤ Config.maxCapacity

/-- The parameters stand in their ranges (Table 0-4, R177), library time and the link error count in theirs (R176,
R179), every pool in Table 5-3's, and pool 0 is as Table 5-3 has it. -/
structure Fixed.Legal (x : Fixed) : Prop where
  params : x.params.Legal
  time : x.time ≤ Config.max32
  errors : x.errors ≤ 65535
  scratch : x.pools[0] = Pool.scratch
  pools : ∀ p : PoolId, x.pools[p].Legal

/-! ### What every decision keeps -/

/-- R12 for a stream's state, credits and occupied slots; and the ranges of its occupied slots, its overrun count and its next record
sequence (Table 1-1). -/
structure RingSound (state : StreamState) (credits occupied overruns nextSeq : Nat) : Prop where
  taking : state.takes = true → credits + occupied = Config.ringSlots
  ending : state = .ending → credits = 0
  occupied : occupied ≤ Config.ringSlots
  overruns : overruns ≤ 65535
  nextSeq : nextSeq ≤ Config.max32

/-- A stream context's ring and counts are sound (R12, Table 1-1). -/
def Stream.Sound (s : Stream) : Prop := RingSound s.state s.credits s.slots.length s.overruns s.nextSeq

/-- The governor's fields stand in their ranges (Table 3-1, R55, R56). -/
structure GovernorSound (step upCount estimate periodCount stops : Nat) : Prop where
  step : 1 ≤ step ∧ step ≤ 8
  upCount : upCount ≤ 2
  estimate : estimate ≤ 65535
  periodCount : periodCount ≤ 4095
  stops : stops ≤ 65535

/-- A feed's governor and counts are sound (Table 3-1). -/
def Feed.Sound (x : Feed) : Prop := GovernorSound x.step x.upCount x.estimate x.periodCount x.stops

/-- What every decision of a step and every command keeps of the tables it names: the streams (R12), the feeds (Table
3-1), the part ids and their counter (R66), the event counts (R180), the grant counts (R153), and the order of the
verify list (R162). -/
structure TablesSound (streams : Vector Stream 32) (feeds : Vector (Option Feed) 4) (parts : List Part) (counter : Nat)
    (events : Vector (Option Event) 14) (grants : Vector Nat 8) (list : List VerifyEntry) : Prop where
  streams : ∀ c : StreamId, (streams[c]).Sound
  feeds : ∀ (f : FeedId) (x : Feed), feeds[f] = some x → x.Sound
  parts : ∀ p ∈ parts, 1 ≤ p.id ∧ p.id ≤ Config.max32
  counter : 1 ≤ counter ∧ counter ≤ Config.max32
  events : ∀ (k : Fin 14) (e : Event), events[k] = some e → 1 ≤ e.count ∧ e.count ≤ 255
  grants : ∀ r : RestoreId, grants[r] ≤ 65535
  list : list.Pairwise fun a b => a.deadline ≤ b.deadline

/-- The device's tables are sound. -/
def Device.Sound (d : Device) : Prop :=
  TablesSound d.intake.streams d.feeds d.map.parts d.map.counter d.mu.events d.link.grants d.vu.list

/-- The law on the suspend stack (R138): at most 2 contexts, and a WRITE context only at the bottom. -/
def StackLaw (stack : List Context) : Prop :=
  stack.length ≤ Config.stackDepth ∧ ∀ k ∈ stack.tail, k.work.isFeed = false

/-- The law on feed capacity (R49): never more than 4 blocks in flight, nor more than 68 in flight and staged. -/
def Feed.Law (x : Feed) : Prop :=
  x.flights.length ≤ Config.writeWindow ∧
    x.flights.length + x.staging.length ≤ Config.stagingLimit + Config.writeWindow

/-- The reservations a feed entry holds, 0 for a free entry (R52, R68). -/
def reservationsOf (x : Option Feed) : Nat := (x.map (·.reservations.length)).getD 0

/-- The law on map capacity (R68), with the reservation count as the feeds hold it, the ids rising and the counter in its
range (R65, R66). -/
structure MapLaw (feeds : Vector (Option Feed) 4) (map : SegMap) : Prop where
  capacity : map.parts.length + map.reserved ≤ Config.mapSize
  reserved : map.reserved =
    reservationsOf feeds[0] + reservationsOf feeds[1] + reservationsOf feeds[2] + reservationsOf feeds[3]
  rising : map.parts.Pairwise fun a b => a.id < b.id
  counter : 1 ≤ map.counter ∧ map.counter ≤ Config.max32

/-- The law on part extents (R75): first block ≤ last block < EOD of the cartridge, which is known, and first record
sequence ≤ last record sequence. -/
def ExtentLaw (parts : List Part) (carts : Vector CartRow 128) : Prop :=
  ∀ p ∈ parts, p.firstBlock ≤ p.lastBlock ∧ p.firstSeq ≤ p.lastSeq ∧
    ∃ e n, carts[p.cart].entry = some e ∧ e.eod = some n ∧ p.lastBlock < n

/-- The location law (R99): a cartridge entry's location names an element if and only if that element is OCCUPIED by that
cartridge. -/
def LocationLaw (carts : Vector CartRow 128) (elems : Vector Element 105) : Prop :=
  ∀ (c : CartId) (e : ElemId), (∃ x, carts[c].entry = some x ∧ x.location = .at e) ↔ elems[e].content = .occupied c

/-- The device's laws that its rules name: on feed capacity (R49), map capacity (R68), part extents (R75), locations
(R99) and the suspend stacks (R138). -/
structure LawsHold (feeds : Vector (Option Feed) 4) (map : SegMap) (carts : Vector CartRow 128)
    (elems : Vector Element 105) (drives : Vector Drive 4) : Prop where
  feedCapacity : ∀ (f : FeedId) (x : Feed), feeds[f] = some x → x.Law
  mapCapacity : MapLaw feeds map
  extents : ExtentLaw map.parts carts
  locations : LocationLaw carts elems
  suspendStacks : ∀ i : DriveId, StackLaw (drives[i]).stack

/-- The device keeps those laws. -/
def Device.Lawful (d : Device) : Prop := LawsHold d.feeds d.map d.media.carts d.media.elems d.drives

/-- Nothing is due: no decision waits between two commands. -/
def Device.Quiet (d : Device) : Prop := d.agenda = []

/-- The device as a command finds it, counted (R35's order of presentation). -/
def Device.begun (d : Device) : Device := { d with moment := d.moment + 1 }

/-- A command that arrives on the link, or a frame's leaving it: nothing of it happens while the link is down (R185). -/
def onLink : Instr → Bool
  | .linkDown | .linkUp | .powerOn .. | .retentionHoldChange _ | .mailDoorOpen | .mailDoorClosed => false
  | .compressionCompletion | .placement | .expansionCompletion => false
  | .assemblyTimeout _ | .oldestBlockTimeout _ | .governorPeriod _ => false
  | .loadCompletion .. | .unloadCompletion .. | .locateCompletion .. | .locateEndCompletion .. => false
  | .readCompletion .. | .writeCompletion .. | .speedCompletion .. | .cleanCompletion .. => false
  | .cleanRequest _ | .commandTimeout _ | .minimumDwell _ | .idleUnmount _ => false
  | .transferCompletion .. | .scanCompletion .. | .rehomeCompletion .. | .orderTimeout => false
  | .restoreStall _ | .libraryTimeAdvance | .entryOverdue _ => false
  | .data .. | .markCut _ | .markEnd _ | .grant .. | .frameRefused _ | .unknownRequest .. => true
  | .openStream .. | .abortStream .. | .loadPool .. | .loadCartridgeCreate .. | .loadCartridgeEdit .. => true
  | .loadCartridgeRemove .. | .lock .. | .unlock .. | .hold .. | .finalize .. | .recycle .. => true
  | .inventory .. | .move .. | .restore .. | .cancelRestore .. | .verifyNow .. | .loadSegment .. => true
  | .releaseSegment .. | .readSegment .. | .listSegments .. | .readCartridge .. | .readElement .. => true
  | .readDrive .. | .readFeed .. | .readStream .. | .setParam .. | .setTime .. | .poll _ => true
  | .resetLink .. | .resetDrive .. | .resetChanger .. | .outboundFrameLeaves _ => true

/-- The checks of a request made in their order (R174): the first that fails gives the status of the answer, and a
request none of whose checks fails is `accepted`. -/
def refusedInOrder (answer : Status → Prop) (accepted : Prop) : List (Prop × Status) → Prop
  | [] => accepted
  | (fails, status) :: checks => (fails → answer status) ∧ (¬fails → refusedInOrder answer accepted checks)

/-- A row of the cartridge table after a change of its entry as one event: the generation counts a change and nothing
else (R88). -/
def CartRow.after (r : CartRow) (e : Option Cart) : CartRow := if r.entry = e then r else ⟨r.gen + 1, e⟩

/-- The device with a row of the cartridge table changed as one event (R88), a frame made ready, and decisions due. -/
def Device.withRow (d : Device) (c : CartId) (e : Option Cart) (f : OutFrame) (tasks : List Task) : Device :=
  { d with
    media := { d.media with carts := d.media.carts.set c ((d.row c).after e) },
    link := { d.link with outbound := d.link.outbound ++ [f] }, agenda := tasks }

/-- The cartridge of an index is FINALIZED, its EOD known (R90, R95). -/
def Device.FinalizedAt (d : Device) (c : CartId) : Prop :=
  ∃ e, d.cart c = some e ∧ e.protection = some .finalized ∧ e.eod ≠ none

end Sys2Proof.Machine
end

