-- ==== Sys2Proof/Certificates/Slice0/Obligations.lean ====
section
/-!
DEFINITION. The statements for the provers: what a step and each command do, what every step keeps, who may change what,
and that what the device writes it reads back. A statement of a command's effect names the device the command makes;
`settle` then carries out every decision that device owes (log entry 1). `begun` counts the command.
-/
open Sys2Proof Sys2Proof.Machine

/-! ### The machine -/

/-- A step carries out the command at the front of the queue with the queue's rest; with none waiting the device idles
(the model's own, log entry 4). -/
def Obligations.StepCarriesOutTheFrontCommand : Prop :=
  (∀ (c : Instr) (rest : List Instr) (s : State), s.pending = c :: rest → step s = exec c { s with pending := rest }) ∧
  (∀ s : State, s.pending = [] → step s = .next s)

/-- Every command is carried out in every state and leaves the queue as it is: no command faults, none is refused by the
model (R174: each request is answered). From a device that owes no decision, what it leaves is a device settled: the
oldest decision is carried out first and those it makes due stand behind the others, a decision that is due already is
not made due twice, and it ends with a device that owes none, or after 1000000 decisions (the order and the bound are
the model's, log entry 1). -/
def Obligations.EveryCommandCompletesAndSettles : Prop :=
  (∀ (c : Instr) (s : State), ∃ d : Device, exec c s = .next { s with dev := d } ∧
    (s.dev.Quiet → ∃ e : Device, d = e.settle)) ∧
  (∀ d : Device, d.Quiet → d.settle = d) ∧
  (∀ (d : Device) (t : Task) (ts : List Task), d.agenda = t :: ts → d.settle.Quiet →
    d.settle = (({ d with agenda := ts } : Device).perform t).settle) ∧
  (∀ d : Device, d.settle.Quiet ∨ ∀ n, n ≤ 1000000 → ¬(Device.settleLoop n d).Quiet) ∧
  ∀ (d : Device) (t : Task), (t ∈ d.agenda → d.post t = d) ∧
    (t ∉ d.agenda → d.post t = { d with agenda := d.agenda ++ [t] })

/-- POWER_ON gives every block its power-on values whatever the state: every field of every stream, drive and cartridge
row, of the changer with its inventory, mail scan and fault elements, of the engines, the map, the pools, the elements,
the claim list, the restore queue, the verify unit, the parameters, the clock, the events and the link (R186, Tables
0-4, 1-1, 4-1, 5-1, 5-3, 5-4, 6-1, 7-1); the device is that of the reset state with the two lines as sampled. The reset
state itself has the door closed and the line deasserted (the model's choice, log entry 2). The numbers of the first
commands and of the queue are log entries 5 and 45; that the head table is empty and the decode state 0, 0, 0 is log
entry 46. -/
def Obligations.PowerOnGivesEveryBlockItsValues : Prop :=
  (∀ (door hold : Bool) (s : State), ∃ d : Device, exec (.powerOn door hold) s = .next { s with dev := d } ∧
    d = { State.reset.dev with
      media := { State.reset.dev.media with holdLine := hold }
      changer := { State.reset.dev.changer with doorOpen := door } } ∧
    (∀ c, d.stream c =
      { state := .closed, jobTag := 0, pool := 0, recordSize := 65536, policy := .adaptive, readSlot := 0,
        byteOffset := 0, writeSlot := 0, slots := [], offered := none, credits := 0, nextSeq := 0, unconfirmed := 0,
        accepted := 0, overruns := 0, gap := false, feed := none, part := none, storedRun := 0, bypass := 0,
        opening := 0, limitReached := false }) ∧
    d.intake.waitOrder = [] ∧
    d.ce.state = .idle ∧ streamChannel d.ce.lastServed = 32 ∧ d.ce.current = none ∧ d.ce.hold = none ∧ d.ce.head = [] ∧
    d.xe.current = none ∧ d.xe.requests = [] ∧ d.xe.decode = ⟨0, 0, 0⟩ ∧
    (∀ f, d.feed f = none) ∧
    d.map.parts = [] ∧ d.map.reserved = 0 ∧ d.map.counter = 1 ∧
    (∀ c, d.row c = ⟨0, none⟩) ∧
    d.pool 0 = ⟨1, 0, 2, false, false, 16777215, 0⟩ ∧
    (∀ p : PoolId, p ≠ 0 → d.pool p = ⟨4, 24, 2, true, true, 16777215, 0⟩) ∧
    (∀ e, d.elem e = ⟨.unknown none, none, none⟩) ∧
    d.media.holdLine = hold ∧
    d.changer =
      { picker := .moving, order := some ⟨0, 0, .rehome⟩, orderNo := 1, moves := [], faultElems := [],
        inventory := none, doorOpen := door, mailScan := none, reset := some ⟨.rehome, [], [], []⟩, entryCount := 0,
        nextMove := 0 } ∧
    (∀ i, d.drive i =
      { state := .unloading, cart := none, found := none, position := none, outstanding := [⟨0, 0, .unload⟩],
        cmdNo := 1, active := none, claim := none, stack := [], mountTime := none, idleSince := none,
        cleaningDue := false, autoReset := false, faultCause := none, phase := .powerUnload, suspendFor := none,
        released := false, hostIn := false }) ∧
    d.arb = ⟨[], 0⟩ ∧ d.ru = ⟨[], 0⟩ ∧ d.vu = ⟨[], [], 0⟩ ∧
    d.mu.params = ⟨32, 5, 60, 300, 1, 300⟩ ∧ d.mu.time = 0 ∧ d.mu.elapsed = 0 ∧
    d.event .powerOn = some ⟨1, .number 0⟩ ∧ (∀ k, k ≠ .powerOn → d.event k = none) ∧
    d.link.up = true ∧ d.link.errors = 0 ∧ (∀ r, d.grants r = 0) ∧ d.link.outbound = [] ∧ d.link.wire = none ∧ d.moment = 0 ∧ d.Quiet) ∧
  exec (.powerOn false false) State.reset = .next State.reset

/-! ### What every step keeps -/

/-- At reset the parameters, library time, the link error count and the pools stand in their ranges (Tables 0-4, 5-3);
the streams' credits, the governors, the part ids, the event counts, the grant counts and the verify list stand as their
rules say; and the laws on feed capacity, map capacity, part extents, locations and the suspend stacks hold (R49, R68,
R75, R99, R138). -/
def Obligations.ResetStandsInItsRangesAndTables : Prop :=
  (State.reset.dev.fixed.Legal) ∧
  (State.reset.dev.Sound) ∧
  (State.reset.dev.Lawful)

/-- Every step keeps the parameters in the ranges of Table 0-4, library time and the link error count in theirs, every
pool in Table 5-3's ranges, and pool 0 as Table 5-3 has it. -/
def Obligations.EveryStepKeepsTheRanges : Prop :=
  ∀ s t : State, s.dev.fixed.Legal → step s = .next t → t.dev.fixed.Legal

/-- Every step, with every decision it makes, keeps the credit law of every stream (R12), the governors' ranges (Table
3-1), the part ids and the part-id counter in 1..FFFFFFFFh (R66), every pending event's count in 1..255 (R180), the
grant counts in 0..65535 (R153), and the verify list in ascending deadline (R162). -/
def Obligations.EveryStepKeepsTheTablesSound : Prop :=
  ∀ s t : State, s.dev.Sound → step s = .next t → t.dev.Sound

/-- Every step, with every decision it makes, keeps the laws the rules name: never more than 4 blocks in flight nor 68
in flight and staged (R49); parts in use plus reservations at most 4096, the reservation count being what the feeds
hold, and the part ids rising (R65, R68); first block ≤ last block < EOD of a part's cartridge and first sequence ≤ last
sequence (R75); an entry's location names an element if and only if that element is OCCUPIED by it (R99); at most 2
contexts on a suspend stack, a WRITE context only at the bottom (R138). -/
def Obligations.EveryStepKeepsTheLaws : Prop :=
  ∀ s t : State, s.dev.Lawful → step s = .next t → t.dev.Lawful

/-- From the moment a cartridge is FINALIZED with its EOD known it stays so at every command but power-on: no request,
completion or decision of the device moves its protection, empties its row, or takes its EOD away (R85, R86, R90, R91,
R94, R95). -/
def Obligations.FinalizedIsNeverLeft : Prop :=
  ∀ (c : Instr) (s t : State) (x : CartId), (∀ a b, c ≠ .powerOn a b) → s.dev.FinalizedAt x → exec c s = .next t →
    t.dev.FinalizedAt x

/-- Who may change what: the parameters only SET_PARAM; library time only SET_TIME and the second; elapsed seconds only
the second; the pools only LOAD_POOL; the retention-hold level and the mail-door level only their lines; whether the
link is up only the link; and POWER_ON all of them (R92, R98, R117, R177, R179, R185, R186). The link error count grows
only at a refused frame, by 1, and saturates; only the two link resets and POWER_ON clear it (R10, R175, R176, R185). -/
def Obligations.OnlyTheirOwnersChangeTheSettings : Prop :=
  (∀ (c : Instr) (s t : State), exec c s = .next t → (∀ a b, c ≠ .powerOn a b) →
    ((∀ tag k v, c ≠ .setParam tag k v) → t.dev.mu.params = s.dev.mu.params) ∧
    ((∀ tag v, c ≠ .setTime tag v) → c ≠ .libraryTimeAdvance → t.dev.mu.time = s.dev.mu.time) ∧
    (c ≠ .libraryTimeAdvance → t.dev.mu.elapsed = s.dev.mu.elapsed) ∧
    ((∀ tag p e a, c ≠ .loadPool tag p e a) → t.dev.media.pools = s.dev.media.pools) ∧
    ((∀ b, c ≠ .retentionHoldChange b) → t.dev.media.holdLine = s.dev.media.holdLine) ∧
    (c ≠ .mailDoorOpen → c ≠ .mailDoorClosed → t.dev.changer.doorOpen = s.dev.changer.doorOpen) ∧
    (c ≠ .linkDown → c ≠ .linkUp → t.dev.link.up = s.dev.link.up)) ∧
  ∀ (c : Instr) (s t : State), exec c s = .next t → (∀ a b, c ≠ .powerOn a b) → c ≠ .linkDown →
    (∀ tag v, c ≠ .resetLink tag v) →
    t.dev.link.errors = s.dev.link.errors ∨
      (t.dev.link.errors = min 65535 (s.dev.link.errors + 1) ∧
        ((∃ ch p, c = .data ch p) ∨ (∃ ch, c = .markCut ch) ∨ (∃ ch, c = .markEnd ch) ∨ (∃ ch n, c = .grant ch n) ∨
          ∃ f, c = .frameRefused f))

/-! ### The link -/

/-- While the link is down no frame is taken and none leaves (R185). A refused frame is discarded, adds 1 to the link
error count, saturating at 65535, and changes nothing else: a frame the link interface refuses (FRAME_REFUSED), a DATA
or a mark on a channel that is no stream channel, a GRANT of count 0 or on a channel that is no restore channel (R153,
R175, R176), and a DATA or a mark that the intake unit refuses (R10); that nothing is taken or counted while the link is
down is log entry 43. LINK_UP lets frames be taken and sent again and changes nothing else; after LINK_DOWN the link is
down, every stream is CLOSED, every grant count and the link error count are 0, and no unsent frame is left (R21, R185).
RESET_LINK makes the same reset with the link up; its OK stands among the frames to send, and no frame but RESPs is left
unsent (R184, log entry 21). Both end every restore in use, QUEUED or active, without an RMARK: its entry is freed,
its record at the expansion engine, its contexts and its claim are gone, every part loses the pins of the restores that
read it, and the drive at work for it works for it no longer (R157, R159, R185). The order in which the streams close is
log entry 54. -/
def Obligations.FramesNotTakenAndLinkResets : Prop :=
  ((∀ (c : Instr) (s : State), onLink c = true → s.dev.link.up = false → exec c s = .next s) ∧
   ∀ s : State, s.dev.link.up = true →
     let d := { s.dev with link := { s.dev.link with errors := min 65535 (s.dev.link.errors + 1) } }
     (∀ f, exec (.frameRefused f) s = .next { s with dev := d }) ∧
     (∀ ch, ch < 1 ∨ 32 < ch → (∀ p, exec (.data ch p) s = .next { s with dev := d }) ∧
       exec (.markCut ch) s = .next { s with dev := d } ∧ exec (.markEnd ch) s = .next { s with dev := d }) ∧
     (∀ ch n, ch < 33 ∨ 40 < ch ∨ n = 0 → exec (.grant ch n) s = .next { s with dev := d }) ∧
     (∀ c : StreamId, (∀ p : Bytes, (s.dev.stream c).state = .closed ∨ (s.dev.stream c).state = .ending ∨ p = [] ∨
         4096 < p.length → exec (.data (streamChannel c) p) s = .next { s with dev := d.begun.settle }) ∧
       ((s.dev.stream c).state = .closed ∨ (s.dev.stream c).state = .ending →
         exec (.markCut (streamChannel c)) s = .next { s with dev := d.begun.settle } ∧
         exec (.markEnd (streamChannel c)) s = .next { s with dev := d.begun.settle }))) ∧
  (∀ s : State,
     exec .linkUp s = .next { s with dev := { s.dev with link := { s.dev.link with up := true } } } ∧
     let restoresEnd := fun d : Device =>
       (∀ r e, s.dev.restore? r = some e → e.state ≠ .ended →
         d.restore? r = none ∧ (∀ q ∈ d.xe.requests, q.client ≠ .restore r) ∧
         (∀ i, ∀ k ∈ (d.drive i).stack, k.work ≠ .restore r) ∧
         (∀ k, s.dev.claimOf (.restore r) = some k → k ∉ d.arb.claims) ∧
         ∀ i, s.dev.driveOf (.restore r) = some i → (∀ k ∈ s.dev.arb.claims, k.owner ≠ .restore r) →
           (d.drive i).active ≠ some (.restore r)) ∧
       d.map.parts.map (fun p => (p.id, p.restorePins)) = s.dev.map.parts.map fun p =>
         (p.id, p.restorePins - (s.dev.ru.queue.filter fun e => decide (e.state ≠ .ended ∧ e.part = p.id)).length)
     (∃ d : Device, exec .linkDown s = .next { s with dev := d.settle } ∧ d.link.up = false ∧ d.link.errors = 0 ∧
       d.link.outbound = [] ∧ (∀ r, d.grants r = 0) ∧ (∀ c, (d.stream c).state = .closed) ∧ restoresEnd d) ∧
     (∀ tag, s.dev.link.up = true → ∃ d : Device, exec (.resetLink tag none) s = .next { s with dev := d.settle } ∧
       d.link.up = true ∧ d.link.errors = 0 ∧ (∀ r, d.grants r = 0) ∧ (∀ c, (d.stream c).state = .closed) ∧
       (∀ f ∈ d.link.outbound, f.isResp = true) ∧ OutFrame.resp tag .ok [] none ∈ d.link.outbound ∧ restoresEnd d))

/-- OUTBOUND_FRAME_LEAVES sends the oldest frame of its channel, with the attention bit set exactly while an event is
pending; frames of other channels keep their order; an RMARK's leaving frees its restore entry (R4, R145, R157, R183,
R188). A CREDIT whose stream's opening OK is still unsent before it does not leave (R4), and a channel without a frame
sends nothing: the device stands as it was. The channel as the operand is log entry 8. -/
def Obligations.TheOldestFrameOfAChannelLeaves : Prop :=
  (∀ (s : State) (ch : Nat) (before after : List OutFrame) (f : OutFrame), s.dev.link.up = true →
    s.dev.link.outbound = before ++ f :: after → f.channel = ch → (∀ g ∈ before, g.channel ≠ ch) →
    (∀ c n, f = .credit c n → ∀ tag st is, OutFrame.resp tag st is (some c) ∉ before) →
    let wire := f.bytes (allEvents.any fun k => (s.dev.event k).isSome)
    let d := { s.dev with link := { s.dev.link with outbound := before ++ after, wire := some wire } }
    ((∀ r p m st e, f ≠ .rmark r p m st e) → exec (.outboundFrameLeaves ch) s = .next { s with dev := d }) ∧
    (∀ r p m st e, f = .rmark r p m st e → exec (.outboundFrameLeaves ch) s =
      .next { s with
        dev := { d with ru := { d.ru with queue := d.ru.queue.filter fun x => x.chan != r } } })) ∧
  (∀ (s : State) (c : StreamId) (n : Nat) (before after : List OutFrame),
    s.dev.link.outbound = before ++ .credit c n :: after → (∀ g ∈ before, g.channel ≠ c.val + 1) →
    (∃ tag st is, OutFrame.resp tag st is (some c) ∈ before) → exec (.outboundFrameLeaves (c.val + 1)) s = .next s) ∧
  ∀ (s : State) (ch : Nat), (∀ g ∈ s.dev.link.outbound, g.channel ≠ ch) → exec (.outboundFrameLeaves ch) s = .next s

/-! ### Requests as a whole -/

/-- A refused request changes nothing: its RESP, with the tag, the status and what its rule adds, is made ready, and
that is all (R174). Which refusal, in the order of the rule's checks, for LOCK, UNLOCK and HOLD (R91, R92: the index,
the row, the generation, a cleaning cartridge, and then Table 5-2), INVENTORY (R115: the range and order, then one in
progress), ABORT_STREAM (R20) and CANCEL_RESTORE (R158; an entry that has ended and waits is log entry 20): a STALE
answer carries the generation (R89), and a request whose checks all pass is not refused. The other requests with several
checks stand in RefusalsComeInTheirOrder, RELEASE_SEGMENT in PartIdsAndTheRequestsOnParts. A generation beyond its item
is log entries 17 and 44. -/
def Obligations.RefusedRequestsChangeNothing : Prop :=
  (∀ (s : State) (tag : Tag) (x : RefusalOf), s.dev.link.up = true →
     let t : Host.Outcome State Fault Refusal :=
       .next { s with
         dev := { s.dev with
           link := { s.dev.link with outbound := s.dev.link.outbound ++ [.resp tag x.status x.items none] } } }
     (∀ ch job p size pol, s.dev.openRefusal ch job p size pol = some x → exec (.openStream tag ch job p size pol) s = t) ∧
     (∀ ch, s.dev.abortRefusal ch = some x → exec (.abortStream tag ch) s = t) ∧
     (∀ p e a, s.dev.poolRefusal p e a = some x → exec (.loadPool tag p e a) s = t) ∧
     (∀ i e b a, s.dev.createRefusal i e b a = some x → exec (.loadCartridgeCreate tag i e b a) s = t) ∧
     (∀ i e a, s.dev.editRefusal i e a = some x → exec (.loadCartridgeEdit tag i e a) s = t) ∧
     (∀ i e, s.dev.removeRefusal i e = some x → exec (.loadCartridgeRemove tag i e) s = t) ∧
     (∀ i e, s.dev.protectRefusal .lock i e = some x → exec (.lock tag i e) s = t) ∧
     (∀ i e, s.dev.protectRefusal .unlock i e = some x → exec (.unlock tag i e) s = t) ∧
     (∀ i e, s.dev.protectRefusal .hold i e = some x → exec (.hold tag i e) s = t) ∧
     (∀ i e, s.dev.finalizeRefusal i e = some x → exec (.finalize tag i e) s = t) ∧
     (∀ i e, s.dev.recycleRefusal i e = some x → exec (.recycle tag i e) s = t) ∧
     (∀ a b, s.dev.inventoryRefusal a b = some x → exec (.inventory tag a b) s = t) ∧
     (∀ a b, s.dev.moveRefusal a b = some x → exec (.move tag a b) s = t) ∧
     (∀ ch p pr a n f, s.dev.restoreRefusal ch p pr a n f = some x → exec (.restore tag ch p pr a n f) s = t) ∧
     (∀ ch, s.dev.cancelRefusal ch = some x → exec (.cancelRestore tag ch) s = t) ∧
     (∀ i, s.dev.verifyRefusal i = some x → exec (.verifyNow tag i) s = t) ∧
     (∀ a, s.dev.loadSegmentRefusal a = some x → exec (.loadSegment tag a) s = t) ∧
     (∀ p, s.dev.releaseRefusal p = some x → exec (.releaseSegment tag p) s = t) ∧
     (x = ⟨.badArgument, []⟩ → (∀ v, exec (.setParam tag .unknown v) s = t) ∧ exec (.setTime tag none) s = t ∧
       (∀ v, 0xFFFFFFFF < v → exec (.setTime tag (some v)) s = t) ∧
       (∀ i, exec (.resetLink tag (some i)) s = t ∧ exec (.resetChanger tag (some i)) s = t ∧
         (4 ≤ i → exec (.resetDrive tag (some i)) s = t)) ∧ exec (.resetDrive tag none) s = t)) ∧
  ∀ (s : State) (tag : Tag), s.dev.link.up = true →
    let answer := fun (i : Instr) (items : List Item) (st : Status) =>
      exec i s = .next { s with
        dev := { s.dev with
          link := { s.dev.link with
            outbound := s.dev.link.outbound ++ [.resp tag st (if st = .stale then items else []) none] } } }
    let entry := fun (c : CartId) (P : Cart → Prop) => ∃ e, s.dev.cart c = some e ∧ P e
    let is := fun (c : CartId) (p : Protection) => entry c fun e => e.protection = some p
    -- LOCK, UNLOCK and HOLD (R91, R92, Table 5-2)
    let inOrder := fun (c : CartId) (x : Expected) (i : Instr) (passes : Prop) (table : List (Prop × Status)) =>
      refusedInOrder (answer i [numItem "GENERATION" 1 (s.dev.row c).gen.toNat]) passes
        ([(∃ n, x = .exactly n ∧ 255 < n, .badArgument), (s.dev.cart c = none, .noEntry),
          (∃ n, x = .exactly n ∧ n ≠ (s.dev.row c).gen.toNat, .stale),
          (entry c fun e => e.kind = .cleaning ∨ e.protection = none, .state)] ++ table)
    (∀ i x, 127 < i → answer (.lock tag i x) [] .badArgument ∧ answer (.unlock tag i x) [] .badArgument ∧
      answer (.hold tag i x) [] .badArgument) ∧
    (∀ (c : CartId) (x : Expected),
      inOrder c x (.lock tag c x) (s.dev.protectRefusal .lock c x = none)
        [(is c .locked ∨ is c .held, .state), (is c .finalized, .protected_)] ∧
      inOrder c x (.unlock tag c x) (s.dev.protectRefusal .unlock c x = none)
        [(is c .writable, .state), ((is c .held ∧ s.dev.media.holdLine = true) ∨ is c .finalized, .protected_)] ∧
      inOrder c x (.hold tag c x) (s.dev.protectRefusal .hold c x = none)
        [(is c .held, .state), (is c .finalized, .protected_)]) ∧
    -- INVENTORY (R115)
    (∀ first last : Option Nat, let a := first.getD 5; let b := last.getD 104
      refusedInOrder (answer (.inventory tag first last) []) (s.dev.inventoryRefusal first last = none)
        [(a < 5 ∨ 104 < a ∨ b < 5 ∨ 104 < b ∨ b < a, .badArgument), (s.dev.changer.inventory ≠ none, .busy)]) ∧
    -- ABORT_STREAM (R20)
    (∀ ch, ch < 1 ∨ 32 < ch → answer (.abortStream tag ch) [] .badArgument) ∧
    (∀ c : StreamId, refusedInOrder (answer (.abortStream tag (c.val + 1)) [])
      (s.dev.abortRefusal (c.val + 1) = none) [((s.dev.stream c).state = .closed, .state)]) ∧
    -- CANCEL_RESTORE (R158)
    (∀ ch, ch < 33 ∨ 40 < ch → answer (.cancelRestore tag ch) [] .badArgument) ∧
    ∀ r : RestoreId, refusedInOrder (answer (.cancelRestore tag (r.val + 33)) [])
      (s.dev.cancelRefusal (r.val + 33) = none)
      [(∀ e, s.dev.restore? r = some e → e.state = .ended, .noEntry)]

/-- Which refusal a request is answered with, in its rule's order of checks, said in the terms of the rules: for
OPEN_STREAM (R3), LOAD_SEGMENT (R80), LOAD_CARTRIDGE CREATE, EDIT and REMOVE (R84, R85, R86), FINALIZE (R93), RECYCLE
(R94), LOAD_POOL (R98), MOVE (R109), RESTORE (R146) and VERIFY_NOW (R163). The first check that fails gives the status;
a STALE answer carries the generation (R89); the refusal is answered and changes nothing; a request whose checks all
pass is not refused. Numbers beyond their items' widths are log entries 17 and 44, the kind that an EDIT's check reads
is log entry 19. Check 1 of RESTORE refuses a record count above 2^32 (log entry 41) and does not bound one that comes
without a first sequence (log entry 64). LOCK, UNLOCK, HOLD, INVENTORY, ABORT_STREAM and CANCEL_RESTORE stand in
RefusedRequestsChangeNothing, LIST_SEGMENTS and the other reads in ReadsOnlyAnswer. -/
def Obligations.RefusalsComeInTheirOrder : Prop :=
  ∀ (s : State) (tag : Tag), s.dev.link.up = true →
    let answer := fun (i : Instr) (items : List Item) (st : Status) =>
      exec i s = .next { s with
        dev := { s.dev with
          link := { s.dev.link with
            outbound := s.dev.link.outbound ++ [.resp tag st (if st = .stale then items else []) none] } } }
    let gen := fun g : BitVec 8 => [numItem "GENERATION" 1 g.toNat]
    let wide := fun x : Expected => ∃ n, x = .exactly n ∧ 255 < n
    let differs := fun (x : Expected) (g : BitVec 8) => ∃ n, x = .exactly n ∧ n ≠ g.toNat
    let held := fun c : CartId => ∃ f x, s.dev.feed f = some x ∧ x.cart = some c
    let named := fun c : CartId => ∃ p ∈ s.dev.map.parts, p.cart = c
    let inMotion := fun c : CartId => (∃ m ∈ s.dev.changer.moves, m.load = .cart c) ∨
      ∃ e y, s.dev.cart c = some e ∧ e.location = .at y ∧ y.val ≤ 4
    let entry := fun (c : CartId) (P : Cart → Prop) => ∃ e, s.dev.cart c = some e ∧ P e
    let bad := fun a : CartArgs => a.kind = some .unknown ∨ (∃ n, a.pool = some n ∧ 7 < n) ∨
      a.protection = some .unknown ∨ (∃ n, a.eod = some n ∧ (n = 0 ∨ 2 ^ 24 < n)) ∨
      (∃ n, a.capacity = some n ∧ (n < 128 ∨ 16777215 < n)) ∨ (∃ n, a.serial = some n ∧ 0xFFFFFFFF < n) ∨
      (∃ n, a.home = some n ∧ (n < 9 ∨ 104 < n)) ∨ (∃ n, a.uses = some n ∧ 99 < n) ∨ a.full = some .unknown
    -- OPEN_STREAM (R3)
    ((∀ ch job pool size pol, ch < 1 ∨ 32 < ch ∨ 7 < pool →
        answer (.openStream tag ch job pool size pol) [] .badArgument) ∧
      ∀ (c : StreamId) (p : PoolId) (job : Nat) (size : Option Nat) (pol : Option (Named Policy)),
        refusedInOrder (answer (.openStream tag (c.val + 1) job p size pol) [])
          (s.dev.openRefusal (c.val + 1) job p size pol = none)
          [(job = 0 ∨ 0xFFFFFFFF < job ∨ p = 0 ∨
              (∃ n, size = some n ∧ n ≠ 4096 ∧ n ≠ 8192 ∧ n ≠ 16384 ∧ n ≠ 32768 ∧ n ≠ 65536) ∨ pol = some .unknown,
            .badArgument),
           ((s.dev.stream c).state ≠ .closed ∨
              (∃ r, s.dev.ce.current = some r ∧ r.opening = ⟨c, (s.dev.stream c).opening⟩) ∨
              (∃ f x, s.dev.feed f = some x ∧ ∃ e ∈ x.departed, e.opening = ⟨c, (s.dev.stream c).opening⟩), .busy),
           (∃ y, (s.dev.stream y).state ≠ .closed ∧ (s.dev.stream y).jobTag = job, .busy),
           ((s.dev.pool p).writeEnabled = false, .state)]) ∧
    -- LOAD_SEGMENT (R80)
    ((∀ a : SegmentArgs, 127 < a.cart → answer (.loadSegment tag a) [] .badArgument) ∧
      ∀ (c : CartId) (a : SegmentArgs), a.cart = c.val →
        refusedInOrder (answer (.loadSegment tag a) []) (s.dev.loadSegmentRefusal a = none)
          [(a.part = 0 ∨ 0xFFFFFFFF < a.part ∨ a.jobTag = 0 ∨ 0xFFFFFFFF < a.jobTag ∨ 0xFFFFFFFF < a.number ∨
              a.firstBlock = 0 ∨ a.lastBlock < a.firstBlock ∨ 2 ^ 24 - 1 < a.lastBlock ∨ a.lastSeq < a.firstSeq ∨
              0xFFFFFFFF < a.lastSeq ∨ a.rawBytes < a.storedBytes ∨ 2 ^ 64 ≤ a.rawBytes ∨ 0xFFFFFFFF < a.check ∨
              0xFFFFFFFF < a.closeTime ∨ (a.state ≠ .known .closed ∧ a.state ≠ .known .verified) ∨ a.gap = .unknown ∨
              a.truncated = .unknown ∨ a.continued = .unknown, .badArgument),
           (s.dev.cart c = none, .noEntry),
           (entry c fun e => e.kind = .cleaning ∨ e.eod = none ∨ ∃ n, e.eod = some n ∧ n ≤ a.lastBlock, .state),
           (∃ p ∈ s.dev.map.parts, p.id = a.part, .busy),
           (4096 < s.dev.map.parts.length + s.dev.map.reserved + 1, .full)]) ∧
    -- LOAD_CARTRIDGE CREATE, EDIT and REMOVE (R84, R85, R86)
    (∀ (i : Nat) (x : Expected) (b : Bytes) (a : CartArgs), 127 < i →
      answer (.loadCartridgeCreate tag i x b a) [] .badArgument ∧ answer (.loadCartridgeEdit tag i x a) [] .badArgument ∧
      answer (.loadCartridgeRemove tag i x) [] .badArgument ∧ answer (.finalize tag i x) [] .badArgument ∧
      answer (.recycle tag i x) [] .badArgument ∧ answer (.verifyNow tag i) [] .badArgument) ∧
    (∀ (c : CartId) (x : Expected) (b : Bytes) (a : CartArgs), let g := (s.dev.row c).gen
      refusedInOrder (answer (.loadCartridgeCreate tag c x b a) (gen g)) (s.dev.createRefusal c x b a = none)
        [(wide x ∨ b.length ≠ 8 ∨ (∃ y ∈ b, y.toNat < 0x20 ∨ 0x7E < y.toNat) ∨ bad a ∨ a.full ≠ none ∨
            a.protection = some (.known .finalized) ∨
            (a.kind = some (.known .cleaning) ∧ (a.pool ≠ none ∨ a.protection ≠ none ∨ a.eod ≠ none)), .badArgument),
         (differs x g, .stale),
         (s.dev.cart c ≠ none ∨ (∃ y, entry y fun e => e.barcode = b), .busy),
         (a.kind ≠ some (.known .cleaning) ∧ a.pool.getD 0 = 0 ∧ ∃ n, a.eod = some n ∧ n ≠ 1, .state)] ∧
      refusedInOrder (answer (.loadCartridgeEdit tag c x a) (gen g)) (s.dev.editRefusal c x a = none)
        [(wide x ∨ bad a ∨ a.protection ≠ none ∨ a.full = some (.known false), .badArgument),
         (s.dev.cart c = none, .noEntry),
         (differs x g, .stale),
         (((a.kind ≠ none ∨ a.pool ≠ none ∨ a.eod ≠ none ∨ a.serial ≠ none) ∧ (held c ∨ inMotion c)) ∨
            (a.full ≠ none ∧ entry c fun e => e.finalizing = true), .busy),
         (entry c fun e => (∃ n m, a.eod = some n ∧ e.eod = some m ∧ n < m) ∨
            (∃ k, a.kind = some (.known k) ∧ k ≠ e.kind ∧ e.eod ≠ none) ∨
            (a.pool = some 0 ∧ (named c ∨ e.protection = some .finalized)) ∨
            (a.kind = some (.known .cleaning) ∧ (a.pool ≠ none ∨ a.eod ≠ none)) ∨
            ((a.kind = some (.known .data) ∨ (a.kind = none ∧ e.kind = .data)) ∧ a.uses ≠ none) ∨
            (e.kind = .cleaning ∧ (a.pool ≠ none ∨ a.eod ≠ none ∨ a.full ≠ none)), .state)] ∧
      refusedInOrder (answer (.loadCartridgeRemove tag c x) (gen g)) (s.dev.removeRefusal c x = none)
        [(wide x, .badArgument), (s.dev.cart c = none, .noEntry), (differs x g, .stale),
         (named c ∨ held c ∨ inMotion c ∨ (entry c fun e => e.finalizing = true), .busy),
         (entry c fun e => e.protection = some .finalized ∨ (e.protection = some .held ∧ s.dev.media.holdLine = true),
          .protected_)] ∧
      -- FINALIZE and RECYCLE (R93, R94)
      refusedInOrder (answer (.finalize tag c x) (gen g)) (s.dev.finalizeRefusal c x = none)
        [(wide x, .badArgument), (s.dev.cart c = none, .noEntry), (differs x g, .stale),
         (entry c fun e => e.kind = .cleaning ∨ e.pool = some 0 ∨ e.protection = some .finalized ∨
            e.location = .outside ∨ e.location = .unknown ∨ (∃ y, e.location = .at y ∧ (isMail y = true ∨ y = 0)) ∨
            (∃ n, e.eod = some n ∧ e.capacity < n + 1), .state),
         (entry c fun e => e.protection = some .locked ∨ e.protection = some .held, .protected_),
         ((entry c fun e => e.full = some true) ∨ held c ∨
            (∃ k ∈ s.dev.arb.claims, k.drive ≠ none ∧ k.chosen = some c ∧ ∃ f, k.owner = .feed f) ∨
            (entry c fun e => e.finalizing = true), .busy)] ∧
      refusedInOrder (answer (.recycle tag c x) (gen g)) (s.dev.recycleRefusal c x = none)
        [(wide x, .badArgument), (s.dev.cart c = none, .noEntry), (differs x g, .stale),
         (entry c fun e => e.kind = .cleaning, .state),
         (entry c fun e => e.protection = some .finalized ∨ e.protection = some .held, .protected_),
         (named c ∨ held c ∨ inMotion c ∨ (entry c fun e => e.finalizing = true), .busy)]) ∧
    -- LOAD_POOL (R98)
    ((∀ p x a, 7 < p → answer (.loadPool tag p x a) [] .badArgument) ∧
      ∀ (p : PoolId) (x : Expected) (a : PoolArgs),
        refusedInOrder (answer (.loadPool tag p x a) (gen (s.dev.pool p).gen)) (s.dev.poolRefusal p x a = none)
          [(p = 0 ∨ wide x ∨ (∃ n, a.multiplex = some n ∧ (n = 0 ∨ 8 < n)) ∨ (∃ n, a.interval = some n ∧ 8760 < n) ∨
              (∃ n, a.retries = some n ∧ 3 < n) ∨ a.takeScratch = some .unknown ∨ a.writeEnabled = some .unknown ∨
              (∃ n, a.defaultCapacity = some n ∧ (n < 128 ∨ 16777215 < n)), .badArgument),
           (differs x (s.dev.pool p).gen, .stale)]) ∧
    -- MOVE (R109)
    ((∀ a b, 104 < a ∨ 104 < b → answer (.move tag a b) [] .badArgument) ∧
      ∀ a b : ElemId,
        refusedInOrder (answer (.move tag a b) []) (s.dev.moveRefusal a b = none)
          [(a = 0 ∨ b = 0 ∨ a = b, .badArgument),
           ((s.dev.elem a).content = .empty ∨ (∃ c, (s.dev.elem a).content = .unknown c) ∨
              (s.dev.elem b).content ≠ .empty ∨ (isDriveElem b = true ∧ ∃ x, (s.dev.elem a).content = .foreign x), .state),
           ((s.dev.elem a).incoming ≠ none ∨ (s.dev.elem a).outgoing ≠ none ∨ (s.dev.elem b).incoming ≠ none ∨
              (s.dev.elem b).outgoing ≠ none ∨
              (∃ c, (s.dev.elem a).content = .occupied c ∧ (held c ∨ (entry c fun e => e.finalizing = true) ∨
                ∃ p ∈ s.dev.map.parts, p.cart = c ∧ (p.state = .open ∨ 0 < p.restorePins ∨ p.verifyPin = true))) ∨
              (∃ i, a = driveElem i ∧ ¬((∃ x, (s.dev.elem a).content = .foreign x) ∧ (s.dev.drive i).phase = .powerMouth) ∧
                ((s.dev.drive i).state ≠ .mountedIdle ∨ (s.dev.drive i).stack ≠ [])), .busy),
           (4 ≤ (s.dev.changer.moves.filter fun m => m.requester == .host).length, .full)]) ∧
    -- RESTORE (R146)
    ((∀ ch part pr first count follow, ch < 33 ∨ 40 < ch →
        answer (.restore tag ch part pr first count follow) [] .badArgument) ∧
      ∀ (r : RestoreId) (part : Nat) (pr : Named Priority) (first count : Option Nat) (follow : Named Bool),
        let of := fun P : Part → Prop => ∃ p, s.dev.part? part = some p ∧ P p
        refusedInOrder (answer (.restore tag (r.val + 33) part pr first count follow) [])
          (s.dev.restoreRefusal (r.val + 33) part pr first count follow = none)
          [(part = 0 ∨ 0xFFFFFFFF < part ∨ pr = .unknown ∨ follow = .unknown ∨
              (∃ q, first = some q ∧ 0xFFFFFFFF < q) ∨ (∃ n, count = some n ∧ (n = 0 ∨ 2 ^ 32 < n)) ∨
              (∃ q n, first = some q ∧ count = some n ∧ 0xFFFFFFFF < q + n - 1), .badArgument),
           (16 ≤ s.dev.ru.queue.length, .full),
           (∀ p ∈ s.dev.map.parts, p.id ≠ part, .noEntry),
           (of fun p => p.state = .open ∨ p.state = .bad, .state),
           (of fun p => (∃ q, first = some q ∧ (q < p.firstSeq ∨ p.lastSeq < q)) ∨
              (follow ≠ .known true ∧ ∃ n, count = some n ∧ p.lastSeq < first.getD p.firstSeq + n - 1), .badArgument),
           ((∃ e ∈ s.dev.ru.queue, e.chan = r) ∨ (of fun p => 4 ≤ p.restorePins), .busy)]) ∧
    -- VERIFY_NOW (R163)
    ∀ c : CartId,
      refusedInOrder (answer (.verifyNow tag c) []) (s.dev.verifyRefusal c = none)
        [(s.dev.cart c = none, .noEntry),
         (∀ p ∈ s.dev.map.parts, p.cart = c → p.state ≠ .closed ∧ p.state ≠ .suspect, .state),
         (∃ e, s.dev.entry? c = some e ∧ e.activity = .pass, .busy)]

/-- The reading requests answer OK with their snapshot and change nothing but the frames to send: READ_STREAM (R22),
READ_FEED (R63), READ_DRIVE (R143), READ_ELEMENT with the changer's status for element 0 (R103, R121), SET_PARAM without
a value (R177); an unknown request is answered BAD_ARGUMENT (R174), and so are a channel outside 1..32, a feed or drive
above 3, an element above 104, and a LIST_SEGMENTS without exactly one key, or with a key out of its range; a free feed
entry is answered NO_ENTRY. Each snapshot is written out item by item. LIST_SEGMENTS answers the count of the matching
records and at most 64 of their ids, from the start index on, ascending while the map's ids rise (R82). Element 0 names
the first RUNNING move of the queue (log entry 60). Item names and widths are log entry 17. -/
def Obligations.ReadsOnlyAnswer : Prop :=
  (∀ (s : State) (tag : Tag), s.dev.link.up = true →
    let answered := fun (st : Status) (is : List Item) => Host.Outcome.next (φ := Fault) (ρ := Refusal)
      { s with dev := { s.dev with link := { s.dev.link with outbound := s.dev.link.outbound ++ [.resp tag st is none] } } }
    (∀ c : StreamId, let x := s.dev.stream c
      exec (.readStream tag (c.val + 1)) s = answered .ok
        ([nameItem "STATE" x.state.name, numItem "JOB_TAG" 4 x.jobTag, numItem "POOL" 1 x.pool.val,
          numItem "RECORD_SIZE" 4 x.recordSize, nameItem "COMPRESSION_POLICY" (policyName x.policy),
          numItem "CREDITS_OUTSTANDING" 2 x.credits, numItem "OCCUPIED_SLOTS" 2 x.slots.length,
          numItem "UNCONSUMED_BYTES" 4
            ((x.slots.map fun y => y.payload.length).sum - x.byteOffset - ((x.offered.map (·.rawLen)).getD 0))]
        ++ optItem x.offered (fun o => numItem "OFFERED_RAW_LENGTH" 4 o.rawLen)
        ++ optItem x.offered (fun o => nameItem "OFFERED_TAKEN" (if o.taken then "YES" else "NO"))
        ++ [numItem "NEXT_RECORD_SEQUENCE" 4 x.nextSeq, numItem "RECORDS_UNCONFIRMED" 4 x.unconfirmed,
            numItem "BYTES_ACCEPTED" 8 x.accepted, numItem "OVERRUN_COUNT" 2 x.overruns,
            nameItem "GAP" (if x.gap then "SET" else "CLEAR")]
        ++ optItem x.feed (fun f => numItem "FEED" 1 f.val)
        ++ optItem (x.part.bind (·.part)) (numItem "CURRENT_PART" 4)
        ++ optItem (((s.dev.intake.waitOrder.filter fun y => (s.dev.stream y).pool == x.pool).idxOf? c).map (· + 1))
            (numItem "WAIT_POSITION" 1))) ∧
    (∀ (f : FeedId) (x : Feed), s.dev.feed f = some x →
      exec (.readFeed tag f) s = answered .ok
        ([nameItem "STATE" x.state.name, numItem "POOL" 1 x.pool.val, flagItem "SPAN" x.stall.span,
          flagItem "SUSPEND" x.stall.suspend, flagItem "MAP_FULL" x.stall.mapFull, flagItem "NO_MEDIA" x.stall.noMedia,
          listItem "MEMBER_CHANNELS" (x.members.map fun o => o.chan.val + 1),
          numItem "DEPARTED_ENTRIES" 1 x.departed.length]
        ++ optItem x.drive (fun i => numItem "DRIVE" 1 i.val) ++ optItem x.cart (fun c => numItem "CARTRIDGE" 1 c.val)
        ++ optItem x.assembly (fun a => numItem "ASSEMBLY_RECORD_COUNT" 2 a.records.length)
        ++ optItem x.assembly (fun a => numItem "ASSEMBLY_BYTES_USED" 4 a.used)
        ++ optItem x.assembly (fun a => nameItem "CLOSE_PENDING" (yesName a.closePending))
        ++ [numItem "STAGING_COUNT" 1 x.staging.length, numItem "IN_FLIGHT_COUNT" 1 x.flights.length,
            numItem "RETURNED_OUTSTANDING" 1 x.returned, numItem "GOVERNOR_ESTIMATE" 2 x.estimate,
            numItem "SPEED_STEP" 1 x.step, numItem "UP_COUNTER" 1 x.upCount,
            nameItem "SPEED_OUTSTANDING" (yesName x.speedOut), numItem "STOP_COUNT" 2 x.stops,
            numItem "BLOCKS_WRITTEN" 4 x.written.toNat, numItem "RESERVATIONS" 1 x.reservations.length,
            nameItem "FEED_CLAIM" (if s.dev.arb.claims.any fun k => k.owner == .feed f then "YES" else "NO")])) ∧
    (∀ i : DriveId, let x := s.dev.drive i
      let work := fun (name : String) (w : Work) =>
        [nameItem (name ++ "_KIND") (match w with
          | .feed _ => "FEED" | .restore _ => "RESTORE" | .verify _ => "VERIFY" | .finalize _ => "HOST"
          | .cleaning => "CLEANING"),
         numItem (name ++ "_OWNER") 1 (match w with
          | .feed f => f.val | .restore r => r.val + 33 | .verify c => c.val | .finalize c => c.val
          | .cleaning => i.val)]
      exec (.readDrive tag i) s = answered .ok
        ([nameItem "DRIVE_STATE" x.state.name] ++ optItem x.cart (fun c => numItem "CARTRIDGE" 1 c.val)
        ++ optItem x.found (fun y => match y with
            | .barcode b => barcodeItem "FOUND_BARCODE" b
            | .unreadable => nameItem "FOUND_BARCODE" "UNREADABLE")
        ++ [match x.position with
            | some n => numItem "POSITION" 4 n
            | none => nameItem "POSITION" "UNKNOWN"]
        ++ (x.outstanding.zipIdx 1).map (fun o => nameItem ("OUTSTANDING_COMMAND_" ++ toString o.2) o.1.cmd.name.text)
        ++ (x.active.toList.flatMap (work "ACTIVE_WORK"))
        ++ ((x.claim.bind s.dev.claim?).toList.flatMap fun k =>
            [nameItem "CLAIM_KIND" k.kind.name, numItem "CLAIM_CLASS" 1 k.kind.cls])
        ++ ((x.stack.zipIdx 1).flatMap fun k => let name := "CONTEXT_" ++ toString k.2
            work name k.1.work ++ [numItem (name ++ "_RESUME_BLOCK") 4 k.1.resume])
        ++ optItem x.mountTime (fun t => numItem "SECONDS_MOUNTED" 4 (s.dev.mu.elapsed - t))
        ++ optItem x.idleSince (fun t => numItem "SECONDS_IDLE" 4 (s.dev.mu.elapsed - t))
        ++ [flagItem "CLEANING_DUE" x.cleaningDue, nameItem "AUTOMATIC_RESET_USED" (yesName x.autoReset)]
        ++ (x.faultCause.toList.flatMap fun f =>
            [nameItem "FAULT_COMMAND" f.cmd.text, nameItem "FAULT_RESULT" (driveResultName f.result)])
        ++ [listItem "WAITING_CLAIMS" ([1, 2, 3, 4, 5, 6, 7].map fun k =>
            (s.dev.arb.claims.filter fun c => c.drive.isNone && c.kind.cls == k).length)])) ∧
    (∀ e : ElemId,
      let own := (match (s.dev.elem e).content with
          | .unknown c => [nameItem "STATUS" "UNKNOWN"] ++ optItem c (fun c => numItem "FORMER_OCCUPANT" 1 c.val)
          | .empty => [nameItem "STATUS" "EMPTY"]
          | .occupied c => [nameItem "STATUS" "OCCUPIED", numItem "OCCUPANT" 1 c.val]
              ++ optItem (s.dev.cart c) (fun x => barcodeItem "BARCODE" x.barcode)
              ++ [numItem "GENERATION" 1 (s.dev.row c).gen.toNat]
          | .foreign x => [nameItem "STATUS" "FOREIGN", barcodeItem "BARCODE_SEEN" x])
        ++ [nameItem "INCOMING_MOVE" (yesName (s.dev.elem e).incoming.isSome),
            nameItem "OUTGOING_MOVE" (yesName (s.dev.elem e).outgoing.isSome)]
      let x := s.dev.changer
      let status := [nameItem "PICKER_STATE" x.picker.name]
        ++ ((x.moves.find? (·.running)).toList.flatMap fun m =>
            [numItem "RUNNING_SOURCE" 1 m.src.val]
            ++ optItem m.dst (fun b => numItem "RUNNING_DESTINATION" 1 b.val)
            ++ [match m.cls with
                | some k => numItem "RUNNING_CLASS" 1 k
                | none => nameItem "RUNNING_CLASS" "PLACEMENT"])
        ++ [listItem "QUEUED_MOVES" ([1, 2, 3, 4, 5, 6, 7].map fun k =>
              (x.moves.filter fun m => !m.running && m.cls == some k).length),
            nameItem "PLACEMENT_WAITS" (yesName (x.moves.any fun m => m.requester == .changer && !m.running)),
            listItem "FAULT_ELEMENTS" (x.faultElems.map (·.val))]
        ++ (x.inventory.toList.flatMap fun v =>
            [numItem "INVENTORY_NEXT" 1 v.next, numItem "INVENTORY_LAST" 1 v.last, numItem "SCANNED" 1 v.scanned,
             numItem "SKIPPED" 1 v.skipped, numItem "CREATED" 1 v.created, numItem "FOREIGN" 1 v.foreigners])
        ++ [nameItem "MAIL_DOOR_LEVEL" (if x.doorOpen then "OPEN" else "CLOSED")]
        ++ optItem x.mailScan (fun v => numItem "MAIL_SCAN_NEXT" 1 v.next)
      (e ≠ 0 → exec (.readElement tag e) s = answered .ok own) ∧
      (e = 0 → exec (.readElement tag e) s = answered .ok (own ++ status))) ∧
    (∀ k : Param, exec (.setParam tag (.known k) none) s =
      answered .ok [nameItem "PARAMETER" (paramName k), numItem "VALUE" 2 (s.dev.mu.params.get k)]) ∧
    (∀ items, exec (.unknownRequest tag items) s = answered .badArgument []) ∧
    (∀ ch, ch < 1 ∨ 32 < ch → exec (.readStream tag ch) s = answered .badArgument []) ∧
    (∀ n, 3 < n → exec (.readFeed tag n) s = answered .badArgument [] ∧
      exec (.readDrive tag n) s = answered .badArgument []) ∧
    (∀ f : FeedId, s.dev.feed f = none → exec (.readFeed tag f) s = answered .noEntry []) ∧
    (∀ n, 104 < n → exec (.readElement tag n) s = answered .badArgument []) ∧
    (∀ c j start, (c = none ↔ j = none) ∨ (∃ n, c = some n ∧ 127 < n) ∨
        (∃ n, j = some n ∧ (n = 0 ∨ 0xFFFFFFFF < n)) →
      exec (.listSegments tag c j start) s = answered .badArgument [])) ∧
  ∀ (s : State) (tag : Tag) (start : Nat), s.dev.link.up = true →
    let answered := fun (ps : List Part) => Host.Outcome.next (φ := Fault) (ρ := Refusal)
      { s with
        dev := { s.dev with
          link := { s.dev.link with
            outbound := s.dev.link.outbound ++ [.resp tag .ok
              [numItem "COUNT" 2 ps.length, listItem "PART_IDS" (((ps.drop start).take 64).map (·.id))] none] } } }
    (∀ c : CartId, exec (.listSegments tag (some c) none start) s =
      answered (s.dev.map.parts.filter fun p => p.cart == c)) ∧
    (∀ j, 1 ≤ j → j ≤ 0xFFFFFFFF → exec (.listSegments tag none (some j) start) s =
      answered (s.dev.map.parts.filter fun p => p.jobTag == j)) ∧
    (∀ keep : Part → Bool, (s.dev.map.parts.Pairwise fun a b => a.id < b.id) →
      ((((s.dev.map.parts.filter keep).drop start).take 64).map (·.id)).Pairwise (· < ·))

/-- READ_SEGMENT: an id of 0 is refused BAD_ARGUMENT and an id no record holds NO_ENTRY; otherwise the answer is OK with
every field of the record, the pins given separately and absent times marked; nothing else changes (R81).
READ_CARTRIDGE: an index above 127 is refused BAD_ARGUMENT, an empty row NO_ENTRY with the index generation; otherwise
OK, the generation, every field of the entry, the holding feed or none, whether a part record names the cartridge, and
whether it is appendable for its pool or takeable; nothing else changes (R87, R96). Item names and widths are log entry
17, ids beyond 32 bits log entry 44, the name ABSENT for an absent time log entry 46. -/
def Obligations.SegmentAndCartridgeReadsAnswerEveryField : Prop :=
  (∀ (s : State) (tag : Tag), s.dev.link.up = true →
     let answered := fun (st : Status) (is : List Item) => Host.Outcome.next (φ := Fault) (ρ := Refusal)
       { s with dev := { s.dev with link := { s.dev.link with outbound := s.dev.link.outbound ++ [.resp tag st is none] } } }
     let time := fun (name : String) (t : Option Nat) => match t with
       | some t => numItem name 4 t
       | none => nameItem name "ABSENT"
     exec (.readSegment tag 0) s = answered .badArgument [] ∧
     (∀ id, 1 ≤ id → id ≤ 0xFFFFFFFF → (∀ p ∈ s.dev.map.parts, p.id ≠ id) →
       exec (.readSegment tag id) s = answered .noEntry []) ∧
     (∀ p before after, s.dev.map.parts = before ++ p :: after → (∀ q ∈ before, q.id ≠ p.id) → 1 ≤ p.id →
       p.id ≤ 0xFFFFFFFF →
       exec (.readSegment tag p.id) s = answered .ok
         [numItem "PART_ID" 4 p.id, numItem "JOB_TAG" 4 p.jobTag, numItem "PART_NUMBER" 4 p.number,
          numItem "CARTRIDGE" 1 p.cart.val, numItem "FIRST_BLOCK" 4 p.firstBlock, numItem "LAST_BLOCK" 4 p.lastBlock,
          numItem "FIRST_RECORD_SEQUENCE" 4 p.firstSeq, numItem "LAST_RECORD_SEQUENCE" 4 p.lastSeq,
          numItem "RAW_BYTES" 8 p.rawBytes, numItem "STORED_BYTES" 8 p.storedBytes,
          numItem "PART_CHECK" 4 p.check.toNat, nameItem "STATE" (partStateName p.state), flagItem "GAP" p.gap,
          flagItem "TRUNCATED" p.truncated, flagItem "CONTINUED" p.continued, flagItem "HOST_LOADED" p.hostLoaded,
          time "CLOSE_TIME" p.closeTime, time "SUSPECT_TIME" p.suspectTime,
          numItem "RESTORE_PINS" 1 p.restorePins, numItem "VERIFY_PIN" 1 (if p.verifyPin then 1 else 0)])) ∧
  (∀ (s : State) (tag : Tag), s.dev.link.up = true →
     let answered := fun (st : Status) (is : List Item) => Host.Outcome.next (φ := Fault) (ρ := Refusal)
       { s with dev := { s.dev with link := { s.dev.link with outbound := s.dev.link.outbound ++ [.resp tag st is none] } } }
     (∀ i, 127 < i → exec (.readCartridge tag i) s = answered .badArgument []) ∧
     (∀ c : CartId, s.dev.cart c = none →
       exec (.readCartridge tag c) s = answered .noEntry [numItem "GENERATION" 1 (s.dev.row c).gen.toNat]) ∧
     (∀ (c : CartId) (e : Cart), s.dev.cart c = some e →
       exec (.readCartridge tag c) s = answered .ok
         (numItem "GENERATION" 1 (s.dev.row c).gen.toNat ::
           ([barcodeItem "BARCODE" e.barcode, nameItem "KIND" (kindName e.kind)]
           ++ optItem e.pool (fun p => numItem "POOL" 1 p.val)
           ++ optItem e.protection (fun p => nameItem "PROTECTION" (protectionName p))
           ++ optItem e.full (fun b => nameItem "FULL" (if b then "SET" else "CLEAR"))
           ++ [match e.eod with
               | some n => numItem "EOD" 4 n
               | none => nameItem "EOD" "UNKNOWN",
               numItem "CAPACITY" 4 e.capacity, numItem "LABEL_SERIAL" 4 e.serial.toNat,
               match e.location with
               | .at x => numItem "LOCATION" 1 x.val
               | .outside => nameItem "LOCATION" "OUTSIDE"
               | .unknown => nameItem "LOCATION" "UNKNOWN"]
           ++ optItem e.home (fun h => numItem "HOME_SLOT" 1 h.val)
           ++ (if e.kind = .cleaning then [numItem "CLEANING_USES_REMAINING" 1 e.uses] else [])
           ++ [nameItem "FINALIZE_PENDING" (if e.finalizing then "YES" else "NO"),
               nameItem "REASON_CODE" e.reason.name])
           ++ optItem (s.dev.holder c) (fun f => numItem "HOLDING_FEED" 1 f.val)
           ++ [nameItem "NAMED_BY_PART" (yesName (s.dev.map.parts.any fun p => p.cart == c)),
               nameItem "USABLE" (yesName ((e.pool.any fun p => s.dev.appendable p c) ||
                 ([1, 2, 3, 4, 5, 6, 7] : List PoolId).any fun p => s.dev.takeable p c))])))

/-! ### The management unit -/

/-- SET_PARAM with a value applies it clamped to the parameter's range, leaves every other parameter, and answers OK
with the value before and the value applied (R177); an unchanged value changes nothing else; a changed one has its
effect of Table 10-2 at once (R178): feeds in FILLING or PAUSED decide, assembly blocks now too old close, drives idle
for the time unmount, the arbiter decides, restores at the limit end STALLED. SET_TIME sets library time and answers the
time before and the value set; a second adds 1 to the elapsed seconds and to library time, which stays at FFFFFFFFh;
each makes the overdue test of every verify list entry due (R164, R179). Item names and widths are log entry 17, the
elapsed seconds log entry 6. -/
def Obligations.SetParamAndTimeApplyTheirValues : Prop :=
  (∀ (s : State) (tag : Tag) (k : Param) (v : Nat), s.dev.link.up = true →
     let lo := (paramRange k).1
     let hi := (paramRange k).2
     let new := if v < lo then lo else if hi < v then hi else v
     let d := s.dev.begun.respond tag .ok
       [numItem "VALUE_BEFORE" 2 (s.dev.mu.params.get k), numItem "VALUE_APPLIED" 2 new]
     (new = s.dev.mu.params.get k → exec (.setParam tag (.known k) (some v)) s = .next { s with dev := d.settle }) ∧
     let x : Device := { d with mu := { d.mu with params := s.dev.mu.params.put k new } }
     let now := s.dev.mu.elapsed
     let waiting : List FeedId := [0, 1, 2, 3].filter fun f =>
       (s.dev.feed f).any fun y => y.state == .filling || y.state == .paused
     (new ≠ s.dev.mu.params.get k → exec (.setParam tag (.known k) (some v)) s = .next { s with
         dev := (match k with
           | .startLevel => x.postAll (waiting.map .feedDecide)
           | .assemblyTimeout =>
             (([0, 1, 2, 3] : List FeedId).foldl (fun (y : Device) (f : FeedId) =>
               if ((s.dev.feed f).bind (·.assembly)).any (fun a : Assembly => a.firstTime + new < now) then y.closePending f else y)
               x).postAll (waiting.map .feedDecide)
           | .minimumDwell => x.post .arbiter
           | .idleUnmount =>
             ([0, 1, 2, 3] : List DriveId).foldl (fun (y : Device) (i : DriveId) =>
               if (s.dev.drive i).state == DriveState.mountedIdle && (s.dev.drive i).phase == Phase.rest &&
                 (s.dev.drive i).active.isNone && (s.dev.drive i).idleSince.any (fun t => t + new ≤ now)
               then y.startUnmount i else y) x
           | .verifyDriveLimit => x.post .arbiter
           | .restoreStallLimit =>
             s.dev.ru.queue.foldl (fun (y : Device) (e : Restore) =>
               if e.state == RestoreState.sending && e.stall.any (fun t => t + new ≤ now) then y.endRestore e.chan .stalled
               else y) x).settle }) ∧
     ∃ t, exec (.setParam tag (.known k) (some v)) s = .next t ∧ t.dev.mu.params.get k = new ∧
       ∀ j, j ≠ k → t.dev.mu.params.get j = s.dev.mu.params.get j) ∧
  (∀ s : State,
     (∀ tag v, s.dev.link.up = true → v ≤ 0xFFFFFFFF → exec (.setTime tag (some v)) s =
       .next { s with
         dev := ((({ s.dev.begun with mu := { s.dev.mu with time := v } } : Device).respond tag .ok
           [numItem "TIME_BEFORE" 4 s.dev.mu.time, numItem "TIME_SET" 4 v]).timeChanged s.dev.mu.time).settle }) ∧
     exec .libraryTimeAdvance s =
       .next { s with
         dev := (({ s.dev.begun with
           mu := { s.dev.mu with time := min 0xFFFFFFFF (s.dev.mu.time + 1), elapsed := s.dev.mu.elapsed + 1 } } :
             Device).timeChanged s.dev.mu.time).settle } ∧
     (∀ t, exec .libraryTimeAdvance s = .next t → t.dev.mu.time = min 0xFFFFFFFF (s.dev.mu.time + 1)) ∧
     (∀ tag v t, s.dev.link.up = true → v ≤ 0xFFFFFFFF → exec (.setTime tag (some v)) s = .next t → t.dev.mu.time = v) ∧
     ∀ (d : Device) (e : VerifyEntry) (old : Nat), e ∈ d.vu.list →
       .verifyOverdue e.cart ∈ (d.timeChanged old).agenda)

/-- A raise of a kind that is not pending makes it pending with count 1 and its own argument; a raise of a pending kind
counts up to 255 and leaves the argument; every other kind, and everything else of the device, stays (R180). POLL
answers the pending kind of highest priority with its count and argument and clears that kind alone; with none pending
it answers NONE; both with the management status after the clear (R181). Item names and widths are log entry 17, and the
set of kinds still pending as one number of 2 bytes, bit n − 1 for the kind at place n, is the model's choice (log entry
80). -/
def Obligations.EventsCountAndArePolled : Prop :=
  (∀ (d : Device) (k : EventKind) (a : EventArg),
     (d.event k = none → (d.raise k a).event k = some ⟨1, a⟩) ∧
     (∀ e, d.event k = some e → (d.raise k a).event k = some ⟨min 255 (e.count + 1), e.arg⟩) ∧
     (∀ j, j ≠ k → (d.raise k a).event j = d.event j) ∧
     d.raise k a = { d with mu := { d.mu with events := (d.raise k a).mu.events } }) ∧
  (∀ (s : State) (tag : Tag), s.dev.link.up = true →
     let status := fun d : Device =>
       [numItem "PENDING_KINDS" 2 (allEvents.map fun k => if (d.event k).isSome then 2 ^ k.index.val else 0).sum,
        numItem "LIBRARY_TIME" 4 d.mu.time, numItem "LINK_ERROR_COUNT" 2 d.link.errors,
        nameItem "RETENTION_HOLD" (if d.media.holdLine then "ASSERTED" else "DEASSERTED"),
        nameItem "MAIL_DOOR" (if d.changer.doorOpen then "OPEN" else "CLOSED"),
        numItem "PARTS_IN_USE" 2 d.map.parts.length, numItem "RESERVATION_COUNT" 2 d.map.reserved]
     (∀ (k : EventKind) (e : Event), s.dev.event k = some e →
       (∀ j : EventKind, j.index < k.index → s.dev.event j = none) →
       let d := { s.dev with mu := { s.dev.mu with events := s.dev.mu.events.set k.index none } }
       exec (.poll tag) s =
         .next { s with
           dev := { d with
             link := { d.link with
               outbound := d.link.outbound ++ [.resp tag .ok
                 ([nameItem "KIND" k.name, numItem "COUNT" 1 e.count] ++ e.arg.items ++ status d) none] } } }) ∧
     ((∀ k, s.dev.event k = none) →
       exec (.poll tag) s =
         .next { s with
           dev := { s.dev with
             link := { s.dev.link with
               outbound := s.dev.link.outbound ++ [.resp tag .ok (nameItem "KIND" "NONE" :: status s.dev) none] } } }))

/-! ### Streams -/

/-- A DATA frame taken on a stream with credit: a credit is spent, the payload stored in the write slot with the cut
flag clear, the write slot advances modulo 256, bytes accepted grow, and the record-cutting decision is made; a slot is
free for it (R8). -/
def Obligations.TakenDataIsStoredAndSpendsACredit : Prop :=
  ∀ (s : State) (c : StreamId) (p : Bytes), s.dev.link.up = true → 1 ≤ p.length → p.length ≤ 4096 →
    (s.dev.stream c).state = .waiting ∨ (s.dev.stream c).state = .bound ∨ (s.dev.stream c).state = .stalled →
    0 < (s.dev.stream c).credits →
    exec (.data (streamChannel c) p) s =
      .next { s with
        dev := ((s.dev.begun.modStream c fun x =>
          { x with
            credits := x.credits - 1, slots := x.slots ++ [⟨p, false⟩], writeSlot := (x.writeSlot + 1) % 256,
            accepted := x.accepted + p.length }).cutDecision c).settle } ∧
    (s.dev.Sound → (s.dev.stream c).slots.length < 256)

/-- A DATA frame without credit is an overrun: the payload is discarded, the overrun count grows and saturates, the GAP
flag is set, STREAM_OVERRUN is raised with the channel, and nothing else changes (R9). An END mark takes a stream to
ENDING without credit, and the record-cutting decision is made; one with no feed and nothing left closes at once and
leaves the wait order (R13, R18). An ENDING stream with an empty ring, nothing offered and nothing unconfirmed closes:
it is CLOSED without credit, feed and part, it leaves its feed, its OPEN part is CLOSED with the stream's GAP at library
time (R18, R71, R72); otherwise it stays. A confirmed record is counted off its stream; the last one of a departed entry
removes the entry and closes its OPEN part with TRUNCATED (R46, R73). -/
def Obligations.OverrunsAndClosings : Prop :=
  ((∀ (s : State) (c : StreamId) (p : Bytes), s.dev.link.up = true → 1 ≤ p.length → p.length ≤ 4096 →
     (s.dev.stream c).state = .waiting ∨ (s.dev.stream c).state = .bound ∨ (s.dev.stream c).state = .stalled →
     (s.dev.stream c).credits = 0 →
     exec (.data (streamChannel c) p) s =
       .next { s with
         dev := ((s.dev.begun.modStream c fun x => { x with overruns := min 65535 (x.overruns + 1), gap := true }).raise
           .streamOverrun (.number (c.val + 1))).settle }) ∧
   ∀ (s : State) (c : StreamId), s.dev.link.up = true →
     (s.dev.stream c).state = .waiting ∨ (s.dev.stream c).state = .bound ∨ (s.dev.stream c).state = .stalled →
     exec (.markEnd (streamChannel c)) s =
       .next { s with
         dev := (((((s.dev.begun.modStream c fun x => { x with state := .ending, credits := 0 }).cutDecision
           c).closeIfDone c)).postFeed (s.dev.stream c).feed .feedDecide).settle } ∧
     ((s.dev.stream c).slots = [] → (s.dev.stream c).offered = none → (s.dev.stream c).unconfirmed = 0 →
       (s.dev.stream c).feed = none → (s.dev.stream c).part = none → 0 < (s.dev.stream c).recordSize →
       exec (.markEnd (streamChannel c)) s =
         .next { s with
           dev := ({ s.dev.begun with
             intake :=
               { streams := s.dev.intake.streams.set c { s.dev.stream c with state := .closed, credits := 0 },
                 waitOrder := s.dev.intake.waitOrder.filter (· != c) } } : Device).settle })) ∧
  (∀ (d : Device) (c : StreamId),
     let x := d.stream c
     let d' := d.closeIfDone c
     (¬(x.state = .ending ∧ x.slots = [] ∧ x.offered = none ∧ x.unconfirmed = 0) → d' = d) ∧
     (x.state = .ending → x.slots = [] → x.offered = none → x.unconfirmed = 0 →
       d'.stream c = { x with state := .closed, credits := 0, feed := none, part := none } ∧
       (∀ y, y ≠ c → d'.stream y = d.stream y) ∧
       (x.feed = none → d'.intake.waitOrder = d.intake.waitOrder.filter (· != c) ∧ d'.feeds = d.feeds) ∧
       (∀ f y, x.feed = some f → d.feed f = some y →
         d'.feed f = some { y with members := y.members.filter (· != ⟨c, x.opening⟩) } ∧
         (∀ g, g ≠ f → d'.feed g = d.feed g) ∧ Machine.Task.memberLeft f ∈ d'.agenda) ∧
       (x.part.bind (·.part) = none → d'.map = d.map) ∧
       ∀ id p, x.part.bind (·.part) = some id → d.part? id = some p → p.state = .open →
         d'.part? id = some { p with state := .closed, closeTime := some d.mu.time, gap := p.gap || x.gap } ∧
         (∀ y, y ≠ id → d'.part? y = d.part? y) ∧ Machine.Task.verifyNotify p.cart ∈ d'.agenda)) ∧
  (∀ (d : Device) (f : FeedId) (y : Feed) (r : Record), d.feed f = some y →
     let d' := d.countOff f r
     (r.opening ∈ y.members →
       d' = (d.modStream r.opening.chan fun x => { x with unconfirmed := x.unconfirmed - 1 }).closeIfDone
         r.opening.chan) ∧
     (r.opening ∉ y.members → (∀ z ∈ y.departed, z.opening = r.opening → z.lastSeq ≠ r.seq) → d' = d) ∧
     ∀ e before after, r.opening ∉ y.members → y.departed = before ++ e :: after → e.opening = r.opening →
       e.lastSeq = r.seq → (∀ z ∈ before ++ after, z.opening ≠ r.opening) →
       d'.feed f = some { y with departed := before ++ after } ∧ d'.intake = d.intake ∧
       ∀ id p, e.part.bind (·.part) = some id → d.part? id = some p → p.state = .open →
         d'.part? id = some { p with state := .closed, closeTime := some d.mu.time, truncated := true })

/-- A CUT mark at the record boundary has no effect; otherwise it sets the cut flag of the last occupied slot, once
however often it comes; then the record-cutting decision is made (R14). -/
def Obligations.MarkCutFlagsTheLastSlotOnce : Prop :=
  (∀ (s : State) (c : StreamId), s.dev.link.up = true →
    (s.dev.stream c).state = .waiting ∨ (s.dev.stream c).state = .bound ∨ (s.dev.stream c).state = .stalled →
    exec (.markCut (streamChannel c)) s =
      .next { s with dev := ((s.dev.begun.modStream c Stream.mark).cutDecision c).settle }) ∧
  ∀ x : Stream,
    (x.unconsumed = 0 → x.mark = x) ∧
    (∀ before last, x.slots = before ++ [last] → 0 < x.unconsumed →
      x.mark = { x with slots := before ++ [{ last with cut := true }] }) ∧
    x.mark.mark = x.mark

/-- OPEN_STREAM on a closed channel that no older opening lingers on, with a job tag of its own and a write-enabled data
pool: the context takes its values, the OK precedes the CREDIT of 256, the stream stands last in the wait order, and a
feed is looked for (R3, R4). The item CHANNEL and its width are log entry 17. -/
def Obligations.OpenStreamOpensTheStream : Prop :=
  ∀ (s : State) (tag : Tag) (c : StreamId) (job : Nat) (p : PoolId) (size : Nat) (pol : Policy), s.dev.link.up = true →
    1 ≤ job → job ≤ 0xFFFFFFFF → p ≠ 0 → size = 4096 ∨ size = 8192 ∨ size = 16384 ∨ size = 32768 ∨ size = 65536 →
    (s.dev.stream c).state = .closed → s.dev.lingering c = false →
    (∀ y, (s.dev.stream y).state ≠ .closed → (s.dev.stream y).jobTag ≠ job) → (s.dev.pool p).writeEnabled = true →
    let opened : Host.Outcome State Fault Refusal :=
      .next { s with
        dev := (({ s.dev.begun with
          intake :=
            { streams := s.dev.intake.streams.set c
                { state := .waiting, jobTag := job, pool := p, recordSize := size, policy := pol, credits := 256,
                  opening := (s.dev.stream c).opening + 1 },
              waitOrder := s.dev.intake.waitOrder ++ [c] }
          link := { s.dev.link with
            outbound := s.dev.link.outbound ++
              [.resp tag .ok [numItem "CHANNEL" 1 (c.val + 1)] (some c), .credit c 256] } } : Device).post .bind).settle }
    exec (.openStream tag (c.val + 1) job p (some size) (some (.known pol))) s = opened ∧
    (size = 65536 → pol = .adaptive → exec (.openStream tag (c.val + 1) job p none none) s = opened)

/-- ABORT_STREAM closes the stream at once, whatever its state: OK, no credit, no feed, no current part, no CREDIT of it
unsent, no other stream touched; a record the engine has not taken goes with every unconsumed byte, and of one it has
taken the bytes stay (R20). When records of the opening are still to be written, the feed gets its departed entry with
the job tag, the current part and the last record's sequence (R20, R46); when none is, the OPEN part closes with
TRUNCATED at once (R73). The ring positions are log entry 11, the unsent CREDITs log entry 8. -/
def Obligations.AbortStreamClosesTheStream : Prop :=
  ∀ (s : State) (tag : Tag) (c : StreamId), s.dev.link.up = true → (s.dev.stream c).state ≠ .closed →
    ∃ d : Device, exec (.abortStream tag (c.val + 1)) s = .next { s with dev := d.settle } ∧
      (d.stream c).state = .closed ∧ (d.stream c).credits = 0 ∧ (d.stream c).feed = none ∧ (d.stream c).part = none ∧
      OutFrame.resp tag .ok [] none ∈ d.link.outbound ∧ (∀ n, OutFrame.credit c n ∉ d.link.outbound) ∧
      (∀ y, y ≠ c → d.stream y = s.dev.stream y) ∧
      ((s.dev.stream c).feed = none → c ∉ d.intake.waitOrder) ∧
      (∀ f x, (s.dev.stream c).feed = some f → s.dev.feed f = some x →
        ∃ y, d.feed f = some y ∧ ⟨c, (s.dev.stream c).opening⟩ ∉ y.members) ∧
      (∀ f x, (s.dev.stream c).feed = some f → s.dev.feed f = some x →
        let left := (s.dev.stream c).unconfirmed - (match (s.dev.stream c).offered with
          | some o => if o.taken then 0 else 1
          | none => 0)
        (0 < left → ∃ y, d.feed f = some y ∧ y.departed = x.departed ++
          [⟨⟨c, (s.dev.stream c).opening⟩, (s.dev.stream c).jobTag, (s.dev.stream c).part,
            match (s.dev.stream c).offered with
            | some o => if o.taken then o.seq else o.seq - 1
            | none => if (s.dev.stream c).limitReached then 0xFFFFFFFF else (s.dev.stream c).nextSeq - 1⟩]) ∧
        (left = 0 → (∃ y, d.feed f = some y ∧ y.departed = x.departed) ∧
          ∀ id p, (s.dev.stream c).part.bind (·.part) = some id → s.dev.part? id = some p → p.state = .open →
            d.part? id = some { p with state := .closed, closeTime := some s.dev.mu.time, truncated := true })) ∧
      ((s.dev.stream c).offered = none ∨ (∃ o, (s.dev.stream c).offered = some o ∧ o.taken = false) →
        (d.stream c).offered = none ∧ (d.stream c).slots = []) ∧
      (∀ o, (s.dev.stream c).offered = some o → o.taken = true →
        (d.stream c).offered = some o ∧ (d.stream c).byteOffset ≤ (s.dev.stream c).byteOffset ∧
        (d.stream c).slots.flatMap (·.payload) =
          ((s.dev.stream c).slots.flatMap (·.payload)).take ((s.dev.stream c).byteOffset + o.rawLen))

/-- The record-cutting decision (R15): Table 1-4's first case that holds makes the cut. The bytes up to the first cut
point, if they are at most the record size, its flag cleared; else the record size, if that many bytes are unconsumed;
else all of them, if there are any and the stream is ENDING, or if 256 slots are occupied and none has a cut flag; else
no cut. A cut makes the offered record, counts it, takes the next sequence and leaves every byte in the ring; it is
never longer than the record size and never runs past a cut point; no cut is made while a record is offered. The cut of
sequence FFFFFFFFh, the last (R17), keeps its record's bytes and discards every byte beyond it: the stream is ENDING
without credit, bytes accepted count the lost bytes no more, and where any was lost the GAP flag is set and
STREAM_OVERRUN raised. -/
def Obligations.CutsAreBoundedAndKeepEveryByte : Prop :=
  (∀ (d : Device) (c : StreamId), let x := d.stream c
     (x.offered ≠ none → d.cutDecision c = d) ∧
     (x.offered = none → x.cutCase = none → d.cutDecision c = d) ∧
     (∀ k, x.offered = none → x.cutCase = some k → x.nextSeq = 0xFFFFFFFF →
       let n := match k with | .mark n => n | .plain n => n
       let lost := x.unconsumed - n
       let y := (d.cutDecision c).stream c
       y.state = .ending ∧ y.credits = 0 ∧ y.limitReached = true ∧ y.offered = some ⟨n, false, 0xFFFFFFFF, x.gap⟩ ∧
       y.unconfirmed = x.unconfirmed + 1 ∧ y.bytes = x.bytes.take n ∧ y.accepted = x.accepted - lost ∧
       y.gap = (x.gap || decide (0 < lost)) ∧
       (d.cutDecision c).event .streamOverrun =
         (if 0 < lost then some (raiseEvent (d.event .streamOverrun) (.number (c.val + 1)))
           else d.event .streamOverrun) ∧
       ∀ z, z ≠ c → (d.cutDecision c).stream z = d.stream z) ∧
     ∀ k, x.offered = none → x.cutCase = some k → x.nextSeq < 0xFFFFFFFF →
       let n := match k with | .mark n => n | .plain n => n
       (d.cutDecision c).agenda = (d.post .ceSearch).agenda ∧
       ((d.cutDecision c).stream c).offered = some ⟨n, false, x.nextSeq, x.gap⟩ ∧
       ((d.cutDecision c).stream c).nextSeq = x.nextSeq + 1 ∧
       ((d.cutDecision c).stream c).unconfirmed = x.unconfirmed + 1 ∧
       ((d.cutDecision c).stream c).bytes = x.bytes ∧ n ≤ x.recordSize ∧
       (∀ m, firstCut x.slots = some m → n ≤ m - x.byteOffset) ∧
       (k = .plain n → ((d.cutDecision c).stream c).slots = x.slots) ∧
       (∀ before y after, k = .mark n → x.slots = before ++ y :: after → (∀ z ∈ before, z.cut = false) →
         y.cut = true → ((d.cutDecision c).stream c).slots = before ++ { y with cut := false } :: after) ∧
       (∀ y, y ≠ c → (d.cutDecision c).stream y = d.stream y)) ∧
  ∀ x : Stream,
    let unread := (x.slots.map fun y => y.payload.length).sum - x.byteOffset - ((x.offered.map fun o => o.rawLen).getD 0)
    let cutAt := fun m => ∃ before y after, x.slots = before ++ y :: after ∧ (∀ z ∈ before, z.cut = false) ∧
      y.cut = true ∧ m = ((before ++ [y]).map fun z => z.payload.length).sum - x.byteOffset
    let noMark := ∀ m, cutAt m → x.recordSize < m
    let ends := x.state = .ending ∧ 1 ≤ unread
    let fills := x.slots.length = 256 ∧ ∀ z ∈ x.slots, z.cut = false
    (∀ m, cutAt m → m ≤ x.recordSize → x.cutCase = some (.mark m)) ∧
    (noMark → x.recordSize ≤ unread → x.cutCase = some (.plain x.recordSize)) ∧
    (noMark → unread < x.recordSize → ends ∨ fills → x.cutCase = some (.plain unread)) ∧
    (noMark → unread < x.recordSize → ¬ends → ¬fills → x.cutCase = none)

/-- The finish of a record (R11): exactly its bytes leave the ring, from the front; whole slots only are freed; the read
slot advances by as many, modulo 256; and as many credits return to a stream that takes DATA, in one CREDIT frame when
there are any. -/
def Obligations.AFinishFreesExactlyTheRecord : Prop :=
  (∀ (x : Stream) (o : Offered), x.offered = some o →
    let y := x.finish.1
    let freed := x.finish.2
    y.bytes = x.bytes.drop o.rawLen ∧ freed + y.slots.length = x.slots.length ∧ y.slots = x.slots.drop freed ∧
    (∀ z zs, y.slots = z :: zs → y.byteOffset < z.payload.length) ∧ (y.slots = [] → y.byteOffset = 0) ∧
    y.readSlot = (x.readSlot + freed) % 256 ∧ y.offered = none) ∧
  ∀ (d : Device) (c : StreamId),
    (((d.stream c).state = .waiting ∨ (d.stream c).state = .bound ∨ (d.stream c).state = .stalled) →
      0 < (d.stream c).finish.2 →
      d.finishRecord c =
        ((d.modStream c fun x => { x.finish.1 with credits := x.finish.1.credits + x.finish.2 }).emit
          (.credit c (d.stream c).finish.2)).cutDecision c) ∧
    ((d.stream c).state = .ending ∨ (d.stream c).finish.2 = 0 → (d.stream c).state ≠ .closed →
      d.finishRecord c = (d.modStream c fun x => x.finish.1).cutDecision c) ∧
    ((d.stream c).state = .closed → d.finishRecord c = d.modStream c fun x => x.finish.1)

/-! ### The compression and expansion engines -/

/-- The compression engine finds work (R24, R25): an idle engine takes the offered record of the first eligible stream
in ascending channel from the one after the last-served, wrapping from 32 to 1; none eligible, or an engine at work,
changes nothing; eligible is a stream that is not CLOSED with an untaken record whose feed accepts records. -/
def Obligations.TheSearchTakesTheNextEligibleStream : Prop :=
  ∀ d : Device,
    (d.ce.state ≠ .idle → d.ceSearch = d) ∧
    ((∀ c, d.eligible c = none) → d.ceSearch = d) ∧
    (∀ (c : StreamId) (f : FeedId) (o : Offered), d.ce.state = .idle → d.eligible c = some (f, o) →
      (∀ y, d.eligible y ≠ none → (c.val + 31 - d.ce.lastServed.val) % 32 ≤ (y.val + 31 - d.ce.lastServed.val) % 32) →
      let x := d.stream c
      d.ceSearch =
        { d.modStream c fun x => { x with offered := some { o with taken := true } } with
          ce :=
            { state := .compressing, lastServed := c, head := [], hold := d.ce.hold
              current := some
                { opening := ⟨c, x.opening⟩, feed := f, jobTag := x.jobTag, seq := o.seq, rawLen := o.rawLen,
                  gap := o.gap, policy := x.policy, storedRun := x.storedRun, bypass := x.bypass } } }) ∧
    ∀ (c : StreamId) (f : FeedId) (o : Offered),
      d.eligible c = some (f, o) ↔
        (d.stream c).state ≠ .closed ∧ (d.stream c).offered = some o ∧ o.taken = false ∧ (d.stream c).feed = some f ∧
        ∃ x, d.feed f = some x ∧
          (x.state = .unbound ∨ x.state = .filling ∨ x.state = .streaming ∨ x.state = .paused) ∧
          x.stall = ⟨false, false, false, false⟩ ∧ x.staging.length < 64

/-- COMPRESSION_COMPLETION holds the finished record with the raw CRC of its bytes, its method and its stored bytes, and
offers it to its feed (R29 to R33); at any other time there is nothing to complete. PLACEMENT of the held record in its
feed, by the three cases of R47: it opens a block, it is appended to the assembly block that has room, or that block is
closed into staging, the close ending with a dispatch decision on the feed without an assembly block (R48, steps 2 to 6),
and the record opens the next; otherwise it waits, and the feed knows of it. A close-pending block that staging has room
for is closed first, with its decision, and the record opens a block if the feed still takes one. At placement the
feed's decision on what it leaves falls due, then the engine becomes IDLE and empty, and searches (R33, R47, R48); under
ADAPTIVE the stream's two counters move from the values taken with the record: COMPRESSED clears the run, STORED adds 1,
the eighth starting 64 bypassed records, of which each subtracts 1 and the last clears the run; an opening that has
closed keeps its counters (R32). That a feed whose suspension is in progress takes no record is log entry 9, when a
record that waited is placed log entry 24, and that a record of case 3 opens the next block whatever the close's decision
has made of the feed log entry 83. -/
def Obligations.TheHeldRecordIsPlacedInItsFeed : Prop :=
  ((∀ s : State, s.dev.ce.state ≠ .compressing → exec .compressionCompletion s = .next s) ∧
  ∀ (s : State) (r : CeRecord), s.dev.ce.state = .compressing → s.dev.ce.current = some r →
    let raw := (s.dev.stream r.opening.chan).bytes.take r.rawLen
    let finder := r.policy = .always ∨ (r.policy = .adaptive ∧ r.bypass = 0)
    let held := fun (m : Method) (stored : Bytes) (head : List (Nat × Nat)) (matched : Bool) =>
      Host.Outcome.next (φ := Fault) (ρ := Refusal)
        { s with
          dev := (({ s.dev.begun with
            ce :=
              { s.dev.ce with
                state := .holding, head := head
                hold := some
                  ⟨{ opening := r.opening, jobTag := r.jobTag, seq := r.seq, rawLen := r.rawLen,
                     storedLen := stored.length, method := m, rawCrc := crc32 raw, gap := r.gap, stored := stored },
                   matched⟩ } } : Device).offerHeld).settle }
    (¬finder → exec .compressionCompletion s = held .stored raw s.dev.ce.head false) ∧
    (finder → (tokensBytes (findMatches raw).out).length < raw.length →
      exec .compressionCompletion s =
        held .compressed (tokensBytes (findMatches raw).out) (findMatches raw).head true) ∧
    (finder → raw.length ≤ (tokensBytes (findMatches raw).out).length →
      exec .compressionCompletion s = held .stored raw (findMatches raw).head true)) ∧
  ((∀ s : State, s.dev.ce.state ≠ .holding → exec .placement s = .next s) ∧
  (∀ (s : State) (r : CeRecord) (h : Hold) (x : Feed), s.dev.ce.state = .holding → s.dev.ce.current = some r →
    s.dev.ce.hold = some h → s.dev.feed r.feed = some x →
    let now := s.dev.mu.elapsed
    let size := 24 + h.record.storedLen
    let placed := fun y : Feed => Host.Outcome.next (φ := Fault) (ρ := Refusal)
      { s with dev := (((s.dev.begun.setFeed r.feed (some y)).post (.feedDecide r.feed)).placed r h).settle }
    let waits := Host.Outcome.next (φ := Fault) (ρ := Refusal)
      { s with dev := (s.dev.begun.setFeed r.feed (some { x with held := true })).settle }
    let runs := x.state ≠ .spanning ∧ x.state ≠ .suspended ∧ x.suspending = false
    let decided := fun a : Assembly =>
      ((s.dev.begun.setFeed r.feed (some { x with
        staging := x.staging ++ [⟨x.nextDseq, now, a.records, a.used⟩], nextDseq := x.nextDseq + 1,
        periodCount :=
          if x.state = .streaming ∨ x.state = .paused then min 4095 (x.periodCount + 1) else x.periodCount,
        assembly := none })).post (.feedDecide r.feed)).feedDecide r.feed
    let opensIn := fun d : Device => Host.Outcome.next (φ := Fault) (ρ := Refusal)
      { s with
        dev := ((d.modFeed r.feed fun y =>
          { y with assembly := some ⟨[h.record], size, now, false⟩, held := false }).placed r h).settle }
    (x.assembly = none → runs →
      exec .placement s = placed { x with assembly := some ⟨[h.record], size, now, false⟩, held := false }) ∧
    (∀ a, x.assembly = some a → a.closePending = false → runs → size ≤ 262108 - a.used →
      exec .placement s = placed { x with
        assembly := some { a with records := a.records ++ [h.record], used := a.used + size }, held := false }) ∧
    (∀ a, x.assembly = some a → a.closePending = false → runs → 262108 - a.used < size → x.staging.length < 64 →
      exec .placement s = opensIn (decided a)) ∧
    (∀ a, x.assembly = some a → a.closePending = false → runs → 262108 - a.used < size → 64 ≤ x.staging.length →
      exec .placement s = waits) ∧
    (∀ a, x.assembly = some a → a.closePending = true → 64 ≤ x.staging.length → exec .placement s = waits) ∧
    (∀ a y, x.assembly = some a → a.closePending = true → x.staging.length < 64 →
      (decided a).feed r.feed = some y → y.assembly = none →
      let goesOn := y.state ≠ .spanning ∧ y.state ≠ .suspended ∧ y.suspending = false
      (goesOn → exec .placement s = opensIn ((decided a).post (.feedDecide r.feed))) ∧
      (¬goesOn → exec .placement s =
        .next { s with dev := ((decided a).setFeed r.feed (some { y with held := true })).settle })) ∧
    (¬runs → (∀ a, x.assembly = some a → a.closePending = false) → exec .placement s = waits)) ∧
  ∀ (d : Device) (r : CeRecord) (h : Hold),
    let x := d.stream r.opening.chan
    let y := (d.placed r h).stream r.opening.chan
    let goesOn := x.opening = r.opening.no ∧ x.state ≠ .closed
    (goesOn → r.policy = .adaptive →
      (h.matched = true → h.record.method = .compressed → y.storedRun = 0 ∧ y.bypass = r.bypass) ∧
      (h.matched = true → h.record.method = .stored →
        (r.storedRun ≠ 7 → y.storedRun = r.storedRun + 1 ∧ y.bypass = r.bypass) ∧
        (r.storedRun = 7 → y.storedRun = 8 ∧ y.bypass = 64)) ∧
      (h.matched = false →
        (2 ≤ r.bypass → y.storedRun = r.storedRun ∧ y.bypass = r.bypass - 1) ∧
        (r.bypass ≤ 1 → y.storedRun = 0 ∧ y.bypass = 0))) ∧
    (¬goesOn → y.storedRun = x.storedRun ∧ y.bypass = x.bypass) ∧
    (d.placed r h).ce = { d.ce with state := .idle, current := none, hold := none } ∧
    Task.ceSearch ∈ (d.placed r h).agenda)

/-- EXPANSION_COMPLETION: the engine is IDLE again and its result goes to its requester, unless that has ended; with no
record under way there is nothing to complete (R35, R39, R40). A STORED record with its CRC good is returned as it is,
and one whose header is inconsistent is a decode error (R37, R38, R39). -/
def Obligations.ExpansionCompletionReturnsTheResult : Prop :=
  (∀ s : State, s.dev.xe.current = none → exec .expansionCompletion s = .next s) ∧
  (∀ (s : State) (q : XeRequest), s.dev.xe.current = some q →
    let d := ({ s.dev.begun with
      xe := { s.dev.xe with current := none, decode := (expandRecord q.record).2 } } : Device).post .xe
    (q.dropped = true → exec .expansionCompletion s = .next { s with dev := d.settle }) ∧
    (∀ r, q.dropped = false → q.client = .restore r →
      exec .expansionCompletion s =
        .next { s with dev := (d.resultToRestore r (expandRecord q.record).1).settle }) ∧
    (∀ c, q.dropped = false → q.client = .pass c →
      exec .expansionCompletion s =
        .next { s with dev := (d.resultToPass c (expandRecord q.record).1).settle })) ∧
  ∀ r : TapeRecord,
    (r.method = 0x53 → 1 ≤ r.rawLen → r.rawLen ≤ 65536 → r.storedLen = r.rawLen → r.stored.length = r.rawLen →
      (expandRecord r).1 = if crc32 r.stored = r.rawCrc then .good r.stored r.rawCrc
        else .crcMismatch (crc32 r.stored)) ∧
    (r.rawLen = 0 ∨ 65536 < r.rawLen ∨ (r.method ≠ 0x53 ∧ r.method ≠ 0x43) ∨
        (r.method = 0x53 ∧ r.storedLen ≠ r.rawLen) ∨
        (r.method = 0x43 ∧ (r.storedLen = 0 ∨ r.rawLen ≤ r.storedLen)) → (expandRecord r).1 = .decodeError)

/-- Whatever bytes a record holds, what the compression engine stores of them the expansion engine expands to exactly
those bytes, GOOD (R26 to R29, R37 to R39); a COMPRESSED record is shorter than its raw bytes; a STORED one is them. -/
def Obligations.ExpansionUndoesCompression : Prop :=
  ∀ (raw : Bytes) (r : TapeRecord), 1 ≤ raw.length → raw.length ≤ 65536 →
    let packed := compressRecord raw
    (packed.1 = .compressed → packed.2.1.length < raw.length) ∧ (packed.1 = .stored → packed.2.1 = raw) ∧
    (r.rawLen = raw.length → r.storedLen = packed.2.1.length → r.stored = packed.2.1 → r.method = packed.1.code →
      r.rawCrc = crc32 raw → (expandRecord r).1 = .good raw (crc32 raw))

/-! ### The feeds -/

/-- The feeds' timers: an assembly block as old as the assembly timeout is closed into staging with the next dispatch
sequence, or set close-pending behind 64 blocks (R48); a staged block older than the timeout makes a dispatch decision
(R50); before that nothing happens. GOVERNOR_PERIOD ends a period of a feed in STREAMING or PAUSED (R55, R56): the
estimate moves by a quarter of 16·I − e, rounded down, within 0..65535; the count starts again; the step falls to the
target at once, rises by 1 at the second period above it while staging holds the start level, and is issued as SPEED
when it changes, which it does not while a SPEED is outstanding. The target step is the largest k in 1..8 with 16·(300 +
100·k) ≤ e + ⌊e/8⌋, or 1; a SPEED carries the feed's step, is numbered next, and is marked outstanding (R56, R123). Ages
and periods in whole elapsed seconds, and that a command before its time changes nothing, are log entry 6. -/
def Obligations.FeedTimersAndTheGovernor : Prop :=
  (∀ (s : State) (f : FeedId) (x : Feed), s.dev.feed f = some x →
     let limit := s.dev.mu.params.assemblyTimeout
     let now := s.dev.mu.elapsed
     (∀ a, x.assembly = some a → a.firstTime + limit ≤ now → x.staging.length < 64 →
       exec (.assemblyTimeout f) s =
         .next { s with
           dev := ((s.dev.begun.setFeed f (some { x with
             staging := x.staging ++ [⟨x.nextDseq, now, a.records, a.used⟩], nextDseq := x.nextDseq + 1,
             assembly := none,
             periodCount :=
               if x.state = .streaming ∨ x.state = .paused then min 4095 (x.periodCount + 1)
               else x.periodCount })).post (.feedDecide f)).settle }) ∧
     (∀ a, x.assembly = some a → a.firstTime + limit ≤ now → 64 ≤ x.staging.length →
       exec (.assemblyTimeout f) s =
         .next { s with
           dev := (s.dev.begun.setFeed f (some { x with assembly := some { a with closePending := true } })).settle }) ∧
     (∀ a, x.assembly = some a → now < a.firstTime + limit → exec (.assemblyTimeout f) s = .next s) ∧
     (x.assembly = none → exec (.assemblyTimeout f) s = .next s) ∧
     (∀ b bs, x.staging = b :: bs → b.closeTime + limit < now →
       exec (.oldestBlockTimeout f) s = .next { s with dev := (s.dev.begun.post (.feedDecide f)).settle }) ∧
     (∀ b bs, x.staging = b :: bs → now ≤ b.closeTime + limit → exec (.oldestBlockTimeout f) s = .next s) ∧
     (x.staging = [] → exec (.oldestBlockTimeout f) s = .next s)) ∧
  ((∀ (s : State) (f : FeedId) (x : Feed), s.dev.feed f = some x →
     (x.state = .streaming ∨ x.state = .paused → x.periodStart + 1 ≤ s.dev.mu.elapsed →
       let e : Nat := min 65535 ((x.estimate : Int) + Int.fdiv (16 * (x.periodCount : Int) - x.estimate) 4).toNat
       let y : Feed := { x with estimate := e, periodCount := 0, periodStart := x.periodStart + 1 }
       let k := targetStep e
       let keeps := fun z : Feed => Host.Outcome.next (φ := Fault) (ρ := Refusal)
         { s with dev := (s.dev.begun.setFeed f (some z)).settle }
       let issues := fun z : Feed => Host.Outcome.next (φ := Fault) (ρ := Refusal)
         { s with dev := ((s.dev.begun.setFeed f (some z)).issueSpeed f).settle }
       let up := min 2 (x.upCount + 1)
       (k < x.step → x.speedOut = false →
         exec (.governorPeriod f) s = issues { y with upCount := 0, step := k }) ∧
       (k < x.step → x.speedOut = true → exec (.governorPeriod f) s = keeps { y with upCount := 0 }) ∧
       (x.step < k → up = 2 → s.dev.mu.params.startLevel ≤ x.staging.length → x.speedOut = false →
         exec (.governorPeriod f) s = issues { y with upCount := 0, step := x.step + 1 }) ∧
       (x.step < k → up ≠ 2 ∨ x.staging.length < s.dev.mu.params.startLevel ∨ x.speedOut = true →
         exec (.governorPeriod f) s = keeps { y with upCount := up }) ∧
       (k = x.step → exec (.governorPeriod f) s = keeps { y with upCount := 0 })) ∧
     (x.state ≠ .streaming → x.state ≠ .paused → exec (.governorPeriod f) s = .next s) ∧
     (s.dev.mu.elapsed < x.periodStart + 1 → exec (.governorPeriod f) s = .next s)) ∧
   ((∀ e k : Nat, 1 ≤ k → k ≤ 8 → 16 * (300 + 100 * k) ≤ e + e / 8 → k ≤ targetStep e) ∧
   (∀ e, 1 ≤ targetStep e ∧ targetStep e ≤ 8 ∧
     (16 * (300 + 100 * targetStep e) ≤ e + e / 8 ∨ targetStep e = 1)) ∧
   ∀ (d : Device) (f : FeedId) (x : Feed), d.feed f = some x →
     (x.drive = none → d.issueSpeed f = d) ∧
     ∀ i, x.drive = some i →
       d.issueSpeed f = (d.setFeed f (some { x with speedOut := true })).modDrive i fun y =>
         { y with outstanding := y.outstanding ++ [⟨y.cmdNo, d.mu.elapsed, .speed x.step⟩], cmdNo := y.cmdNo + 1 }))

/-- A dispatch (R51): the head block leaves staging, is stamped with block number EOD plus the blocks in flight and the
label serial, FINAL clear, with its trailer CRC over header and payload, joins the tail of the in-flight list, and one
WRITE carrying it is issued; where staging comes down from 64 blocks the feed accepts records again and the compression
engine searches (R6, R25, R49). Nothing is dispatched from a cartridge that is not WRITABLE or is FULL, or past the
end-of-medium reserve: the feed spans (R51, R57); nor with 4 blocks in flight. When the triggers are tested, and which
marks FULL, is log entry 26. -/
def Obligations.DispatchStampsAndGuards : Prop :=
  ∀ (d : Device) (f : FeedId) (x : Feed) (i : DriveId) (c : CartId) (e : Cart) (b : Block) (bs : List Block),
    d.feed f = some x → x.staging = b :: bs → x.drive = some i → x.cart = some c → d.cart c = some e →
    let n := e.eod.getD 0 + x.flights.length
    let tape : TapeBlock :=
      { kind := 0x44, flags := 0, count := b.records.length, number := n, serial := e.serial, used := b.used,
        payload := recordsBytes 0 b.records, trailer := 0 }
    let sent : Device :=
      (d.setFeed f (some { x with
        staging := bs, flights := x.flights ++ [⟨b, { tape with trailer := crc32 tape.body }⟩] })).modDrive i fun y =>
        { y with
          outstanding := y.outstanding ++ [⟨y.cmdNo, d.mu.elapsed, .write { tape with trailer := crc32 tape.body }⟩],
          cmdNo := y.cmdNo + 1 }
    d.dispatchHead f i e = (if x.staging.length = 64 then sent.post .ceSearch
      else sent) ∧
    (∀ fuel, e.protection ≠ some .writable ∨ e.full ≠ some false ∨ e.capacity < n + 1 + 64 →
      Device.dispatchLoop f (fuel + 1) d = d.spanTrigger f (decide (e.capacity < n + 1 + 64))) ∧
    (∀ fuel, e.protection = some .writable → e.full = some false → n + 1 + 64 ≤ e.capacity → 4 ≤ x.flights.length →
      Device.dispatchLoop f (fuel + 1) d = d) ∧
    (∀ fuel, e.protection = some .writable → e.full = some false → n + 1 + 64 ≤ e.capacity → x.flights.length < 4 →
      x.stall.mapFull = false → (d.askReservations f x c b).2 = true →
      Device.dispatchLoop f (fuel + 1) d =
        Device.dispatchLoop f fuel ((d.askReservations f x c b).1.dispatchHead f i e))

/-- The binding decision takes the waiting streams in their order, the longest waiting first (R5). A stream joins the
lowest-numbered feed of its pool in FILLING, STREAMING or PAUSED with fewer members than the pool's multiplex limit, at
the tail of its members, BOUND, or STALLED at once when the feed is stalled (R42, R45); where there is none, a feed with
Table 3-1's values is created in the lowest free entry, with the stream as its only member and a FEED claim placed;
where four feeds are in use it goes on waiting (R45). -/
def Obligations.AWaitingStreamFindsAFeed : Prop :=
  (∀ d : Device, d.perform .bind = d.intake.waitOrder.foldl Device.bindOne d) ∧
  ∀ (d : Device) (c : StreamId),
    let x := d.stream c
    let e := d.bindOne c
    let room := fun f : FeedId => ∃ y, d.feed f = some y ∧ y.pool = x.pool ∧
      (y.state = .filling ∨ y.state = .streaming ∨ y.state = .paused) ∧
      y.members.length < (d.pool x.pool).multiplex
    (∀ f y, room f → (∀ g, g < f → ¬room g) → d.feed f = some y →
      e.feed f = some { y with members := y.members ++ [⟨c, x.opening⟩] } ∧ (∀ g, g ≠ f → e.feed g = d.feed g) ∧
      e.stream c = { x with
        feed := some f
        state :=
          if x.state = .waiting then (if y.stall = ⟨false, false, false, false⟩ then .bound else .stalled)
          else x.state } ∧
      (∀ z, z ≠ c → e.stream z = d.stream z) ∧ e.intake.waitOrder = d.intake.waitOrder.filter (· != c) ∧
      e.arb = d.arb ∧ Machine.Task.ceSearch ∈ e.agenda) ∧
    (∀ f, (∀ g, ¬room g) → d.feed f = none → (∀ g, g < f → d.feed g ≠ none) →
      e.feed f = some
        { state := .unbound, pool := x.pool, members := [⟨c, x.opening⟩], departed := [], drive := none, cart := none,
          assembly := none, staging := [], nextDseq := 0, flights := [], returned := 0, held := false,
          reservations := [], stall := ⟨false, false, false, false⟩, estimate := 0, step := 1, upCount := 0,
          periodCount := 0, speedOut := false, stops := 0, written := 0, spanFull := false, suspending := false,
          periodStart := 0 } ∧
      (∀ g, g ≠ f → e.feed g = d.feed g) ∧
      e.stream c = { x with feed := some f, state := if x.state = .waiting then .bound else x.state } ∧
      (∀ z, z ≠ c → e.stream z = d.stream z) ∧ e.intake.waitOrder = d.intake.waitOrder.filter (· != c) ∧
      e.arb.claims = d.arb.claims ++
        [{ order := d.arb.nextOrder, kind := .feed, owner := .feed f, target := .pool x.pool }] ∧
      e.arb.nextOrder = d.arb.nextOrder + 1 ∧ Machine.Task.arbiter ∈ e.agenda) ∧
    ((∀ g, ¬room g) → (∀ g, d.feed g ≠ none) → e = d)

/-- A dispatch decision of a feed with a cartridge (R50): in FILLING, STREAMING, PAUSED or RETIRING a span trigger comes
first, at every decision on a cartridge that is not writable, whether a block is staged or not, the end-of-medium reserve
alone marking it FULL (log entry 26); FILLING and PAUSED enter STREAMING when the start condition holds, FILLING with a fresh governor period, and
otherwise nothing happens; STREAMING and RETIRING dispatch; other states dispatch nothing. A drained feed, whose members
are all ENDING with nothing in the ring, offered or held, first closes its open assembly block into staging, or sets it
close-pending while 64 blocks are staged; one that is close-pending is closed once there is room (R48). The underrun
(R54): STREAMING with nothing in flight or staged and a member not ENDING becomes PAUSED, the stop counted, the
up-counter 0. A span trigger (R57): SPANNING with SPAN, SUSPEND gone, the assembly block closed or set close-pending,
the FULL mark remembered; a second one only adds to the mark. Stalls (R6, R42): a feed whose causes become not empty
makes its BOUND members STALLED, one whose causes become empty makes its STALLED members BOUND and the compression
engine searches. -/
def Obligations.StartsUnderrunsSpansAndStalls : Prop :=
  ((∀ (d : Device) (f : FeedId) (x : Feed) (c : CartId) (e : Cart), d.feed f = some x → x.cart = some c →
     d.cart c = some e → x.assembly = none → x.suspending = false →
     let broken := e.capacity < e.eod.getD 0 + x.flights.length + 1 + 64
     let writes := e.protection = some .writable ∧ e.full = some false ∧ ¬broken
     let starts := d.mu.params.startLevel ≤ x.staging.length ∨ ∃ b bs, x.staging = b :: bs ∧
       (b.closeTime + d.mu.params.assemblyTimeout < d.mu.elapsed ∨
         ∀ o ∈ x.members, (d.stream o.chan).state = .ending)
     let goesOn := fun y : Device => (y.closeWaiting f).feedProgress f
     (x.state = .filling ∨ x.state = .streaming ∨ x.state = .paused ∨ x.state = .retiring → ¬writes →
       d.feedDecide f = goesOn (d.spanTrigger f (decide broken))) ∧
     (x.state = .filling ∨ x.state = .paused → writes → ¬starts → d.feedDecide f = d) ∧
     (x.state = .filling → writes → starts →
       d.feedDecide f = goesOn (Device.dispatchLoop f 5 (d.setFeed f (some { x with
         state := .streaming, periodCount := 0, upCount := 0, periodStart := d.mu.elapsed })))) ∧
     (x.state = .paused → writes → starts →
       d.feedDecide f = goesOn (Device.dispatchLoop f 5 (d.setFeed f (some { x with state := .streaming })))) ∧
     (x.state = .streaming ∨ x.state = .retiring → writes →
       d.feedDecide f = goesOn (Device.dispatchLoop f 5 d)) ∧
     (x.state = .unbound ∨ x.state = .spanning ∨ x.state = .suspended → d.feedDecide f = d.feedProgress f)) ∧
   (∀ (d : Device) (f : FeedId) (x : Feed), d.feed f = some x →
     let runsDry := x.state = .streaming ∧ x.flights = [] ∧ x.staging = [] ∧
       ∃ o ∈ x.members, (d.stream o.chan).state ≠ .ending
     (runsDry → d.underrun f = d.setFeed f (some { x with
       state := .paused, stops := min 65535 (x.stops + 1), upCount := 0 })) ∧
     (¬runsDry → d.underrun f = d)) ∧
   (∀ (d : Device) (f : FeedId) (x : Feed) (full : Bool), d.feed f = some x →
     let e := d.spanTrigger f full
     let y : Feed := { x with
       state := .spanning, spanFull := full, suspending := false,
       stall := { x.stall with span := true, suspend := false } }
     (x.state = .spanning → e = d.setFeed f (some { x with spanFull := x.spanFull || full })) ∧
     (x.state ≠ .spanning →
       (x.assembly = none → e.feed f = some y) ∧
       (∀ a, x.assembly = some a → x.staging.length < 64 → e.feed f = some { y with
         staging := x.staging ++ [⟨x.nextDseq, d.mu.elapsed, a.records, a.used⟩], nextDseq := x.nextDseq + 1,
         assembly := none }) ∧
       (∀ a, x.assembly = some a → 64 ≤ x.staging.length →
         e.feed f = some { y with assembly := some { a with closePending := true } }) ∧
       (∀ g, g ≠ f → e.feed g = d.feed g) ∧
       (x.stall = ⟨false, false, false, false⟩ → ∀ o ∈ x.members, (d.stream o.chan).state = .bound →
         e.stream o.chan = { d.stream o.chan with state := .stalled }) ∧
       Machine.Task.feedProgress f ∈ e.agenda)) ∧
   ∀ (d : Device) (f : FeedId) (x : Feed) (g : Stall → Stall), d.feed f = some x →
     let e := d.setStall f g
     let clear : Stall := ⟨false, false, false, false⟩
     let member := fun c : StreamId => ∃ o ∈ x.members, o.chan = c
     e.feed f = some { x with stall := g x.stall } ∧ (∀ h, h ≠ f → e.feed h = d.feed h) ∧
     (x.stall = clear → g x.stall ≠ clear → ∀ c,
       (member c → (d.stream c).state = .bound → e.stream c = { d.stream c with state := .stalled }) ∧
       (¬member c ∨ (d.stream c).state ≠ .bound → e.stream c = d.stream c)) ∧
     (x.stall ≠ clear → g x.stall = clear → Machine.Task.ceSearch ∈ e.agenda ∧ ∀ c,
       (member c → (d.stream c).state = .stalled → e.stream c = { d.stream c with state := .bound }) ∧
       (¬member c ∨ (d.stream c).state ≠ .stalled → e.stream c = d.stream c)) ∧
     ((x.stall = clear ↔ g x.stall = clear) → e.intake = d.intake ∧ e.agenda = d.agenda)) ∧
  ∀ (d : Device) (f : FeedId) (x : Feed) (a : Assembly), d.feed f = some x → x.assembly = some a →
    let drained := x.held = false ∧ ∀ o ∈ x.members,
      (d.stream o.chan).state = .ending ∧ (d.stream o.chan).slots = [] ∧ (d.stream o.chan).offered = none
    let closed := (d.setFeed f (some { x with
      staging := x.staging ++ [⟨x.nextDseq, d.mu.elapsed, a.records, a.used⟩], nextDseq := x.nextDseq + 1,
      assembly := none
      periodCount :=
        if x.state = .streaming ∨ x.state = .paused then min 4095 (x.periodCount + 1) else x.periodCount })).post
          (.feedDecide f)
    let pending := d.setFeed f (some { x with assembly := some { a with closePending := true } })
    (drained ∨ a.closePending = true → x.staging.length < 64 → d.feedDecide f = closed.feedDecide f) ∧
    (drained ∨ a.closePending = true → 64 ≤ x.staging.length → d.feedDecide f = pending.feedDecide f) ∧
    (¬drained → d.closeDrained f = d) ∧ (drained → x.staging.length < 64 → d.closeDrained f = closed) ∧
    (drained → 64 ≤ x.staging.length → d.closeDrained f = pending)

/-- A SPANNING feed with nothing in flight, returned or SPEED outstanding departs (R58): the FULL mark if remembered,
its reservations and MAP_FULL gone, its drive released MOUNTED_IDLE, UNBOUND with a FEED claim that prefers the drive,
or removed when nothing is left to write; its OPEN parts close with CONTINUED, a departed entry's also with TRUNCATED
(R58, R74). A served feed takes drive and cartridge, FILLING or RETIRING, without SPAN and NO_MEDIA, with SPEED issued
(R44). A feed whose last member left is RETIRING, or removed with its claim withdrawn; a RETIRING one with everything
written is removed and its drive released (R61, log entry 47; log entry 10 for the departed list). A drive reset returns
the blocks in flight to staging, marks FULL, closes the parts, and leaves the feed UNBOUND with SPAN and a new claim
(R62). -/
def Obligations.DeparturesServicesAndRetirements : Prop :=
  (∀ (d : Device) (f : FeedId) (x : Feed), d.feed f = some x → x.state = .spanning →
    (x.flights ≠ [] ∨ 0 < x.returned ∨ x.speedOut = true → d.feedProgress f = d) ∧
    ∀ i c e, x.flights = [] → x.returned = 0 → x.speedOut = false → x.drive = some i → x.cart = some c →
      d.cart c = some e →
      let e' := d.feedProgress f
      let empty := x.members = [] ∧ x.assembly = none ∧ x.staging = [] ∧ x.departed = [] ∧ x.held = false
      e'.drive i = { d.drive i with
        state := .mountedIdle, phase := .rest, active := none, suspendFor := none, idleSince := some d.mu.elapsed,
        released := true } ∧
      (∀ j, j ≠ i → e'.drive j = d.drive j) ∧
      (x.spanFull = true → e'.cart c = some { e with full := some true } ∧
        e'.event .cartridgeFull = some (raiseEvent (d.event .cartridgeFull) (.number c))) ∧
      (x.spanFull = false → e'.row c = d.row c ∧ e'.event .cartridgeFull = d.event .cartridgeFull) ∧
      (∀ y, y ≠ c → e'.row y = d.row y) ∧
      e'.map.reserved = d.map.reserved - x.reservations.length ∧ Machine.Task.arbiter ∈ e'.agenda ∧
      (¬empty →
        e'.feed f = some { x with
          drive := none, cart := none, state := .unbound, spanFull := false, reservations := [],
          stall := { x.stall with mapFull := false } } ∧
        e'.arb.claims = d.arb.claims ++
          [{ order := d.arb.nextOrder, kind := .feed, owner := .feed f, target := .pool x.pool,
             preferred := some i }]) ∧
      (empty → (∀ k ∈ d.arb.claims, k.owner ≠ .feed f ∧ k.order < d.arb.nextOrder) →
        e'.feed f = none ∧ e'.arb.claims = d.arb.claims ∧ Machine.Task.bind ∈ e'.agenda)) ∧
  (∀ (d : Device) (f : FeedId) (x : Feed) (c : CartId), d.feed f = some x → x.cart = some c →
    (x.state = .spanning → x.flights = [] → x.returned = 0 → x.speedOut = false → (∃ i, x.drive = some i) →
      ∀ id p, d.part? id = some p → p.state = .open → p.cart = c →
        let closed := { p with state := .closed, closeTime := some d.mu.time, continued := true }
        let byMember := ∃ o ∈ x.members, ∃ n, (d.stream o.chan).part = some ⟨some id, n, c⟩
        let byEntry := ∃ z ∈ x.departed, ∃ n, z.part = some ⟨some id, n, c⟩
        (byMember → (d.feedProgress f).part? id = some closed) ∧
        (¬byMember → byEntry → (d.feedProgress f).part? id = some { closed with truncated := true }) ∧
        (¬byMember → ¬byEntry → (d.feedProgress f).part? id = some p)) ∧
    ∀ id p, d.part? id = some p → p.state = .open → p.cart = c →
      let closed := { p with state := .closed, closeTime := some d.mu.time, continued := true }
      let byMember := ∃ o ∈ x.members, ∃ n, (d.stream o.chan).part = some ⟨some id, n, c⟩
      let byEntry := ∃ z ∈ x.departed, ∃ n, z.part = some ⟨some id, n, c⟩
      (byMember → (d.feedUnbind f).part? id = some closed) ∧
      (¬byMember → byEntry → (d.feedUnbind f).part? id = some { closed with truncated := true }) ∧
      (¬byMember → ¬byEntry → (d.feedUnbind f).part? id = some p)) ∧
  (∀ (d : Device) (f : FeedId) (x : Feed) (i : DriveId) (c : CartId), d.feed f = some x →
    let e := d.feedServed f i c
    e.feed f = some { x with
      drive := some i, cart := some c, state := if x.members = [] then .retiring else .filling, reservations := [],
      stall := { x.stall with span := false, noMedia := false }, speedOut := true } ∧
    e.drive i = { d.drive i with
      outstanding := (d.drive i).outstanding ++ [⟨(d.drive i).cmdNo, d.mu.elapsed, .speed x.step⟩],
      cmdNo := (d.drive i).cmdNo + 1 } ∧
    e.map.reserved = d.map.reserved - x.reservations.length ∧ e.arb = d.arb ∧
    Machine.Task.bind ∈ e.agenda ∧ Machine.Task.feedDecide f ∈ e.agenda) ∧
  (∀ (d : Device) (f : FeedId) (x : Feed), d.feed f = some x → x.members = [] →
    (x.state = .filling ∨ x.state = .streaming ∨ x.state = .paused →
      (d.memberLeft f).feed f = some { x with state := .retiring }) ∧
    (x.state = .unbound → x.assembly = none → x.staging = [] → x.departed = [] → x.held = false →
      ∀ before k after, d.arb.claims = before ++ k :: after → k.owner = .feed f → k.drive = none →
        (∀ z ∈ before ++ after, z.owner ≠ .feed f ∧ z.order ≠ k.order) →
        let e := d.feedProgress f
        e.feed f = none ∧ e.arb.claims = before ++ after ∧ Machine.Task.bind ∈ e.agenda) ∧
    ∀ i c, x.state = .retiring → x.assembly = none → x.staging = [] → x.departed = [] → x.held = false →
      x.flights = [] → x.returned = 0 → x.speedOut = false → x.drive = some i → x.cart = some c →
      (∀ k ∈ d.arb.claims, k.owner ≠ .feed f) →
      let e := d.feedProgress f
      e.feed f = none ∧ e.arb = d.arb ∧ e.media = d.media ∧ e.map.parts = d.map.parts ∧
      e.drive i = { d.drive i with
        state := .mountedIdle, phase := .rest, active := none, suspendFor := none, idleSince := some d.mu.elapsed,
        released := true } ∧
      Machine.Task.bind ∈ e.agenda ∧ Machine.Task.arbiter ∈ e.agenda) ∧
  ∀ (d : Device) (f : FeedId) (x : Feed) (c : CartId) (e : Cart), d.feed f = some x → x.cart = some c →
    d.cart c = some e →
    let u := d.feedUnbind f
    u.feed f = some { x with
      staging := x.flights.map (·.block) ++ x.staging, flights := [], returned := 0, speedOut := false,
      reservations := [], stall := { x.stall with mapFull := false, suspend := false, span := true }, drive := none,
      cart := none, state := .unbound, suspending := false, spanFull := false } ∧
    u.cart c = some { e with full := some true } ∧ (∀ y, y ≠ c → u.row y = d.row y) ∧
    u.event .cartridgeFull = some (raiseEvent (d.event .cartridgeFull) (.number c)) ∧
    u.map.reserved = d.map.reserved - x.reservations.length ∧
    u.arb.claims = d.arb.claims ++
      [{ order := d.arb.nextOrder, kind := .feed, owner := .feed f, target := .pool x.pool }]

/-! ### The segment map -/

/-- The id a new part takes is in 1..FFFFFFFFh, held by no record in use, and the first free one from the counter on,
wrapping from FFFFFFFFh to 1; then the counter stands one further (R66). LOAD_SEGMENT of a part on a data cartridge
whose EOD lies beyond its last block, with an id no record holds and room in the map: the record is added among the
others, which keep their order, the counter does not move, OK is answered, and the verify unit is told of a CLOSED part
(R80). RELEASE_SEGMENT: an id of 0 is refused BAD_ARGUMENT, one no record holds NO_ENTRY, an OPEN part STATE, a pinned
one BUSY; otherwise the record becomes free, every reference that names it keeps its number and cartridge alone (R67),
OK is answered, the verify unit is told, and the feeds held for reservation ask again (R79). Ids beyond 32 bits are log
entry 44. -/
def Obligations.PartIdsAndTheRequestsOnParts : Prop :=
  (∀ d : Device, d.Sound → d.map.parts.length ≤ 4096 →
     (∀ p ∈ d.map.parts, p.id ≠ d.newPartId) ∧ 1 ≤ d.newPartId ∧ d.newPartId ≤ 0xFFFFFFFF ∧
     (∀ m, d.map.counter ≤ m → m < d.newPartId → ∃ p ∈ d.map.parts, p.id = m) ∧
     (d.newPartId < d.map.counter →
       (∀ m, d.map.counter ≤ m → m ≤ 0xFFFFFFFF → ∃ p ∈ d.map.parts, p.id = m) ∧
       ∀ m, 1 ≤ m → m < d.newPartId → ∃ p ∈ d.map.parts, p.id = m) ∧
     ∀ r c rec block,
       (d.createPart r c rec block).1.map.counter =
         (if d.newPartId = 0xFFFFFFFF then 1 else d.newPartId + 1)) ∧
  ((∀ (s : State) (tag : Tag) (c : CartId) (e : Cart) (eod : Nat) (st : PartState) (gap truncated continued : Bool)
     (p : Part), s.dev.link.up = true → s.dev.cart c = some e → e.kind = .data → e.eod = some eod →
     st = .closed ∨ st = .verified → s.dev.map.parts.length + s.dev.map.reserved + 1 ≤ 4096 →
     (∀ q ∈ s.dev.map.parts, q.id ≠ p.id) → 1 ≤ p.id → p.id ≤ 0xFFFFFFFF → 1 ≤ p.jobTag → p.jobTag ≤ 0xFFFFFFFF →
     p.number ≤ 0xFFFFFFFF → 1 ≤ p.firstBlock → p.firstBlock ≤ p.lastBlock → p.lastBlock < 2 ^ 24 → p.lastBlock < eod →
     p.firstSeq ≤ p.lastSeq → p.lastSeq ≤ 0xFFFFFFFF → p.storedBytes ≤ p.rawBytes → p.rawBytes < 2 ^ 64 →
     ∀ time, time ≤ 0xFFFFFFFF →
     p = { id := p.id, jobTag := p.jobTag, number := p.number, cart := c, firstBlock := p.firstBlock,
           lastBlock := p.lastBlock, firstSeq := p.firstSeq, lastSeq := p.lastSeq, rawBytes := p.rawBytes,
           storedBytes := p.storedBytes, check := p.check, state := st, gap := gap, truncated := truncated,
           continued := continued, hostLoaded := true, closeTime := some time, suspectTime := none, restorePins := 0,
           verifyPin := false } →
     let d : Device := { s.dev.begun with
       map := { s.dev.map with parts := insertPart p s.dev.map.parts }
       link := { s.dev.link with outbound := s.dev.link.outbound ++ [.resp tag .ok [] none] } }
     exec (.loadSegment tag
         { part := p.id, jobTag := p.jobTag, number := p.number, cart := c, firstBlock := p.firstBlock,
           lastBlock := p.lastBlock, firstSeq := p.firstSeq, lastSeq := p.lastSeq, rawBytes := p.rawBytes,
           storedBytes := p.storedBytes, check := p.check.toNat, state := .known st, gap := .known gap,
           truncated := .known truncated, continued := .known continued, closeTime := time }) s =
       .next { s with dev := (if st = .closed then d.post (.verifyNotify c) else d).settle } ∧
     (∃ before after, s.dev.map.parts = before ++ after ∧ insertPart p s.dev.map.parts = before ++ p :: after) ∧
     ((s.dev.map.parts.Pairwise fun a b => a.id < b.id) →
       (insertPart p s.dev.map.parts).Pairwise fun a b => a.id < b.id)) ∧
   ∀ (s : State) (tag : Tag), s.dev.link.up = true →
     let refused := fun st : Status => Host.Outcome.next (φ := Fault) (ρ := Refusal)
       { s with dev := { s.dev with link := { s.dev.link with outbound := s.dev.link.outbound ++ [.resp tag st [] none] } } }
     exec (.releaseSegment tag 0) s = refused .badArgument ∧
     (∀ id, 1 ≤ id → id ≤ 0xFFFFFFFF → (∀ p ∈ s.dev.map.parts, p.id ≠ id) →
       exec (.releaseSegment tag id) s = refused .noEntry) ∧
     ∀ p before after, s.dev.map.parts = before ++ p :: after → (∀ q ∈ before, q.id ≠ p.id) → 1 ≤ p.id →
       p.id ≤ 0xFFFFFFFF →
       (p.state = .open → exec (.releaseSegment tag p.id) s = refused .state) ∧
       (p.state ≠ .open → 0 < p.restorePins ∨ p.verifyPin = true →
         exec (.releaseSegment tag p.id) s = refused .busy) ∧
       (p.state ≠ .open → p.restorePins = 0 → p.verifyPin = false →
         let forget := fun r : Option PartRef => r.map fun x => if x.part = some p.id then { x with part := none } else x
         exec (.releaseSegment tag p.id) s =
           .next { s with
             dev := ((({ s.dev.begun with
               intake := { s.dev.intake with
                 streams := s.dev.intake.streams.map fun x => { x with part := forget x.part } }
               feeds := s.dev.feeds.map fun x => x.map fun x =>
                 { x with departed := x.departed.map fun z => { z with part := forget z.part } }
               map := { s.dev.map with parts := s.dev.map.parts.filter fun q => q.id != p.id }
               link := { s.dev.link with outbound := s.dev.link.outbound ++ [.resp tag .ok [] none] } } :
                 Device).post (.verifyNotify p.cart)).post .mapRelease).settle }))

/-- Closing an OPEN part: CLOSED at library time with the cause's flags, the verify unit told; one that is closed
already takes the flags alone (R71). BAD, VERIFIED and SUSPECT are set from the states Table 4-2 and R77 have, with
their event and the verify unit told, and change nothing from another (R76, R77). When a pin is granted, and what takes
and gives back a pin (R78). Before a dispatch a feed asks at once for a reservation for each opening with a record in
the block that has no OPEN part on the cartridge and no reservation; granted up to 4096 records and reservations, and
otherwise MAP_FULL (R52, R68). A confirmed record extends its opening's OPEN part on the cartridge, or makes a new part
with a reservation (R69, R70); that the greater of old and new last block and sequence is kept is the model's form in
states no run reaches. At a release the held feeds ask again, in ascending number (R68; log entry 48), and one that is
refused again raises MAP_FULL again (log entry 27). -/
def Obligations.ThePartsOfTheMapChangeState : Prop :=
  (∀ (d : Device) (id : Nat) (p : Part), d.part? id = some p →
    (∀ gap truncated continued, let e := d.closePart id gap truncated continued
      let q : Part := { p with
        gap := p.gap || gap, truncated := p.truncated || truncated, continued := p.continued || continued }
      (p.state = .open → e.part? id = some { q with state := .closed, closeTime := some d.mu.time } ∧
        Machine.Task.verifyNotify p.cart ∈ e.agenda) ∧
      (p.state ≠ .open → e.part? id = some q ∧ e.agenda = d.agenda) ∧ ∀ y, y ≠ id → e.part? y = d.part? y) ∧
    (p.state = .open ∨ p.state = .bad → d.setBad id = d) ∧
    (p.state ≠ .open → p.state ≠ .bad → let e := d.setBad id
      e.part? id = some { p with state := .bad, suspectTime := none } ∧ (∀ y, y ≠ id → e.part? y = d.part? y) ∧
      e.event .segmentBad = some (raiseEvent (d.event .segmentBad) (.number id)) ∧
      Machine.Task.verifyNotify p.cart ∈ e.agenda) ∧
    (p.state = .closed ∨ p.state = .suspect → let e := d.setVerified id
      e.part? id = some { p with state := .verified, suspectTime := none } ∧
      (∀ y, y ≠ id → e.part? y = d.part? y) ∧ Machine.Task.verifyNotify p.cart ∈ e.agenda) ∧
    (p.state ≠ .closed → p.state ≠ .suspect → d.setVerified id = d) ∧
    (p.state = .closed ∨ p.state = .verified → let e := d.markSuspect id
      e.part? id = some { p with state := .suspect, suspectTime := some d.mu.time } ∧
      (∀ y, y ≠ id → e.part? y = d.part? y) ∧
      e.event .segmentSuspect = some (raiseEvent (d.event .segmentSuspect) (.number id)) ∧
      Machine.Task.verifyNotify p.cart ∈ e.agenda) ∧
    (p.state ≠ .closed → p.state ≠ .verified → d.markSuspect id = d) ∧
    (p.restorePinFree = true ↔ p.state ≠ .open ∧ p.restorePins < 4) ∧
    (p.verifyPinFree = true ↔ (p.state = .closed ∨ p.state = .suspect) ∧ p.verifyPin = false) ∧
    (d.pinRestore id).part? id = some { p with restorePins := p.restorePins + 1 } ∧
    (d.unpinRestore id).part? id = some { p with restorePins := p.restorePins - 1 } ∧
    (d.pinVerify id).part? id = some { p with verifyPin := true } ∧
    (d.unpinVerify id).part? id = some { p with verifyPin := false }) ∧
  (∀ (d : Device) (f : FeedId) (x : Feed) (c : CartId) (b : Block), d.feed f = some x →
    let os := d.needed x c b
    let current := fun r : Option PartRef => ∃ id n p, r = some ⟨some id, n, c⟩ ∧ d.part? id = some p ∧
      p.state = .open ∧ p.cart = c
    os.Nodup ∧
    (∀ o, o ∈ os ↔ (∃ r ∈ b.records, r.opening = o) ∧ o ∉ x.reservations ∧
      ((o ∈ x.members ∧ ¬current (d.stream o.chan).part) ∨
        (o ∉ x.members ∧ ∃ before z after, x.departed = before ++ z :: after ∧ (∀ w ∈ before, w.opening ≠ o) ∧
          z.opening = o ∧ ¬current z.part))) ∧
    (os = [] → d.askReservations f x c b = (d, true)) ∧
    (os ≠ [] → d.map.parts.length + d.map.reserved + os.length ≤ 4096 →
      d.askReservations f x c b =
        (({ d with map := { d.map with reserved := d.map.reserved + os.length } } : Device).setFeed f
          (some { x with reservations := x.reservations ++ os }), true)) ∧
    (os ≠ [] → 4096 < d.map.parts.length + d.map.reserved + os.length →
      d.askReservations f x c b =
        ((d.setStall f fun s => { s with mapFull := true }).raise .mapFull (.number f), false))) ∧
  (∀ (d : Device) (f : FeedId) (x : Feed) (c : CartId) (n : Nat) (r : Record), d.feed f = some x →
    r.opening ∈ x.members →
    let e := d.mapRecord f c n r
    let part := (d.stream r.opening.chan).part
    (∀ id k p, part = some ⟨some id, k, c⟩ → d.part? id = some p → p.state = .open → p.cart = c →
      e.part? id = some { p with
        lastBlock := max p.lastBlock n, lastSeq := max p.lastSeq r.seq, rawBytes := p.rawBytes + r.rawLen,
        storedBytes := p.storedBytes + r.storedLen, check := p.check + r.rawCrc, gap := p.gap || r.gap } ∧
      e.map.reserved = d.map.reserved ∧ e.feeds = d.feeds ∧ e.intake = d.intake) ∧
    ((¬∃ id k p, part = some ⟨some id, k, c⟩ ∧ d.part? id = some p ∧ p.state = .open ∧ p.cart = c) →
      r.opening ∈ x.reservations → (∀ q ∈ d.map.parts, q.id ≠ d.newPartId) →
      let number := match part with
        | some y => y.number + 1
        | none => 0
      e.part? d.newPartId = some
        { id := d.newPartId, jobTag := r.jobTag, number, cart := c, firstBlock := n, lastBlock := n, firstSeq := r.seq,
          lastSeq := r.seq, rawBytes := r.rawLen, storedBytes := r.storedLen, check := r.rawCrc, state := .open,
          gap := r.gap, truncated := false, continued := false, hostLoaded := false, closeTime := none,
          suspectTime := none, restorePins := 0, verifyPin := false } ∧
      (∀ y, y ≠ d.newPartId → e.part? y = d.part? y) ∧ e.map.reserved = d.map.reserved - 1 ∧
      e.feed f = some { x with reservations := x.reservations.erase r.opening } ∧
      (e.stream r.opening.chan).part = some ⟨some d.newPartId, number, c⟩)) ∧
  (∀ (d : Device) (n : Nat), d.releaseReservations n = (if n = 0 then d
    else ({ d with map := { d.map with reserved := d.map.reserved - n } } : Device).post .mapRelease)) ∧
  (∀ d : Device, d.perform .mapRelease = ([0, 1, 2, 3] : List FeedId).foldl Device.askAgain d) ∧
  ∀ (d : Device) (f : FeedId) (x : Feed), d.feed f = some x →
    (x.stall.mapFull = false ∨ x.staging = [] ∨ x.cart = none → d.askAgain f = d) ∧
    ∀ b bs c, x.stall.mapFull = true → x.staging = b :: bs → x.cart = some c →
      d.askAgain f = (if (d.askReservations f x c b).2 = true
        then ((d.askReservations f x c b).1.setStall f fun s => { s with mapFull := false }).feedDecide f
        else (d.askReservations f x c b).1)

/-! ### The pool and cartridge tables -/

/-- LOAD_POOL on a data pool whose generation is as expected, with every value in its range: every field given is
written, the generation increments if any changed and stays otherwise, and the answer carries every field and the
generation; its effects are decisions made due: binding when the multiplex limit rose, the media signal when
take-scratch became on with a takeable cartridge in the table, the verify unit for each cartridge of the pool when the
interval changed (R88, R98). Item names and widths are log entry 17. -/
def Obligations.LoadPoolWritesWhatIsGiven : Prop :=
  ∀ (s : State) (tag : Tag) (p : PoolId) (x : Expected) (multiplex interval retries : Option Nat)
    (scratch write : Option Bool) (capacity : Option Nat), s.dev.link.up = true → p ≠ 0 →
    x = .any ∨ x = .exactly (s.dev.pool p).gen.toNat →
    (∀ n, multiplex = some n → 1 ≤ n ∧ n ≤ 8) → (∀ n, interval = some n → n ≤ 8760) →
    (∀ n, retries = some n → n ≤ 3) → (∀ n, capacity = some n → 128 ≤ n ∧ n ≤ 16777215) →
    let old := s.dev.pool p
    let given : Pool :=
      { multiplex := multiplex.getD old.multiplex, interval := interval.getD old.interval,
        retries := retries.getD old.retries, takeScratch := scratch.getD old.takeScratch,
        writeEnabled := write.getD old.writeEnabled, defaultCapacity := capacity.getD old.defaultCapacity,
        gen := old.gen }
    let new : Pool := if given = old then old else { given with gen := old.gen + 1 }
    ∃ tasks, exec (.loadPool tag p x
        { multiplex, interval, retries, takeScratch := scratch.map .known, writeEnabled := write.map .known,
          defaultCapacity := capacity }) s =
      .next { s with
        dev := ({ s.dev.begun with
          media := { s.dev.media with pools := s.dev.media.pools.set p new }
          link := { s.dev.link with
            outbound := s.dev.link.outbound ++ [.resp tag .ok
              [numItem "MULTIPLEX_LIMIT" 1 new.multiplex, numItem "VERIFY_INTERVAL" 2 new.interval,
               numItem "READ_RETRIES" 1 new.retries, nameItem "TAKE_SCRATCH" (onName new.takeScratch),
               nameItem "WRITE_ENABLED" (onName new.writeEnabled),
               numItem "DEFAULT_CAPACITY" 4 new.defaultCapacity, numItem "GENERATION" 1 new.gen.toNat] none] }
          agenda := tasks } : Device).settle } ∧
      (∀ t ∈ s.dev.agenda, t ∈ tasks) ∧ (old.multiplex < new.multiplex → Machine.Task.bind ∈ tasks) ∧
      (∀ c e y, old.takeScratch = false → new.takeScratch = true → s.dev.cart c = some e → e.kind = .data →
        e.pool = some 0 → e.protection = some .writable → e.full = some false → e.finalizing = false →
        e.eod = none ∨ e.eod = some 1 → e.location = .at y → isStorage y = true ∨ isDriveElem y = true →
        (∀ q ∈ s.dev.map.parts, q.cart ≠ c) → Machine.Task.media p ∈ tasks) ∧
      (∀ c e, old.interval ≠ new.interval → s.dev.cart c = some e → e.pool = some p → Machine.Task.verifyNotify c ∈ tasks)

/-- LOAD_CARTRIDGE CREATE that is not refused fills its empty row: the fields not given take the values of Table 5-1,
the location is OUTSIDE when no element is FOREIGN with the barcode, and otherwise the lowest such element (log entry
55) is OCCUPIED by the cartridge and its location; in a drive the port has its cartridge (log entry 18); the generation
increments and is answered (R84, R88). EDIT writes the fields it gives as one change, in its own row alone, and answers
the generation (R85, R88); a change of label serial clears a LABEL block, and nothing else of the verify list changes
(R166); an EDIT to kind CLEANING, and back, takes that kind's own fields. REMOVE empties the row, the generation
increments and is answered, and an element the cartridge stood in becomes FOREIGN with its barcode (R86, R88). The home
slot so taken is log entry 40, that a change of nothing leaves the generation log entry 39, GENERATION's width log entry
17. -/
def Obligations.CreateEditAndRemoveChangeOneRow : Prop :=
  (∀ (s : State) (tag : Tag) (c : CartId) (x : Expected) (b : Bytes) (a : CartArgs), s.dev.link.up = true →
     s.dev.createRefusal c x b a = none → a.kind = none ∨ a.kind = some (.known .data) ∨ a.kind = some (.known .cleaning) →
     let cleaning := a.kind = some (.known .cleaning)
     let entry : Cart :=
       { barcode := b
         kind := if cleaning then .cleaning else .data
         pool := if cleaning then none else some (Fin.ofNat 8 (a.pool.getD 0))
         protection :=
           if cleaning then none else some (match a.protection with | some (.known p) => p | _ => .writable)
         full := if cleaning then none else some false
         eod := if cleaning then none else a.eod
         capacity := a.capacity.getD 16777215
         serial := BitVec.ofNat 32 (a.serial.getD 0)
         location := .outside
         home := a.home.map (Fin.ofNat 105)
         uses := if cleaning then a.uses.getD 50 else 0
         finalizing := false
         reason := .none }
     let ok := OutFrame.resp tag .ok [numItem "GENERATION" 1 ((s.dev.row c).gen + 1).toNat] none
     s.dev.cart c = none ∧
     ((∀ e, (s.dev.elem e).content ≠ .foreign b) →
       ∃ tasks, exec (.loadCartridgeCreate tag c x b a) s =
         .next { s with dev := (s.dev.begun.withRow c (some entry) ok tasks).settle }) ∧
     (∀ (e : ElemId) (i : DriveId), (s.dev.elem e).content = .foreign b →
       (∀ y, y < e → (s.dev.elem y).content ≠ .foreign b) → e = driveElem i →
       ∃ tasks,
         let d := (({ s.dev.begun with
           media := { s.dev.media with elems := s.dev.media.elems.set e { s.dev.elem e with content := .occupied c } } } :
             Device).withRow c (some { entry with location := .at e }) ok tasks).modDrive i fun x =>
               { x with cart := some c }
         exec (.loadCartridgeCreate tag c x b a) s =
           .next { s with dev := (if (s.dev.drive i).phase = .powerMouth then d.askReturn i else d).settle }) ∧
     ∀ e, (s.dev.elem e).content = .foreign b → (∀ y, y < e → (s.dev.elem y).content ≠ .foreign b) →
       isDriveElem e = false →
       ∃ tasks, exec (.loadCartridgeCreate tag c x b a) s =
         .next { s with
           dev := (({ s.dev.begun with
             media := { s.dev.media with elems := s.dev.media.elems.set e { s.dev.elem e with content := .occupied c } } } :
               Device).withRow c
             (some { entry with
               location := .at e, home := if a.home = none ∧ isStorage e = true then some e else entry.home })
             ok tasks).settle }) ∧
  ((∀ (s : State) (tag : Tag) (c : CartId) (e : Cart) (x : Expected) (a : CartArgs), s.dev.link.up = true →
     s.dev.cart c = some e → s.dev.editRefusal c x a = none →
     ∃ (new : Cart) (items : List Item) (tasks : List Task) (list : List VerifyEntry),
       exec (.loadCartridgeEdit tag c x a) s =
         .next { s with
           dev := ({ s.dev.begun.withRow c (some new)
             (.resp tag .ok (numItem "GENERATION" 1 ((s.dev.row c).after (some new)).gen.toNat :: items) none) tasks with
               vu := { s.dev.vu with list } } : Device).settle } ∧
       new = e.edited a ∧ (a ≠ {} → items = []) ∧ (a = {} → new = e ∧ items = e.items) ∧
       (new.serial = e.serial → list = s.dev.vu.list) ∧
       (∀ y, list.find? (fun z => z.cart == y) =
         if y = c ∧ new.serial ≠ e.serial then
           (s.dev.entry? y).map fun z => if z.block = .label then { z with block := .none } else z
         else s.dev.entry? y) ∧
       (e.kind = .cleaning → a.kind = none ∨ a.kind = some (.known .cleaning) →
         new = { e with
           capacity := a.capacity.getD e.capacity
           serial := (a.serial.map (BitVec.ofNat 32)).getD e.serial
           home := if a.home = none then e.home else a.home.map (Fin.ofNat 105)
           uses := a.uses.getD e.uses }) ∧
       (e.kind = .data → a.kind = none ∨ a.kind = some (.known .data) →
         new = { e with
           pool := if a.pool = none then e.pool else a.pool.map (Fin.ofNat 8)
           eod := if a.eod = none then e.eod else a.eod
           capacity := a.capacity.getD e.capacity
           serial := (a.serial.map (BitVec.ofNat 32)).getD e.serial
           home := if a.home = none then e.home else a.home.map (Fin.ofNat 105)
           full := if a.full = none then e.full else some true }) ∧
       (e.kind = .data → a.kind = some (.known .cleaning) →
         new.kind = .cleaning ∧ new.pool = none ∧ new.protection = none ∧ new.full = none ∧ new.uses = a.uses.getD 50) ∧
       (e.kind = .cleaning → a.kind = some (.known .data) → a.pool = none → a.full = none →
         new.kind = .data ∧ new.pool = some 0 ∧ new.protection = some .writable ∧ new.full = some false ∧ new.uses = 0)) ∧
   ∀ (s : State) (tag : Tag) (c : CartId) (e : Cart) (x : Expected), s.dev.link.up = true →
     s.dev.cart c = some e → s.dev.removeRefusal c x = none →
     let ok := OutFrame.resp tag .ok [numItem "GENERATION" 1 ((s.dev.row c).gen + 1).toNat] none
     ((∀ y, e.location ≠ .at y) → ∃ tasks,
       exec (.loadCartridgeRemove tag c x) s = .next { s with dev := (s.dev.begun.withRow c none ok tasks).settle }) ∧
     ∀ y, e.location = .at y → ∃ tasks,
       exec (.loadCartridgeRemove tag c x) s =
         .next { s with
           dev := (({ s.dev.begun with
             media := { s.dev.media with
               elems := s.dev.media.elems.set y { s.dev.elem y with content := .foreign e.barcode } } } :
                 Device).withRow c none ok tasks).settle })

/-- LOCK, UNLOCK and HOLD of a DATA cartridge as Table 5-2 has them, for every protection and both levels of the line:
an accepted one writes the protection and clears the reason code as one change, and answers the generation; a refused
one answers STATE or PROTECTED and changes nothing; a CLEANING cartridge, without protection, answers STATE (R91, R92).
FINALIZE that is not refused sets finalize pending as one change and places a HOST claim for the cartridge (R93);
RECYCLE that is not refused makes the cartridge a blank one of pool 0 as one change, keeping capacity, serial, location
and home (R94); a change of the retention-hold line is taken and changes no entry (R92). That a change of nothing leaves
the generation is log entry 39, GENERATION's width log entry 17. -/
def Obligations.ProtectionFinalizeAndRecycle : Prop :=
  (∀ (s : State) (tag : Tag) (c : CartId) (e : Cart) (p : Protection) (x : Expected), s.dev.link.up = true →
     s.dev.cart c = some e → e.kind = .data → e.protection = some p →
     x = .any ∨ x = .exactly (s.dev.row c).gen.toNat →
     let becomes := fun (i : Instr) (q : Protection) => ∃ tasks,
       let new := some { e with protection := some q, reason := .none }
       exec i s = .next { s with
         dev := (s.dev.begun.withRow c new
           (.resp tag .ok [numItem "GENERATION" 1 ((s.dev.row c).after new).gen.toNat] none) tasks).settle }
     let refused := fun (i : Instr) (st : Status) => exec i s =
       .next { s with dev := { s.dev with link := { s.dev.link with outbound := s.dev.link.outbound ++ [.resp tag st [] none] } } }
     (p = .writable → becomes (.lock tag c x) .locked ∧ refused (.unlock tag c x) .state ∧
       becomes (.hold tag c x) .held) ∧
     (p = .locked → refused (.lock tag c x) .state ∧ becomes (.unlock tag c x) .writable ∧
       becomes (.hold tag c x) .held) ∧
     (p = .held → refused (.lock tag c x) .state ∧ refused (.hold tag c x) .state ∧
       (s.dev.media.holdLine = false → becomes (.unlock tag c x) .writable) ∧
       (s.dev.media.holdLine = true → refused (.unlock tag c x) .protected_)) ∧
     (p = .finalized → refused (.lock tag c x) .protected_ ∧ refused (.unlock tag c x) .protected_ ∧
       refused (.hold tag c x) .protected_)) ∧
  (∀ (s : State) (tag : Tag) (c : CartId) (e : Cart) (x : Expected), s.dev.link.up = true → s.dev.cart c = some e →
     e.kind = .cleaning ∨ e.protection = none → x = .any ∨ x = .exactly (s.dev.row c).gen.toNat →
     ∀ i ∈ [Instr.lock tag c x, .unlock tag c x, .hold tag c x], exec i s = .next { s with
       dev := { s.dev with
         link := { s.dev.link with outbound := s.dev.link.outbound ++ [.resp tag .state [] none] } } }) ∧
  (∀ s : State,
     (∀ (tag : Tag) (c : CartId) (e : Cart) (x : Expected), s.dev.link.up = true → s.dev.cart c = some e →
       let ok := fun new : Cart =>
         OutFrame.resp tag .ok [numItem "GENERATION" 1 ((s.dev.row c).after (some new)).gen.toNat] none
       (s.dev.finalizeRefusal c x = none → ∃ tasks,
         let new := { e with finalizing := true }
         exec (.finalize tag c x) s =
           .next { s with
             dev := ({ s.dev.begun.withRow c (some new) (ok new) tasks with
               arb :=
                 { claims := s.dev.arb.claims ++
                     [{ order := s.dev.arb.nextOrder, kind := .host, owner := .finalize c, target := .cart c }],
                   nextOrder := s.dev.arb.nextOrder + 1 } } : Device).settle }) ∧
       (s.dev.recycleRefusal c x = none → ∃ tasks,
         let new := { e with pool := some 0, protection := some .writable, full := some false, eod := some 1,
                             reason := .none }
         exec (.recycle tag c x) s =
           .next { s with dev := (s.dev.begun.withRow c (some new) (ok new) tasks).settle })) ∧
     ∀ level, exec (.retentionHoldChange level) s =
       .next { s with dev := { s.dev with media := { s.dev.media with holdLine := level } } })

/-! ### The changer -/

/-- INVENTORY in its range sets the progress at its first element with the counts 0, its first step pending with the
next entry order, and answers OK; it defaults to 5 and 104 (R115). MOVE between elements that are no drives, with a
load, an EMPTY destination and nothing in its way, enters the queue with class 6 and requester HOST, marked in both
elements, ready at once, and answers OK (R106, R109). MOVE into or out of a drive is not ready, and places a HOST claim
for that drive (R109). The identity of a move is log entry 22. -/
def Obligations.InventoryAndMoveEnterTheirWork : Prop :=
  (∀ (s : State) (tag : Tag), s.dev.link.up = true →
    let n := s.dev.changer.entryCount
    let link := { s.dev.link with outbound := s.dev.link.outbound ++ [.resp tag .ok [] none] }
    (∀ (first last : Option Nat), let a := first.getD 5
      let b := last.getD 104
      5 ≤ a → a ≤ b → b ≤ 104 → s.dev.changer.inventory = none →
      exec (.inventory tag first last) s =
        .next { s with
          dev := (({ s.dev.begun with
            link
            changer := { s.dev.changer with
              inventory := some { next := a, last := b, scanned := 0, skipped := 0, created := 0, foreigners := 0,
                                  order := n },
              entryCount := n + 1 } } : Device).post .picker).settle }) ∧
    ∀ (a b : ElemId) (load : Load), a ≠ 0 → b ≠ 0 → a ≠ b → isDriveElem a = false → isDriveElem b = false →
      s.dev.loadAt a = some load → (s.dev.elem b).content = .empty → s.dev.moveNames a = false →
      s.dev.moveNames b = false → s.dev.loadBusy a = false → s.dev.hostMoves < 4 →
      let id := s.dev.changer.nextMove
      exec (.move tag a b) s =
        .next { s with
          dev := (({ s.dev.begun with
            link
            media := { s.dev.media with
              elems := (s.dev.media.elems.set a { s.dev.elem a with outgoing := some id }).set b
                { s.dev.elem b with incoming := some id } }
            changer := { s.dev.changer with
              moves := s.dev.changer.moves ++
                [{ id, src := a, dst := some b, load, cls := some 6, requester := .host, order := n, running := false,
                   ready := true, atPicker := false, grips := 0 }],
              nextMove := id + 1, entryCount := n + 1 } } : Device).post .picker).settle }) ∧
  ∀ (s : State) (tag : Tag) (a b : ElemId) (load : Load) (i : DriveId), s.dev.link.up = true → a ≠ 0 → b ≠ 0 → a ≠ b →
    (a = driveElem i ∧ isDriveElem b = false ∧ (s.dev.drive i).state = .mountedIdle ∧ (s.dev.drive i).stack = [] ∧
      ∃ c, load = .cart c) ∨ (b = driveElem i ∧ isDriveElem a = false ∧ ∃ c, load = .cart c) →
    s.dev.loadAt a = some load → (s.dev.elem b).content = .empty → s.dev.moveNames a = false →
    s.dev.moveNames b = false → s.dev.loadBusy a = false → s.dev.hostMoves < 4 →
    ∃ d : Device, exec (.move tag a b) s = .next { s with dev := d.settle } ∧
      d.changer.moves = s.dev.changer.moves ++
        [{ id := s.dev.changer.nextMove, src := a, dst := some b, load, cls := some 6, requester := .host,
           order := s.dev.changer.entryCount, running := false, ready := false, atPicker := false, grips := 0 }] ∧
      d.arb.claims = s.dev.arb.claims ++
        [{ order := s.dev.arb.nextOrder, kind := .host, owner := .hostMove s.dev.changer.nextMove, target := .drive i }] ∧
      d.link.outbound = s.dev.link.outbound ++ [.resp tag .ok [] none] ∧ d.drives = s.dev.drives ∧
      d.media.carts = s.dev.media.carts ∧ (∀ e, (d.elem e).content = (s.dev.elem e).content)

/-- RESET_CHANGER answers OK and abandons the order in progress for a REHOME with the next order number, whatever the
picker does; the queue keeps its moves as they are, and every one that is running, a placement among them, is
interrupted, more than one when a sequence with a running placement is cut short (log entry 30; R119 speaks of one); the
fault elements, the inventory and the mail scan stay (R107, R119). The mail door (R117, R118): a change to OPEN records
it, makes every mail slot UNKNOWN with its cartridge as former occupant, ends the mail scan, and a SCAN of a mail slot
under way will be discarded; a change to CLOSED does the same to the slots and sets the mail scan at slot 5 with the
next entry order; no other element is touched; a level that is there already is no change. -/
def Obligations.ResetChangerAndTheMailDoor : Prop :=
  (∀ (s : State) (tag : Tag), s.dev.link.up = true →
     ∃ (d : Device) (r : ResetSeq), exec (.resetChanger tag none) s = .next { s with dev := d.settle } ∧
       d.link.outbound = s.dev.link.outbound ++ [.resp tag .ok [] none] ∧ d.changer.picker = .moving ∧
       d.changer.order = some ⟨s.dev.changer.orderNo, s.dev.mu.elapsed, .rehome⟩ ∧
       d.changer.orderNo = s.dev.changer.orderNo + 1 ∧ d.changer.reset = some r ∧ r.phase = .rehome ∧
       r.interrupted = (s.dev.changer.moves.filter fun m => m.running).map (fun m => m.id) ∧ r.drivesScanned = [] ∧
       d.changer.moves = s.dev.changer.moves ∧ d.changer.faultElems = s.dev.changer.faultElems ∧
       d.changer.inventory = s.dev.changer.inventory ∧ d.changer.mailScan = s.dev.changer.mailScan ∧
       d.drives = s.dev.drives ∧ d.media = s.dev.media ∧ d.arb = s.dev.arb ∧ d.agenda = s.dev.agenda) ∧
  (∀ s : State,
     (s.dev.changer.doorOpen = true → exec .mailDoorOpen s = .next s) ∧
     (s.dev.changer.doorOpen = false → exec .mailDoorClosed s = .next s) ∧
     (s.dev.changer.doorOpen = false → ∃ d : Device, exec .mailDoorOpen s = .next { s with dev := d.settle } ∧
       d.changer.doorOpen = true ∧ d.changer.mailScan = none ∧
       (∀ e, isMail e = false → d.elem e = s.dev.elem e) ∧
       (∀ e, isMail e = true → ∃ c, (d.elem e).content = .unknown c) ∧
       (∀ e c, isMail e = true → (s.dev.elem e).content = .occupied c → (d.elem e).content = .unknown (some c) ∧
         ((d.cart c).map (·.location) = some .unknown ∨ s.dev.cart c = none)) ∧
       (∀ o e p b, s.dev.changer.order = some o → o.kind = .scan e p b → isMail e = true →
         d.changer.order = some { o with kind := .scan e p true }) ∧
       d.changer.moves = s.dev.changer.moves ∧ d.changer.inventory = s.dev.changer.inventory) ∧
     (s.dev.changer.doorOpen = true → ∃ d : Device, exec .mailDoorClosed s = .next { s with dev := d.settle } ∧
       d.changer.doorOpen = false ∧ d.changer.mailScan = some ⟨5, s.dev.changer.entryCount⟩ ∧
       d.changer.entryCount = s.dev.changer.entryCount + 1 ∧
       (∀ e, isMail e = false → d.elem e = s.dev.elem e) ∧
       (∀ e, isMail e = true → ∃ c, (d.elem e).content = .unknown c) ∧
       (∀ e c, isMail e = true → (s.dev.elem e).content = .unknown c → d.elem e = s.dev.elem e) ∧
       d.changer.moves = s.dev.changer.moves ∧ d.changer.inventory = s.dev.changer.inventory))

/-- The changer port takes the completion of the order in progress alone: one that carries another number, or of another
order kind (log entry 23), is discarded (R107). ORDER_TIMEOUT: an order 120 seconds old puts the picker in FAULT with
the element loss on the elements it names, and PICKER_FAULT with the first; those of a TRANSFER or a SCAN become the fault
elements (log entry 31), and a REHOME leaves the fault elements as they were (log entry 70); a younger one, or none,
changes nothing (R100, R113; whole elapsed seconds, an age of exactly 120 due, and the
early command are log entry 6). A TRANSFER completed DONE relocates the load: the source is EMPTY, the destination holds
it, a cartridge is located there and takes a home as R102 has it; the move ends and its requester is told; the first
grip failure repeats the TRANSFER; "source empty" is a scan of the source; "destination occupied" scans the destination
(R100, R111, R112). -/
def Obligations.OrdersAndTransfersComplete : Prop :=
  ((∀ (s : State) (n : BitVec 16),
     let other := fun taken : OrderKind → Prop => ∀ o, s.dev.changer.order = some o → o.number ≠ n ∨ ¬taken o.kind
     (other (fun k => ∃ a b c, k = .transfer a b c) →
       ∀ r, exec (.transferCompletion n r) s = .next { s with dev := s.dev.begun.settle }) ∧
     (other (fun k => ∃ a b c, k = .scan a b c) →
       ∀ r, exec (.scanCompletion n r) s = .next { s with dev := s.dev.begun.settle }) ∧
     (other (fun k => k = .rehome) →
       ∀ r, exec (.rehomeCompletion n r) s = .next { s with dev := s.dev.begun.settle })) ∧
   ∀ s : State,
     (s.dev.changer.order = none → exec .orderTimeout s = .next s) ∧
     ∀ o, s.dev.changer.order = some o →
       (s.dev.mu.elapsed < o.issued + 120 → exec .orderTimeout s = .next s) ∧
       (o.issued + 120 ≤ s.dev.mu.elapsed →
         let faulted := fun (lost : Device) (elems : List ElemId) (arg : ElemId) =>
           Host.Outcome.next (φ := Fault) (ρ := Refusal)
             { s with
               dev := (({ lost with
                 changer := { lost.changer with picker := .fault, order := none, faultElems := elems } } : Device).raise
                   .pickerFault (.number arg)).settle }
         (∀ m a b, o.kind = .transfer m.id a b → s.dev.move? m.id = some m →
           exec .orderTimeout s =
             faulted (((s.dev.begun.loseElem m.src).loseElem b).loseElem 0) [m.src, b] m.src) ∧
         (∀ e p b, o.kind = .scan e p b → exec .orderTimeout s = faulted (s.dev.begun.loseElem e) [e] e) ∧
         (o.kind = .rehome →
           exec .orderTimeout s = faulted (s.dev.begun.loseElem 0) s.dev.changer.faultElems 0))) ∧
  ((∀ (s : State) (n : BitVec 16) (t : Nat) (m : Move) (a b : ElemId),
     s.dev.changer.order = some ⟨n, t, .transfer m.id a b⟩ → s.dev.move? m.id = some m →
     (exec (.transferCompletion n .done) s =
       .next { s with
         dev := ((((s.dev.begun.relocate m.src b m.load (m.requester == .host)).endMove m .done).loseMail
           m).afterMove).settle }) ∧
     (m.atPicker = false → m.grips = 0 →
       exec (.transferCompletion n .gripSource) s =
         .next { s with
           dev := ((s.dev.begun.modMove m.id fun x => { x with grips := 1 }).giveOrder .moving
             (.transfer m.id m.src b)).settle } ∧
       exec (.transferCompletion n .gripDestination) s =
         .next { s with
           dev := ((s.dev.begun.modMove m.id fun x => { x with grips := 1, atPicker := true }).giveOrder .moving
             (.transfer m.id 0 b)).settle }) ∧
     exec (.transferCompletion n .sourceEmpty) s =
       .next { s with dev := ((s.dev.begun.scanEmpty m.src).failMove m .sourceEmpty).settle } ∧
     (m.atPicker = false → exec (.transferCompletion n .destinationOccupied) s =
       .next { s with dev := (s.dev.begun.giveOrder .scanning (.scan b (.destination m.id) false)).settle })) ∧
   ∀ (d : Device) (a b : ElemId) (host : Bool) (c : CartId) (e : Cart), a ≠ b → d.cart c = some e →
     e.location = .at a → (d.elem a).content = .occupied c → (∀ y, (d.elem b).content ≠ .occupied y) →
     let d' := d.relocate a b (.cart c) host
     (d'.elem a).content = .empty ∧ (d'.elem b).content = .occupied c ∧
     (∀ y, y ≠ a → y ≠ b → d'.elem y = d.elem y) ∧
     d'.cart c = some { e with
       location := .at b, home := if isStorage b = true ∧ (host = true ∨ e.home = none) then some b else e.home } ∧
     (∀ y, y ≠ c → d'.row y = d.row y))

/-- A SCAN completed for an inventory is applied to its element and the inventory goes on, its counts grown; one that a
mail door made stale counts as a skip (R101, R116, R117). A barcode that an entry holds puts that cartridge in the
element, which is its home if it is a storage slot and there was none, and another element it stood in is UNKNOWN;
"empty" empties it, and a cartridge gone from a mail slot is OUTSIDE without a home slot; another occupant displaced, or
a former one still UNKNOWN, is UNKNOWN, and a former occupant found elsewhere is left alone (R101); the entry of a
cartridge found gone is changed once, a FINALIZE that ends by it included (R88, R93; log entry 59). A REHOME completed
is a scan of element 0, and the reset sequence goes on to its placement (R119): with a load in element 0 a placement is
entered, unless one waits, takes R102's destination, its home first, and is run at once; without a destination it waits
and the fault elements, the interrupted moves' elements and those of log entry 30 are scanned in ascending order. A
running placement whose load is there is queued anew (log entry 30). With element 0 EMPTY, nothing to scan again and no
move interrupted, the picker is IDLE without fault elements. -/
def Obligations.ScansAndRehomesAreApplied : Prop :=
  (((∀ (s : State) (n : BitVec 16) (t : Nat) (e : ElemId) (v : Inventory) (stale : Bool) (r : ScanResult),
     s.dev.changer.order = some ⟨n, t, .scan e .inventory stale⟩ → s.dev.changer.inventory = some v →
     let scanned := (s.dev.begun.scan e r).1
     exec (.scanCompletion n r) s =
       .next { s with
         dev := (if stale then s.dev.begun.freePicker.advanceInventory { v with skipped := v.skipped + 1 }
           else scanned.freePicker.advanceInventory { v with
             scanned := v.scanned + 1
             created := v.created + (if (s.dev.begun.scan e r).2 then 1 else 0)
             foreigners := v.foreigners +
               (match (scanned.elem e).content with | .foreign _ => 1 | _ => 0) }).settle }) ∧
   ∀ (d : Device) (e : ElemId),
     ((d.scan e .empty).1.elem e).content = .empty ∧
     (∀ c x, (d.elem e).content = .occupied c → d.cart c = some x →
       ((d.scan e .empty).1.cart c) = some (if isMail e then
           { x with location := .outside, home := none, finalizing := false }
         else { x with location := .unknown, finalizing := false }) ∧
       (x.location = .at e → (d.scan e .empty).1.row c =
         ⟨(d.row c).gen + 1, (d.scan e .empty).1.cart c⟩)) ∧
     (∀ x c, d.byBarcode x = some c →
       ((d.scan e (.barcode x)).1.elem e).content = .occupied c ∧
       ((d.scan e (.barcode x)).1.cart c).map (·.location) = some (.at e) ∧ (d.scan e (.barcode x)).2 = false) ∧
     (∀ x, d.byBarcode x = none → d.emptyRow = none →
       ((d.scan e (.barcode x)).1.elem e).content = .foreign x ∧ (d.scan e (.barcode x)).2 = false) ∧
     ∀ x c, d.byBarcode x = none → d.emptyRow = some c →
       ((d.scan e (.barcode x)).1.elem e).content = .occupied c ∧ (d.scan e (.barcode x)).2 = true ∧
       ∃ y, (d.scan e (.barcode x)).1.cart c = some y ∧ y.barcode = x ∧ y.location = .at e ∧ y.eod = none ∧
         y.kind = (if x.take 3 = ascii "CLN" then .cleaning else .data)) ∧
   ∀ (s : State) (n : BitVec 16) (t : Nat) (v : ResetSeq) (r : ScanResult),
     s.dev.changer.order = some ⟨n, t, .rehome⟩ → s.dev.changer.reset = some v →
     exec (.rehomeCompletion n r) s = .next { s with dev := ((s.dev.begun.scan 0 r).1.resetPlace v).settle } ∧
     (r = .empty → (s.dev.elem 0).content = .empty ∨ (s.dev.elem 0).content = .unknown none →
       s.dev.changer.faultElems = [] → s.dev.changer.moves = [] → v.interrupted = [] → v.extra = [] →
       v.drivesScanned = [] →
       ∃ d : Device, exec (.rehomeCompletion n r) s = .next { s with dev := d.settle } ∧
         (d.elem 0).content = .empty ∧ d.changer.picker = .idle ∧ d.changer.order = none ∧ d.changer.reset = none ∧
         d.changer.faultElems = [] ∧ d.media.carts = s.dev.media.carts ∧ Machine.Task.picker ∈ d.agenda)) ∧
  (∀ (d : Device) (e : ElemId) (x : Bytes) (o : CartId) (y : Cart), d.cart o = some y →
    let held := (d.elem e).content = .occupied o
    let former := (d.elem e).content = .unknown (some o)
    let lost := some { y with location := .unknown, finalizing := false }
    (held ∨ (former ∧ y.location = .unknown) →
      (∀ c, d.byBarcode x = some c → c ≠ o → (d.scan e (.barcode x)).1.cart o = lost) ∧
      (d.byBarcode x = none → (d.scan e (.barcode x)).1.cart o = lost)) ∧
    (former → y.location ≠ .unknown →
      (∀ c, d.byBarcode x = some c → c ≠ o → (d.scan e (.barcode x)).1.cart o = some y) ∧
      (d.byBarcode x = none → (d.scan e (.barcode x)).1.cart o = some y) ∧
      (d.scan e .empty).1.cart o = some y) ∧
    (former → y.location = .unknown → (d.scan e .empty).1.cart o =
      some (if isMail e then { y with location := .outside, home := none, finalizing := false }
        else { y with finalizing := false })) ∧
    (d.byBarcode x = some o →
      let d' := (d.scan e (.barcode x)).1
      d'.cart o = some { y with
        location := .at e, home := if y.home = none ∧ isStorage e = true then some e else y.home } ∧
      (∀ f, y.location = .at f → f ≠ e → (d'.elem f).content = .unknown none) ∧
      ∀ f, (d'.elem f).content ≠ .unknown (some o))) ∧
  (∀ (d : Device) (r : ResetSeq),
    let moved := fun e : ElemId => ∃ id ∈ r.interrupted, ∃ m, d.move? id = some m ∧ (m.src = e ∨ m.dst = some e)
    (∀ e, e ∈ d.rescanList r ↔ e ≠ 0 ∧ (e ∈ d.changer.faultElems ∨ moved e ∨ e ∈ r.extra)) ∧
    (d.rescanList r).Pairwise (· < ·) ∧ d.resetScan r [] = d.resetResolve r ∧
    ∀ e es, d.resetScan r (e :: es) =
      ({ d with changer := { d.changer with reset := some { r with phase := .rescan es } } } : Device).giveOrder .scanning
        (.scan e .reset false)) ∧
  ∀ (d : Device) (r : ResetSeq) (l : Load), d.holds 0 l = true →
    let places := fun m : Move => m.requester = .changer ∧ m.src = 0
    let placing := fun (d : Device) => ({ d with changer := { d.changer with
      reset := some { r with phase := .place } } } : Device)
    let runs := fun (d : Device) (id : Nat) (b : ElemId) =>
      (((d.takeDestination l b).modMove id fun m => { m with dst := some b, running := true }).modElem b fun x =>
        { x with incoming := some id }).giveOrder .moving (.transfer id 0 b)
    let goesOn := fun (d : Device) (id : Nat) (d' : Device) =>
      (∀ b, d.destination l = some b → d' = runs (placing d) id b) ∧
      (d.destination l = none → d' = (placing d).resetScan r (d.rescanList r))
    ((∀ m ∈ d.changer.moves, ¬places m) → (∀ m ∈ d.changer.moves, m.id < d.changer.nextMove) →
      goesOn (d.enterMove 0 none l none .changer true) d.changer.nextMove (d.resetPlace r)) ∧
    (∀ m, d.move? m.id = some m → places m → m.load = l → (∀ y ∈ d.changer.moves, places y → y = m) →
      (m.running = false → goesOn d m.id (d.resetPlace r)) ∧
      (m.running = true →
        let clear := d.media.elems.map fun x =>
          { x with incoming := if x.incoming = some m.id then none else x.incoming }
        d.resetPlace r = (({ d with media := { d.media with elems := clear } } : Device).modMove m.id fun m =>
          { m with dst := none, running := false, atPicker := false, grips := 0 }).resetPlace
            { r with extra := m.dst.toList ++ r.extra }))

/-- The idle picker takes, among the eligible items, the placement first and otherwise the oldest of the highest class,
a scan step being of class 6 (R110): a move is started with its TRANSFER, or FAILS with cause START when its source does
not hold its load or its destination is neither EMPTY nor a drive's (R111); a placement, which has no class and goes
before every class, takes the destination of R102 and is started with the TRANSFER from element 0 (R110, R112); an
inventory step scans its element, or skips a mail slot while the door is open or a mail scan pending (R116); a mail scan
step scans its slot (R118); with nothing eligible, or busy, it does nothing. An inventory goes on to its next element
with a new entry order, or ends with its counts in OPERATION_END (R116). SCAN completions: of a mail scan step, to the
next slot or the end (R118; a stale one leaves nothing, R117); of an occupied destination, the move FAILS (R112); of a
reset's rescan, the next element or the resolution (R119). What follows a placement's failed start is log entry 56. -/
def Obligations.ThePickerChoosesAndScansGoOn : Prop :=
  (∀ (d : Device), (d.changer.picker ≠ .idle → d.pickerChoose = d) ∧ (d.changer.picker = .idle →
    let touchesMail := fun m : Move => isMail m.src = true ∨ ∃ b, m.dst = some b ∧ isMail b = true
    let eligible := fun m : Move => m ∈ d.changer.moves ∧ m.running = false ∧ m.ready = true ∧
      ¬(touchesMail m ∧ (d.changer.doorOpen = true ∨ d.changer.mailScan ≠ none)) ∧
      ((d.elem 0).content = .empty ∨ (m.requester = .changer ∧ m.src = 0)) ∧
      (m.requester = .changer ∧ m.src = 0 → d.destination m.load ≠ none)
    let before := fun (k : Nat) (n : Int) (l : Nat) (p : Int) => k < l ∨ (k = l ∧ n < p)
    let cls := fun m : Move => m.cls.getD 0
    ((∀ m, ¬eligible m) → d.changer.inventory = none → d.changer.mailScan = none → d.pickerChoose = d) ∧
    (∀ m b, eligible m → ¬(m.requester = .changer ∧ m.src = 0) → m.dst = some b → d.move? m.id = some m →
      (∀ y, eligible y → y ≠ m → before (cls m) m.order (cls y) y.order) →
      (∀ v, d.changer.inventory = some v → before (cls m) m.order 6 v.order) →
      (∀ v, d.changer.mailScan = some v → before (cls m) m.order 6 v.order) →
      let held := (∃ c, m.load = .cart c ∧ (d.elem m.src).content = .occupied c) ∨
        ∃ x, m.load = .foreign x ∧ (d.elem m.src).content = .foreign x
      let free := (d.elem b).content = .empty ∨ isDriveElem b = true
      (held → free → d.pickerChoose =
        (d.modMove m.id fun m => { m with running := true }).giveOrder .moving (.transfer m.id m.src b)) ∧
      (¬(held ∧ free) → d.pickerChoose = ((d.endMove m (.failed .start)).ensurePlacement).post .picker)) ∧
    (∀ m b, eligible m → m.requester = .changer ∧ m.src = 0 → d.destination m.load = some b → d.move? m.id = some m →
      (∀ y, eligible y → y ≠ m → before (cls m) m.order (cls y) y.order) →
      (∀ v, d.changer.inventory = some v → before (cls m) m.order 6 v.order) →
      (∀ v, d.changer.mailScan = some v → before (cls m) m.order 6 v.order) →
      (d.holds 0 m.load = true → d.pickerChoose =
        (((d.takeDestination m.load b).modMove m.id fun m => { m with dst := some b, running := true }).modElem b
          fun x => { x with incoming := some m.id }).giveOrder .moving (.transfer m.id 0 b)) ∧
      (d.holds 0 m.load = false →
        d.pickerChoose = ((d.endMove m (.failed .start)).ensurePlacement).post .picker)) ∧
    (∀ v e, d.changer.inventory = some v → v.next = (e : ElemId).val →
      (∀ y, eligible y → before 6 v.order (cls y) y.order) →
      (∀ w, d.changer.mailScan = some w → v.order < w.order) →
      let skips := isMail e = true ∧ (d.changer.doorOpen = true ∨ d.changer.mailScan ≠ none)
      (¬skips → d.pickerChoose = d.giveOrder .scanning (.scan e .inventory false)) ∧
      (skips → d.pickerChoose = (d.advanceInventory { v with skipped := v.skipped + 1 }).post .picker)) ∧
    ∀ v e, d.changer.mailScan = some v → v.next = (e : ElemId).val →
      (∀ y, eligible y → before 6 v.order (cls y) y.order) →
      (∀ w, d.changer.inventory = some w → v.order < w.order) →
      d.pickerChoose = d.giveOrder .scanning (.scan e .mail false))) ∧
  (∀ (d : Device) (v : Inventory),
    (v.next < v.last → d.advanceInventory v =
      ({ d with changer := { d.changer with
        inventory := some { v with next := v.next + 1, order := d.changer.entryCount },
        entryCount := d.changer.entryCount + 1 } } : Device).post .picker) ∧
    (v.last ≤ v.next → d.advanceInventory v =
      (({ d with changer := { d.changer with inventory := none } } : Device).raise .operationEnd
        (.inventoryEnd v.scanned v.skipped v.created v.foreigners)).post .inventoryDone)) ∧
  ∀ (s : State) (n : BitVec 16) (t : Nat) (e : ElemId) (r : ScanResult),
    let finished := fun d : Device => exec (.scanCompletion n r) s = .next { s with dev := d.settle }
    let scanned := (s.dev.begun.scan e r).1
    (s.dev.changer.order = some ⟨n, t, .scan e .mail true⟩ → finished s.dev.begun.freePicker) ∧
    (∀ v, s.dev.changer.order = some ⟨n, t, .scan e .mail false⟩ → s.dev.changer.mailScan = some v →
      let d := scanned.freePicker
      (8 ≤ v.next → finished (({ d with changer := { d.changer with mailScan := none } } : Device).raise .operationEnd
        .mailScanned)) ∧
      (v.next < 8 → finished { d with changer := { d.changer with
        mailScan := some ⟨v.next + 1, d.changer.entryCount⟩, entryCount := d.changer.entryCount + 1 } })) ∧
    (∀ m stale, s.dev.changer.order = some ⟨n, t, .scan e (.destination m.id) stale⟩ → s.dev.move? m.id = some m →
      finished ((if stale then s.dev.begun else scanned).failMove m .destinationOccupied)) ∧
    ∀ v todo, s.dev.changer.order = some ⟨n, t, .scan e .reset false⟩ → s.dev.changer.reset = some v →
      v.phase = .rescan todo →
      let w : ResetSeq := { v with drivesScanned := v.drivesScanned ++ (driveOfElem? e).toList }
      (todo = [] → finished (scanned.resetResolve w)) ∧
      ∀ x xs, todo = x :: xs →
        finished (({ scanned with changer := { scanned.changer with reset := some { w with phase := .rescan xs } } } :
          Device).giveOrder .scanning (.scan x .reset false))

/-- The second grip failure of a move, or one of a retry from the picker, FAILS it with cause GRIP and puts the picker
in FAULT with the move's elements as fault elements, also when the load was in the picker (log entry 31), and
PICKER_FAULT with its source; a load that left its source passes to element 0 (R100, R112); a retry that finds its
destination occupied makes the picker hold and scans it (R112). A move's end takes it from the queue, clears its two
marks and tells its requester, with OPERATION_END for a host's (R106, R114). The interrupted move of a reset, or each of
several (log entry 30), is resolved by where its load stands, a FOREIGN load at the lowest FOREIGN element with its
barcode (R120; log entry 55): at the destination DONE; in element 0 GRIP; elsewhere with an EMPTY destination QUEUED
again from there, older than every item; with the destination not EMPTY DESTINATION_OCCUPIED; nowhere LOST. Then the
picker is IDLE without fault elements, and the rescanned drives' ports test (R119, R141). -/
def Obligations.FailuresAndResetsResolveMoves : Prop :=
  (∀ (s : State) (n : BitVec 16) (t : Nat) (m : Move) (a b : ElemId),
    s.dev.changer.order = some ⟨n, t, .transfer m.id a b⟩ → s.dev.move? m.id = some m →
    let d := s.dev.begun
    let held := d.pickerHold m.src m.load
    let faulted := fun (r : TransferResult) (d : Device) =>
      let e := (d.endMove m (.failed .grip)).loseMail m
      exec (.transferCompletion n r) s = .next { s with
        dev := (({ e with changer := { e.changer with
          picker := .fault, order := none, faultElems := m.src :: m.dst.toList } } : Device).raise .pickerFault
            (.number m.src)).settle }
    (m.atPicker = false → m.grips ≠ 0 → faulted .gripSource d ∧ faulted .gripDestination held) ∧
    (m.atPicker = true → faulted .gripSource held ∧ faulted .gripDestination held ∧
      exec (.transferCompletion n .destinationOccupied) s = .next { s with
        dev := ((held.loseMail m).giveOrder .scanning (.scan b (.destination m.id) false)).settle })) ∧
  (∀ (d : Device) (m : Move) (r : MoveResult), let e := d.endMove m r
    e.changer.moves = d.changer.moves.filter (fun y => y.id != m.id) ∧
    (∀ x, e.elem x =
      { d.elem x with
        incoming := if (d.elem x).incoming = some m.id then none else (d.elem x).incoming
        outgoing := if (d.elem x).outgoing = some m.id then none else (d.elem x).outgoing }) ∧
    e.media.carts = d.media.carts ∧
    (m.requester ≠ .changer → Machine.Task.moveEnded m r ∈ e.agenda) ∧
    (m.requester = .changer → e.agenda = d.agenda ∧ e.mu = d.mu) ∧
    (m.requester = .host → e.event .operationEnd =
      some (raiseEvent (d.event .operationEnd) (.moveEnd m.src (m.dst.getD 0) r))) ∧
    ((∃ i, m.requester = .drive i) → e.mu = d.mu)) ∧
  (∀ d : Device,
    (∀ c x y, d.cart c = some x → x.location = .at y → d.whereIs (.cart c) = some y) ∧
    (∀ c x, d.cart c = some x → (∀ y, x.location ≠ .at y) → d.whereIs (.cart c) = none) ∧
    (∀ x y, (d.elem y).content = .foreign x → (∀ z, z < y → (d.elem z).content ≠ .foreign x) →
      d.whereIs (.foreign x) = some y) ∧
    ∀ x, (∀ y, (d.elem y).content ≠ .foreign x) → d.whereIs (.foreign x) = none) ∧
  (∀ (d : Device) (m : Move) (b : ElemId), m.dst = some b →
    (d.whereIs m.load = none → d.resolveMove m = d.endMove m (.failed .lost)) ∧
    (d.whereIs m.load = some b → d.resolveMove m = d.endMove m .done) ∧
    (d.whereIs m.load = some 0 → b ≠ 0 → d.resolveMove m = d.endMove m (.failed .grip)) ∧
    ∀ e, d.whereIs m.load = some e → e ≠ b → e ≠ 0 →
      ((d.elem b).content ≠ .empty → d.resolveMove m = d.endMove m (.failed .destinationOccupied)) ∧
      ((d.elem b).content = .empty →
        let d' := d.resolveMove m
        ∃ order, d'.changer.moves = d.changer.moves.map (fun y => if y.id = m.id then
            { y with src := e, running := false, atPicker := false, grips := 0, order := order } else y) ∧
          (∀ y ∈ d.changer.moves, order < y.order) ∧
          (∀ v, d.changer.inventory = some v → order < v.order) ∧
          (∀ v, d.changer.mailScan = some v → order < v.order) ∧
          (d'.elem e).outgoing = some m.id ∧
          (e ≠ m.src → (d.elem m.src).outgoing = some m.id → (d'.elem m.src).outgoing = none) ∧
          (∀ y, (d'.elem y).content = (d.elem y).content) ∧ d'.media.carts = d.media.carts ∧
          d'.agenda = d.agenda)) ∧
  ∀ (d : Device) (r : ResetSeq),
    let e := d.resetResolve r
    e.changer.picker = .idle ∧ e.changer.order = none ∧ e.changer.reset = none ∧ e.changer.faultElems = [] ∧
    Machine.Task.picker ∈ e.agenda ∧ (∀ i ∈ r.drivesScanned, Machine.Task.driveRescan i ∈ e.agenda) ∧
    e.changer.inventory = d.changer.inventory ∧ e.changer.mailScan = d.changer.mailScan ∧
    (let resolved := r.interrupted.foldl (fun d id =>
        match d.move? id with
        | some m => if m.running then d.resolveMove m else d
        | none => d) d
     e.changer.moves = resolved.changer.moves ∧ e.media = resolved.media) ∧
    (∀ id m, r.interrupted = [id] → d.move? id = some m → m.running = true →
      e.changer.moves = (d.resolveMove m).changer.moves ∧ e.media = (d.resolveMove m).media) ∧
    (r.interrupted = [] → e.changer.moves = d.changer.moves ∧ e.media = d.media)

/-! ### The drive ports -/

/-- A completion that is not of the oldest outstanding command, by its number or its kind, is discarded: nothing changes
(R123; the kind is the model's, log entry 23). One that is takes the command off the list, and is a drive fault on
HARDWARE_ERROR, on a result the command cannot give, and on every result of LOAD but OK (R124, R140). The position after
a completion (Table 7-2, R124): as the command has it after OK, and for a WRITE after END_OF_MEDIUM; 0 after BLANK of a
READ 0 or a LOCATE 0; and UNKNOWN after any other result. The position after a SPEED that is not OK is log entry 38. -/
def Obligations.DriveCompletionsAreTakenInOrder : Prop :=
  (∀ (s : State) (i : DriveId) (n : BitVec 16) (r : DriveResult),
    let discarded : Host.Outcome State Fault Refusal := .next { s with dev := s.dev.begun.settle }
    let open_ := fun name : CmdName =>
      ∃ o os, (s.dev.drive i).outstanding = o :: os ∧ o.number = n ∧ o.cmd.name = name
    let faulted := fun name : CmdName => Host.Outcome.next (φ := Fault) (ρ := Refusal)
      { s with
        dev := ((s.dev.begun.modDrive i fun x => { x with outstanding := x.outstanding.tail, position := none }).driveFault
          i ⟨name, if r = .notReady then .notReady else .hardwareError⟩).settle }
    (¬open_ .load → exec (.loadCompletion i n r) s = discarded) ∧
    (¬open_ .unload → exec (.unloadCompletion i n r) s = discarded) ∧
    (¬open_ .locate → exec (.locateCompletion i n r) s = discarded) ∧
    (¬open_ .locateEnd → ∀ e, exec (.locateEndCompletion i n r e) s = discarded) ∧
    (¬open_ .read → ∀ b, exec (.readCompletion i n r b) s = discarded) ∧
    (¬open_ .write → exec (.writeCompletion i n r) s = discarded) ∧
    (¬open_ .speed → exec (.speedCompletion i n r) s = discarded) ∧
    (¬open_ .clean → exec (.cleanCompletion i n r) s = discarded) ∧
    (open_ .load → r ≠ .ok → exec (.loadCompletion i n r) s = faulted .load) ∧
    (open_ .unload → r ≠ .ok → r ≠ .notReady → exec (.unloadCompletion i n r) s = faulted .unload) ∧
    (open_ .locate → r = .hardwareError ∨ r = .endOfMedium → exec (.locateCompletion i n r) s = faulted .locate) ∧
    (open_ .locateEnd → r = .hardwareError ∨ r = .endOfMedium ∨ r = .blank → ∀ e,
      exec (.locateEndCompletion i n r e) s =
        .next { s with
          dev := ((s.dev.begun.modDrive i fun x =>
            { x with outstanding := x.outstanding.tail, position := none }).driveFault i
              ⟨.locateEnd, .hardwareError⟩).settle }) ∧
    (open_ .read → r = .hardwareError ∨ r = .endOfMedium → ∀ b, exec (.readCompletion i n r b) s = faulted .read) ∧
    (open_ .write → r = .hardwareError → exec (.writeCompletion i n r) s = faulted .write) ∧
    (open_ .speed → r ≠ .ok → r ≠ .notReady → exec (.speedCompletion i n r) s = faulted .speed) ∧
    (open_ .clean → r = .hardwareError ∨ r = .endOfMedium ∨ r = .blank →
      exec (.cleanCompletion i n r) s =
        .next { s with
          dev := ((s.dev.begun.modDrive i fun x =>
            { x with outstanding := x.outstanding.tail, position := none }).driveFault i
              ⟨.clean, .hardwareError⟩).settle })) ∧
  ∀ (cmd : DriveCmd) (r : DriveResult) (pos : Option Nat) (found : Nat),
    let after := positionAfter cmd (takenAs cmd.name r) pos found
    (r = .ok → after = match cmd with
      | .load => some 0
      | .unload => none
      | .locate n => some n
      | .locateEnd => some found
      | .read n => some (n + 1)
      | .write _ => pos.map (· + 1)
      | .speed _ => pos
      | .clean => pos) ∧
    (r = .endOfMedium → after = match cmd with
      | .write _ => pos.map (· + 1)
      | _ => none) ∧
    (r = .blank → after = if cmd = .read 0 ∨ cmd = .locate 0 then some 0 else none) ∧
    (r = .mediumError ∨ r = .notReady ∨ r = .hardwareError → after = none)

/-- The completions of a mount. LOAD OK of a data cartridge goes on to READ 0 of the label check, the mount time taken
and no automatic reset used (R130, R131); of a cleaning cartridge it issues CLEAN without a label check (R137), that of a
host MOVE among them (log entry 36), and a FINALIZE whose cartridge has been made one ends with MEDIA (log entry 52).
LOCATE_END OK with E ≥ 1 sets an EOD still UNKNOWN to E (log entry 50) and reads block EOD − 1, also for a claim withdrawn
meanwhile (log entry 73), or is a good check with an EOD of 1; E = 0 or another result is an
EOD mismatch (R132). LOCATE 0 OK of a labelling writes the label block of a scratch cartridge still WRITABLE and not
FULL, and otherwise the claim waits; its WRITE OK writes the serial, the pool, that pool's default capacity and EOD 1 as
one change, and the claim is served as at a good check; a failed LOCATE or WRITE marks FULL with CARTRIDGE_FULL, and the
claim waits (R95, R133; log entry 50). A FINAL WRITE OK or END_OF_MEDIUM makes the cartridge FINALIZED with its EOD one
further, whatever protection it was given meanwhile (log entry 42), and OPERATION_END carries OK; a failed one marks
FULL and ends the FINALIZE as one change, with MEDIA (R88, R93, R134). A good append check (R132): the claim of a feed
whose cartridge is still appendable is served, and otherwise waits; a FINALIZE issues its FINAL WRITE, or ends
PROTECTED, a change of its own beside that of an EOD learnt at the same completion (log entry 59). That the EOD never
falls is the model's form in states no run reaches. -/
def Obligations.MountCompletionsCheckLabelAndFinalize : Prop :=
  (∀ (s : State) (i : DriveId) (n : BitVec 16) (t : Nat) (c : CartId) (e : Cart),
    (s.dev.drive i).cart = some c → s.dev.cart c = some e →
    let x := s.dev.drive i
    let now := s.dev.mu.elapsed
    let onlyRow := fun (d : Device) (y : Cart) =>
      d.row c = (s.dev.row c).after (some y) ∧ ∀ z, z ≠ c → d.row z = s.dev.row z
    let operationEnds := fun (d : Device) (r : FinalizeResult) =>
      d.event .operationEnd = some (raiseEvent (s.dev.event .operationEnd) (.finalizeEnd c r)) ∧
      ∀ k, s.dev.claimOf (.finalize c) = some k → k ∉ d.arb.claims
    let claimWaits := fun (d : Device) (k : Claim) =>
      (d.drive i).claim = none ∧ (d.drive i).state = .unloading ∧ (d.drive i).phase = .unload ∧
      (d.drive i).outstanding = [⟨x.cmdNo, now, .unload⟩] ∧
      d.arb.claims = s.dev.arb.claims.map fun y =>
        if y.order = k.order then
          { y with
            kind := k.kind, drive := none, chosen := none, scratch := false, reported := false, prepared := false }
        else y
    (e.kind = .data → x.outstanding = [⟨n, t, .load⟩] → x.phase = .load →
      exec (.loadCompletion i n .ok) s =
        .next { s with
          dev := ((s.dev.begun.modDrive i fun x =>
            { x with
              state := .labelCheck, phase := .label 0, position := some 0, mountTime := some now, autoReset := false,
              outstanding := [⟨x.cmdNo, now, .read 0⟩], cmdNo := x.cmdNo + 1 }).post (.suspendCheck i)).settle }) ∧
    (e.kind = .cleaning → x.outstanding = [⟨n, t, .load⟩] → x.phase = .load →
      ((∀ y, s.dev.assignedOwner i ≠ some (.finalize y)) → exec (.loadCompletion i n .ok) s =
        .next { s with
          dev := ((s.dev.begun.modDrive i fun x =>
            { x with
              state := .cleaning, active := some .cleaning, phase := .clean, position := some 0, mountTime := some now,
              autoReset := false, outstanding := [⟨x.cmdNo, now, .clean⟩],
              cmdNo := x.cmdNo + 1 }).post (.suspendCheck i)).settle }) ∧
      ∀ y, s.dev.assignedOwner i = some (.finalize y) →
        ∃ d : Device, exec (.loadCompletion i n .ok) s = .next { s with dev := d.settle } ∧
          d.event .operationEnd = some (raiseEvent (s.dev.event .operationEnd) (.finalizeEnd y .media)) ∧
          (∀ k, s.dev.claimOf (.finalize y) = some k → k ∉ d.arb.claims) ∧ (d.drive i).state = .cleaning ∧
          (d.drive i).outstanding = [⟨x.cmdNo, now, .clean⟩]) ∧
    (x.outstanding = [⟨n, t, .locateEnd⟩] → x.phase = .appendEnd →
      (∀ end_, 1 ≤ end_ →
        let eod := e.eod.getD end_
        (2 ≤ eod → ∃ tasks,
          exec (.locateEndCompletion i n .ok end_) s =
            .next { s with
              dev := ({ s.dev.begun.modDrive i (fun x =>
                { x with
                  state := .appendCheck, phase := .appendRead 0 false, position := some end_,
                  outstanding := [⟨x.cmdNo, now, .read (eod - 1)⟩], cmdNo := x.cmdNo + 1 }) with
                media := { s.dev.media with
                  carts := s.dev.media.carts.set c ((s.dev.row c).after (some { e with eod := some eod })) }
                agenda := tasks } : Device).settle }) ∧
        (eod ≤ 1 → ∃ d : Device,
          exec (.locateEndCompletion i n .ok end_) s =
            .next { s with
              dev := ((d.appendGood i c { e with eod := some eod }).post (.suspendCheck i)).settle } ∧
          onlyRow d { e with eod := some eod } ∧
          d.drive i = { x with outstanding := [], position := some end_ })) ∧
      ∀ r end_ k, r = .mediumError ∨ r = .notReady ∨ (r = .ok ∧ end_ = 0) → s.dev.assigned i = some k →
        let found := { e with
          protection := if e.protection = some .writable then some .locked else e.protection
          reason := .eodMismatch }
        ∃ d : Device, exec (.locateEndCompletion i n r end_) s = .next { s with dev := d.settle } ∧
          d.event .eodMismatch = some (raiseEvent (s.dev.event .eodMismatch) (.number c)) ∧
          (∀ f, k.owner = .feed f → x.hostIn = false → onlyRow d found ∧ claimWaits d k) ∧
          (k.owner = .finalize c →
            onlyRow d { found with finalizing := false } ∧ operationEnds d .eodMismatch)) ∧
    (∀ job m k f, x.outstanding = [⟨n, t, .locate m⟩] → x.phase = .labelLocate job → s.dev.assigned i = some k →
      k.owner = .feed f → x.hostIn = false →
      let labellable := e.protection = some .writable ∧ e.full = some false ∧ e.pool = some 0 ∧ e.kind = .data ∧
        (e.eod = none ∨ e.eod = some 1)
      (labellable → exec (.locateCompletion i n .ok) s =
        .next { s with
          dev := ((s.dev.begun.modDrive i fun x =>
            { x with
              phase := .labelWrite job, position := some m,
              outstanding := [⟨x.cmdNo, now, .write (labelBlock e.barcode job.serial)⟩],
              cmdNo := x.cmdNo + 1 }).post (.suspendCheck i)).settle }) ∧
      (¬labellable → ∃ d : Device, exec (.locateCompletion i n .ok) s = .next { s with dev := d.settle } ∧
        d.media = s.dev.media ∧ claimWaits d k) ∧
      ∀ r, r = .mediumError ∨ r = .notReady ∨ r = .blank → ∃ d : Device,
        exec (.locateCompletion i n r) s = .next { s with dev := d.settle } ∧
        onlyRow d { e with full := some true } ∧
        d.event .cartridgeFull = some (raiseEvent (s.dev.event .cartridgeFull) (.number c)) ∧ claimWaits d k) ∧
    (∀ job b k f, x.outstanding = [⟨n, t, .write b⟩] → x.phase = .labelWrite job → s.dev.assigned i = some k →
      k.owner = .feed f →
      let new := { e with
        serial := job.serial, pool := some job.pool, capacity := (s.dev.pool job.pool).defaultCapacity,
        eod := some 1 }
      (e.kind = .data → e.eod = none ∨ e.eod = some 1 → ∃ d : Device,
        exec (.writeCompletion i n .ok) s =
          .next { s with dev := ((d.appendGood i c new).post (.suspendCheck i)).settle } ∧ onlyRow d new ∧
        d.drive i = { x with outstanding := [], position := x.position.map (· + 1) }) ∧
      ∀ r, r = .mediumError ∨ r = .notReady ∨ r = .blank ∨ r = .endOfMedium → x.hostIn = false → ∃ d : Device,
        exec (.writeCompletion i n r) s = .next { s with dev := d.settle } ∧
        onlyRow d { e with full := some true } ∧
        d.event .cartridgeFull = some (raiseEvent (s.dev.event .cartridgeFull) (.number c)) ∧ claimWaits d k) ∧
    ∀ b, x.outstanding = [⟨n, t, .write b⟩] → x.phase = .finalWrite →
      (∀ r, r = .ok ∨ r = .endOfMedium →
        ∃ d : Device, exec (.writeCompletion i n r) s = .next { s with dev := d.settle } ∧
          onlyRow d { e with
            eod := some (max (e.eod.getD 0) (b.number + 1)), protection := some .finalized, reason := .none,
            finalizing := false } ∧ operationEnds d .ok) ∧
      ∀ r, r = .mediumError ∨ r = .notReady ∨ r = .blank →
        ∃ d : Device, exec (.writeCompletion i n r) s = .next { s with dev := d.settle } ∧
          onlyRow d { e with full := some true, finalizing := false } ∧
          d.event .cartridgeFull = some (raiseEvent (s.dev.event .cartridgeFull) (.number c)) ∧
          operationEnds d .media) ∧
  ∀ (d : Device) (i : DriveId) (c : CartId) (e : Cart) (k : Claim), d.assigned i = some k →
    let z := d.modDrive i fun x => { x with position := e.eod }
    (∀ f p, k.owner = .feed f → k.target = .pool p →
      (d.appendable p c = true →
        d.appendGood i c e =
          (({ d with
              arb := { d.arb with claims := d.arb.claims.filter fun y => y.order != k.order }
              drives := d.drives.set i { d.drive i with
                position := e.eod, claim := none, state := .writing, active := some (.feed f), phase := .working }
            } : Device).feedServed f i c).post (.suspendCheck i)) ∧
      (d.appendable p c = false → (d.drive i).hostIn = false →
        d.appendGood i c e = (z.returnClaim i).startUnmount i)) ∧
    ∀ y, k.owner = .finalize y →
      (e.protection = some .writable →
        d.appendGood i c e = d.modDrive i fun x => { x with
          position := e.eod, state := .writing, active := some (.finalize c), phase := .finalWrite,
          outstanding := x.outstanding ++ [⟨x.cmdNo, d.mu.elapsed, .write (finalBlock (e.eod.getD 1) e.serial)⟩],
          cmdNo := x.cmdNo + 1 }) ∧
      (e.protection ≠ some .writable → d.appendGood i c e = (z.finalizeEnd c .protected_).idleOrUnmount i)

/-- The power-on identification (R142): an UNLOAD OK with an UNKNOWN element and no barcode found issues LOAD; LOAD OK
issues READ 0; the READ records the barcode of a label-shaped block, or UNREADABLE for another block or result, and
issues UNLOAD; that UNLOAD's OK leaves the load at the mouth, or returns to a slot a cartridge that an INVENTORY has
placed meanwhile; an UNLOAD NOT_READY is a scan "empty" of the drive element. RESET_DRIVE of a drive with no work, no
claim and no move in the queue answers OK and abandons its commands; with its element EMPTY the drive is EMPTY, and
otherwise it unloads what the element holds; cleaning-due and the automatic reset are kept (R141; the cartridge of the
port after a reset is log entry 15, and that a reset makes the position UNKNOWN log entry 71). A drive fault enters FAULT with its cause and DRIVE_FAULT, ends a FINALIZE whose
claim is assigned with DRIVE (R93, log entry 52), and is reset at once unless it has been since its last LOAD; then it
stays in FAULT, its commands, moves, work and contexts ended as at a reset and its claim waiting again (R140, R141). -/
def Obligations.PowerOnResetsAndFaultsOfADrive : Prop :=
  (∀ (s : State) (i : DriveId) (n : BitVec 16) (t : Nat),
     let x := s.dev.drive i
     let now := s.dev.mu.elapsed
     let goesOn := fun g : Drive → Drive => Host.Outcome.next (φ := Fault) (ρ := Refusal)
       { s with dev := ((s.dev.begun.modDrive i g).post (.suspendCheck i)).settle }
     (x.outstanding = [⟨n, t, .unload⟩] → x.phase = .powerUnload → x.cart = none → x.found = none →
       (∃ c, (s.dev.elem (driveElem i)).content = .unknown c) →
       exec (.unloadCompletion i n .ok) s = goesOn fun x =>
         { x with
           phase := .powerLoad, position := none, outstanding := [⟨x.cmdNo, now, .load⟩], cmdNo := x.cmdNo + 1 }) ∧
     (x.outstanding = [⟨n, t, .load⟩] → x.phase = .powerLoad →
       exec (.loadCompletion i n .ok) s = goesOn fun x =>
         { x with
           phase := .powerRead, position := some 0, autoReset := false, outstanding := [⟨x.cmdNo, now, .read 0⟩],
           cmdNo := x.cmdNo + 1 }) ∧
     (∀ block, x.outstanding = [⟨n, t, .read 0⟩] → x.phase = .powerRead →
       exec (.readCompletion i n .ok block) s = goesOn fun x =>
         { x with
           phase := .powerUnloadAgain, position := some 1,
           found := some (match labelShaped block with | some b => .barcode b.barcode | none => .unreadable),
           outstanding := [⟨x.cmdNo, now, .unload⟩], cmdNo := x.cmdNo + 1 }) ∧
     (∀ r block, r = .mediumError ∨ r = .notReady ∨ r = .blank → x.outstanding = [⟨n, t, .read 0⟩] →
       x.phase = .powerRead → exec (.readCompletion i n r block) s = goesOn fun x =>
         { x with
           phase := .powerUnloadAgain, position := if r = .blank then some 0 else none, found := some .unreadable,
           outstanding := [⟨x.cmdNo, now, .unload⟩], cmdNo := x.cmdNo + 1 }) ∧
     (∀ c, x.outstanding = [⟨n, t, .unload⟩] → x.phase = .powerUnloadAgain → x.cart = some c →
       exec (.unloadCompletion i n .ok) s =
         .next { s with
           dev := (((s.dev.begun.modDrive i fun x => { x with position := none, outstanding := [] }).askReturn i).post
             (.suspendCheck i)).settle }) ∧
     (x.outstanding = [⟨n, t, .unload⟩] → x.phase = .powerUnloadAgain → x.cart = none →
       (∀ m ∈ s.dev.changer.moves, m.requester ≠ .host ∨ m.src ≠ driveElem i) →
       exec (.unloadCompletion i n .ok) s = goesOn fun x =>
         { x with phase := .powerMouth, position := none, outstanding := [] }) ∧
     (∀ d, x.outstanding = [⟨n, t, .unload⟩] →
       d = (s.dev.begun.modDrive i fun x => { x with position := none, outstanding := [] }).scanEmpty (driveElem i) →
       exec (.unloadCompletion i n .notReady) s =
         .next { s with
           dev := (((d.modDrive i fun x => { x with found := none }).driveEmptied i).post (.suspendCheck i)).settle })) ∧
  ((∀ (s : State) (tag : Tag) (i : DriveId), s.dev.link.up = true → (s.dev.drive i).active = none →
     (s.dev.drive i).stack = [] → (s.dev.drive i).claim = none → s.dev.changer.moves = [] →
     let answered := s.dev.begun.respond tag .ok []
     ((s.dev.elem (driveElem i)).content ≠ .empty →
       exec (.resetDrive tag (some i.val)) s =
         .next { s with
           dev := (answered.modDrive i fun x =>
             { x with
               state := .unloading, phase := .resetUnload, cart := s.dev.occupant (driveElem i), position := none,
               outstanding := [⟨x.cmdNo, s.dev.mu.elapsed, .unload⟩], cmdNo := x.cmdNo + 1, suspendFor := none,
               released := false, idleSince := none, hostIn := false, faultCause := none }).settle }) ∧
     ((s.dev.elem (driveElem i)).content = .empty →
       exec (.resetDrive tag (some i.val)) s =
         .next { s with
           dev := ((answered.modDrive i fun x =>
             { x with
               state := .empty, phase := .rest, cart := none, found := none, position := none, outstanding := [],
               mountTime := none, suspendFor := none, released := false, idleSince := none, hostIn := false,
               faultCause := none }).post .arbiter).settle })) ∧
   ∀ (d : Device) (i : DriveId) (cause : FaultCause),
     let faulted := (d.modDrive i fun x => { x with state := .fault, faultCause := some cause }).raise .driveFault
       (.number i)
     let automatic := fun d : Device => (d.modDrive i fun x => { x with autoReset := true }).driveReset i false
     ((d.drive i).autoReset = false → (d.drive i).phase ≠ .resetUnload →
       ((∀ c, d.assignedOwner i ≠ some (.finalize c)) → d.driveFault i cause = automatic faulted) ∧
       ∀ c, d.assignedOwner i = some (.finalize c) → (d.drive i).active ≠ some (.finalize c) →
         d.driveFault i cause = automatic (faulted.finalizeEnd c .drive)) ∧
     ((d.drive i).autoReset = true ∨ (d.drive i).phase = .resetUnload →
       let halted := fun d' : Device =>
         let stopped := (d'.modDrive i fun x => { x with outstanding := [] }).resetMoves i false
         let atRest := stopped.modDrive i fun x =>
           { x with
             active := none, stack := [], suspendFor := none, released := false, idleSince := none, hostIn := false,
             phase := .rest }
         let x := stopped.drive i
         ((x.active.toList ++ x.stack.reverse.map fun k => k.work).foldl (fun d w =>
           match w with
           | .feed f => d.feedUnbind f
           | .restore r => d.endRestore r .drive
           | .verify c => d.abandonPass c false
           | .finalize c => d.finalizeEnd c .drive
           | .cleaning => d) atRest).returnClaim i
       ((∀ c, d.assignedOwner i ≠ some (.finalize c)) → d.driveFault i cause = halted faulted) ∧
       ∀ c, d.assignedOwner i = some (.finalize c) → (d.drive i).active ≠ some (.finalize c) →
         d.driveFault i cause = halted (faulted.finalizeEnd c .drive)) ∧
     ((d.drive i).autoReset = true ∨ (d.drive i).phase = .resetUnload → (d.drive i).active = none →
       (d.drive i).stack = [] → (d.drive i).claim = none → d.changer.moves = [] →
       d.driveFault i cause =
         ((d.modDrive i fun x => { x with
           state := .fault, faultCause := some cause, outstanding := [], active := none, stack := [], suspendFor := none,
           released := false, idleSince := none, hostIn := false, phase := .rest }).raise .driveFault (.number i))))

/-- A drive reset, by a host's RESET_DRIVE, which is answered OK, at a fault or at a rescan (R141): the outstanding
commands are abandoned, and the port's queued moves withdrawn with their marks, but for one R120 has re-queued when a
rescan causes the reset; the active work and then each context, from the top, is ended by its owner, a feed unbinding
(R62), a restore ending DRIVE, a pass abandoned, a FINALIZE ending DRIVE, a CLEANING keeping its claim; the assigned
claim waits again with its entry order, a verify claim in its present class (R164) and a host's move not ready; the
fault cause is absent. The unload waits for a running move of the drive element, and is made at its end; with the
element EMPTY the drive is EMPTY; the move waited for may be one that another drive has asked for again (log entry 51),
and one that R120 has re-queued is waited for no more (log entry 94). The test of a port after the rescan of its element
(R119, R141). The cartridge of the port after a reset is log entry 15, and that the position is UNKNOWN from the reset's
step 1 on log entry 71. -/
def Obligations.ADriveResetEndsItsWork : Prop :=
  (∀ (s : State) (tag : Tag) (i : DriveId), s.dev.link.up = true →
    exec (.resetDrive tag (some i.val)) s =
      .next { s with dev := ((s.dev.begun.respond tag .ok []).driveReset i false).settle }) ∧
  (∀ (d : Device) (i : DriveId) (rescan : Bool),
    let x := d.drive i
    let stopped := ({ d with drives := d.drives.set i { x with outstanding := [], position := none } } :
      Device).resetMoves i rescan
    let atRest := stopped.modDrive i fun x =>
      { x with
        active := none, stack := [], suspendFor := none, released := false, idleSince := none, hostIn := false,
        phase := .rest }
    let ended := (x.active.toList ++ x.stack.reverse.map fun k => k.work).foldl (fun d w =>
      match w with
      | .feed f => d.feedUnbind f
      | .restore r => d.endRestore r .drive
      | .verify c => d.abandonPass c false
      | .finalize c => d.finalizeEnd c .drive
      | .cleaning => d) atRest
    let d' := ((ended.returnClaim i).unreadyHost i).modDrive i fun x => { x with faultCause := none }
    let moving := ∃ m ∈ d'.changer.moves, m.running = true ∧ (m.src = driveElem i ∨ m.dst = some (driveElem i))
    (moving → d.driveReset i rescan = d'.modDrive i fun x => { x with state := .unloading, phase := .resetWait }) ∧
    (¬moving → d.driveReset i rescan = d'.resetStep3 i)) ∧
  (∀ (d : Device) (i : DriveId),
    ((d.elem (driveElem i)).content ≠ .empty →
      d.resetStep3 i = d.modDrive i fun x =>
        { x with
          state := .unloading, phase := .resetUnload, idleSince := none, cart := d.occupant (driveElem i),
          outstanding := x.outstanding ++ [⟨x.cmdNo, d.mu.elapsed, .unload⟩], cmdNo := x.cmdNo + 1 }) ∧
    ((d.elem (driveElem i)).content = .empty → (d.drive i).claim = none →
      (∀ m ∈ d.changer.moves, m.requester ≠ .host ∨ m.src ≠ driveElem i) →
      d.resetStep3 i = (d.modDrive i fun x =>
        { x with
          state := .empty, phase := .rest, cart := none, found := none, mountTime := none, idleSince := none,
          position := none, hostIn := false }).post .arbiter)) ∧
  (∀ (d : Device) (i : DriveId) (rescan : Bool), (d.changer.moves.map fun m => m.id).Nodup →
    let e := d.resetMoves i rescan
    let kept := fun m : Move => m.requester ≠ .drive i ∨ m.running = true ∨ (rescan = true ∧ m.order < 0)
    (∀ m, m ∈ e.changer.moves ↔ m ∈ d.changer.moves ∧ kept m) ∧
    (∀ y, (e.elem y).content = (d.elem y).content ∧
      ∀ m ∈ d.changer.moves, ¬kept m → (e.elem y).incoming ≠ some m.id ∧ (e.elem y).outgoing ≠ some m.id) ∧
    e.drives = d.drives ∧ e.arb = d.arb ∧ e.media.carts = d.media.carts) ∧
  (∀ (d : Device) (i : DriveId) (k : Claim), d.assigned i = some k →
    let e := d.returnClaim i
    let overdue := fun c => ∃ y, d.entry? c = some y ∧ y.deadline ≤ d.mu.time
    (e.drive i = { d.drive i with claim := none }) ∧ (∀ j, j ≠ i → e.drive j = d.drive j) ∧
    Machine.Task.arbiter ∈ e.agenda ∧
    (∃ kind,
      e.arb.claims = d.arb.claims.map (fun y =>
        if y.order = k.order then
          { y with kind, drive := none, chosen := none, scratch := false, reported := false, prepared := false }
        else y) ∧
      (∀ c, k.owner = .verify c → (overdue c → kind = .overdue) ∧ (¬overdue c → kind = .verify)) ∧
      ((∀ c, k.owner ≠ .verify c) → kind = k.kind)) ∧
    (∀ m, k.owner = .hostMove m →
      e.changer.moves = d.changer.moves.map fun y => if y.id = m then { y with ready := false } else y)) ∧
  (∀ (d : Device) (i : DriveId),
    let content := (d.elem (driveElem i)).content
    let asHeld := content = (match (d.drive i).cart with | some c => .occupied c | none => .empty)
    let moving := ∃ m ∈ d.changer.moves, m.running = true ∧ (m.src = driveElem i ∨ m.dst = some (driveElem i))
    (asHeld → (d.drive i).phase ≠ .resetWait ∨ moving → d.driveRescan i = d) ∧
    (asHeld → (d.drive i).phase = .resetWait → ¬moving → d.driveRescan i = d.resetStep3 i) ∧
    (¬asHeld → d.driveRescan i = d.driveReset i true)) ∧
  ∀ (d : Device) (i : DriveId) (m : Move) (r : MoveResult), m.requester = .drive i →
    ((d.drive i).phase = .resetWait → (∀ j, m.dst = some (driveElem j) → j = i) →
      d.moveEnded m r = d.resetStep3 i) ∧
    ∀ j, j ≠ i → m.dst = some (driveElem j) → (d.drive i).phase = .returning →
      ((d.returnEnded i m r).drive j).phase = .resetWait →
      d.moveEnded m r = (d.returnEnded i m r).resetStep3 j

/-- WRITE and SPEED completions of a feed (R53, R56): OK confirms the oldest block in flight; END_OF_MEDIUM confirms it
and takes the span trigger alone (R57, log entry 49); a failed WRITE returns every block in flight to staging, as it
was, and spans; while completions are due for blocks so returned, one of whatever result is discarded, but for
HARDWARE_ERROR, which is a drive fault (log entry 53). A confirmation moves the cartridge's EOD to the block's number
plus 1 and takes each record of the block, in order, into the segment map; that the EOD never falls is the model's form
in states no run reaches. SPEED OK or NOT_READY clears the feed's indication, and after NOT_READY the position is
UNKNOWN (log entry 38). -/
def Obligations.FeedCompletionsConfirmAndReturn : Prop :=
  ∀ (s : State) (i : DriveId) (n : BitVec 16) (o : Outstanding) (os : List Outstanding) (f : FeedId) (x : Feed),
    (s.dev.drive i).outstanding = o :: os → o.number = n → (s.dev.drive i).active = some (.feed f) →
    (s.dev.drive i).phase = .working → s.dev.feed f = some x →
    let d := fun g : Option Nat → Option Nat => s.dev.begun.modDrive i fun y =>
      { y with outstanding := os, position := g y.position }
    let goesOn := fun d : Device => Host.Outcome.next (φ := Fault) (ρ := Refusal)
      { s with dev := (d.post (.suspendCheck i)).settle }
    (∀ k r, o.cmd = .speed k → r = .ok ∨ r = .notReady →
      exec (.speedCompletion i n r) s =
        goesOn (((d fun p => if r = .ok then p else none).setFeed f (some { x with speedOut := false })).post
          (.feedProgress f))) ∧
    (∀ b r, o.cmd = .write b → 0 < x.returned → r ≠ .hardwareError →
      exec (.writeCompletion i n r) s =
        goesOn (((d fun p => if r = .ok ∨ r = .endOfMedium then p.map (· + 1) else none).setFeed f (some { x with returned := x.returned - 1 })).post
          (.feedProgress f))) ∧
    ∀ b y ys c, o.cmd = .write b → x.returned = 0 → x.flights = y :: ys → x.cart = some c →
      exec (.writeCompletion i n .ok) s =
        goesOn ((((d fun p => p.map (· + 1)).confirm f c y).underrun f).post (.feedDecide f)) ∧
      exec (.writeCompletion i n .endOfMedium) s =
        goesOn ((((d fun p => p.map (· + 1)).confirm f c y).spanTrigger f true).post (.feedDecide f)) ∧
      (∀ r, r = .mediumError ∨ r = .notReady ∨ r = .blank →
        exec (.writeCompletion i n r) s =
          goesOn ((((d fun _ => none).setFeed f (some { x with
            staging := (y :: ys).map (·.block) ++ x.staging, flights := [], returned := ys.length })).spanTrigger f
              true).post (.feedDecide f))) ∧
      ∀ m : Device, m.feed f = some x → ∀ e, m.cart c = some e → ∃ tasks,
        m.confirm f c y =
          y.block.records.foldl (fun m r => (m.mapRecord f c y.tape.number r).countOff f r)
            { m.setFeed f (some { x with flights := ys, written := x.written + 1 }) with
              media := { m.media with
                carts := m.media.carts.set c ((m.row c).after (some { e with eod := some (max (e.eod.getD 0) (y.tape.number + 1)) })) }
              agenda := tasks }

/-- The drives' timers: a command at its timeout is a drive fault with HARDWARE_ERROR (R124); a mounted drive past the
minimum dwell is decided again (R127, R128); one idle for the idle-unmount time is unloaded (R136); each does nothing
before its time. Ages in whole seconds, an age of exactly the limit due, and the early command are log entry 6. CLEAN: a
CLEAN_REQUEST sets the drive cleaning-due and raises CLEAN_DUE at every request, and the first places a CLEANING claim
for the drive; a CLEAN completed spends one use, raises CLEAN_DUE for a cartridge brought to 0, and unloads at once; OK
clears the flag and the claim leaves the list; MEDIUM_ERROR or NOT_READY keeps the flag, and the claim waits again
(R137). -/
def Obligations.DriveTimersAndCleaning : Prop :=
  (∀ (s : State) (i : DriveId),
     let x := s.dev.drive i
     let now := s.dev.mu.elapsed
     let limit := fun c : DriveCmd =>
       match c with
       | .load | .unload => 180
       | .locate _ | .locateEnd | .clean => 600
       | .read _ | .write _ | .speed _ => 60
     (∀ o os, x.outstanding = o :: os → o.issued + limit o.cmd ≤ now →
       exec (.commandTimeout i) s =
         .next { s with
           dev := ((s.dev.begun.modDrive i fun x => { x with outstanding := os, position := none }).driveFault i
             ⟨o.cmd.name, .hardwareError⟩).settle }) ∧
     (∀ o os, x.outstanding = o :: os → now < o.issued + limit o.cmd → exec (.commandTimeout i) s = .next s) ∧
     (x.outstanding = [] → exec (.commandTimeout i) s = .next s) ∧
     (∀ t, x.state = .mountedIdle → x.mountTime = some t → t + s.dev.mu.params.minimumDwell ≤ now →
       exec (.minimumDwell i) s = .next { s with dev := (s.dev.begun.post .arbiter).settle }) ∧
     (∀ t, x.mountTime = some t → now < t + s.dev.mu.params.minimumDwell → exec (.minimumDwell i) s = .next s) ∧
     (∀ t, x.state = .mountedIdle → x.phase = .rest → x.active = none → x.idleSince = some t →
       t + s.dev.mu.params.idleUnmount ≤ now →
       exec (.idleUnmount i) s =
         .next { s with
           dev := (s.dev.begun.modDrive i fun x =>
             { x with
               state := .unloading, phase := .unload, idleSince := none,
               outstanding := x.outstanding ++ [⟨x.cmdNo, now, .unload⟩], cmdNo := x.cmdNo + 1 }).settle }) ∧
     (∀ t, x.idleSince = some t → now < t + s.dev.mu.params.idleUnmount → exec (.idleUnmount i) s = .next s) ∧
     (x.state ≠ .mountedIdle → exec (.minimumDwell i) s = .next s ∧ exec (.idleUnmount i) s = .next s)) ∧
  (∀ (s : State) (i : DriveId),
     ((s.dev.drive i).cleaningDue = true →
       exec (.cleanRequest i) s = .next { s with dev := (s.dev.begun.raise .cleanDue (.due i)).settle }) ∧
     ((s.dev.drive i).cleaningDue = false → ∃ tasks,
       exec (.cleanRequest i) s =
         .next { s with
           dev := ({ (s.dev.begun.modDrive i fun x => { x with cleaningDue := true }).raise .cleanDue (.due i) with
             arb :=
               { claims := s.dev.arb.claims ++
                   [{ order := s.dev.arb.nextOrder, kind := .cleaning, owner := .cleaning i, target := .drive i }],
                 nextOrder := s.dev.arb.nextOrder + 1 }
             agenda := tasks } : Device).settle }) ∧
     ∀ (n : BitVec 16) (t : Nat) (c : CartId) (e : Cart), (s.dev.drive i).outstanding = [⟨n, t, .clean⟩] →
       (s.dev.drive i).cart = some c → s.dev.cart c = some e →
       (∃ d : Device, exec (.cleanCompletion i n .ok) s = .next { s with dev := d.settle } ∧
         d.cart c = some { e with uses := e.uses - 1 } ∧ (∀ y, y ≠ c → d.row y = s.dev.row y) ∧
         (e.uses = 1 → d.event .cleanDue = some (raiseEvent (s.dev.event .cleanDue) (.expiredCart c))) ∧
         (e.uses ≠ 1 → d.event .cleanDue = s.dev.event .cleanDue) ∧
         (d.drive i).cleaningDue = false ∧ (d.drive i).active = none ∧ (d.drive i).claim = none ∧
         (d.drive i).state = .unloading ∧
         (d.drive i).outstanding = [⟨(s.dev.drive i).cmdNo, s.dev.mu.elapsed, .unload⟩] ∧
         (∀ k, s.dev.claimOf (.cleaning i) = some k → k ∉ d.arb.claims)) ∧
         ∀ r k, r = .mediumError ∨ r = .notReady → s.dev.assigned i = some k → k.owner = .cleaning i →
           ∃ d : Device, exec (.cleanCompletion i n r) s = .next { s with dev := d.settle } ∧
             d.cart c = some { e with uses := e.uses - 1 } ∧ (∀ y, y ≠ c → d.row y = s.dev.row y) ∧
             (d.drive i).cleaningDue = (s.dev.drive i).cleaningDue ∧ (d.drive i).active = none ∧
             (d.drive i).claim = none ∧ (d.drive i).state = .unloading ∧
             (d.drive i).outstanding = [⟨(s.dev.drive i).cmdNo, s.dev.mu.elapsed, .unload⟩] ∧
             d.arb.claims = s.dev.arb.claims.map fun y =>
               if y.order = k.order then
                 { y with
                   kind := k.kind, drive := none, chosen := none, scratch := false, reported := false,
                   prepared := false }
               else y)

/-- Which claims wait for a drive's mounted cartridge, which a drive is available to, and which are passed over at the
verify drive limit (R127, R128); a FEED claim does not wait for a mounted cartridge that R129 passes over (log entry
81), and an age of exactly the minimum dwell is due (log entry 6). An arbiter decision takes the drives in ascending
number: the first, by class and then entry order, a FEED claim at its preferred drive before its class in either step
and before a younger one that prefers it too (log entry 61), of the waiting claims for the mounted cartridge that can be
served takes the drive; otherwise the first that can be served, a FEED claim that finds its cartridge in another drive
taking that one and the drive being decided again; of the claims before it, or of all if none can be served, a FEED
claim without a cartridge reports no media, a CLEANING claim CLEANING_EXPIRED, once, and one whose move would be BUSY
waits without a report (R128, R129, R137; log entry 29); at the end a drive just released and given to no claim
unmounts, unless cleaning-due (log entry 14). What a claim takes: the cartridge it names; the cleaning cartridge with
most uses; for a FEED claim the four choices of R129, the lowest-numbered of several other drives in the second (log
entry 84). A claim that takes a drive: the mount move, or BUSY and the claim waits (R130); the unmount of another
cartridge; a restore or pass is handed the drive with its cartridge without a new label check (log entry 75); a host's
move out unloads it, and one into an EMPTY drive holds it and is ready once each of its claims stands prepared (R134;
log entry 32); FEED and FINALIZE go on to the append check, good at once with an EOD of 1 (R132). Media that return for
a pool are told to every FEED claim of it, one given a drive at the same event among them (R44, R129; log entry 82). -/
def Obligations.TheArbiterGivesDrivesToClaims : Prop :=
  (∀ (d : Device) (i : DriveId) (k : Claim),
    let x := d.drive i
    let free := x.claim = none ∧ x.stack = [] ∧ x.active = none ∧ x.phase = .rest ∧
      (x.state = .empty ∨ x.state = .mountedIdle)
    let dwell := ∃ t, x.mountTime = some t ∧ t + d.mu.params.minimumDwell ≤ d.mu.elapsed
    let movesOut := fun m => ∃ y, d.move? m = some y ∧ y.src = driveElem i
    let forMounted := ∃ c, x.state = .mountedIdle ∧ x.cart = some c ∧
      (k.target = .cart c ∨ (∃ p, k.target = .pool p ∧ d.appendable p c = true ∧
          ∀ y ∈ d.arb.claims, y.drive ≠ none → y.chosen ≠ some c ∧ y.target ≠ .cart c) ∨
        (k.target = .drive i ∧ ∃ m, k.owner = .hostMove m ∧ movesOut m))
    let serves := fun j => (∃ y, d.assigned j = some y ∧ (y.kind = .overdue ∨ y.kind = .verify)) ∨
      ∃ c, (d.drive j).active = some (.verify c)
    (d.wantsMounted i k = true ↔ forMounted) ∧
    (d.available i k = true ↔ free ∧
      if x.cleaningDue = true then k.owner = .cleaning i ∧ (x.state = .empty ∨ dwell)
      else match k.owner with
        | .cleaning j => j = i ∧ (x.state = .empty ∨ dwell)
        | .hostMove m => k.target = .drive i ∧ (movesOut m ↔ x.state ≠ .empty)
        | _ => x.state = .empty ∨ forMounted ∨ dwell ∨ k.kind = .urgent ∨ x.released = true) ∧
    (d.passedOver k = true ↔ (k.kind = .overdue ∨ k.kind = .verify) ∧
      ∃ js : List DriveId, js.Nodup ∧ (∀ j ∈ js, serves j) ∧ d.mu.params.verifyDriveLimit ≤ js.length)) ∧
  (∀ (d : Device) (i : DriveId),
    let age := fun k : Claim => if k.preferred = some i then 0 else k.order + 1
    let sooner := fun a b : Claim => a.kind.cls < b.kind.cls ∨
      (a.kind.cls = b.kind.cls ∧ (age a < age b ∨ (age a = age b ∧ a.order < b.order)))
    let contends := fun k => k ∈ d.arb.claims ∧ k.drive = none ∧ d.available i k = true ∧ d.passedOver k = false
    let takes := fun k c => contends k ∧ d.choice i k = some c
    (∀ k, k ∈ d.contenders i ↔ contends k) ∧ ((d.contenders i).Pairwise fun a b => ¬sooner b a) ∧
    (∀ k c n, takes k c → d.wantsMounted i k = true →
      (∀ z c', takes z c' → d.wantsMounted i z = true → z ≠ k → sooner k z) →
      Device.decideDrive i (n + 1) d = d.assign k c) ∧
    (let freeElem := fun j : DriveId =>
        (d.elem (driveElem j)).incoming = none ∧ (d.elem (driveElem j)).outgoing = none
     let served := fun (k : Claim) (c : Choice) => d.choice i k = some c ∧
        (c.cart = none ∨ (d.drive c.drive).state ≠ .empty ∨ freeElem c.drive)
     let reporting := fun (ks : List Claim) =>
        (ks.filter fun z => (d.choice i z).isNone).foldl (fun d z => d.reportNone z) d
     d.freeDrive i = true → (∀ z c', takes z c' → d.wantsMounted i z = false) →
        (∀ before after k c n, d.contenders i = before ++ k :: after → served k c →
          (∀ z ∈ before, ∀ c', ¬served z c') →
          Device.decideDrive i (n + 1) d =
            if c.drive = i then (reporting before).assign k c
            else Device.decideDrive i n ((reporting before).assign k c)) ∧
        ((∀ z c', contends z → ¬served z c') → ∀ n, Device.decideDrive i (n + 1) d = reporting (d.contenders i))) ∧
    (∀ k, d.reportNone k =
      if k.reported = true then d
      else
        let d' : Device := { d with arb := { d.arb with
          claims := d.arb.claims.map fun y => if y.order = k.order then { y with reported := true } else y } }
        match k.owner with
        | .feed f => d'.feedNoMedia f
        | .cleaning j => d'.raise .cleanDue (.expiredDrive j)
        | _ => d) ∧
    ((d.drive i).claim ≠ none ∨ (d.drive i).stack ≠ [] ∨ (d.drive i).active ≠ none ∨ (d.drive i).phase ≠ .rest →
      ∀ n, Device.decideDrive i n d = d)) ∧
  (∀ (d : Device) (i : DriveId) (k : Claim),
    let spoken := fun c => ∃ y ∈ d.arb.claims, y.drive ≠ none ∧ (y.chosen = some c ∨ y.target = .cart c)
    let movable := fun (c : CartId) (mail : Bool) => ∃ y e, d.cart c = some y ∧ y.location = .at e ∧
      (isStorage e = true ∨ (mail = true ∧ isMail e = true)) ∧ (d.elem e).content = .occupied c ∧
      (d.elem e).incoming = none ∧ (d.elem e).outgoing = none
    let idle := fun (j : DriveId) (c : CartId) => (d.drive j).state = .mountedIdle ∧ (d.drive j).cart = some c
    (∀ c, k.target = .cart c → (∀ j, k.owner ≠ .cleaning j) → (∀ m, k.owner ≠ .hostMove m) →
      (idle i c ∨ movable c true → d.choice i k = some ⟨i, some c, false⟩) ∧
      (¬idle i c → ¬movable c true → d.choice i k = none)) ∧
    (∀ m, k.owner = .hostMove m → d.choice i k = some ⟨i, none, false⟩) ∧
    (∀ j, k.owner = .cleaning j →
      let usable := fun (c : CartId) (n : Nat) => (∃ y, d.cart c = some y ∧ y.kind = .cleaning ∧ y.uses = n) ∧ 0 < n ∧
        movable c false
      (∀ c n, usable c n → (∀ c' n', usable c' n' → n' < n ∨ (n' = n ∧ c ≤ c')) →
        d.choice i k = some ⟨i, some c, false⟩) ∧
      ((∀ c n, ¬usable c n) → d.choice i k = none)) ∧
    ∀ f p, k.owner = .feed f → k.target = .pool p →
      let mounted := fun j c => idle j c ∧ d.appendable p c = true ∧ ¬spoken c
      let other := fun j c => j ≠ i ∧ d.available j k = true ∧ mounted j c
      let appendable := fun c => d.appendable p c = true ∧ movable c false ∧ ¬spoken c
      let scratch := fun c => d.takeable p c = true ∧ movable c false ∧ ¬spoken c
      let end_ := fun c => ((d.cart c).bind fun e => e.eod).getD 0
      (∀ c, mounted i c → d.choice i k = some ⟨i, some c, false⟩) ∧
      ((∀ c, ¬mounted i c) →
        (∀ j c, other j c → (∀ j' c', other j' c' → j ≤ j') → d.choice i k = some ⟨j, some c, false⟩) ∧
        ((∀ j c, ¬other j c) →
          (∀ c, appendable c → (∀ c', appendable c' → end_ c' < end_ c ∨ (end_ c' = end_ c ∧ c ≤ c')) →
            d.choice i k = some ⟨i, some c, false⟩) ∧
          ((∀ c, ¬appendable c) →
            (∀ c, scratch c → (∀ c', scratch c' → c ≤ c') → d.choice i k = some ⟨i, some c, true⟩) ∧
            ((∀ c, ¬scratch c) → d.choice i k = none))))) ∧
  (∀ (d : Device) (k : Claim) (c : Choice),
    let i := c.drive
    let x := d.drive i
    let taken : Device := { d with
      arb := { d.arb with
        claims := d.arb.claims.map fun y =>
          if y.order = k.order then
            { y with drive := some i, chosen := c.cart, scratch := c.scratch, reported := false }
          else y }
      drives := d.drives.set i { x with claim := some k.order, released := false } }
    let unloads := fun p : Phase => taken.modDrive i fun x =>
      { x with
        state := .unloading, phase := p, idleSince := none,
        outstanding := x.outstanding ++ [⟨x.cmdNo, d.mu.elapsed, .unload⟩], cmdNo := x.cmdNo + 1 }
    let handed := fun w : Work => ({ taken with
      arb := { taken.arb with claims := taken.arb.claims.filter fun y => y.order != k.order }
      drives := d.drives.set i { x with claim := none, released := false, active := some w, idleSince := none } } :
        Device).post (.serve i w)
    (x.state = .empty → d.assign k c = taken.beginMount i) ∧
    (x.state ≠ .empty → d.wantsMounted i k = false → d.assign k c = unloads .unload) ∧
    (x.state ≠ .empty → d.wantsMounted i k = true → d.assign k c =
      match k.owner with
      | .restore r => handed (.restore r)
      | .verify z => handed (.verify z)
      | .hostMove _ => unloads .hostUnload
      | _ => taken.beginAppend i)) ∧
  (∀ (d : Device) (i : DriveId) (k : Claim) (c : CartId), d.assigned i = some k → k.chosen = some c →
    (∀ m, k.owner ≠ .hostMove m) →
    (∀ a, d.moveSource c (driveElem i) = some a → d.beginMount i =
      (d.enterMove a (some (driveElem i)) (.cart c) (some k.kind.cls) (.drive i) true).modDrive i fun x =>
        { x with phase := .mountMove }) ∧
    (d.moveSource c (driveElem i) = none → d.beginMount i = d.returnClaim i)) ∧
  (∀ (d : Device) (i : DriveId) (c : CartId) (e : Cart), (d.drive i).cart = some c → d.cart c = some e →
    let checks := fun (p : Phase) (cmd : DriveCmd) => d.modDrive i fun x =>
      { x with
        state := .appendCheck, phase := p, idleSince := none,
        outstanding := x.outstanding ++ [⟨x.cmdNo, d.mu.elapsed, cmd⟩], cmdNo := x.cmdNo + 1 }
    (e.eod = none → d.beginAppend i = checks .appendEnd .locateEnd) ∧
    (∀ n, e.eod = some n → 2 ≤ n → d.beginAppend i = checks (.appendRead 0 false) (.read (n - 1))) ∧
    (∀ n, e.eod = some n → n ≤ 1 → d.beginAppend i =
      (d.modDrive i fun x => { x with state := .appendCheck, idleSince := none }).appendGood i c e)) ∧
  (∀ (d : Device) (i : DriveId) (k : Claim) (m : Nat), d.assigned i = some k → k.owner = .hostMove m →
    let held : Device := { d with
      arb := { d.arb with
        claims := d.arb.claims.map fun y => if y.order = k.order then { y with prepared := true } else y }
      drives := d.drives.set i { d.drive i with phase := .hostMove } }
    let ready := ∀ y ∈ d.arb.claims, y.owner = .hostMove m → y.order ≠ k.order → y.prepared = true
    (ready → d.beginMount i = ({ held with changer := { d.changer with
      moves := d.changer.moves.map fun y => if y.id = m then { y with ready := true } else y } } : Device).post
        .picker) ∧
    (¬ready → d.beginMount i = held)) ∧
  (∀ (d : Device) (i : DriveId),
    ((d.drive i).released = false → d.settleRelease i = d) ∧
    ((d.drive i).released = true →
      d.settleRelease i = d.modDrive i fun x =>
        if x.state = .mountedIdle ∧ x.claim = none ∧ x.cleaningDue = false then
          { x with
            released := false, state := .unloading, phase := .unload, idleSince := none,
            outstanding := x.outstanding ++ [⟨x.cmdNo, d.mu.elapsed, .unload⟩], cmdNo := x.cmdNo + 1 }
        else { x with released := false })) ∧
  (∀ d : Device, d.arbitrate =
    ([0, 1, 2, 3].foldl Device.settleRelease
      ([0, 1, 2, 3].foldl (fun d i => Device.decideDrive i 5 d) d)).postAll
        [.suspendCheck 0, .suspendCheck 1, .suspendCheck 2, .suspendCheck 3]) ∧
  ∀ (d : Device) (p : PoolId), (d.arb.claims.map fun k => k.order).Nodup →
    let e := d.mediaReturned p
    let told := fun k : Claim => k.target = .pool p
    e.arb.claims = d.arb.claims.map (fun k => if told k then { k with reported := false } else k) ∧
    (∀ k ∈ d.arb.claims, told k → ∀ f x, k.owner = .feed f → d.feed f = some x →
      ∃ y, e.feed f = some y ∧ y.stall.noMedia = false) ∧ Machine.Task.arbiter ∈ e.agenda

/-- Suspension (R138, R60): the waiting restore claim for the drive's cartridge of the highest class, then the oldest
(log entry 63), that may suspend its active work marks it, below 2 contexts and with no cleaning due; a feed stops and
drains, other work waits for its outstanding READ. The push: a context of the work with its resume block, a feed's being
the EOD (log entry 62); a feed is SUSPENDED once drained, a restore or pass with its record withdrawn from the XE's
list; the claim is served and its restore is the active work, also after a CLEAN_REQUEST that came meanwhile (log entry
72). A claim withdrawn before the push cancels the suspension.
At the end of work with an empty stack the drive is MOUNTED_IDLE, and unmounts at once when no claim waits for its
cartridge, unless it is cleaning-due (R136, log entry 14); with contexts, a waiting claim that may suspend the top one
takes the drive, and otherwise that one is popped: LOCATE of the resume block, or of EOD - 1 for a feed (R139). The
completions after a pop: a LOCATE that fails, with BLANK as with any other result, is made once more, and then ends the
work DRIVE; for a feed the append
check is repeated, and a good one gives it its drive back, a FINAL or a mismatch makes it span with no FULL mark (R60,
R132, R139). -/
def Obligations.WorkIsSuspendedPushedAndPopped : Prop :=
  (∀ (d : Device) (i : DriveId) (w : Work) (c : CartId), (d.drive i).active = some w → (d.drive i).cart = some c →
    let x := d.drive i
    let maySuspend := fun k : ClaimKind => match k, w with
      | .urgent, .feed _ | .urgent, .verify _ | .normal, .verify _ => True
      | .urgent, .restore r => ∃ e, d.restore? r = some e ∧ e.priority = .normal
      | _, _ => False
    let works := x.phase = .working ∧ match x.state, w with
      | .writing, .feed f => ∃ y, d.feed f = some y ∧
          (y.state = .filling ∨ y.state = .streaming ∨ y.state = .paused ∨ y.state = .retiring)
      | .reading, .restore _ | .verifying, .verify _ => True
      | _, _ => False
    let asks := fun k => k ∈ d.arb.claims ∧ k.drive = none ∧ k.target = .cart c ∧ maySuspend k.kind
    let open_ := x.cleaningDue = false ∧ x.stack.length < 2 ∧ x.suspendFor = none ∧ works
    let first := fun k => asks k ∧ ∀ z, asks z → z ≠ k →
      k.kind.cls < z.kind.cls ∨ (k.kind.cls = z.kind.cls ∧ k.order < z.order)
    (¬open_ ∨ (∀ k, ¬asks k) → d.checkSuspension i = d) ∧
    ((∀ z, asks z → z.preferred = none) → open_ → ∀ k, first k →
      let marked := d.modDrive i fun x => { x with suspendFor := some k.order }
      (∀ f, w = .feed f → d.checkSuspension i = marked.feedSuspend f) ∧
      ((∀ f, w ≠ .feed f) → x.outstanding = [] → d.checkSuspension i = marked.post (.pushReady i)) ∧
      ((∀ f, w ≠ .feed f) → x.outstanding ≠ [] → d.checkSuspension i = marked))) ∧
  (∀ (d : Device) (f : FeedId) (y : Feed), d.feed f = some y →
    let stopped := d.feedSuspend f
    let y' : Feed := { y with suspending := true, stall := { y.stall with suspend := true } }
    (y.assembly = none → stopped.feed f = some y') ∧
    (∀ a, y.assembly = some a → y.staging.length < 64 → stopped.feed f = some { y' with
      staging := y.staging ++ [⟨y.nextDseq, d.mu.elapsed, a.records, a.used⟩], nextDseq := y.nextDseq + 1,
      assembly := none,
      periodCount :=
        if y.state = .streaming ∨ y.state = .paused then min 4095 (y.periodCount + 1) else y.periodCount }) ∧
    (∀ a, y.assembly = some a → 64 ≤ y.staging.length →
      stopped.feed f = some { y' with assembly := some { a with closePending := true } }) ∧
    Machine.Task.feedProgress f ∈ stopped.agenda ∧
    (d.feedUnsuspend f).feed f = some { y with suspending := false, stall := { y.stall with suspend := false } } ∧
    Machine.Task.feedDecide f ∈ (d.feedUnsuspend f).agenda ∧
    (∀ i, y.drive = some i →
      (d.feedResumed f).feed f = some { y with
        state := if y.members = [] then .retiring else .filling, stall := { y.stall with suspend := false },
        speedOut := true } ∧
      (d.feedResumed f).drive i = { d.drive i with
        outstanding := (d.drive i).outstanding ++ [⟨(d.drive i).cmdNo, d.mu.elapsed, .speed y.step⟩],
        cmdNo := (d.drive i).cmdNo + 1 }) ∧
    Machine.Task.feedDecide f ∈ (d.feedResumed f).agenda) ∧
  (∀ (d : Device) (i : DriveId) (w : Work) (k : Claim) (r : RestoreId), (d.drive i).active = some w →
    (d.drive i).suspendFor = some k.order → d.claim? k.order = some k → k.owner = .restore r →
    let x := d.drive i
    let pushed := fun (e : Device) (resume : Nat) =>
      e.drive i = { x with
        stack := x.stack ++ [⟨w, resume⟩], suspendFor := none, phase := .rest, active := some (.restore r) } ∧
      (∀ j, j ≠ i → e.drive j = d.drive j) ∧
      e.arb.claims = d.arb.claims.filter (fun z => z.order != k.order) ∧
      Machine.Task.serve i (.restore r) ∈ e.agenda
    (x.outstanding ≠ [] → d.pushReady i = d) ∧
    (x.outstanding = [] → x.stack.length < 2 →
      (∀ f y c e, w = .feed f → d.feed f = some y → x.cart = some c → d.cart c = some e →
        let drained := y.suspending = true ∧ y.flights = [] ∧ y.returned = 0 ∧ y.speedOut = false
        (¬drained → d.pushReady i = d) ∧
        (drained → x.stack = [] → pushed (d.pushReady i) (e.eod.getD 1) ∧
          (d.pushReady i).feed f = some { y with state := .suspended, suspending := false })) ∧
      (∀ a e, w = .restore a → d.restore? a = some e → pushed (d.pushReady i) (e.readPos.getD 0) ∧
        (d.pushReady i).restore? a = some { e with
          state := .suspended, stall := none, atXe := if d.inXeList (.restore a) then none else e.atXe } ∧
        (∀ q ∈ (d.pushReady i).xe.requests, q.client ≠ .restore a)) ∧
      ∀ c p, w = .verify c → d.pass? c = some p → pushed (d.pushReady i) p.readPos ∧
        (d.pushReady i).pass? c = some { p with
          state := .suspended, atXe := if d.inXeList (.pass c) then none else p.atXe } ∧
        (∀ q ∈ (d.pushReady i).xe.requests, q.client ≠ .pass c) ∧
        Machine.Task.arbiter ∈ (d.pushReady i).agenda)) ∧
  (∀ (d : Device) (i : DriveId) (w : Work), (d.drive i).active = some w → (d.drive i).suspendFor = none →
    let x := d.drive i
    (∀ f y, w = .feed f → d.feed f = some y →
      d.pushReady i = if y.suspending = true then d.feedUnsuspend f else d) ∧
    (∀ r, w = .restore r →
      d.pushReady i = if x.phase = .working ∧ x.outstanding = [] then d.restoreGoOn r else d) ∧
    (∀ c, w = .verify c → d.pushReady i = if x.phase = .working ∧ x.outstanding = [] then d.passGoOn c else d)) ∧
  (∀ (d : Device) (k : Claim), d.claim? k.order = some k → k.drive = none →
    let e := d.withdrawClaim k.order
    e.arb.claims = d.arb.claims.filter (fun z => z.order != k.order) ∧
    ∀ i, e.drive i = (if (d.drive i).suspendFor = some k.order then { d.drive i with suspendFor := none }
      else d.drive i) ∧
      ((d.drive i).suspendFor = some k.order → Machine.Task.pushReady i ∈ e.agenda)) ∧
  (∀ (d : Device) (i : DriveId),
    let x := d.drive i
    let done := d.modDrive i fun x => { x with active := none, phase := .rest, suspendFor := none }
    let idle := done.modDrive i fun x =>
      { x with state := .mountedIdle, hostIn := false, idleSince := some d.mu.elapsed }
    let wanted := ∃ k ∈ d.arb.claims, k.drive = none ∧ idle.wantsMounted i k = true
    (x.stack = [] → wanted ∨ x.cleaningDue = true → d.workEnded i = idle.post .arbiter) ∧
    (x.stack = [] → ¬wanted → x.cleaningDue = false → d.workEnded i =
      (idle.post .arbiter).modDrive i fun x => { x with
        state := .unloading, phase := .unload, idleSince := none,
        outstanding := x.outstanding ++ [⟨x.cmdNo, d.mu.elapsed, .unload⟩], cmdNo := x.cmdNo + 1 }) ∧
    ∀ below top, x.stack = below ++ [top] →
      let asks := fun (k : Claim) c => k ∈ d.arb.claims ∧ k.drive = none ∧ k.kind.isRestore = true ∧
        k.target = .cart c ∧ d.maySuspend k.kind top.work = true
      let located := fun (d : Device) (s : DriveState) (p : Phase) (n : Nat) => d.modDrive i fun x => { x with
        stack := below, active := some top.work, state := s, phase := p,
        outstanding := x.outstanding ++ [⟨x.cmdNo, d.mu.elapsed, .locate n⟩], cmdNo := x.cmdNo + 1 }
      (∀ c k r, x.cleaningDue = false → x.cart = some c → asks k c → k.owner = .restore r →
        (∀ z, asks z c → z.preferred = none ∧ (z ≠ k →
          k.kind.cls < z.kind.cls ∨ (k.kind.cls = z.kind.cls ∧ k.order < z.order))) →
        d.workEnded i = ({ done with
          arb := { d.arb with claims := d.arb.claims.filter fun z => z.order != k.order }
          drives := d.drives.set i { x with active := some (.restore r), phase := .rest, suspendFor := none } } :
            Device).post (.serve i (.restore r))) ∧
      (x.cleaningDue = true ∨ (∀ c k, x.cart = some c → ¬asks k c) →
        (∀ r, top.work = .restore r → d.workEnded i =
          located (done.modRestore r fun e => { e with state := .positioning }) .positioning (.popLocate false)
            top.resume) ∧
        (∀ c, top.work = .verify c → d.workEnded i =
          located (done.modPass c fun p => { p with state := .positioning }) .positioning (.popLocate false)
            top.resume) ∧
        ∀ f c e, top.work = .feed f → x.cart = some c → d.cart c = some e →
          d.workEnded i = located done .appendCheck .popAppendLocate (e.eod.getD 1 - 1))) ∧
  ∀ (s : State) (i : DriveId) (n : BitVec 16) (t : Nat),
    let x := s.dev.drive i
    let d := fun p : Option Nat => s.dev.begun.modDrive i fun x => { x with outstanding := [], position := p }
    let goesOn := fun d : Device => Host.Outcome.next (φ := Fault) (ρ := Refusal)
      { s with dev := (d.post (.suspendCheck i)).settle }
    let asks := fun (d : Device) (p : Phase) (cmd : DriveCmd) => goesOn (d.modDrive i fun x => { x with
      phase := p, outstanding := [⟨x.cmdNo, s.dev.mu.elapsed, cmd⟩], cmdNo := x.cmdNo + 1 })
    let failed := fun r : DriveResult => r = .mediumError ∨ r = .notReady ∨ r = .blank
    let lost := fun (r : DriveResult) (m : Nat) => if r = .blank ∧ m = 0 then some 0 else none
    (∀ m again, x.outstanding = [⟨n, t, .locate m⟩] → x.phase = .popLocate again →
      (∀ r, x.active = some (.restore r) →
        exec (.locateCompletion i n .ok) s = goesOn (((d (some m)).setDrive i .reading .working).restoreResume r) ∧
        (again = true → ∀ y, failed y →
          exec (.locateCompletion i n y) s = goesOn ((d (lost y m)).endRestore r .drive))) ∧
      (∀ c, x.active = some (.verify c) →
        exec (.locateCompletion i n .ok) s = goesOn (((d (some m)).setDrive i .verifying .working).passResume c) ∧
        (again = true → ∀ y, failed y →
          exec (.locateCompletion i n y) s = goesOn ((d (lost y m)).abandonPass c true))) ∧
      (again = false → ∀ y, failed y →
        exec (.locateCompletion i n y) s = asks (d (lost y m)) (.popLocate true) (.locate m))) ∧
    ∀ f c e, x.active = some (.feed f) → x.cart = some c → s.dev.cart c = some e →
      let eod := e.eod.getD 1
      let good := goesOn (((d e.eod).modDrive i fun x => { x with state := .writing, phase := .working }).feedResumed f)
      let mismatch := fun p => goesOn
        ((((d p).markMismatch c .eodMismatch).raise .eodMismatch (.number c)).spanTrigger f false)
      (∀ m, x.outstanding = [⟨n, t, .locate m⟩] → x.phase = .popAppendLocate →
        (eod ≤ 1 → exec (.locateCompletion i n .ok) s = asks (d (some m)) (.popLabelRead 0) (.read 0)) ∧
        (2 ≤ eod → exec (.locateCompletion i n .ok) s = asks (d (some m)) (.appendRead 0 true) (.read (eod - 1))) ∧
        ∀ r, failed r → exec (.locateCompletion i n r) s = mismatch (lost r m)) ∧
      (∀ m k r block, x.outstanding = [⟨n, t, .read m⟩] → x.phase = .appendRead k true →
        let again := (r = .mediumError ∨ (r = .ok ∧ readBlock block = none)) ∧ k < s.dev.readRetries c
        let p := if r = .ok then some (m + 1) else lost r m
        (again → exec (.readCompletion i n r block) s = asks (d p) (.appendRead (k + 1) true) (.read (eod - 1))) ∧
        (¬again → r = .ok →
          (tailCheck block (eod - 1) e.serial = .good → exec (.readCompletion i n r block) s = good) ∧
          (tailCheck block (eod - 1) e.serial = .final →
            exec (.readCompletion i n r block) s = goesOn (((d p).markFinalized c).spanTrigger f false)) ∧
          (tailCheck block (eod - 1) e.serial = .mismatch → exec (.readCompletion i n r block) s = mismatch p)) ∧
        (¬again → failed r → exec (.readCompletion i n r block) s = mismatch (lost r m))) ∧
      ∀ m k r block, x.outstanding = [⟨n, t, .read m⟩] → x.phase = .popLabelRead k →
        let again := (r = .mediumError ∨ (r = .ok ∧ readBlock block = none)) ∧ k < s.dev.readRetries c
        let p := if r = .ok then some (m + 1) else lost r m
        let found := ∃ b, labelShaped block = some b ∧ b.barcode = e.barcode ∧ b.serial = e.serial
        (again → exec (.readCompletion i n r block) s = asks (d p) (.popLabelRead (k + 1)) (.read 0)) ∧
        (¬again → r = .ok → found → exec (.readCompletion i n r block) s = good) ∧
        (¬again → failed r ∨ (r = .ok ∧ ¬found) → exec (.readCompletion i n r block) s = mismatch p)

/-- The label check's table (R131) and the append check's last block (R132): each outcome of READ 0, read for the last
time, against the entry; and the block at EOD − 1 good, FINAL or a mismatch. That a FINAL block counts only with its
number and serial is log entry 34. Then what a READ completion of the two checks does: MEDIUM_ERROR or a bad trailer is
read again up to the read retries; NOT_READY ends the check with no finding, the entry as it was, and a drive whose claim
has been withdrawn then stands as one whose work has ended (log entry 87); a good label check
hands the drive to a restore or pass, goes on to the append check, or to labelling with the next serial (R133), adopting
a serial where the entry has 0; a mismatch makes a WRITABLE cartridge LOCKED with its reason code, and raises
LABEL_MISMATCH or EOD_MISMATCH; a FEED claim waits again and the cartridge is unmounted, a restore or verify claim
leaves and its owner is told, a FINALIZE ends in the same change (R88, R93), and the cartridge of a host MOVE stays
mounted; FINAL makes the cartridge FINALIZED. An owner told: a restore ends MEDIA, an entry is blocked LABEL (R148,
R166). -/
def Obligations.TheChecksOfAMountEnd : Prop :=
  ((∀ (e : Cart) (scratch : Bool) (block : Bytes) (b : TapeBlock),
     (labelShaped block = some b → b.barcode = e.barcode → e.serial ≠ 0 → b.serial = e.serial →
       labelCheck e scratch .ok block = .good) ∧
     (labelShaped block = some b → b.barcode = e.barcode → e.serial = 0 →
       labelCheck e scratch .ok block = .adopt b.serial) ∧
     (labelShaped block = some b → b.barcode = e.barcode → e.serial ≠ 0 → b.serial ≠ e.serial →
       labelCheck e scratch .ok block = .mismatch) ∧
     (labelShaped block = some b → b.barcode ≠ e.barcode → labelCheck e scratch .ok block = .mismatch) ∧
     labelCheck e true .blank block = .good ∧ labelCheck e false .blank block = .mismatch ∧
     labelCheck e scratch .mediumError block = .mismatch ∧
     (labelShaped block = none → labelCheck e scratch .ok block = .mismatch)) ∧
   ∀ (block : Bytes) (b : TapeBlock) (n : Nat) (serial : Word32), readBlock block = some b →
     (b.number ≠ n ∨ b.serial ≠ serial → tailCheck block n serial = .mismatch) ∧
     (b.number = n → b.serial = serial → b.flags.getLsbD 0 = true → tailCheck block n serial = .final) ∧
     (b.number = n → b.serial = serial → b.flags.getLsbD 0 = false → tailCheck block n serial = .good)) ∧
  ((∀ (s : State) (i : DriveId) (n : BitVec 16) (t m : Nat) (c : CartId) (e : Cart) (r : DriveResult) (block : Bytes),
     (s.dev.drive i).cart = some c → s.dev.cart c = some e → (s.dev.drive i).outstanding = [⟨n, t, .read m⟩] →
     r ≠ .hardwareError → r ≠ .endOfMedium →
     let x := s.dev.drive i
     let after := if r = .ok then some (m + 1) else if r = .blank ∧ m = 0 then some 0 else none
     let d := s.dev.begun.modDrive i fun x => { x with outstanding := [], position := after }
     let goesOn := fun d : Device => Host.Outcome.next (φ := Fault) (ρ := Refusal)
       { s with dev := (d.post (.suspendCheck i)).settle }
     let again := fun k => (r = .mediumError ∨ (r = .ok ∧ readBlock block = none)) ∧ k < s.dev.readRetries c
     let reread := fun (p : Phase) (b : Nat) => goesOn (d.modDrive i fun x => { x with
       phase := p, outstanding := [⟨x.cmdNo, s.dev.mu.elapsed, .read b⟩], cmdNo := x.cmdNo + 1 })
     let onlyRow := fun (d : Device) (y : Cart) =>
       d.row c = (s.dev.row c).after (some y) ∧ ∀ z, z ≠ c → d.row z = s.dev.row z
     let unloads := fun d : Device =>
       (d.drive i).state = .unloading ∧ (d.drive i).phase = .unload ∧ (d.drive i).claim = none ∧
       (d.drive i).outstanding = [⟨x.cmdNo, s.dev.mu.elapsed, .unload⟩]
     let claimWaits := fun (d : Device) (k : Claim) => unloads d ∧
       d.arb.claims = s.dev.arb.claims.map fun y =>
         if y.order = k.order then
           { y with
             kind := k.kind, drive := none, chosen := none, scratch := false, reported := false, prepared := false }
         else y
     let claimLeaves := fun (d : Device) (k : Claim) => d.arb.claims = s.dev.arb.claims.filter fun y => y.order != k.order
     let stays := fun d : Device => (d.drive i).state = .mountedIdle ∧ (d.drive i).cart = some c ∧
       (d.drive i).outstanding = [] ∧ d.arb = s.dev.arb
     let operationEnds := fun (d : Device) (r : FinalizeResult) =>
       d.event .operationEnd = some (raiseEvent (s.dev.event .operationEnd) (.finalizeEnd c r)) ∧
       ∀ k, s.dev.claimOf (.finalize c) = some k → k ∉ d.arb.claims
     let mismatched := { e with
       protection := if e.protection = some Protection.writable then some .locked else e.protection }
     (∀ k, x.phase = .label k →
       (again k → exec (.readCompletion i n r block) s = reread (.label (k + 1)) 0) ∧
       (¬again k → r = .notReady →
         (∀ y, s.dev.assigned i = some y → x.hostIn = false →
           exec (.readCompletion i n r block) s = goesOn ((d.returnClaim i).startUnmount i) ∧
           (d.returnClaim i).media = s.dev.media ∧ (d.returnClaim i).mu = s.dev.mu) ∧
         (s.dev.assigned i = none → x.hostIn = false →
           exec (.readCompletion i n r block) s = goesOn (d.idleOrUnmount i)) ∧
         (x.hostIn = true → ∃ d : Device,
           exec (.readCompletion i n r block) s = .next { s with dev := d.settle } ∧ d.media = s.dev.media ∧
           d.mu = s.dev.mu ∧ stays d)) ∧
       (¬again k → r ≠ .notReady →
         let check := labelCheck e ((s.dev.assigned i).any fun y => y.scratch) r block
         (check = .good → exec (.readCompletion i n r block) s = goesOn (d.labelGood i c)) ∧
         (∀ serial, check = .adopt serial → ∃ d' : Device,
           exec (.readCompletion i n r block) s = goesOn (d'.labelGood i c) ∧ onlyRow d' { e with serial := serial } ∧
           d'.drives = d.drives ∧ d'.arb = d.arb) ∧
         (check = .mismatch → ∃ d' : Device,
           exec (.readCompletion i n r block) s = .next { s with dev := d'.settle } ∧
           d'.event .labelMismatch = some (raiseEvent (s.dev.event .labelMismatch) (.number c)) ∧
           ((∀ z, s.dev.assignedOwner i ≠ some (.finalize z)) →
             onlyRow d' { mismatched with reason := .labelMismatch }) ∧
           (s.dev.assignedOwner i = some (.finalize c) →
             onlyRow d' { mismatched with reason := .labelMismatch, finalizing := false } ∧
             operationEnds d' .labelMismatch ∧ (d'.drive i).state = .unloading) ∧
           (∀ y, s.dev.assigned i = some y →
             (∀ f, y.owner = .feed f → x.hostIn = false → claimWaits d' y) ∧
             (∀ z, y.owner = .restore z → unloads d' ∧ claimLeaves d' y ∧
               Machine.Task.claimFailed (.restore z) ∈ d'.agenda) ∧
             ∀ z, y.owner = .verify z → unloads d' ∧ claimLeaves d' y ∧
               Machine.Task.claimFailed (.verify z) ∈ d'.agenda ∧ Machine.Task.arbiter ∈ d'.agenda) ∧
           (s.dev.assigned i = none → x.hostIn = true → stays d')))) ∧
     ∀ k, x.phase = .appendRead k false →
       let eod := e.eod.getD 1
       let mismatch := r = .blank ∨ r = .mediumError ∨ (r = .ok ∧ tailCheck block (eod - 1) e.serial = .mismatch)
       let final := r = .ok ∧ tailCheck block (eod - 1) e.serial = .final
       (again k → exec (.readCompletion i n r block) s = reread (.appendRead (k + 1) false) (eod - 1)) ∧
       (¬again k → r = .ok → tailCheck block (eod - 1) e.serial = .good →
         exec (.readCompletion i n r block) s = goesOn (d.appendGood i c e)) ∧
       (¬again k → r = .notReady → s.dev.assigned i = none → x.hostIn = false →
         exec (.readCompletion i n r block) s = goesOn (d.idleOrUnmount i)) ∧
       ∀ y, s.dev.assigned i = some y → ¬again k →
         (∀ f, y.owner = .feed f → x.hostIn = false →
           (r = .notReady → ∃ d' : Device, exec (.readCompletion i n r block) s = .next { s with dev := d'.settle } ∧
             d'.media = s.dev.media ∧ d'.mu = s.dev.mu ∧ claimWaits d' y) ∧
           (final → ∃ d' : Device, exec (.readCompletion i n r block) s = .next { s with dev := d'.settle } ∧
             onlyRow d' { e with protection := some .finalized, reason := .none } ∧ claimWaits d' y) ∧
           (mismatch → ∃ d' : Device, exec (.readCompletion i n r block) s = .next { s with dev := d'.settle } ∧
             onlyRow d' { mismatched with reason := .eodMismatch } ∧ claimWaits d' y ∧
             d'.event .eodMismatch = some (raiseEvent (s.dev.event .eodMismatch) (.number c)))) ∧
         (y.owner = .finalize c →
           (final → ∃ d' : Device, exec (.readCompletion i n r block) s = .next { s with dev := d'.settle } ∧
             onlyRow d' { e with protection := some .finalized, reason := .none, finalizing := false } ∧
             operationEnds d' .finalized) ∧
           (mismatch → ∃ d' : Device, exec (.readCompletion i n r block) s = .next { s with dev := d'.settle } ∧
             onlyRow d' { mismatched with reason := .eodMismatch, finalizing := false } ∧
             operationEnds d' .eodMismatch ∧
             d'.event .eodMismatch = some (raiseEvent (s.dev.event .eodMismatch) (.number c))))) ∧
   (∀ (d : Device) (i : DriveId) (c : CartId) (e : Cart) (k : Claim), d.assigned i = some k → d.cart c = some e →
     let handed := fun w : Work => (({ d with
       arb := { d.arb with claims := d.arb.claims.filter fun y => y.order != k.order } } : Device).modDrive i fun x =>
         { x with claim := none, active := some w, idleSince := none }).post (.serve i w)
     (∀ r, k.owner = .restore r → d.labelGood i c = handed (.restore r)) ∧
     (∀ x, k.owner = .verify x → d.labelGood i c = handed (.verify x)) ∧
     (∀ x, k.owner = .finalize x → d.labelGood i c = d.beginAppend i) ∧
     ∀ f p, k.owner = .feed f → k.target = .pool p →
       let job : LabelJob := { serial := if e.serial = 0xFFFFFFFF#32 then 1 else e.serial + 1, pool := p }
       let issues := fun (p : Phase) (cmd : DriveCmd) => d.modDrive i fun x =>
         { x with
           phase := p, outstanding := x.outstanding ++ [⟨x.cmdNo, d.mu.elapsed, cmd⟩], cmdNo := x.cmdNo + 1 }
       (k.scratch = false → d.labelGood i c = d.beginAppend i) ∧
       (k.scratch = true → (d.drive i).position ≠ some 0 → d.labelGood i c = issues (.labelLocate job) (.locate 0)) ∧
       (k.scratch = true → (d.drive i).position = some 0 → e.protection = some .writable → e.full = some false →
         e.pool = some 0 → e.kind = .data → e.eod = none ∨ e.eod = some 1 →
         d.labelGood i c = issues (.labelWrite job) (.write (labelBlock e.barcode job.serial)))) ∧
   ∀ (d : Device),
     (∀ (i : DriveId) (c : CartId), d.assigned i = none → (d.drive i).hostIn = true → d.labelGood i c =
       (d.modDrive i fun x => { x with
         state := .mountedIdle, phase := .rest, active := none, suspendFor := none, hostIn := false,
         idleSince := some d.mu.elapsed }).post .arbiter) ∧
     (∀ r, d.claimFailed (.restore r) = d.endRestore r .media) ∧
     ∀ c e, d.entry? c = some e →
       (d.claimFailed (.verify c)).entry? c = some { e with block := .label, activity := .none } ∧
       (∀ y, y ≠ c → (d.claimFailed (.verify c)).entry? y = d.entry? y) ∧
       Machine.Task.verifySchedule ∈ (d.claimFailed (.verify c)).agenda)

/-! ### The restore unit -/

/-- RESTORE of a part that is neither OPEN nor BAD, with a pin free, a free channel and room in the queue, and a range
within the part (or with FOLLOW past its end): the pin is taken, the entry takes the values of Table 8-1, OK is answered
and the promotion decision is due (R146). That decision: while fewer than 4 entries are active and one is QUEUED, the
first, URGENT before NORMAL and then by arrival, enters CLAIMING and places a claim of class 1 or 5 for its cartridge
(R147). GRANT adds to the channel's count, saturating, and a restore that waits sends (R153); CANCEL_RESTORE ends the
restore CANCELLED (R158); RESTORE_STALL ends one STALLED that has waited for a grant for the stall limit, and nothing
else (R154). The range of the record count is log entry 41, that a count without a first sequence may
end its range beyond 32 bits log entry 64, that an age of exactly the limit is due log entry 6. -/
def Obligations.RestoreCommandsStartFeedAndEnd : Prop :=
  (∀ (s : State) (r : RestoreId), s.dev.link.up = true →
     (∀ (tag : Tag) (p : Part) (before after : List Part) (pr : Priority) (first count : Option Nat) (follow : Bool),
       s.dev.map.parts = before ++ p :: after → (∀ q ∈ before, q.id ≠ p.id) → 1 ≤ p.id → p.id ≤ 0xFFFFFFFF →
       p.lastSeq ≤ 0xFFFFFFFF → p.state ≠ .open → p.state ≠ .bad → p.restorePins < 4 → s.dev.ru.queue.length < 16 →
       (∀ e ∈ s.dev.ru.queue, e.chan ≠ r) → (∀ q, first = some q → p.firstSeq ≤ q ∧ q ≤ p.lastSeq) →
       let start := first.getD p.firstSeq
       (∀ n, count = some n → 1 ≤ n ∧ n ≤ 2 ^ 32 ∧ (first ≠ none → start + n - 1 ≤ 0xFFFFFFFF) ∧
         (follow = true ∨ start + n - 1 ≤ p.lastSeq)) →
       exec (.restore tag (r.val + 33) p.id (.known pr) first count (.known follow)) s =
         .next { s with
           dev := (({ s.dev.begun with
             map := { s.dev.map with
               parts := s.dev.map.parts.map fun q => if q.id = p.id then { q with restorePins := q.restorePins + 1 } else q }
             ru :=
               { queue := s.dev.ru.queue ++
                   [{ chan := r, priority := pr, arrival := s.dev.ru.nextArrival, state := .queued, follow, start,
                      stop := match count with
                        | some n => some (start + n - 1)
                        | none => if follow then none else some p.lastSeq
                      part := p.id, cart := p.cart, next := max start p.firstSeq }],
                 nextArrival := s.dev.ru.nextArrival + 1 }
             link := { s.dev.link with outbound := s.dev.link.outbound ++ [.resp tag .ok [] none] } } : Device).post
               .promote).settle }) ∧
     (∀ n, 1 ≤ n →
       let d : Device := { s.dev.begun with
         link := { s.dev.link with grants := s.dev.link.grants.set r (min 65535 (s.dev.grants r + n)) } }
       ((∀ e, s.dev.restore? r = some e → e.state ≠ .sending) →
         exec (.grant (r.val + 33) n) s = .next { s with dev := d.settle }) ∧
       (∀ e, s.dev.restore? r = some e → e.state = .sending →
         exec (.grant (r.val + 33) n) s = .next { s with dev := (d.sendFrames r).settle })) ∧
     (∀ e tag, s.dev.restore? r = some e → e.state ≠ .ended →
       exec (.cancelRestore tag (r.val + 33)) s =
         .next { s with dev := ((s.dev.begun.respond tag .ok []).endRestore r .cancelled).settle }) ∧
     (∀ e t, s.dev.restore? r = some e → e.state = .sending → e.stall = some t →
       (t + s.dev.mu.params.restoreStallLimit ≤ s.dev.mu.elapsed →
         exec (.restoreStall (r.val + 33)) s = .next { s with dev := (s.dev.begun.endRestore r .stalled).settle }) ∧
       (s.dev.mu.elapsed < t + s.dev.mu.params.restoreStallLimit → exec (.restoreStall (r.val + 33)) s = .next s)) ∧
     ((∀ e, s.dev.restore? r = some e → e.state ≠ .sending) → exec (.restoreStall (r.val + 33)) s = .next s)) ∧
  (∀ d : Device,
    let active := d.ru.queue.filter fun e => e.state != .queued && e.state != .ended
    let sooner := fun a b : Restore => (a.priority = .urgent ∧ b.priority = .normal) ∨
      (a.priority = b.priority ∧ a.arrival < b.arrival)
    (4 ≤ active.length ∨ (∀ e ∈ d.ru.queue, e.state ≠ .queued) → d.promote = d) ∧
    ∀ e ∈ d.ru.queue, active.length < 4 → e.state = .queued →
      (∀ y ∈ d.ru.queue, y.state = .queued → y ≠ e → sooner e y) →
      ∃ tasks, Machine.Task.arbiter ∈ tasks ∧
        let promoted : Device := { d with
          ru := { d.ru with
            queue := d.ru.queue.map fun y => if y.chan = e.chan then { y with state := .claiming } else y }
          arb :=
            { claims := d.arb.claims ++
                [{ order := d.arb.nextOrder, kind := if e.priority = .urgent then .urgent else .normal,
                   owner := .restore e.chan, target := .cart e.cart }],
              nextOrder := d.arb.nextOrder + 1 }
          agenda := tasks }
        d.promote = promoted.promote)

/-- The raw bytes of a record are cut into RDATA frames of 4096 bytes, the last holding the rest: together they are the
record, each begins at its offset, and there are as many as the length calls for; they are sent in offset order, one for
each grant, and the rest wait in SENDING with the stall timer started; with a grant for each, all leave, that many
grants are taken, the stall timer goes, and the restore is READING and handles the next record (R153). The end of a
restore (R157): the entry is ENDED with nothing waiting, its claim, its record in the XE's list and its contexts are
gone, its pin is given back, the drive's work ends, after an outstanding command has completed, the RMARK carries the
status, the part, the chain end and the records missing, to which the undelivered sequences of the part within the range
are added unless the range was read to its end; the grant count becomes 0 and the promotion decision is due. -/
def Obligations.ARestoreSendsItsRecordsAndEnds : Prop :=
  ((∀ raw : Bytes, 1 ≤ raw.length → raw.length ≤ 65536 →
     (recordFrames raw).flatMap (·.2) = raw ∧ (recordFrames raw).length = (raw.length + 4095) / 4096 ∧
     ∀ k f, (recordFrames raw)[k]? = some f →
       f.1 = 4096 * k ∧ 1 ≤ f.2.length ∧ f.2.length ≤ 4096 ∧ (k + 1 < (recordFrames raw).length → f.2.length = 4096)) ∧
   ∀ (d : Device) (r : RestoreId) (e : Restore), d.restore? r = some e → d.grants r < e.frames.length →
     d.sendFrames r =
       { d.modRestore r fun y =>
           { y with state := .sending, frames := e.frames.drop (d.grants r), stall := some d.mu.elapsed } with
         link := { d.link with
           outbound := d.link.outbound ++
             (e.frames.take (d.grants r)).map fun f => .rdata r e.part e.frameSeq f.1 f.2
           grants := d.link.grants.set r 0 } }) ∧
  (∀ (d : Device) (r : RestoreId) (e : Restore), d.restore? r = some e → e.frames.length ≤ d.grants r →
     d.sendFrames r =
       ({ d.modRestore r fun y => { y with state := .reading, frames := [], stall := none } with
         link := { d.link with
           outbound := d.link.outbound ++ e.frames.map fun f => .rdata r e.part e.frameSeq f.1 f.2
           grants := d.link.grants.set r (d.grants r - e.frames.length) } } : Device).restoreGoOn r) ∧
  (∀ (d : Device) (r : RestoreId) (e : Restore) (st : EndStatus), d.restore? r = some e → e.state ≠ .ended →
     let d' := d.endRestore r st
     let missing :=
       if st = .complete ∨ st = .partial_ then e.missing
       else match d.part? e.part with
         | some p => min 0xFFFFFFFF (e.missing + (inRange e p - e.delivered))
         | none => e.missing
     let final : Restore := { e with
       missing, state := .ended, buffer := none, frames := [], stall := none, atXe := none, kept := none, drive := none,
       readPos := none }
     let left := ((((d.modRestore r fun _ => final).withdrawOf (.restore r)).dropXe (.restore r)).dropContext
       (.restore r)).modPart e.part fun p => { p with restorePins := p.restorePins - 1 }
     d' = ((((left.endWorkOf (.restore r)).emit (.rmark r e.part missing st e.chainEnd)).setGrants r 0).post .promote) ∧
     d'.map.parts = d.map.parts.map (fun p =>
       if p.id = e.part then { p with restorePins := p.restorePins - 1 } else p) ∧
     (∀ i, d.driveOf (.restore r) = some i → (d.drive i).outstanding ≠ [] → (d'.drive i).active = none ∧
       (d'.drive i).phase = .ending ∧ (d'.drive i).outstanding = (d.drive i).outstanding) ∧
     (∀ i, d.driveOf (.restore r) = some i → (d.drive i).outstanding = [] →
       left.endWorkOf (.restore r) = left.workEnded i) ∧
     d'.link.outbound = d.link.outbound ++ [.rmark r e.part missing st e.chainEnd] ∧
     d'.grants r = 0 ∧ (∀ y, y ≠ r → d'.grants y = d.grants y) ∧ Machine.Task.promote ∈ d'.agenda ∧
     (∀ k, d.claimOf (.restore r) = some k → k ∉ d'.arb.claims) ∧ (∀ q ∈ d'.xe.requests, q.client ≠ .restore r) ∧
     (∀ i, ∀ k ∈ (d'.drive i).stack, k.work ≠ .restore r) ∧
     ∃ y, d'.restore? r = some y ∧ y.state = .ended ∧ y.frames = [] ∧ y.buffer = none ∧ y.stall = none)

/-- A served claim takes the drive and issues LOCATE of the part's first block, the drive POSITIONING (R148, R149); at
the LOCATE's completion, whatever its result short of a fault, drive and restore are READING and the READ follows
(R149). READ completions of a restore (R151): a good block is buffered and its records handled; MEDIUM_ERROR, BLANK or a
block that fails a check is read again up to the read retries, or held back for a push in progress (R150), and is then
lost, the part SUSPECT and the next block due; NOT_READY ends the restore DRIVE. The records of a block (R152): those of
another job, below the next expected sequence or beyond the range are passed over, and the first other is presented to
the XE with the restore's age; with none left the next block is read. A result (R152, R153): GOOD is sent, another sets
the part BAD. The end of a part (R155): what was not delivered of the range is missing; without FOLLOW, or with the
range covered, the restore ends COMPLETE or PARTIAL. The chain step (R156), with the lowest id that qualifies: the five
outcomes, a part on the same cartridge located at once, one on another claimed anew. That no READ is made while a
suspension is in progress is R150 and R138, that the LOCATE of a chain step is made all the same log entry 66, and that
a record is presented at the count of commands log entry 7. -/
def Obligations.ARestoreReadsItsPartsInOrder : Prop :=
  ((∀ (s : State) (i : DriveId) (n : BitVec 16) (t m : Nat) (r : RestoreId) (e : Restore),
     (s.dev.drive i).outstanding = [⟨n, t, .read m⟩] → (s.dev.drive i).phase = .working →
     (s.dev.drive i).active = some (.restore r) → s.dev.restore? r = some e →
     let block := e.readPos.getD 0
     let serial := ((s.dev.cart e.cart).map fun x => x.serial).getD 0
     let d := fun p : Option Nat => s.dev.begun.modDrive i fun x => { x with outstanding := [], position := p }
     let goesOn := fun d : Device => Host.Outcome.next (φ := Fault) (ρ := Refusal)
       { s with dev := (d.post (.suspendCheck i)).settle }
     let handled := fun d : Device =>
       let d := d.restoreGoOn r
       if (d.drive i).suspendFor ≠ none ∧ (d.drive i).outstanding = [] then d.post (.pushReady i) else d
     (∀ bs, exec (.readCompletion i n .notReady bs) s = goesOn ((d none).endRestore r .drive)) ∧
     (∀ bs records, goodBlock bs block serial = some records →
       exec (.readCompletion i n .ok bs) s = goesOn (handled ((d (some (m + 1))).modRestore r fun e =>
         { e with buffer := some ⟨block, records⟩, retries := 0, readPos := some (block + 1) }))) ∧
     ∀ bs y, (y = .ok ∧ goodBlock bs block serial = none) ∨ y = .mediumError ∨ y = .blank →
       let p := if y = .ok then some (m + 1) else if y = .blank ∧ m = 0 then some 0 else none
       let kept := (d p).modRestore r fun e => { e with retries := e.retries + 1 }
       (e.retries < s.dev.readRetries e.cart →
         ((s.dev.drive i).suspendFor = none →
           exec (.readCompletion i n y bs) s = goesOn (kept.modDrive i fun x => { x with
             outstanding := [⟨x.cmdNo, s.dev.mu.elapsed, .read block⟩], cmdNo := x.cmdNo + 1 })) ∧
         ((s.dev.drive i).suspendFor ≠ none →
           exec (.readCompletion i n y bs) s = goesOn (kept.post (.pushReady i)))) ∧
       (s.dev.readRetries e.cart ≤ e.retries →
         exec (.readCompletion i n y bs) s = goesOn (handled (((d p).modRestore r fun e =>
           { e with retries := 0, readPos := some (block + 1) }).markSuspect e.part)))) ∧
   (∀ (d : Device) (r : RestoreId) (e : Restore) (p : Part), d.restore? r = some e → d.part? e.part = some p →
     let within := fun q => ∀ n, e.stop = some n → q ≤ n
     let wanted := fun q : TapeRecord => q.jobTag = p.jobTag ∧ e.next ≤ q.seq ∧ q.seq ≤ p.lastSeq ∧ within q.seq
     let block := e.readPos.getD p.firstBlock
     (e.state ≠ .reading ∨ e.atXe ≠ none → d.restoreGoOn r = d) ∧
     (e.state = .reading → e.atXe = none →
       (p.lastSeq < e.next ∨ ¬within e.next → d.restoreGoOn r = d.partEnd e p) ∧
       (e.next ≤ p.lastSeq → within e.next →
         (e.buffer = none → p.lastBlock < block → d.restoreGoOn r = d.partEnd e p) ∧
         (∀ i, e.buffer = none → block ≤ p.lastBlock → d.driveOf (.restore r) = some i →
           ((d.drive i).suspendFor ≠ none → d.restoreGoOn r = d.post (.pushReady i)) ∧
           ((d.drive i).suspendFor = none → d.restoreGoOn r = d.modDrive i fun x => { x with
             outstanding := x.outstanding ++ [⟨x.cmdNo, d.mu.elapsed, .read block⟩], cmdNo := x.cmdNo + 1 })) ∧
         (∀ b before q after, e.buffer = some b → b.records = before ++ q :: after → (∀ z ∈ before, ¬wanted z) →
           wanted q → d.restoreGoOn r =
             (let d' := d.modRestore r fun e =>
               { e with next := q.seq, buffer := some { b with records := q :: after }, atXe := some q }
             ({ d' with xe := { d'.xe with requests := d'.xe.requests ++ [⟨.restore r, q, d.moment, e.arrival, false⟩] } } :
               Device).post .xe)) ∧
         (∀ b, e.buffer = some b → (∀ z ∈ b.records, ¬wanted z) →
           d.restoreGoOn r = (d.modRestore r fun e => { e with buffer := none }).restoreGoOn r)))) ∧
   (∀ (d : Device) (r : RestoreId) (e : Restore) (q : TapeRecord), d.restore? r = some e → e.atXe = some q →
     e.state = .reading →
     let taken := d.modRestore r fun e => { e with
       atXe := none, kept := none, next := q.seq + 1,
       buffer := e.buffer.map fun b => { b with records := b.records.tail } }
     (∀ raw crc, d.resultToRestore r (.good raw crc) = (taken.modRestore r fun e =>
       { e with delivered := e.delivered + 1, frameSeq := q.seq, frames := recordFrames raw }).sendFrames r) ∧
     ∀ res, (∀ raw crc, res ≠ .good raw crc) → d.resultToRestore r res = (taken.setBad e.part).restoreGoOn r) ∧
   (∀ (d : Device) (r : RestoreId) (e : Restore) (p : Part), d.restore? r = some e →
     (∀ x ∈ d.ru.queue, x.chan = r → x = e) →
     let inRange := fun p : Part =>
       (match e.stop with | some n => min n p.lastSeq | none => p.lastSeq) + 1 - max e.start p.firstSeq
     let missing := min 0xFFFFFFFF (e.missing + (inRange p - e.delivered))
     let d' := d.modRestore r fun _ => { e with missing, buffer := none }
     let covered := ∃ n, e.stop = some n ∧ n ≤ p.lastSeq
     let status := fun m => if m = 0 then EndStatus.complete else .partial_
     let chainEnds := fun (c : ChainEnd) (m : Nat) =>
       ((d.modRestore r fun _ => { e with missing := m, buffer := none, chainEnd := some c }).endRestore r (status m))
     let follows := fun q : Part => q.jobTag = p.jobTag ∧ q.number = p.number + 1 ∧ q.firstSeq = p.lastSeq + 1
     (e.follow = false ∨ covered → d.partEnd e p = d'.endRestore r (status missing)) ∧
     (e.follow = true → ¬covered →
       ((∀ q ∈ d.map.parts, ¬follows q) → d.partEnd e p = chainEnds .noPart missing) ∧
       ∀ before q after, d.map.parts = before ++ q :: after → (∀ z ∈ before, ¬follows z) → follows q →
         (q.state = .open → d.partEnd e p = chainEnds .open missing) ∧
         (q.state = .bad → d.partEnd e p = chainEnds .bad (min 0xFFFFFFFF (missing + inRange q))) ∧
         (q.state ≠ .open → q.state ≠ .bad → 4 ≤ q.restorePins → d.partEnd e p = chainEnds .pinLimit missing) ∧
         (q.state ≠ .open → q.state ≠ .bad → q.restorePins < 4 →
           let y : Restore := { e with
             missing, part := q.id, cart := q.cart, delivered := 0, next := max e.start q.firstSeq, readPos := none,
             buffer := none }
           let pinned := (d.pinRestore q.id).unpinRestore e.part
           (∀ i, q.cart = e.cart → d.driveOf (.restore r) = some i → d.partEnd e p =
             (pinned.modRestore r fun _ => { y with
               state := .positioning, drive := some i, readPos := some q.firstBlock, retries := 0 }).modDrive i fun x =>
               { x with
                 state := .positioning, active := some (.restore r), phase := .startLocate, idleSince := none,
                 outstanding := x.outstanding ++ [⟨x.cmdNo, d.mu.elapsed, .locate q.firstBlock⟩],
                 cmdNo := x.cmdNo + 1 }) ∧
           (q.cart ≠ e.cart → d.partEnd e p =
             (((pinned.modRestore r fun _ => { y with state := .claiming, drive := none }).endWorkOf
               (.restore r)).placeClaim (if e.priority = .urgent then .urgent else .normal) (.restore r)
                 (.cart q.cart)))))) ∧
   ∀ (d : Device) (w : Work) (i : DriveId), d.driveOf w = some i →
     (d.endWorkOf w = if (d.drive i).outstanding = [] then d.workEnded i
       else d.modDrive i fun x => { x with active := none, phase := .ending, suspendFor := none })) ∧
  (∀ (d : Device) (r : RestoreId) (i : DriveId) (e : Restore) (p : Part), (d.drive i).active = some (.restore r) →
    d.restore? r = some e → d.part? e.part = some p →
    (e.state = .claiming → d.perform (.serve i (.restore r)) =
      (d.modRestore r fun e =>
        { e with state := .positioning, drive := some i, readPos := some p.firstBlock, retries := 0 }).modDrive i fun x =>
        { x with
          state := .positioning, phase := .startLocate, idleSince := none,
          outstanding := x.outstanding ++ [⟨x.cmdNo, d.mu.elapsed, .locate p.firstBlock⟩], cmdNo := x.cmdNo + 1 }) ∧
    (e.state ≠ .claiming → d.perform (.serve i (.restore r)) = d.endWorkOf (.restore r))) ∧
  ∀ (s : State) (i : DriveId) (n : BitVec 16) (t m : Nat) (r : RestoreId) (y : DriveResult),
    (s.dev.drive i).outstanding = [⟨n, t, .locate m⟩] → (s.dev.drive i).phase = .startLocate →
    (s.dev.drive i).active = some (.restore r) →
    y = .ok ∨ y = .mediumError ∨ y = .notReady ∨ y = .blank →
    let found := if y = .ok then some m else if y = .blank ∧ m = 0 then some 0 else none
    exec (.locateCompletion i n y) s = .next { s with
      dev := (((((s.dev.begun.modDrive i fun x =>
        { x with state := .reading, phase := .working, outstanding := [], position := found }).modRestore r fun e =>
          { e with state := .reading }).restoreGoOn r).post (.suspendCheck i))).settle }

/-! ### The verify unit -/

/-- VERIFY_NOW of a cartridge with a CLOSED or SUSPECT part and no pass running: its entry, made if it is absent, takes
the present library time as forced time and deadline at the latest, its block is cleared, its claim and insertion order
stay, other entries too, and a list in order stays in order; OK is answered with the deadline, the entry's place from
the head and its activity; then the overdue test and the scheduling decision are made (R162, R163). ENTRY_OVERDUE raises
VERIFY_OVERDUE once for an entry without a forced time and moves its waiting claim to class 3 (R164). The answer's
moment is log entry 37, the items' names and widths log entry 17, and that ENTRY_OVERDUE changes nothing before its
time, or with nothing left to do, log entry 6. A cartridge's deadline is the least of its forced time and what its due
parts give, a closed one its close time and the pool's interval, a suspect one its suspect time (R161). A notification
inserts, recomputes or removes its entry, the list staying in order, and the test and the decision follow; an entry
whose pass runs stays (R162). The decision's rounds: a class-3 claim for the first overdue entry free to claim while
fewer than 4 activities are, the newest waiting class-7 claim withdrawn for it, and at the end a class-7 claim for the
first free entry unless one waits (R165; a blocked overdue entry is log entry 67). A cartridge OUTSIDE or UNKNOWN blocks
its entry MEDIA, and one in an element other than the picker clears that (R166). The claim of an entry to be removed is
withdrawn also while its mount is in progress (log entry 16), and an entry whose pass runs with nothing due keeps its
deadline (log entry 69). -/
def Obligations.VerifyCommandsForceAndRaise : Prop :=
  (∀ (s : State) (c : CartId),
     (∀ tag, s.dev.link.up = true → s.dev.cart c ≠ none →
       (∃ p ∈ s.dev.map.parts, p.cart = c ∧ (p.state = .closed ∨ p.state = .suspect)) →
       (∀ e, s.dev.entry? c = some e → e.activity ≠ .pass) →
       let sorted := fun l : List VerifyEntry => l.Pairwise fun a b =>
         a.deadline < b.deadline ∨ (a.deadline = b.deadline ∧ a.order ≤ b.order)
       ∃ (d : Device) (before after : List VerifyEntry) (y : VerifyEntry),
         exec (.verifyNow tag c) s = .next { s with dev := (d.overdueTest c).verifySchedule.settle } ∧
         d.vu.list = before ++ y :: after ∧ (∀ z ∈ before, z.cart ≠ c) ∧ (sorted s.dev.vu.list → sorted d.vu.list) ∧
         d.entry? c = some y ∧ y.forced = some s.dev.mu.time ∧ y.block = .none ∧ y.deadline ≤ s.dev.mu.time ∧
         (∀ e, s.dev.entry? c = some e → y.order = e.order ∧ y.activity = e.activity) ∧
         (∀ x, x ≠ c → d.entry? x = s.dev.entry? x) ∧
         let answer := fun activity : String => d.link.outbound = s.dev.link.outbound ++ [.resp tag .ok
           [numItem "DEADLINE" 4 y.deadline, numItem "POSITION" 1 (before.length + 1), nameItem "ACTIVITY" activity]
           none]
         (y.activity = .none → answer "NONE") ∧
         ∀ o k, y.activity = .claim o → s.dev.claim? o = some k → answer ("CLAIM_CLASS_" ++ toString k.kind.cls)) ∧
     (∀ e, s.dev.entry? c = some e → e.deadline ≤ s.dev.mu.time → e.forced = none → e.raised = false →
       ∃ (d : Device), exec (.entryOverdue c) s = .next { s with dev := d.settle } ∧
         d.event .verifyOverdue = some (raiseEvent (s.dev.event .verifyOverdue) (.number c.val)) ∧
         d.entry? c = some { e with raised := true } ∧ (∀ x, x ≠ c → d.entry? x = s.dev.entry? x) ∧
         (∀ k, s.dev.claimOf (.verify c) = some k → k.kind = .verify → k.drive = none →
           d.claimOf (.verify c) = some { k with kind := .overdue })) ∧
     (∀ e, s.dev.entry? c = some e → e.forced ≠ none ∨ e.raised = true →
       (∀ k, s.dev.claimOf (.verify c) = some k → k.kind ≠ .verify ∨ k.drive ≠ none) →
       exec (.entryOverdue c) s = .next s) ∧
     (∀ e, s.dev.entry? c = some e → s.dev.mu.time < e.deadline → exec (.entryOverdue c) s = .next s) ∧
     (s.dev.entry? c = none → exec (.entryOverdue c) s = .next s)) ∧
  (∀ (d : Device) (c : CartId) (forced : Option Nat),
    let interval := match (d.cart c).bind fun e => e.pool with | some p => (d.pool p).interval | none => 0
    let unsettled := fun p : Part => p ∈ d.map.parts ∧ p.cart = c ∧ (p.state = .closed ∨ p.state = .suspect)
    let due := fun p => unsettled p ∧ 0 < interval
    let gives := fun p : Part => if p.state = .suspect then p.suspectTime.getD 0
      else min 0xFFFFFFFF (p.closeTime.getD 0 + 3600 * interval)
    let n := d.deadline c forced
    (n ≤ 0xFFFFFFFF ∧ (∀ t, forced = some t → n ≤ t) ∧ (∀ p, due p → n ≤ gives p) ∧
      (n = 0xFFFFFFFF ∨ forced = some n ∨ ∃ p, due p ∧ gives p = n)) ∧
    (d.belongs c forced = true ↔ (∃ p, due p) ∨ (forced ≠ none ∧ ∃ p, unsettled p))) ∧
  (∀ (d : Device) (c : CartId),
    let sorted := fun l : List VerifyEntry => l.Pairwise fun a b =>
      a.deadline < b.deadline ∨ (a.deadline = b.deadline ∧ a.order ≤ b.order)
    let others := d.vu.list.filter fun e => e.cart != c
    let puts := fun (y : VerifyEntry) (next : Nat) => ∃ before after,
      before ++ after = others ∧ (sorted d.vu.list → sorted (before ++ y :: after)) ∧
      d.verifyNotify c =
        (({ d with vu := { d.vu with list := before ++ y :: after, nextOrder := next } } : Device).overdueTest
          c).verifySchedule
    (d.entry? c = none → d.belongs c none = false → d.verifyNotify c = d) ∧
    (d.entry? c = none → d.belongs c none = true →
      puts ⟨c, d.deadline c none, d.vu.nextOrder, none, false, .none, .none⟩ (d.vu.nextOrder + 1)) ∧
    ∀ e, d.entry? c = some e →
      (d.belongs c e.forced = true → puts { e with deadline := d.deadline c e.forced } d.vu.nextOrder) ∧
      (d.belongs c e.forced = false → e.activity ≠ .pass → d.verifyNotify c =
        (let d' := d.withdrawOf (.verify c)
        (({ d' with vu := { d'.vu with list := others } } : Device).overdueTest c).verifySchedule)) ∧
      (d.belongs c e.forced = false → e.activity = .pass → d.verifyNotify c = d)) ∧
  (∀ (d : Device) (n : Nat),
    let overdue := fun e : VerifyEntry => e.deadline ≤ d.mu.time
    let free := fun e : VerifyEntry => e.activity = .none ∧ e.block = .none
    let activities := (d.vu.list.filter fun e => e.activity != .none).length
    let waits := fun k : Claim => k.kind = .verify ∧ k.drive = none
    let claims := fun (e : VerifyEntry) (kind : ClaimKind) =>
      (d.modEntry e.cart fun y => { y with activity := .claim d.arb.nextOrder }).placeClaim kind (.verify e.cart)
        (.cart e.cart)
    d.verifySchedule = Device.scheduleLoop 9 d ∧
    (∀ before e after, d.vu.list = before ++ e :: after → (∀ z ∈ before, ¬(free z ∧ overdue z)) → free e → overdue e →
      (activities < 4 → Device.scheduleLoop (n + 1) d = Device.scheduleLoop n (claims e .overdue)) ∧
      (4 ≤ activities →
        (∀ older k newer c, d.arb.claims = older ++ k :: newer → waits k → (∀ z ∈ newer, ¬waits z) →
          k.owner = .verify c → Device.scheduleLoop (n + 1) d = Device.scheduleLoop n
            ((d.withdrawOf (.verify c)).modEntry c fun y => { y with activity := .none })) ∧
        ((∀ k ∈ d.arb.claims, ¬waits k) → Device.scheduleLoop (n + 1) d = d))) ∧
    ((∀ z ∈ d.vu.list, ¬(free z ∧ overdue z)) →
      (activities < 4 → (∀ k ∈ d.arb.claims, ¬waits k) →
        (∀ before e after, d.vu.list = before ++ e :: after → (∀ z ∈ before, ¬free z) → free e →
          Device.scheduleLoop (n + 1) d = claims e .verify) ∧
        ((∀ z ∈ d.vu.list, ¬free z) → Device.scheduleLoop (n + 1) d = d)) ∧
      (4 ≤ activities ∨ (∃ k ∈ d.arb.claims, waits k) → Device.scheduleLoop (n + 1) d = d))) ∧
  ∀ (d : Device) (c : CartId) (e : VerifyEntry) (x : Cart), d.entry? c = some e → d.cart c = some x →
    let d' := d.perform (.location c)
    (∀ k, x.location = .outside ∨ x.location = .unknown →
      (d.arb.claims.filter fun k => k.drive.isNone && k.target == .cart c) = [k] → k.owner = .verify c →
      d.claimOf (.verify c) = some k → d.claimOf (.finalize c) = none → d.driveOf (.finalize c) = none →
      d'.entry? c = some { e with activity := .none, block := .media } ∧ k ∉ d'.arb.claims ∧
      Machine.Task.verifySchedule ∈ d'.agenda) ∧
    (∀ y, x.location = .at y → y ≠ 0 → e.block = .media →
      d'.entry? c = some { e with block := .none } ∧ Machine.Task.verifySchedule ∈ d'.agenda) ∧
    (∀ y, x.location = .at y → y = 0 ∨ e.block ≠ .media → d' = d.post .arbiter)

/-- A pass starts at its served claim (R167): the due parts, or with a forced time every CLOSED or SUSPECT one, in
ascending first block, at most 64, those whose pin is free pinned and recorded, the range from the smallest first block
to the largest last; LOCATE of the first, the drive POSITIONING, or the end at once without a part; at the LOCATE's
completion, whatever its result short of a fault, the pass is READING, the drive VERIFYING, and the READ follows. READ
completions of a pass (R168): a good block is buffered and its records handled; MEDIUM_ERROR, BLANK or a block that
fails a check is read again up to the read retries, or held back for a push in progress (R171), and is then lost: every
part that covers it and has not failed is failed and set BAD, in the pass's order (log entry 76), and the next block is
due; NOT_READY abandons the pass. The records of a block in order (R169): each belongs to the part of lowest id that
covers it; of one that belongs to none, to a failed part or to one now BAD nothing comes; one out of sequence fails its
part; one in sequence is presented to the XE with the entry's age, at the count of commands (log entry 7); with none
left the next block is read, or the pass ends. A result: GOOD adds its CRC to the accumulated check, another fails the
part. The end of a pass (R170): each part left is set VERIFIED with its sequence and check complete, and otherwise BAD;
the pins, the context, the entry, the drive and the scheduling decision in turn, the overdue test and that decision
before the drive's work ends (log entry 68). The abandonment (R172): record, contexts, pins, context and activity given
up, the entry otherwise as it was (log entry 77). -/
def Obligations.APassReadsComparesAndEnds : Prop :=
  ((∀ (s : State) (i : DriveId) (n : BitVec 16) (t m : Nat) (c : CartId) (p : Pass),
     (s.dev.drive i).outstanding = [⟨n, t, .read m⟩] → (s.dev.drive i).phase = .working →
     (s.dev.drive i).active = some (.verify c) → s.dev.pass? c = some p →
     let block := p.readPos
     let serial := ((s.dev.cart c).map fun x => x.serial).getD 0
     let d := fun p : Option Nat => s.dev.begun.modDrive i fun x => { x with outstanding := [], position := p }
     let goesOn := fun d : Device => Host.Outcome.next (φ := Fault) (ρ := Refusal)
       { s with dev := (d.post (.suspendCheck i)).settle }
     let handled := fun d : Device =>
       let d := d.passGoOn c
       if (d.drive i).suspendFor ≠ none ∧ (d.drive i).outstanding = [] then d.post (.pushReady i) else d
     (∀ bs, exec (.readCompletion i n .notReady bs) s = goesOn ((d none).abandonPass c true)) ∧
     (∀ bs records, goodBlock bs block serial = some records →
       exec (.readCompletion i n .ok bs) s = goesOn (handled ((d (some (m + 1))).modPass c fun p =>
         { p with buffer := some ⟨block, records⟩, retries := 0, readPos := block + 1 }))) ∧
     ∀ bs y, (y = .ok ∧ goodBlock bs block serial = none) ∨ y = .mediumError ∨ y = .blank →
       let at_ := if y = .ok then some (m + 1) else if y = .blank ∧ m = 0 then some 0 else none
       let kept := (d at_).modPass c fun p => { p with retries := p.retries + 1 }
       (p.retries < s.dev.readRetries c →
         ((s.dev.drive i).suspendFor = none →
           exec (.readCompletion i n y bs) s = goesOn (kept.modDrive i fun x => { x with
             outstanding := [⟨x.cmdNo, s.dev.mu.elapsed, .read block⟩], cmdNo := x.cmdNo + 1 })) ∧
         ((s.dev.drive i).suspendFor ≠ none →
           exec (.readCompletion i n y bs) s = goesOn (kept.post (.pushReady i)))) ∧
       (s.dev.readRetries c ≤ p.retries →
         exec (.readCompletion i n y bs) s = goesOn (handled (((d at_).modPass c fun p =>
           { p with retries := 0, readPos := block + 1 }).passLost c block)))) ∧
   (∀ (d : Device) (c : CartId) (id : Nat),
     d.failPart c id = (d.modPass c fun p => { p with
       parts := p.parts.map fun q => if q.id = id then { q with failed := true } else q }).setBad id ∧
     ∀ n p, d.pass? c = some p → d.passLost c n =
       (p.parts.filter fun q => decide (q.firstBlock ≤ n ∧ n ≤ q.lastBlock ∧ q.failed = false)).foldl
         (fun d q => d.failPart c q.id) d) ∧
   (∀ (d : Device) (c : CartId) (p : Pass), d.pass? c = some p →
     let order := ((d.entry? c).map fun e => e.order).getD 0
     let belongs := fun (n : Nat) (q : TapeRecord) (x : PassPart) => x ∈ p.parts ∧ x.jobTag = q.jobTag ∧
       x.firstSeq ≤ q.seq ∧ q.seq ≤ x.lastSeq ∧ x.firstBlock ≤ n ∧ n ≤ x.lastBlock
     let owner := fun (n : Nat) (q : TapeRecord) (x : PassPart) => belongs n q x ∧ ∀ y, belongs n q y → x.id ≤ y.id
     let live := fun x : PassPart => x.failed = false ∧ ∀ z, d.part? x.id = some z → z.state ≠ .bad
     let buffered := fun (d : Device) (b : Option Buffer) => d.modPass c fun p => { p with buffer := b }
     (p.state ≠ .reading ∨ p.atXe ≠ none → d.passGoOn c = d) ∧
     (p.state = .reading → p.atXe = none →
       (p.buffer = none → p.last < p.readPos → d.passGoOn c = d.endPass c) ∧
       (∀ i, p.buffer = none → p.readPos ≤ p.last → d.driveOf (.verify c) = some i →
         ((d.drive i).suspendFor ≠ none → d.passGoOn c = d.post (.pushReady i)) ∧
         ((d.drive i).suspendFor = none → d.passGoOn c = d.modDrive i fun x => { x with
           outstanding := x.outstanding ++ [⟨x.cmdNo, d.mu.elapsed, .read p.readPos⟩], cmdNo := x.cmdNo + 1 })) ∧
       (∀ n, p.buffer = some ⟨n, []⟩ → d.passGoOn c = (buffered d none).passGoOn c) ∧
       ∀ n q qs, p.buffer = some ⟨n, q :: qs⟩ → (p.parts.map fun x => x.id).Nodup →
         let next := (buffered d (some ⟨n, qs⟩)).passGoOn c
         ((∀ x, belongs n q x → False) → d.passGoOn c = next) ∧
         ∀ x, owner n q x →
           (¬live x → d.passGoOn c = next) ∧
           (live x → q.seq ≠ x.next → d.passGoOn c = ((buffered d (some ⟨n, qs⟩)).failPart c x.id).passGoOn c) ∧
           (live x → q.seq = x.next → d.passGoOn c =
             (let d' := d.modPass c fun p => { p with buffer := some ⟨n, q :: qs⟩, atXe := some (x.id, q) }
             ({ d' with xe := { d'.xe with requests := d'.xe.requests ++ [⟨.pass c, q, d.moment, order, false⟩] } } :
               Device).post .xe)))) ∧
   (∀ (d : Device) (c : CartId) (p : Pass) (id : Nat) (q : TapeRecord), d.pass? c = some p →
     p.atXe = some (id, q) → p.state = .reading →
     let taken := d.modPass c fun p => { p with
       atXe := none, kept := none, buffer := p.buffer.map fun b => { b with records := b.records.tail } }
     (∀ raw crc, d.resultToPass c (.good raw crc) = (taken.modPass c fun p => { p with
       parts := p.parts.map fun x => if x.id = id then { x with acc := x.acc + crc, next := q.seq + 1 } else x }).passGoOn
         c) ∧
     ∀ res, (∀ raw crc, res ≠ .good raw crc) → d.resultToPass c res = (taken.failPart c id).passGoOn c) ∧
   (∀ (d : Device) (p : PassPart) (x : Part), d.part? p.id = some x →
     (p.failed = true ∨ x.state = .bad → d.settlePart p = d) ∧
     (p.failed = false → x.state ≠ .bad →
       (p.next = p.lastSeq + 1 → x.check = p.acc → d.settlePart p = d.setVerified p.id) ∧
       (p.next ≠ p.lastSeq + 1 ∨ x.check ≠ p.acc → d.settlePart p = d.setBad p.id))) ∧
   ∀ (d : Device) (c : CartId) (p : Pass), d.pass? c = some p →
     let freed := fun d : Device =>
       let d := p.parts.foldl (fun d q => d.unpinVerify q.id) d
       ({ d with vu := { d.vu with passes := d.vu.passes.filter fun x => x.cart != p.cart } } : Device).post .arbiter
     (let settled := freed (p.parts.foldl Device.settlePart d)
     d.endPass c = ((((settled.modEntry c fun e =>
       { e with activity := .none, forced := none, raised := false }).verifyNotify c).endWorkOf (.verify c)).post
         .verifySchedule)) ∧
     ∀ work, (p.cart = c →
       (d.abandonPass c work).pass? c = none ∧
       (∀ q ∈ (d.abandonPass c work).xe.requests, q.client ≠ .pass c) ∧
       (∀ i, ∀ k ∈ ((d.abandonPass c work).drive i).stack, k.work ≠ .verify c) ∧
       (∀ q ∈ p.parts, ∀ x, (d.abandonPass c work).part? q.id = some x → x.verifyPin = false) ∧
       (∀ e, d.entry? c = some e → (d.abandonPass c work).entry? c = some { e with activity := .none }) ∧
       (∀ y, y ≠ c → (d.abandonPass c work).entry? y = d.entry? y) ∧
       Machine.Task.verifySchedule ∈ (d.abandonPass c work).agenda ∧ Machine.Task.arbiter ∈ (d.abandonPass c work).agenda)) ∧
  (∀ (d : Device) (c : CartId) (i : DriveId) (e : VerifyEntry), (d.drive i).active = some (.verify c) →
    d.entry? c = some e → (∀ p ∈ d.map.parts, p.firstBlock ≤ 0xFFFFFFFF) →
    let interval := match (d.cart c).bind fun e => e.pool with | some p => (d.pool p).interval | none => 0
    let candidates := d.map.parts.filter fun p => decide
      (p.cart = c ∧ (p.state = .closed ∨ p.state = .suspect) ∧ (e.forced ≠ none ∨ 0 < interval))
    ∃ (order : List Part) (first last : Nat),
      order.Perm candidates ∧
      (order.Pairwise fun a b => a.firstBlock < b.firstBlock ∨ (a.firstBlock = b.firstBlock ∧ a.id ≤ b.id)) ∧
      let taken := (order.take 64).filter fun p => !p.verifyPin
      let pass : Pass :=
        { cart := c, drive := i, state := .positioning, first := first, last := last, readPos := first
          parts := taken.map fun p =>
            { id := p.id, jobTag := p.jobTag, firstBlock := p.firstBlock, lastBlock := p.lastBlock,
              firstSeq := p.firstSeq, lastSeq := p.lastSeq, next := p.firstSeq, acc := 0, failed := false } }
      let held := ({ d with
        map := { d.map with
          parts := d.map.parts.map fun p => if p.id ∈ taken.map (fun q => q.id) then { p with verifyPin := true } else p }
        vu := { d.vu with passes := d.vu.passes ++ [pass] } } : Device).modEntry c fun e => { e with activity := .pass }
      (taken = [] → d.perform (.serve i (.verify c)) = held.endPass c) ∧
      (taken ≠ [] →
        (∀ p ∈ taken, first ≤ p.firstBlock ∧ p.lastBlock ≤ last) ∧ (∃ p ∈ taken, p.firstBlock = first) ∧
        (∃ p ∈ taken, p.lastBlock = last) ∧
        d.perform (.serve i (.verify c)) = held.modDrive i fun x =>
          { x with
            state := .positioning, phase := .startLocate, idleSince := none,
            outstanding := x.outstanding ++ [⟨x.cmdNo, d.mu.elapsed, .locate first⟩], cmdNo := x.cmdNo + 1 })) ∧
  ∀ (s : State) (i : DriveId) (n : BitVec 16) (t m : Nat) (c : CartId) (y : DriveResult),
    (s.dev.drive i).outstanding = [⟨n, t, .locate m⟩] → (s.dev.drive i).phase = .startLocate →
    (s.dev.drive i).active = some (.verify c) →
    y = .ok ∨ y = .mediumError ∨ y = .notReady ∨ y = .blank →
    let found := if y = .ok then some m else if y = .blank ∧ m = 0 then some 0 else none
    exec (.locateCompletion i n y) s = .next { s with
      dev := ((((s.dev.begun.modDrive i fun x =>
        { x with state := .verifying, phase := .working, outstanding := [], position := found }).modPass c fun p =>
          { p with state := .reading }).passGoOn c).post (.suspendCheck i)).settle }

/-! ### The formats -/

/-- What the device writes to tape it reads back (R187, R190): the image of a data block of records whose fields fit
their places, with its number and serial, passes the trailer, the header and the record walk, and gives exactly its
records, in order; a label block is label-shaped and carries the barcode and serial; a FINAL block is found FINAL at its
place, and a data block good. -/
def Obligations.TapeBlocksReadBack : Prop :=
  (∀ (b : Block) (n : Nat) (serial : Word32), n < 2 ^ 32 → b.used = (b.records.map fun r => 24 + r.storedLen).sum →
    b.used ≤ 262108 →
    (∀ r ∈ b.records, r.storedLen = r.stored.length ∧ r.jobTag < 2 ^ 32 ∧ r.seq < 2 ^ 32 ∧ r.rawLen < 2 ^ 32) →
    (dataBlock b n serial).image.length = 262144 ∧
    goodBlock (dataBlock b n serial).image n serial =
      some (b.records.map fun r =>
        { jobTag := r.jobTag, seq := r.seq, rawLen := r.rawLen, storedLen := r.storedLen, rawCrc := r.rawCrc,
          method := match r.method with | .compressed => 0x43 | .stored => 0x53,
          flags := if r.gap then 1 else 0, stored := r.stored }) ∧
    tailCheck (dataBlock b n serial).image n serial = .good) ∧
  (∀ (barcode : Bytes) (serial : Word32), barcode.length = 8 →
    ∃ b, labelShaped (labelBlock barcode serial).image = some b ∧ b.barcode = barcode ∧ b.serial = serial ∧ b.used = 8) ∧
  ∀ (n : Nat) (serial : Word32), n < 2 ^ 32 → tailCheck (finalBlock n serial).image n serial = .final

/-- Frames laid out as Tables 11-1 and 11-2 have them are read as the commands they are (R175, R188, R189), whatever
their attention bit: DATA and the two marks on a stream channel, GRANT on a restore channel, and on channel 0 the
requests POLL and READ_SEGMENT, shown for all. A frame is refused whole for its length, its length field, its frame
check, a channel above 40, a kind its channel does not take, and a MARK, GRANT or REQ body of no such form. A REQ whose
items cannot be read to the end of the body, do not begin with NAME, or repeat a name, whose request is none of Table
10-1, or whose arguments are not that request's, is an unknown request, answered BAD_ARGUMENT (R174, R189). The CRC-32
has R187's check value. -/
def Obligations.InboundFramesAreReadAsLaidOut : Prop :=
  (∀ (flags : Byte),
    (∀ ch (p : Bytes), 1 ≤ ch → ch ≤ 32 → 1 ≤ p.length → p.length ≤ 4108 →
      Decode.frameCommand (frameBytes ch 0x01 flags p) = .data ch p) ∧
    (∀ ch, 1 ≤ ch → ch ≤ 32 →
      Decode.frameCommand (frameBytes ch 0x02 flags [0x01]) = .markCut ch ∧
      Decode.frameCommand (frameBytes ch 0x02 flags [0x02]) = .markEnd ch) ∧
    (∀ ch n, 33 ≤ ch → ch ≤ 40 → n ≤ 65535 →
      Decode.frameCommand (frameBytes ch 0x04 flags (leBytes 2 n)) = .grant ch n) ∧
    (∀ tag : Tag,
      Decode.frameCommand (frameBytes 0 0x05 flags
        (leBytes 2 tag.toNat ++ itemsBytes [⟨ascii "NAME", ascii "POLL"⟩])) = .poll tag ∧
      ∀ n, n ≤ 0xFFFFFFFF →
        Decode.frameCommand (frameBytes 0 0x05 flags
          (leBytes 2 tag.toNat ++
            itemsBytes [⟨ascii "NAME", ascii "READ_SEGMENT"⟩, ⟨ascii "PART_ID", leBytes 4 n⟩])) = .readSegment tag n)) ∧
  (∀ f : Bytes, f.length < 10 ∨ 4117 < f.length ∨ leNat (f.take 2) ≠ f.length ∨
      BitVec.ofNat 32 (leNat (f.drop (f.length - 4))) ≠ crc32 (f.take (f.length - 4)) →
    Decode.frameCommand f = .frameRefused f) ∧
  (∀ (ch : Nat) (kind flags : Byte) (p : Bytes), ch ≤ 255 →
    let f := frameBytes ch kind flags p
    let takes := (1 ≤ ch ∧ ch ≤ 32 ∧ (kind = 0x01 ∨ (kind = 0x02 ∧ (p = [0x01] ∨ p = [0x02])))) ∨
      (33 ≤ ch ∧ ch ≤ 40 ∧ kind = 0x04 ∧ p.length = 2) ∨ (ch = 0 ∧ kind = 0x05 ∧ 2 ≤ p.length)
    ¬takes → Decode.frameCommand f = .frameRefused f) ∧
  (∀ (flags : Byte) (tag : Tag) (b : Bytes), b.length ≤ 4106 →
    let names := ["OPEN_STREAM", "ABORT_STREAM", "LOAD_POOL", "LOAD_CARTRIDGE", "LOCK", "UNLOCK", "HOLD", "FINALIZE",
      "RECYCLE", "INVENTORY", "MOVE", "RESTORE", "CANCEL_RESTORE", "VERIFY_NOW", "LOAD_SEGMENT", "RELEASE_SEGMENT",
      "READ_SEGMENT", "LIST_SEGMENTS", "READ_CARTRIDGE", "READ_ELEMENT", "READ_DRIVE", "READ_FEED", "READ_STREAM",
      "SET_PARAM", "SET_TIME", "POLL", "RESET"]
    let readable := fun is : List Item => ∀ x ∈ is, 1 ≤ x.name.length ∧ x.name.length ≤ 32 ∧ x.value.length ≤ 4096 ∧
      ∀ z ∈ x.name, (0x41 ≤ z.toNat ∧ z.toNat ≤ 0x5A) ∨ (0x30 ≤ z.toNat ∧ z.toNat ≤ 0x39) ∨ z.toNat = 0x5F
    let unknown := Decode.frameCommand (frameBytes 0 0x05 flags (leBytes 2 tag.toNat ++ b)) = .unknownRequest tag b
    (b = [] → unknown) ∧ (∀ l rest, b = l :: rest → l.toNat = 0 ∨ 32 < l.toNat → unknown) ∧
    ∀ is, readable is →
      (∀ z, b = itemsBytes is ++ [z] → unknown) ∧
      (b = itemsBytes is →
        (∀ x rest, is = x :: rest → x.name ≠ ascii "NAME" → unknown) ∧
        (¬(is.map fun x => x.name).Nodup → unknown) ∧
        (∀ x rest, is = x :: rest → (∀ n ∈ names, x.value ≠ ascii n) → unknown) ∧
        (∀ x rest, is = x :: rest → x.value = ascii "POLL" → rest ≠ [] → unknown) ∧
        (∀ x rest, is = x :: rest → x.value = ascii "READ_SEGMENT" →
          (∀ y ∈ rest, y.name ≠ ascii "PART_ID") ∨ (∃ y ∈ rest, y.name ≠ ascii "PART_ID") ∨
            (∃ y ∈ rest, y.value.length = 0 ∨ 8 < y.value.length) → unknown))) ∧
  crc32 [] = 0 ∧ crc32 (ascii "123456789") = 0xCBF43926
end

