-- ==== Sys2Proof/Laws/Blocks.lean ====
section
/-!
SUPPORT. What a block as written reads back as: numbers laid out little-endian, the header's fields, the payload.
-/
namespace Sys2Proof.Machine
open Sys2Proof

@[simp] theorem leBytes_length (n v : Nat) : (leBytes n v).length = n := by
  induction n generalizing v with
  | zero => rfl
  | succ n ih => simp [leBytes, ih]

/-- A number laid out in `n` bytes reads back modulo 256 ^ n (section 0.6). -/
theorem leNat_leBytes (n v : Nat) : leNat (leBytes n v) = v % 256 ^ n := by
  induction n generalizing v with
  | zero => simp [leBytes, leNat, Nat.mod_one]
  | succ n ih =>
    have h : (BitVec.ofNat 8 v).toNat = v % 256 := BitVec.toNat_ofNat v 8
    rw [leBytes, leNat, ih, h, Nat.pow_succ, Nat.mul_comm (256 ^ n) 256, Nat.mod_mul]

/-- A number that fits its `n` bytes reads back. -/
theorem leNat_leBytes_of_lt {n v : Nat} (h : v < 256 ^ n) : leNat (leBytes n v) = v := by
  rw [leNat_leBytes, Nat.mod_eq_of_lt h]

/-- A 32-bit word laid out in 4 bytes reads back. -/
@[simp] theorem leNat_word (w : Word32) : BitVec.ofNat 32 (leNat (leBytes 4 w.toNat)) = w := by
  rw [leNat_leBytes_of_lt (by have := w.isLt; omega)]
  simp

/-- The payload of a block, padded with zero bytes to its place (section 11.3). -/
def TapeBlock.padded (b : TapeBlock) : Bytes :=
  b.payload ++ List.replicate (Config.blockPayload - b.payload.length) 0#8

/-- A block's bytes, field by field, and their check: what they read back as. -/
theorem readBlock_fields (k f : Byte) (a b c d z p : Bytes) (w : Word32) (ha : a.length = 2) (hb : b.length = 4)
    (hc : c.length = 4) (hd : d.length = 4) (hz : z.length = 16) (hp : p.length = Config.blockPayload)
    (hw : crc32 (k :: f :: (a ++ (b ++ (c ++ (d ++ (z ++ p)))))) = w) :
    readBlock (k :: f :: (a ++ (b ++ (c ++ (d ++ (z ++ p))))) ++ leBytes 4 w.toNat) =
      some { kind := k, flags := f, count := leNat a, number := leNat b, serial := BitVec.ofNat 32 (leNat c),
             used := leNat d, payload := p, trailer := w } := by
  have hl : (k :: f :: (a ++ (b ++ (c ++ (d ++ (z ++ p)))))).length = Config.blockBytes - 4 := by
    simp [ha, hb, hc, hd, hz, hp, Config.blockPayload, Config.blockBytes]
  have htake : (k :: f :: (a ++ (b ++ (c ++ (d ++ (z ++ p))))) ++ leBytes 4 w.toNat).take (Config.blockBytes - 4) =
      k :: f :: (a ++ (b ++ (c ++ (d ++ (z ++ p))))) := by rw [← hl, List.take_left]
  have hdrop : (k :: f :: (a ++ (b ++ (c ++ (d ++ (z ++ p))))) ++ leBytes 4 w.toNat).drop (Config.blockBytes - 4) =
      leBytes 4 w.toNat := by rw [← hl, List.drop_left]
  have hlen : (k :: f :: (a ++ (b ++ (c ++ (d ++ (z ++ p))))) ++ leBytes 4 w.toNat).length = Config.blockBytes := by
    rw [List.length_append, hl, leBytes_length]; rfl
  rw [readBlock, htake, hdrop, hlen, hw, leNat_word, if_pos ⟨rfl, rfl⟩]
  simp only [List.cons_append, List.append_assoc, List.headD_cons, List.drop_succ_cons, List.drop_zero]
  have nil : ∀ (x : Bytes) (n : Nat), x.length ≤ n → x.drop n = [] := fun x n h => List.drop_eq_nil_of_le h
  simp [List.drop_append, ha, hb, hc, hd, hz, nil a, nil b, nil c, nil d]

/-- A block as the device writes it reads back as it is, its payload padded (R187, section 11.3). -/
theorem readBlock_image (b : TapeBlock) (hp : b.payload.length ≤ Config.blockPayload) (hc : b.count < 2 ^ 16)
    (hn : b.number < 2 ^ 32) (hu : b.used < 2 ^ 32) :
    readBlock b.sealed.image = some { b.sealed with payload := b.padded } := by
  have hbody : b.body = b.kind :: b.flags :: (leBytes 2 b.count ++ (leBytes 4 b.number ++ (leBytes 4 b.serial.toNat ++
      (leBytes 4 b.used ++ (List.replicate 16 0#8 ++ b.padded))))) := by
    simp only [TapeBlock.body, TapeBlock.padded, List.cons_append, List.nil_append, List.append_assoc]
  have himage : b.sealed.image = b.body ++ leBytes 4 (crc32 b.body).toNat := rfl
  have hpad : b.padded.length = Config.blockPayload := by
    rw [TapeBlock.padded, List.length_append, List.length_replicate]; omega
  rw [himage, hbody, readBlock_fields _ _ _ _ _ _ _ _ _ (leBytes_length ..) (leBytes_length ..) (leBytes_length ..)
    (leBytes_length ..) (List.length_replicate ..) hpad rfl, ← hbody, leNat_leBytes_of_lt hc, leNat_leBytes_of_lt hn,
    leNat_word, leNat_leBytes_of_lt hu]
  rfl

end Sys2Proof.Machine
end

