-- ==== Sys2Proof/Laws/Commands.lean ====
section
/-!
SUPPORT. What each way of carrying out a command can do: one lemma per shared form (`just`, `run`, `runIf`, `request`,
`answer`, `inbound`), saying once every state it can answer; and, from those, that a property of the device which a
RESP, the count of a command and every decision keep is kept by a command that keeps it.
-/
namespace Sys2Proof.Machine

variable {s t : State} {g : Device → Device} {tag : Tag} {r : Option RefusalOf}

theorem State.just_next : s.just g = .next t ↔ t = { s with dev := g s.dev } := by
  simp only [State.just, Host.Outcome.next.injEq]; exact eq_comm

theorem State.run_next : s.run g = .next t ↔ t = { s with dev := (g s.dev.begun).settle } := by
  simp only [State.run, Device.begun, Host.Outcome.next.injEq]; exact eq_comm

/-- A timer command: its effect when it is due, and nothing otherwise. -/
theorem State.runIf_next {due : Bool} :
    s.runIf due g = .next t ↔
      (due = true ∧ t = { s with dev := (g s.dev.begun).settle }) ∨ (due = false ∧ t = s) := by
  cases due with
  | true => simp [State.runIf, State.run_next]
  | false => simp [State.runIf, eq_comm]

/-- A request: not taken while the link is down (R185), refused with its RESP alone (R174), or carried out. -/
theorem State.request_next :
    s.request tag r g = .next t ↔
      (s.dev.link.up = false ∧ t = s) ∨
      (s.dev.link.up = true ∧ (∃ x, r = some x ∧ t = { s with dev := s.dev.respond tag x.status x.items })) ∨
      (s.dev.link.up = true ∧ r = none ∧ t = { s with dev := (g s.dev.begun).settle }) := by
  unfold State.request
  cases s.dev.link.up with
  | false => simp [eq_comm]
  | true => cases r <;> simp [State.just_next, State.run_next]

/-- A reading request: not taken while the link is down (R185), refused, or answered with its results. -/
theorem State.answer_next {items : Device → List Item} :
    s.answer tag r items = .next t ↔
      (s.dev.link.up = false ∧ t = s) ∨
      (s.dev.link.up = true ∧ (∃ x, r = some x ∧ t = { s with dev := s.dev.respond tag x.status x.items })) ∨
      (s.dev.link.up = true ∧ r = none ∧ t = { s with dev := s.dev.respond tag .ok (items s.dev) }) := by
  unfold State.answer
  cases s.dev.link.up with
  | false => simp [eq_comm]
  | true => cases r <;> simp [State.just_next]

/-- An inbound frame: not taken while the link is down (R185). -/
theorem State.inbound_next {o : Host.Outcome State Fault Refusal} :
    s.inbound o = .next t ↔ (s.dev.link.up = false ∧ t = s) ∨ (s.dev.link.up = true ∧ o = .next t) := by
  unfold State.inbound
  cases s.dev.link.up <;> simp [eq_comm]

/-- A property of the device that a RESP, the count of a command and every decision keep. -/
structure Kept (P : Device → Prop) : Prop where
  respond : ∀ d tag st is, P d → P (d.respond tag st is)
  begun : ∀ d, P d → P d.begun
  settle : ∀ d, P d → P d.settle

namespace Kept

variable {P : Device → Prop}

theorem run (k : Kept P) (hs : P s.dev) (hg : ∀ d, P d → P (g d)) (h : s.run g = .next t) : P t.dev := by
  rw [State.run_next] at h; subst h; exact k.settle _ (hg _ (k.begun _ hs))

theorem runIf {due : Bool} (k : Kept P) (hs : P s.dev) (hg : ∀ d, P d → P (g d)) (h : s.runIf due g = .next t) :
    P t.dev := by
  rcases State.runIf_next.mp h with ⟨-, rfl⟩ | ⟨-, rfl⟩
  · exact k.settle _ (hg _ (k.begun _ hs))
  · exact hs

theorem request (k : Kept P) (hs : P s.dev) (hg : r = none → P s.dev.begun → P (g s.dev.begun))
    (h : s.request tag r g = .next t) : P t.dev := by
  rcases State.request_next.mp h with ⟨-, rfl⟩ | ⟨-, x, -, rfl⟩ | ⟨-, hr, rfl⟩
  · exact hs
  · exact k.respond _ _ _ _ hs
  · exact k.settle _ (hg hr (k.begun _ hs))

theorem answer {items : Device → List Item} (k : Kept P) (hs : P s.dev) (h : s.answer tag r items = .next t) :
    P t.dev := by
  rcases State.answer_next.mp h with ⟨-, rfl⟩ | ⟨-, x, -, rfl⟩ | ⟨-, -, rfl⟩
  · exact hs
  · exact k.respond _ _ _ _ hs
  · exact k.respond _ _ _ _ hs

theorem just (hs : P s.dev) (hg : P s.dev → P (g s.dev)) (h : s.just g = .next t) : P t.dev := by
  rw [State.just_next] at h; subst h; exact hg hs

theorem inbound {o : Host.Outcome State Fault Refusal} (hs : P s.dev) (ho : o = .next t → P t.dev)
    (h : s.inbound o = .next t) : P t.dev := by
  rcases State.inbound_next.mp h with ⟨-, rfl⟩ | ⟨-, h⟩
  · exact hs
  · exact ho h

end Kept

end Sys2Proof.Machine
end

