-- ==== Sys2Proof/Laws/Finalized.lean ====
section
/-!
SUPPORT. What every operation on the device keeps: for each, one lemma that a FINALIZED cartridge (R90, R95) stays
FINALIZED with its EOD known.
-/
namespace Sys2Proof.Machine

/-- In a cartridge table, the cartridge of an index is FINALIZED, its EOD known. -/
def CartsFinal (carts : Vector CartRow 128) (z : CartId) : Prop :=
  ∃ e, carts[z].entry = some e ∧ e.protection = some .finalized ∧ e.eod ≠ none

@[simp] theorem Device.fin_mk {intake : Intake} {ce : Ce} {xe : Xe} {feeds : Vector (Option Feed) 4} {map : SegMap}
    {media : Media} {changer : Changer} {drives : Vector Drive 4} {arb : Arbiter} {ru : RestoreUnit} {vu : VerifyUnit}
    {mu : Management} {link : Link} {agenda : List Task} {moment : Nat} {z : CartId} :
    (Device.mk intake ce xe feeds map media changer drives arb ru vu mu link agenda moment).FinalizedAt z ↔
      CartsFinal media.carts z := Iff.rfl

@[simp] theorem Device.carts_fin {d : Device} {z : CartId} (fin : d.FinalizedAt z) : CartsFinal d.media.carts z := fin

theorem Device.fin_foldl {α : Type} {z : CartId} {g : Device → α → Device}
    (hg : ∀ d a, d.FinalizedAt z → (g d a).FinalizedAt z) (l : List α) {d : Device} (fin : d.FinalizedAt z) :
    (l.foldl g d).FinalizedAt z := by
  induction l generalizing d with
  | nil => exact fin
  | cons a l ih => exact ih (hg d a fin)

@[simp] theorem Device.setFeed_fin {z : CartId} {d : Device} {f : FeedId} {v : Option Feed}
    (fin : d.FinalizedAt z) : (d.setFeed f v).FinalizedAt z := fin

/-- A row written: the finalized row itself only by an entry that is finalized. -/
theorem Device.setRow_fin {z : CartId} {d : Device} {c : CartId} {r : CartRow} (fin : d.FinalizedAt z)
    (hr : c = z → ∃ e, r.entry = some e ∧ e.protection = some .finalized ∧ e.eod ≠ none) :
    (d.setRow c r).FinalizedAt z := by
  by_cases hc : c = z
  · subst hc
    obtain ⟨e, he, hp, hn⟩ := hr rfl
    exact ⟨e, by simpa [Device.cart, Device.row, Device.setRow] using he, hp, hn⟩
  · obtain ⟨e, he, hp, hn⟩ := fin
    refine ⟨e, ?_, hp, hn⟩
    simpa [Device.cart, Device.row, Device.setRow, Vector.getElem_set, Fin.val_ne_of_ne hc] using he

@[simp] theorem Device.modStream_fin {z : CartId} {d : Device} {c : StreamId} {g : Stream → Stream}
    (fin : d.FinalizedAt z) :
    (d.modStream c g).FinalizedAt z := fin

@[simp] theorem Device.modFeed_fin {z : CartId} {d : Device} {f : FeedId} {g : Feed → Feed} (fin : d.FinalizedAt z) :
    (d.modFeed f g).FinalizedAt z := fin

@[simp] theorem Device.post_fin {z : CartId} {d : Device} {t : Task} (fin : d.FinalizedAt z) :
    (d.post t).FinalizedAt z := by
  unfold Device.post; split <;> simp (maxDischargeDepth := 12) [*]

@[simp] theorem Device.postAll_fin {z : CartId} {d : Device} {ts : List Task} (fin : d.FinalizedAt z) :
    (d.postAll ts).FinalizedAt z := Device.fin_foldl (fun _ _ h => Device.post_fin h) ts fin

@[simp] theorem Device.modDrive_fin {z : CartId} {d : Device} {i : DriveId} {g : Drive → Drive}
    (fin : d.FinalizedAt z) :
    (d.modDrive i g).FinalizedAt z := fin

@[simp] theorem Device.modElem_fin {z : CartId} {d : Device} {e : ElemId} {g : Element → Element}
    (fin : d.FinalizedAt z) :
    (d.modElem e g).FinalizedAt z := fin

@[simp] theorem Device.setEvent_fin {z : CartId} {d : Device} {k : EventKind} {v : Option Event}
    (fin : d.FinalizedAt z) :
    (d.setEvent k v).FinalizedAt z := fin

@[simp] theorem Device.raise_fin {z : CartId} {d : Device} {k : EventKind} {a : EventArg} (fin : d.FinalizedAt z) :
    (d.raise k a).FinalizedAt z := fin

@[simp] theorem Device.emit_fin {z : CartId} {d : Device} {f : OutFrame} (fin : d.FinalizedAt z) :
    (d.emit f).FinalizedAt z := fin

@[simp] theorem Device.respond_fin {z : CartId} {d : Device} {tag : Tag} {st : Status} {is : List Item}
    (fin : d.FinalizedAt z) :
    (d.respond tag st is).FinalizedAt z := fin

@[simp] theorem Device.linkError_fin {z : CartId} {d : Device} (fin : d.FinalizedAt z) :
    d.linkError.FinalizedAt z := fin

@[simp] theorem Device.modPart_fin {z : CartId} {d : Device} {id : Nat} {g : Part → Part} (fin : d.FinalizedAt z) :
    (d.modPart id g).FinalizedAt z := fin

@[simp] theorem Device.addPart_fin {z : CartId} {d : Device} {p : Part} (fin : d.FinalizedAt z) :
    (d.addPart p).FinalizedAt z := fin

@[simp] theorem Device.freePart_fin {z : CartId} {d : Device} {id : Nat} (fin : d.FinalizedAt z) :
    (d.freePart id).FinalizedAt z := fin

@[simp] theorem Device.reserve_fin {z : CartId} {d : Device} {n : Nat} (fin : d.FinalizedAt z) :
    (d.reserve n).FinalizedAt z := fin

@[simp] theorem Device.consumeReservation_fin {z : CartId} {d : Device} (fin : d.FinalizedAt z) :
    d.consumeReservation.FinalizedAt z := fin

@[simp] theorem Device.releaseReservations_fin {z : CartId} {d : Device} {n : Nat} (fin : d.FinalizedAt z) :
    (d.releaseReservations n).FinalizedAt z := by
  unfold Device.releaseReservations; split <;> simp (maxDischargeDepth := 12) [*]

@[simp] theorem Device.createPart_fin {z : CartId} {d : Device} {r : Option PartRef} {c : CartId} {rec : Record} {b : Nat}
    (fin : d.FinalizedAt z) :
    (d.createPart r c rec b).1.FinalizedAt z := fin

@[simp] theorem Device.setGrants_fin {z : CartId} {d : Device} {r : RestoreId} {n : Nat} (fin : d.FinalizedAt z) :
    (d.setGrants r n).FinalizedAt z := fin

@[simp] theorem Device.modRestore_fin {z : CartId} {d : Device} {r : RestoreId} {g : Restore → Restore}
    (fin : d.FinalizedAt z) :
    (d.modRestore r g).FinalizedAt z := fin

@[simp] theorem Device.modPass_fin {z : CartId} {d : Device} {c : CartId} {g : Pass → Pass} (fin : d.FinalizedAt z) :
    (d.modPass c g).FinalizedAt z := fin

@[simp] theorem Device.removeEntry_fin {z : CartId} {d : Device} {c : CartId} (fin : d.FinalizedAt z) :
    (d.removeEntry c).FinalizedAt z := fin

@[simp] theorem Device.putEntry_fin {z : CartId} {d : Device} {e : VerifyEntry} (fin : d.FinalizedAt z) :
    (d.putEntry e).FinalizedAt z := fin

@[simp] theorem Device.closePart_fin {z : CartId} {d : Device} {id : Nat} {gap truncated continued : Bool}
    (fin : d.FinalizedAt z) :
    (d.closePart id gap truncated continued).FinalizedAt z := by
  unfold Device.closePart; (repeat' split) <;> simp (maxDischargeDepth := 12) [*]

@[simp] theorem Device.closeRef_fin {z : CartId} {d : Device} {r : Option PartRef} {gap truncated : Bool}
    (fin : d.FinalizedAt z) :
    (Device.closeRef d r gap truncated).FinalizedAt z := by
  unfold Device.closeRef; (repeat' split) <;> simp (maxDischargeDepth := 12) [*]

@[simp] theorem Device.setBad_fin {z : CartId} {d : Device} {id : Nat} (fin : d.FinalizedAt z) :
    (d.setBad id).FinalizedAt z := by
  unfold Device.setBad; (repeat' split) <;> simp (maxDischargeDepth := 12) [*]

@[simp] theorem Device.setVerified_fin {z : CartId} {d : Device} {id : Nat} (fin : d.FinalizedAt z) :
    (d.setVerified id).FinalizedAt z := by
  unfold Device.setVerified; (repeat' split) <;> simp (maxDischargeDepth := 12) [*]

@[simp] theorem Device.markSuspect_fin {z : CartId} {d : Device} {id : Nat} (fin : d.FinalizedAt z) :
    (d.markSuspect id).FinalizedAt z := by
  unfold Device.markSuspect; (repeat' split) <;> simp (maxDischargeDepth := 12) [*]

@[simp] theorem Device.pinRestore_fin {z : CartId} {d : Device} {id : Nat} (fin : d.FinalizedAt z) :
    (d.pinRestore id).FinalizedAt z := fin

@[simp] theorem Device.unpinRestore_fin {z : CartId} {d : Device} {id : Nat} (fin : d.FinalizedAt z) :
    (d.unpinRestore id).FinalizedAt z := fin

@[simp] theorem Device.pinVerify_fin {z : CartId} {d : Device} {id : Nat} (fin : d.FinalizedAt z) :
    (d.pinVerify id).FinalizedAt z := fin

@[simp] theorem Device.unpinVerify_fin {z : CartId} {d : Device} {id : Nat} (fin : d.FinalizedAt z) :
    (d.unpinVerify id).FinalizedAt z := fin

@[simp] theorem Device.signals_fin {z : CartId} {d after : Device} {c : CartId} (fin : after.FinalizedAt z) :
    (Device.signals d after c).FinalizedAt z := by simp (maxDischargeDepth := 12) [Device.signals, *]

theorem Device.writeCart_fin {z : CartId} {d : Device} {c : CartId} {e : Option Cart} (fin : d.FinalizedAt z)
    (he : c = z → ∃ x, e = some x ∧ x.protection = some .finalized ∧ x.eod ≠ none) :
    (d.writeCart c e).FinalizedAt z := by
  unfold Device.writeCart
  extract_lets old a b e'
  split
  · exact fin
  · have ha : a.FinalizedAt z := Device.setRow_fin fin he
    have hb : b.FinalizedAt z := by unfold b; split <;> simp [ha]
    refine Device.signals_fin ?_
    unfold e'
    (repeat' split) <;> simp [hb]

theorem Device.editCart_fin {z : CartId} {d : Device} {c : CartId} {g : Cart → Cart} (fin : d.FinalizedAt z)
    (hg : ∀ x, x.protection = some .finalized → x.eod ≠ none →
      (g x).protection = some .finalized ∧ (g x).eod ≠ none) : (d.editCart c g).FinalizedAt z := by
  unfold Device.editCart
  split
  · rename_i e he
    refine Device.writeCart_fin fin fun hc => ?_
    subst hc
    obtain ⟨x, hx, hp, hn⟩ := fin
    obtain rfl : e = x := Option.some.inj (he.symm.trans hx)
    exact ⟨_, rfl, hg _ hp hn⟩
  · exact fin

@[simp] theorem Device.markFull_fin {z : CartId} {d : Device} {c : CartId} {ends : Bool} (fin : d.FinalizedAt z) :
    (d.markFull c ends).FinalizedAt z := Device.raise_fin (Device.editCart_fin fin fun _ hp hn => ⟨hp, hn⟩)

@[simp] theorem Device.markMismatch_fin {z : CartId} {d : Device} {c : CartId} {r : Reason} {ends : Bool} (fin : d.FinalizedAt z) :
    (d.markMismatch c r ends).FinalizedAt z := Device.editCart_fin fin fun _ hp hn => ⟨by simp [hp, lockedAtMismatch], hn⟩

@[simp] theorem Device.markFinalized_fin {z : CartId} {d : Device} {c : CartId} {ends : Bool} (fin : d.FinalizedAt z) :
    (d.markFinalized c ends).FinalizedAt z := Device.editCart_fin fin fun _ _ hn => ⟨rfl, hn⟩

@[simp] theorem Device.setContent_fin {z : CartId} {d : Device} {e : ElemId} {v : Content} (fin : d.FinalizedAt z) :
    (Device.setContent d e v).FinalizedAt z := by
  unfold Device.setContent; (repeat' split) <;> simp (maxDischargeDepth := 12) [*]

@[simp] theorem Device.loseCart_fin {z : CartId} {d : Device} {c : CartId} (fin : d.FinalizedAt z) :
    (d.loseCart c).FinalizedAt z := Device.editCart_fin fin fun _ hp hn => ⟨hp, hn⟩

@[simp] theorem Device.cartOutside_fin {z : CartId} {d : Device} {c : CartId} (fin : d.FinalizedAt z) :
    (d.cartOutside c).FinalizedAt z := Device.editCart_fin fin fun _ hp hn => ⟨hp, hn⟩

@[simp] theorem Device.loseDisplaced_fin {z : CartId} {d : Device} {e : ElemId} (fin : d.FinalizedAt z) :
    (Device.loseDisplaced d e).FinalizedAt z := by
  unfold Device.loseDisplaced; (repeat' split) <;> simp (maxDischargeDepth := 12) [*]

@[simp] theorem Device.forgetFormer_fin {z : CartId} {d : Device} {c : CartId} (fin : d.FinalizedAt z) :
    (Device.forgetFormer d c).FinalizedAt z := fin

@[simp] theorem Device.settleIn_fin {z : CartId} {d : Device} {e : ElemId} {c : CartId} (fin : d.FinalizedAt z) :
    (d.settleIn e c).FinalizedAt z := Device.editCart_fin (Device.forgetFormer_fin (Device.setContent_fin fin)) fun _ hp hn => ⟨hp, hn⟩

@[simp] theorem Device.scanEmpty_fin {z : CartId} {d : Device} {e : ElemId} (fin : d.FinalizedAt z) :
    (Device.scanEmpty d e).FinalizedAt z := by
  unfold Device.scanEmpty; dsimp only; (repeat' split) <;> simp (maxDischargeDepth := 12) [*]

theorem Device.emptyRow_entry {d : Device} {c : CartId} (h : d.emptyRow = some c) : d.cart c = none := by
  simpa using List.find?_some h

/-- An entry written in a row that held none leaves every other row. -/
theorem Device.fillRow_fin {z : CartId} {d : Device} {c : CartId} {e : Option Cart} (fin : d.FinalizedAt z)
    (hc : d.cart c = none) : (d.writeCart c e).FinalizedAt z :=
  Device.writeCart_fin fin fun h => by subst h; obtain ⟨x, hx, -⟩ := fin; rw [hc] at hx; cases hx

@[simp] theorem Device.setContent_cart {d : Device} {e : ElemId} {v : Content} {c : CartId} :
    (d.setContent e v).cart c = d.cart c := by
  unfold Device.setContent
  extract_lets d1 d2
  have h : ∀ (d : Device) t, (d.post t).cart c = d.cart c := fun d t => by unfold Device.post; split <;> rfl
  split
  · split <;> simp [d2, h, d1] <;> rfl
  · rfl

@[simp] theorem Device.forgetFormer_cart {d : Device} {a c : CartId} : (d.forgetFormer a).cart c = d.cart c := rfl

@[simp] theorem Device.scanBarcode_fin {z : CartId} {d : Device} {e : ElemId} {x : Bytes} (fin : d.FinalizedAt z) :
    (d.scanBarcode e x).1.FinalizedAt z := by
  unfold Device.scanBarcode
  split
  · dsimp only; (repeat' split) <;> simp (maxDischargeDepth := 12) [*]
  · extract_lets d1
    have h1 : d1.FinalizedAt z := Device.loseDisplaced_fin fin
    split
    · rename_i hc
      exact Device.fillRow_fin (Device.forgetFormer_fin (Device.setContent_fin h1))
        (by simpa using Device.emptyRow_entry hc)
    · exact Device.setContent_fin h1

@[simp] theorem Device.scan_fin {z : CartId} {d : Device} {e : ElemId} {r : ScanResult} (fin : d.FinalizedAt z) :
    (Device.scan d e r).1.FinalizedAt z := by
  unfold Device.scan; (repeat' split) <;> simp (maxDischargeDepth := 12) [*]

@[simp] theorem Device.scanUnreadable_fin {z : CartId} {d : Device} {e : ElemId} (fin : d.FinalizedAt z) :
    (Device.scanUnreadable d e).FinalizedAt z := by
  unfold Device.scanUnreadable; (repeat' split) <;> simp (maxDischargeDepth := 12) [*]

@[simp] theorem Device.loseElem_fin {z : CartId} {d : Device} {e : ElemId} (fin : d.FinalizedAt z) :
    (Device.loseElem d e).FinalizedAt z := by
  unfold Device.loseElem; (repeat' split) <;> simp (maxDischargeDepth := 12) [*]

@[simp] theorem Device.evict_fin {z : CartId} {d : Device} {e : ElemId} (fin : d.FinalizedAt z) :
    (Device.evict d e).FinalizedAt z := by
  unfold Device.evict; (repeat' split) <;> simp (maxDischargeDepth := 12) [*]

@[simp] theorem Device.vacate_fin {z : CartId} {d : Device} {c : CartId} (fin : d.FinalizedAt z) :
    (Device.vacate d c).FinalizedAt z := by
  unfold Device.vacate; (repeat' split) <;> simp (maxDischargeDepth := 12) [*]

@[simp] theorem Device.relocate_fin {z : CartId} {d : Device} {a b : ElemId} {load : Load} {m : Bool}
    (fin : d.FinalizedAt z) : (d.relocate a b load m).FinalizedAt z := by
  unfold Device.relocate
  split
  · extract_lets d1 d2
    have h2 : d2.FinalizedAt z := Device.setContent_fin (Device.evict_fin (Device.evict_fin (Device.vacate_fin fin)))
    split
    · exact Device.setContent_fin h2
    · exact Device.editCart_fin (Device.setContent_fin h2) fun _ hp hn => ⟨hp, hn⟩
  · exact Device.setContent_fin (Device.setContent_fin (Device.evict_fin fin))

@[simp] theorem Device.pickerHold_fin {z : CartId} {d : Device} {a : ElemId} {load : Load} (fin : d.FinalizedAt z) :
    (Device.pickerHold d a load).FinalizedAt z := by
  unfold Device.pickerHold; (repeat' split) <;> simp (maxDischargeDepth := 12) [*]

@[simp] theorem Device.takeDestination_fin {z : CartId} {d : Device} {load : Load} {e : ElemId}
    (fin : d.FinalizedAt z) : (d.takeDestination load e).FinalizedAt z := by
  unfold Device.takeDestination
  split
  · exact Device.editCart_fin fin fun _ hp hn => ⟨hp, hn⟩
  · exact fin

@[simp] theorem Device.postFeed_fin {z : CartId} {d : Device} {f : Option FeedId} {t : FeedId → Task}
    (fin : d.FinalizedAt z) :
    (d.postFeed f t).FinalizedAt z := by
  unfold Device.postFeed; split <;> simp (maxDischargeDepth := 12) [*]

@[simp] theorem Device.cutDecision_fin {z : CartId} {d : Device} {c : StreamId} (fin : d.FinalizedAt z) :
    (d.cutDecision c).FinalizedAt z := by
  unfold Device.cutDecision; dsimp only; (repeat' split) <;> simp (maxDischargeDepth := 12) [*]

@[simp] theorem Device.finishRecord_fin {z : CartId} {d : Device} {c : StreamId} (fin : d.FinalizedAt z) :
    (d.finishRecord c).FinalizedAt z := by
  unfold Device.finishRecord; (repeat' split) <;> simp (maxDischargeDepth := 12) [*]

@[simp] theorem Device.leaveFeed_fin {z : CartId} {d : Device} {c : StreamId} (fin : d.FinalizedAt z) :
    (d.leaveFeed c).FinalizedAt z := by
  unfold Device.leaveFeed; split <;> simp (maxDischargeDepth := 12) [*]

@[simp] theorem Device.closeIfDone_fin {z : CartId} {d : Device} {c : StreamId} (fin : d.FinalizedAt z) :
    (d.closeIfDone c).FinalizedAt z := by
  unfold Device.closeIfDone; dsimp only; (repeat' split) <;> simp (maxDischargeDepth := 12) [*]

@[simp] theorem Device.handOver_fin {z : CartId} {d : Device} {c : StreamId} {f : FeedId} {s after : Stream}
    (fin : d.FinalizedAt z) :
    (Device.handOver d c f s after).FinalizedAt z := by
  unfold Device.handOver; (repeat' split) <;> simp (maxDischargeDepth := 12) [*]

@[simp] theorem Device.abort_fin {z : CartId} {d : Device} {c : StreamId} (fin : d.FinalizedAt z) :
    (d.abort c).FinalizedAt z := by
  unfold Device.abort; dsimp only; (repeat' split) <;> simp (maxDischargeDepth := 12) [*]

@[simp] theorem Device.takeRecord_fin {z : CartId} {d : Device} {c : StreamId} {f : FeedId} {o : Offered}
    (fin : d.FinalizedAt z) :
    (d.takeRecord c f o).FinalizedAt z := fin

@[simp] theorem Device.ceSearch_fin {z : CartId} {d : Device} (fin : d.FinalizedAt z) :
    (Device.ceSearch d).FinalizedAt z := by
  unfold Device.ceSearch; (repeat' split) <;> simp (maxDischargeDepth := 12) [*]

@[simp] theorem Device.compress_fin {z : CartId} {d : Device} (fin : d.FinalizedAt z) :
    (Device.compress d).FinalizedAt z := by
  unfold Device.compress; (repeat' split) <;> simp (maxDischargeDepth := 12) [*]

@[simp] theorem Device.issue_fin {z : CartId} {d : Device} {i : DriveId} {cmd : DriveCmd} (fin : d.FinalizedAt z) :
    (Device.issue d i cmd).FinalizedAt z := fin

@[simp] theorem Device.setPhase_fin {z : CartId} {d : Device} {i : DriveId} {p : Phase} (fin : d.FinalizedAt z) :
    (Device.setPhase d i p).FinalizedAt z := fin

@[simp] theorem Device.setDrive_fin {z : CartId} {d : Device} {i : DriveId} {s : DriveState} {p : Phase}
    (fin : d.FinalizedAt z) :
    (Device.setDrive d i s p).FinalizedAt z := fin

@[simp] theorem Device.takeEntry_fin {z : CartId} {d : Device} (fin : d.FinalizedAt z) :
    (Device.takeEntry d).FinalizedAt z := fin

@[simp] theorem Device.modMove_fin {z : CartId} {d : Device} {id : Nat} {g : Move → Move} (fin : d.FinalizedAt z) :
    (Device.modMove d id g).FinalizedAt z := fin

@[simp] theorem Device.enterMove_fin {z : CartId} {d : Device} {src : ElemId} {dst : Option ElemId} {load : Load} {cls : Option Nat} {requester : Requester} {ready : Bool}
    (fin : d.FinalizedAt z) :
    (Device.enterMove d src dst load cls requester ready).FinalizedAt z := by
  unfold Device.enterMove; (repeat' split) <;> simp (maxDischargeDepth := 12) [*]

@[simp] theorem Device.clearMarks_fin {z : CartId} {d : Device} {id : Nat} (fin : d.FinalizedAt z) :
    (Device.clearMarks d id).FinalizedAt z := fin

@[simp] theorem Device.dropMove_fin {z : CartId} {d : Device} {id : Nat} (fin : d.FinalizedAt z) :
    (Device.dropMove d id).FinalizedAt z := fin

theorem Device.requestMove_fin {z : CartId} {d d' : Device} {i : DriveId} {c : CartId} {b : ElemId} {cls : Nat}
    (fin : d.FinalizedAt z) (h : d.requestMove i c b cls = some d') : d'.FinalizedAt z := by
  unfold Device.requestMove at h
  cases hs : d.moveSource c b <;> simp [hs] at h
  rw [← h]; simp (maxDischargeDepth := 12) [fin]

@[simp] theorem Device.withdrawMoves_fin {z : CartId} {d : Device} {i : DriveId} (fin : d.FinalizedAt z) :
    (Device.withdrawMoves d i).FinalizedAt z := by
  unfold Device.withdrawMoves
  refine Device.fin_foldl (fun d a h => ?_) _ (by simp (maxDischargeDepth := 12) [*])
  (repeat' split) <;> simp (maxDischargeDepth := 12) [*]

@[simp] theorem Device.modClaim_fin {z : CartId} {d : Device} {order : Nat} {g : Claim → Claim}
    (fin : d.FinalizedAt z) :
    (Device.modClaim d order g).FinalizedAt z := fin

@[simp] theorem Device.removeClaim_fin {z : CartId} {d : Device} {order : Nat} (fin : d.FinalizedAt z) :
    (Device.removeClaim d order).FinalizedAt z := fin

@[simp] theorem Device.postTarget_fin {z : CartId} {d : Device} {t : Target} (fin : d.FinalizedAt z) :
    (d.postTarget t).FinalizedAt z := by
  unfold Device.postTarget; split <;> simp (maxDischargeDepth := 12) [*]

@[simp] theorem Device.placeClaim_fin {z : CartId} {d : Device} {kind : ClaimKind} {owner : Owner} {target : Target} {preferred : Option DriveId}
    (fin : d.FinalizedAt z) :
    (Device.placeClaim d kind owner target preferred).FinalizedAt z := by simp (maxDischargeDepth := 12) [Device.placeClaim, *]

@[simp] theorem Device.returnClaim_fin {z : CartId} {d : Device} {i : DriveId} (fin : d.FinalizedAt z) :
    (Device.returnClaim d i).FinalizedAt z := by
  unfold Device.returnClaim; dsimp only; (repeat' split) <;> simp (maxDischargeDepth := 12) [*]

@[simp] theorem Device.clearClaim_fin {z : CartId} {d : Device} {i : DriveId} (fin : d.FinalizedAt z) :
    (Device.clearClaim d i).FinalizedAt z := by
  unfold Device.clearClaim; (repeat' split) <;> simp (maxDischargeDepth := 12) [*]

@[simp] theorem Device.cancelSuspension_fin {z : CartId} {d : Device} {order : Nat} (fin : d.FinalizedAt z) :
    (Device.cancelSuspension d order).FinalizedAt z := by
  unfold Device.cancelSuspension
  refine Device.fin_foldl (fun d a h => ?_) _ (by simp (maxDischargeDepth := 12) [*])
  (repeat' split) <;> simp (maxDischargeDepth := 12) [*]

@[simp] theorem Device.withdrawClaim_fin {z : CartId} {d : Device} {order : Nat} (fin : d.FinalizedAt z) :
    (Device.withdrawClaim d order).FinalizedAt z := by
  unfold Device.withdrawClaim; dsimp only; (repeat' split) <;> simp (maxDischargeDepth := 12) [*]

@[simp] theorem Device.withdrawOf_fin {z : CartId} {d : Device} {o : Owner} (fin : d.FinalizedAt z) :
    (Device.withdrawOf d o).FinalizedAt z := by
  unfold Device.withdrawOf; (repeat' split) <;> simp (maxDischargeDepth := 12) [*]

@[simp] theorem Device.declare_fin {z : CartId} {d : Device} {os : List Opening} {g : StreamState → StreamState}
    (fin : d.FinalizedAt z) : (d.declare os g).FinalizedAt z := by
  unfold Device.declare; exact Device.fin_foldl (fun _ _ h => Device.modStream_fin h) os fin

@[simp] theorem Device.setStall_fin {z : CartId} {d : Device} {f : FeedId} {g : Stall → Stall}
    (fin : d.FinalizedAt z) :
    (d.setStall f g).FinalizedAt z := by
  unfold Device.setStall; dsimp only; (repeat' split) <;> simp (maxDischargeDepth := 12) [*]

@[simp] theorem Device.join_fin {z : CartId} {d : Device} {c : StreamId} {f : FeedId} (fin : d.FinalizedAt z) :
    (d.join c f).FinalizedAt z := by
  unfold Device.join; split <;> simp (maxDischargeDepth := 12) [*]

@[simp] theorem Device.bindOne_fin {z : CartId} {d : Device} {c : StreamId} (fin : d.FinalizedAt z) :
    (d.bindOne c).FinalizedAt z := by
  unfold Device.bindOne; dsimp only; (repeat' split) <;> simp (maxDischargeDepth := 12) [*]

@[simp] theorem Device.bindAll_fin {z : CartId} {d : Device} (fin : d.FinalizedAt z) :
    (Device.bindAll d).FinalizedAt z := by
  unfold Device.bindAll
  refine Device.fin_foldl (fun d a h => ?_) _ (by simp (maxDischargeDepth := 12) [*])
  (repeat' split) <;> simp (maxDischargeDepth := 12) [*]

@[simp] theorem Device.closePending_fin {z : CartId} {d : Device} {f : FeedId} (fin : d.FinalizedAt z) :
    (Device.closePending d f).FinalizedAt z := by
  unfold Device.closePending; (repeat' split) <;> simp (maxDischargeDepth := 12) [*]

@[simp] theorem Device.closeWaiting_fin {z : CartId} {d : Device} {f : FeedId} (fin : d.FinalizedAt z) :
    (Device.closeWaiting d f).FinalizedAt z := by
  unfold Device.closeWaiting; (repeat' split) <;> simp (maxDischargeDepth := 12) [*]

@[simp] theorem Device.closeDrained_fin {z : CartId} {d : Device} {f : FeedId} (fin : d.FinalizedAt z) :
    (Device.closeDrained d f).FinalizedAt z := by
  unfold Device.closeDrained; (repeat' split) <;> simp (maxDischargeDepth := 12) [*]

@[simp] theorem Device.issueSpeed_fin {z : CartId} {d : Device} {f : FeedId} (fin : d.FinalizedAt z) :
    (Device.issueSpeed d f).FinalizedAt z := by
  unfold Device.issueSpeed; (repeat' split) <;> simp (maxDischargeDepth := 12) [*]

@[simp] theorem Device.spanTrigger_fin {z : CartId} {d : Device} {f : FeedId} {full : Bool} (fin : d.FinalizedAt z) :
    (d.spanTrigger f full).FinalizedAt z := by
  unfold Device.spanTrigger; (repeat' split) <;> simp (maxDischargeDepth := 12) [*]

@[simp] theorem Device.closeAtDeparture_fin {z : CartId} {d : Device} {c : CartId} {r : Option PartRef} {truncated : Bool}
    (fin : d.FinalizedAt z) :
    (Device.closeAtDeparture d c r truncated).FinalizedAt z := by
  unfold Device.closeAtDeparture; (repeat' split) <;> simp (maxDischargeDepth := 12) [*]

@[simp] theorem Device.closeParts_fin {z : CartId} {d : Device} {x : Feed} {c : CartId} (fin : d.FinalizedAt z) :
    (d.closeParts x c).FinalizedAt z :=
  Device.fin_foldl (fun _ _ h => Device.closeAtDeparture_fin h) _
    (Device.fin_foldl (fun _ _ h => Device.closeAtDeparture_fin h) _ fin)

@[simp] theorem Device.dropReservations_fin {z : CartId} {d : Device} {f : FeedId} (fin : d.FinalizedAt z) :
    (Device.dropReservations d f).FinalizedAt z := by
  unfold Device.dropReservations; split <;> simp (maxDischargeDepth := 12) [*]

@[simp] theorem Device.releaseDrive_fin {z : CartId} {d : Device} {i : DriveId} (fin : d.FinalizedAt z) :
    (Device.releaseDrive d i).FinalizedAt z := by simp (maxDischargeDepth := 12) [Device.releaseDrive, *]

@[simp] theorem Device.signalRelease_fin {z : CartId} {d : Device} {c : CartId} (fin : d.FinalizedAt z) :
    (Device.signalRelease d c).FinalizedAt z := by simp (maxDischargeDepth := 12) [Device.signalRelease, *]

@[simp] theorem Device.removeFeed_fin {z : CartId} {d : Device} {f : FeedId} (fin : d.FinalizedAt z) :
    (Device.removeFeed d f).FinalizedAt z := by simp (maxDischargeDepth := 12) [Device.removeFeed, *]

@[simp] theorem Device.depart_fin {z : CartId} {d : Device} {f : FeedId} {x : Feed} (fin : d.FinalizedAt z) :
    (Device.depart d f x).FinalizedAt z := by
  unfold Device.depart; (repeat' split) <;> simp (maxDischargeDepth := 12) [*]

@[simp] theorem Device.retire_fin {z : CartId} {d : Device} {f : FeedId} {x : Feed} (fin : d.FinalizedAt z) :
    (Device.retire d f x).FinalizedAt z := by
  unfold Device.retire; (repeat' split) <;> simp (maxDischargeDepth := 12) [*]

@[simp] theorem Device.postReady_fin {z : CartId} {d : Device} {x : Feed} (fin : d.FinalizedAt z) :
    (Device.postReady d x).FinalizedAt z := by
  unfold Device.postReady; (repeat' split) <;> simp (maxDischargeDepth := 12) [*]

@[simp] theorem Device.feedProgress_fin {z : CartId} {d : Device} {f : FeedId} (fin : d.FinalizedAt z) :
    (Device.feedProgress d f).FinalizedAt z := by
  unfold Device.feedProgress; (repeat' split) <;> simp (maxDischargeDepth := 12) [*]

@[simp] theorem Device.memberLeft_fin {z : CartId} {d : Device} {f : FeedId} (fin : d.FinalizedAt z) :
    (d.memberLeft f).FinalizedAt z := by
  unfold Device.memberLeft; (repeat' split) <;> simp (maxDischargeDepth := 12) [*]

@[simp] theorem Device.askReservations_fin {z : CartId} {d : Device} {f : FeedId} {x : Feed} {c : CartId} {b : Block}
    (fin : d.FinalizedAt z) :
    (d.askReservations f x c b).1.FinalizedAt z := by
  unfold Device.askReservations; dsimp only; (repeat' split) <;> simp (maxDischargeDepth := 12) [*]

@[simp] theorem Device.roomAgain_fin {z : CartId} {d : Device} {m n : Nat} (fin : d.FinalizedAt z) :
    (Device.roomAgain d m n).FinalizedAt z := by
  unfold Device.roomAgain; (repeat' split) <;> simp (maxDischargeDepth := 12) [*]

@[simp] theorem Device.dispatchHead_fin {z : CartId} {d : Device} {f : FeedId} {i : DriveId} {e : Cart} (fin : d.FinalizedAt z) :
    (Device.dispatchHead d f i e).FinalizedAt z := by
  unfold Device.dispatchHead; dsimp only; (repeat' split) <;> simp (maxDischargeDepth := 12) [*]

@[simp] theorem Device.dispatchLoop_fin {z : CartId} {f : FeedId} {fuel : Nat} {d : Device} (fin : d.FinalizedAt z) :
    (Device.dispatchLoop f fuel d).FinalizedAt z := by
  induction fuel generalizing d with
  | zero => exact fin
  | succ n ih =>
    unfold Device.dispatchLoop
    dsimp only
    (repeat' split) <;> simp (maxDischargeDepth := 12) [fin, ih]

@[simp] theorem Device.feedDecide_fin {z : CartId} {d : Device} {f : FeedId} (fin : d.FinalizedAt z) :
    (d.feedDecide f).FinalizedAt z := by
  unfold Device.feedDecide
  extract_lets d1 d2
  have h1 : d1.FinalizedAt z := Device.closeWaiting_fin (Device.closeDrained_fin fin)
  have h2 : d2.FinalizedAt z := by
    unfold d2; dsimp only; (repeat' split) <;> simp (maxDischargeDepth := 12) [h1]
  exact Device.feedProgress_fin (Device.closeWaiting_fin h2)

@[simp] theorem Device.askAgain_fin {z : CartId} {d : Device} {f : FeedId} (fin : d.FinalizedAt z) :
    (d.askAgain f).FinalizedAt z := by
  unfold Device.askAgain; dsimp only; (repeat' split) <;> simp (maxDischargeDepth := 12) [*]

@[simp] theorem Device.closeNow_fin {z : CartId} {d : Device} {f : FeedId} (fin : d.FinalizedAt z) :
    (d.closeNow f).FinalizedAt z := by
  unfold Device.closeNow; (repeat' split) <;> simp (maxDischargeDepth := 12) [*]

@[simp] theorem Device.closeBefore_fin {z : CartId} {d : Device} {f : FeedId} (fin : d.FinalizedAt z) :
    (d.closeBefore f).FinalizedAt z := by
  unfold Device.closeBefore; (repeat' split) <;> simp (maxDischargeDepth := 12) [*]

@[simp] theorem Device.placed_fin {z : CartId} {d : Device} {r : CeRecord} {h : Hold} (fin : d.FinalizedAt z) :
    (Device.placed d r h).FinalizedAt z := by
  unfold Device.placed; dsimp only; (repeat' split) <;> simp (maxDischargeDepth := 12) [*]

@[simp] theorem Device.placeHeld_fin {z : CartId} {d : Device} {r : CeRecord} {h : Hold} {k : PlaceCase}
    (fin : d.FinalizedAt z) : (d.placeHeld r h k).FinalizedAt z := by
  unfold Device.placeHeld; dsimp only; (repeat' split) <;> simp (maxDischargeDepth := 12) [*]

@[simp] theorem Device.offerHeld_fin {z : CartId} {d : Device} (fin : d.FinalizedAt z) :
    d.offerHeld.FinalizedAt z := by
  unfold Device.offerHeld; dsimp only; (repeat' split) <;> simp (maxDischargeDepth := 12) [*]

@[simp] theorem Device.setRef_fin {z : CartId} {d : Device} {f : FeedId} {o : Opening} {r : PartRef}
    (fin : d.FinalizedAt z) :
    (Device.setRef d f o r).FinalizedAt z := by
  unfold Device.setRef; (repeat' split) <;> simp (maxDischargeDepth := 12) [*]

theorem Device.spendReservation_fin {z : CartId} {d d' : Device} {f : FeedId} {x : Feed} {o : Opening}
    (fin : d.FinalizedAt z) (h : d.spendReservation f x o = some d') : d'.FinalizedAt z := by
  unfold Device.spendReservation at h
  split at h
  · cases h; exact fin
  · split at h <;> cases h; exact fin

@[simp] theorem Device.mapRecord_fin {z : CartId} {d : Device} {f : FeedId} {c : CartId} {block : Nat} {r : Record}
    (fin : d.FinalizedAt z) : (d.mapRecord f c block r).FinalizedAt z := by
  unfold Device.mapRecord
  split
  · exact fin
  · extract_lets ref
    split
    · exact fin
    · split
      · exact fin
      · exact Device.setRef_fin (Device.createPart_fin (Device.spendReservation_fin fin ‹_›))

@[simp] theorem Device.countOff_fin {z : CartId} {d : Device} {f : FeedId} {r : Record} (fin : d.FinalizedAt z) :
    (Device.countOff d f r).FinalizedAt z := by
  unfold Device.countOff; (repeat' split) <;> simp (maxDischargeDepth := 12) [*]

@[simp] theorem Device.confirm_fin {z : CartId} {d : Device} {f : FeedId} {c : CartId} {b : Flight}
    (fin : d.FinalizedAt z) : (d.confirm f c b).FinalizedAt z := by
  unfold Device.confirm
  extract_lets d1 d2
  split
  · refine Device.fin_foldl (fun d a h => by simp [h]) _ ?_
    exact Device.editCart_fin (Device.modFeed_fin fin) fun _ hp _ => ⟨hp, by simp⟩
  · exact Device.modFeed_fin fin

@[simp] theorem Device.underrun_fin {z : CartId} {d : Device} {f : FeedId} (fin : d.FinalizedAt z) :
    (d.underrun f).FinalizedAt z := by
  unfold Device.underrun; (repeat' split) <;> simp (maxDischargeDepth := 12) [*]

@[simp] theorem Device.feedWrite_fin {z : CartId} {d : Device} {f : FeedId} {r : DriveResult}
    (fin : d.FinalizedAt z) :
    (d.feedWrite f r).FinalizedAt z := by
  unfold Device.feedWrite; (repeat' split) <;> simp (maxDischargeDepth := 12) [*]

@[simp] theorem Device.feedSpeed_fin {z : CartId} {d : Device} {f : FeedId} (fin : d.FinalizedAt z) :
    (Device.feedSpeed d f).FinalizedAt z := by simp (maxDischargeDepth := 12) [Device.feedSpeed, *]

@[simp] theorem Device.feedServed_fin {z : CartId} {d : Device} {f : FeedId} {i : DriveId} {c : CartId}
    (fin : d.FinalizedAt z) :
    (Device.feedServed d f i c).FinalizedAt z := by simp (maxDischargeDepth := 12) [Device.feedServed, *]

@[simp] theorem Device.feedNoMedia_fin {z : CartId} {d : Device} {f : FeedId} (fin : d.FinalizedAt z) :
    (Device.feedNoMedia d f).FinalizedAt z := by
  unfold Device.feedNoMedia; dsimp only; (repeat' split) <;> simp (maxDischargeDepth := 12) [*]

@[simp] theorem Device.feedSuspend_fin {z : CartId} {d : Device} {f : FeedId} (fin : d.FinalizedAt z) :
    (Device.feedSuspend d f).FinalizedAt z := by simp (maxDischargeDepth := 12) [Device.feedSuspend, *]

@[simp] theorem Device.feedUnsuspend_fin {z : CartId} {d : Device} {f : FeedId} (fin : d.FinalizedAt z) :
    (Device.feedUnsuspend d f).FinalizedAt z := by simp (maxDischargeDepth := 12) [Device.feedUnsuspend, *]

@[simp] theorem Device.feedPushed_fin {z : CartId} {d : Device} {f : FeedId} (fin : d.FinalizedAt z) :
    (Device.feedPushed d f).FinalizedAt z := by simp (maxDischargeDepth := 12) [Device.feedPushed, *]

@[simp] theorem Device.feedResumed_fin {z : CartId} {d : Device} {f : FeedId} (fin : d.FinalizedAt z) :
    (Device.feedResumed d f).FinalizedAt z := by simp (maxDischargeDepth := 12) [Device.feedResumed, *]

@[simp] theorem Device.feedResumeFailed_fin {z : CartId} {d : Device} {f : FeedId} (fin : d.FinalizedAt z) :
    (Device.feedResumeFailed d f).FinalizedAt z := by simp (maxDischargeDepth := 12) [Device.feedResumeFailed, *]

@[simp] theorem Device.feedUnbind_fin {z : CartId} {d : Device} {f : FeedId} (fin : d.FinalizedAt z) :
    (d.feedUnbind f).FinalizedAt z := by
  unfold Device.feedUnbind; (repeat' split) <;> simp (maxDischargeDepth := 12) [*]

@[simp] theorem Device.giveOrder_fin {z : CartId} {d : Device} {p : PickerState} {k : OrderKind}
    (fin : d.FinalizedAt z) :
    (Device.giveOrder d p k).FinalizedAt z := fin

@[simp] theorem Device.freePicker_fin {z : CartId} {d : Device} (fin : d.FinalizedAt z) :
    (Device.freePicker d).FinalizedAt z := by simp (maxDischargeDepth := 12) [Device.freePicker, *]

@[simp] theorem Device.faultPicker_fin {z : CartId} {d : Device} {elems : List ElemId} {arg : ElemId}
    (fin : d.FinalizedAt z) :
    (Device.faultPicker d elems arg).FinalizedAt z := by simp (maxDischargeDepth := 12) [Device.faultPicker, *]

@[simp] theorem Device.ensurePlacement_fin {z : CartId} {d : Device} (fin : d.FinalizedAt z) :
    (Device.ensurePlacement d).FinalizedAt z := by
  unfold Device.ensurePlacement; (repeat' split) <;> simp (maxDischargeDepth := 12) [*]

theorem Device.aimPlacement_fin {z : CartId} {d d' : Device} {m : Move} (fin : d.FinalizedAt z)
    (h : d.aimPlacement m = some d') : d'.FinalizedAt z := by
  unfold Device.aimPlacement at h
  split at h
  · cases hs : d.destination m.load <;> simp [hs] at h
    rw [← h]; simp (maxDischargeDepth := 12) [fin]
  · cases h; exact fin

@[simp] theorem Device.endMove_fin {z : CartId} {d : Device} {m : Move} {r : MoveResult} (fin : d.FinalizedAt z) :
    (Device.endMove d m r).FinalizedAt z := by
  unfold Device.endMove; (repeat' split) <;> simp (maxDischargeDepth := 12) [*]

@[simp] theorem Device.loseMail_fin {z : CartId} {d : Device} {m : Move} (fin : d.FinalizedAt z) :
    (d.loseMail m).FinalizedAt z := by
  unfold Device.loseMail
  split
  · exact Device.fin_foldl (fun d e h => by split <;> simp [h]) _ fin
  · exact fin

@[simp] theorem Device.startMove_fin {z : CartId} {d : Device} {m : Move} (fin : d.FinalizedAt z) :
    (Device.startMove d m).1.FinalizedAt z := by
  unfold Device.startMove; (repeat' split) <;> simp (maxDischargeDepth := 12) [*]

@[simp] theorem Device.requeueMove_fin {z : CartId} {d : Device} {m : Move} {e : ElemId} (fin : d.FinalizedAt z) :
    (Device.requeueMove d m e).FinalizedAt z := fin

@[simp] theorem Device.resolveMove_fin {z : CartId} {d : Device} {m : Move} (fin : d.FinalizedAt z) :
    (Device.resolveMove d m).FinalizedAt z := by
  unfold Device.resolveMove; (repeat' split) <;> simp (maxDischargeDepth := 12) [*]

@[simp] theorem Device.resolveInterrupted_fin {z : CartId} {d : Device} {id : Nat} (fin : d.FinalizedAt z) :
    (d.resolveInterrupted id).FinalizedAt z := by
  unfold Device.resolveInterrupted; (repeat' split) <;> simp (maxDischargeDepth := 12) [*]

@[simp] theorem Device.resetResolve_fin {z : CartId} {d : Device} {r : ResetSeq} (fin : d.FinalizedAt z) :
    (Device.resetResolve d r).FinalizedAt z := by
  have h := Device.fin_foldl (g := Device.resolveInterrupted) (fun _ _ h => Device.resolveInterrupted_fin h) r.interrupted fin
  unfold Device.resetResolve; simp (maxDischargeDepth := 12) [h]

@[simp] theorem Device.resetScan_fin {z : CartId} {d : Device} {r : ResetSeq} {todo : List ElemId}
    (fin : d.FinalizedAt z) :
    (Device.resetScan d r todo).FinalizedAt z := by
  unfold Device.resetScan; (repeat' split) <;> simp (maxDischargeDepth := 12) [*]

@[simp] theorem Device.runPlacement_fin {z : CartId} {d : Device} {r : ResetSeq} (fin : d.FinalizedAt z) :
    (d.runPlacement r).FinalizedAt z := by
  unfold Device.runPlacement
  extract_lets d1 _ d2
  have h2 : d2.FinalizedAt z := Device.ensurePlacement_fin fin
  split
  · exact Device.resetScan_fin h2
  · split
    · exact Device.resetScan_fin h2
    · rename_i aimed ha
      have hm := Device.aimPlacement_fin h2 ha
      split
      · exact Device.resetScan_fin h2
      · extract_lets begun
        have hb : begun.1.FinalizedAt z := Device.startMove_fin hm
        split
        · exact hb
        · exact Device.resetScan_fin (Device.ensurePlacement_fin hb)

@[simp] theorem Device.takeUpPlacement_fin {z : CartId} {d : Device} {r : ResetSeq} (fin : d.FinalizedAt z) :
    (d.takeUpPlacement r).1.FinalizedAt z := by
  unfold Device.takeUpPlacement; (repeat' split) <;> simp (maxDischargeDepth := 12) [*]

@[simp] theorem Device.resetPlace_fin {z : CartId} {d : Device} {r : ResetSeq} (fin : d.FinalizedAt z) :
    (d.resetPlace r).FinalizedAt z :=
  Device.runPlacement_fin (Device.takeUpPlacement_fin fin)

@[simp] theorem Device.changerReset_fin {z : CartId} {d : Device} (fin : d.FinalizedAt z) :
    (Device.changerReset d).FinalizedAt z := by simp (maxDischargeDepth := 12) [Device.changerReset, *]

@[simp] theorem Device.afterMove_fin {z : CartId} {d : Device} (fin : d.FinalizedAt z) :
    (Device.afterMove d).FinalizedAt z := by
  unfold Device.afterMove; (repeat' split) <;> simp (maxDischargeDepth := 12) [*]

@[simp] theorem Device.failMove_fin {z : CartId} {d : Device} {m : Move} {c : MoveCause} (fin : d.FinalizedAt z) :
    (Device.failMove d m c).FinalizedAt z := by simp (maxDischargeDepth := 12) [Device.failMove, *]

@[simp] theorem Device.gripFault_fin {z : CartId} {d : Device} {m : Move} (fin : d.FinalizedAt z) :
    (Device.gripFault d m).FinalizedAt z := by simp (maxDischargeDepth := 12) [Device.gripFault, *]

@[simp] theorem Device.holdInPicker_fin {z : CartId} {d : Device} {m : Move} (fin : d.FinalizedAt z) :
    (Device.holdInPicker d m).FinalizedAt z := by simp (maxDischargeDepth := 12) [Device.holdInPicker, *]

@[simp] theorem Device.gripFailure_fin {z : CartId} {d : Device} {m : Move} {b : ElemId} {atSource : Bool}
    (fin : d.FinalizedAt z) :
    (Device.gripFailure d m b atSource).FinalizedAt z := by
  unfold Device.gripFailure; (repeat' split) <;> simp (maxDischargeDepth := 12) [*]

@[simp] theorem Device.transferEnd_fin {z : CartId} {d : Device} {m : Move} {b : ElemId} {r : TransferResult}
    (fin : d.FinalizedAt z) :
    (Device.transferEnd d m b r).FinalizedAt z := by
  unfold Device.transferEnd; (repeat' split) <;> simp (maxDischargeDepth := 12) [*]

@[simp] theorem Device.advanceInventory_fin {z : CartId} {d : Device} {v : Inventory} (fin : d.FinalizedAt z) :
    (Device.advanceInventory d v).FinalizedAt z := by
  unfold Device.advanceInventory; (repeat' split) <;> simp (maxDischargeDepth := 12) [*]

@[simp] theorem Device.inventoryStep_fin {z : CartId} {d : Device} {v : Inventory} (fin : d.FinalizedAt z) :
    (Device.inventoryStep d v).FinalizedAt z := by
  unfold Device.inventoryStep; (repeat' split) <;> simp (maxDischargeDepth := 12) [*]

@[simp] theorem Device.inventoryScanned_fin {z : CartId} {d : Device} {e : ElemId} {r : ScanResult} {stale : Bool}
    (fin : d.FinalizedAt z) :
    (Device.inventoryScanned d e r stale).FinalizedAt z := by
  unfold Device.inventoryScanned; (repeat' split) <;> simp (maxDischargeDepth := 12) [*]

@[simp] theorem Device.mailScanned_fin {z : CartId} {d : Device} {e : ElemId} {r : ScanResult} {stale : Bool}
    (fin : d.FinalizedAt z) :
    (Device.mailScanned d e r stale).FinalizedAt z := by
  unfold Device.mailScanned; dsimp only; (repeat' split) <;> simp (maxDischargeDepth := 12) [*]

@[simp] theorem Device.scanEnd_fin {z : CartId} {d : Device} {e : ElemId} {purpose : ScanFor} {stale : Bool} {r : ScanResult}
    (fin : d.FinalizedAt z) :
    (Device.scanEnd d e purpose stale r).FinalizedAt z := by
  unfold Device.scanEnd; dsimp only; (repeat' split) <;> simp (maxDischargeDepth := 12) [*]

@[simp] theorem Device.rehomeEnd_fin {z : CartId} {d : Device} {r : ScanResult} (fin : d.FinalizedAt z) :
    (Device.rehomeEnd d r).FinalizedAt z := by
  unfold Device.rehomeEnd; dsimp only; (repeat' split) <;> simp (maxDischargeDepth := 12) [*]

@[simp] theorem Device.pickerChoose_fin {z : CartId} {d : Device} (fin : d.FinalizedAt z) :
    d.pickerChoose.FinalizedAt z := by
  unfold Device.pickerChoose
  split
  · split
    · exact fin
    · rename_i m _
      lift_lets; intro aimed
      have ha : ∀ e, aimed = some e → e.FinalizedAt z := by
        intro e h
        by_cases hm : m.places = true
        · exact Device.aimPlacement_fin fin (by simpa [aimed, hm] using h)
        · have : d = e := by simpa [aimed, hm] using h
          exact this ▸ fin
      clear_value aimed
      split
      · exact fin
      · have he := ha _ rfl
        split
        · exact he
        · lift_lets; intro b; split <;> simp (maxDischargeDepth := 12) [b, he]
    · exact Device.inventoryStep_fin fin
    · split <;> simp (maxDischargeDepth := 12) [fin]
  · exact fin

@[simp] theorem Device.orderTimedOut_fin {z : CartId} {d : Device} {k : OrderKind} (fin : d.FinalizedAt z) :
    (Device.orderTimedOut d k).FinalizedAt z := by
  unfold Device.orderTimedOut; (repeat' split) <;> simp (maxDischargeDepth := 12) [*]

@[simp] theorem Device.loseMailSlots_fin {z : CartId} {d : Device} (fin : d.FinalizedAt z) :
    (Device.loseMailSlots d).FinalizedAt z := by
  unfold Device.loseMailSlots
  refine Device.fin_foldl (fun d a h => ?_) _ (by simp (maxDischargeDepth := 12) [*])
  (repeat' split) <;> simp (maxDischargeDepth := 12) [*]

@[simp] theorem Device.staleScan_fin {z : CartId} {d : Device} (fin : d.FinalizedAt z) :
    (Device.staleScan d).FinalizedAt z := by
  unfold Device.staleScan; (repeat' split) <;> simp (maxDischargeDepth := 12) [*]

@[simp] theorem Device.doorOpens_fin {z : CartId} {d : Device} (fin : d.FinalizedAt z) :
    (Device.doorOpens d).FinalizedAt z := by simp (maxDischargeDepth := 12) [Device.doorOpens, *]

@[simp] theorem Device.doorCloses_fin {z : CartId} {d : Device} (fin : d.FinalizedAt z) :
    (Device.doorCloses d).FinalizedAt z := by simp (maxDischargeDepth := 12) [Device.doorCloses, *]

@[simp] theorem Device.reportNone_fin {z : CartId} {d : Device} {k : Claim} (fin : d.FinalizedAt z) :
    (Device.reportNone d k).FinalizedAt z := by
  unfold Device.reportNone; (repeat' split) <;> simp (maxDischargeDepth := 12) [*]

@[simp] theorem Device.weigh_fin {z : CartId} {i : DriveId} {ks : List Claim} {d : Device} (fin : d.FinalizedAt z) :
    (Device.weigh i ks d).1.FinalizedAt z := by
  induction ks generalizing d with
  | nil => exact fin
  | cons k ks ih =>
    unfold Device.weigh
    (repeat' split) <;> simp (maxDischargeDepth := 12) [ih, fin]

@[simp] theorem Device.startUnload_fin {z : CartId} {d : Device} {i : DriveId} {p : Phase} (fin : d.FinalizedAt z) :
    (Device.startUnload d i p).FinalizedAt z := fin

@[simp] theorem Device.startUnmount_fin {z : CartId} {d : Device} {i : DriveId} (fin : d.FinalizedAt z) :
    (Device.startUnmount d i).FinalizedAt z := fin

@[simp] theorem Device.toIdle_fin {z : CartId} {d : Device} {i : DriveId} (fin : d.FinalizedAt z) :
    (Device.toIdle d i).FinalizedAt z := by simp (maxDischargeDepth := 12) [Device.toIdle, *]

@[simp] theorem Device.idleOrUnmount_fin {z : CartId} {d : Device} {i : DriveId} (fin : d.FinalizedAt z) :
    (Device.idleOrUnmount d i).FinalizedAt z := by
  unfold Device.idleOrUnmount; dsimp only; (repeat' split) <;> simp (maxDischargeDepth := 12) [*]

@[simp] theorem Device.handOverDrive_fin {z : CartId} {d : Device} {i : DriveId} {w : Work} (fin : d.FinalizedAt z) :
    (Device.handOverDrive d i w).FinalizedAt z := by simp (maxDischargeDepth := 12) [Device.handOverDrive, *]

@[simp] theorem Device.finalizeEnd_fin {z : CartId} {d : Device} {c : CartId} {r : FinalizeResult}
    (fin : d.FinalizedAt z) :
    (d.finalizeEnd c r).FinalizedAt z := by
  have h := Device.editCart_fin (c := c) (g := fun e => { e with finalizing := false }) fin fun _ hp hn => ⟨hp, hn⟩
  simp [Device.finalizeEnd, h]

@[simp] theorem Device.finalizeDone_fin {z : CartId} {d : Device} {c : CartId} {n : Nat} (fin : d.FinalizedAt z) :
    (d.finalizeDone c n).FinalizedAt z := by
  have h := Device.editCart_fin (c := c) (g := fun e =>
    { e with eod := some (eodAfter e n), protection := some .finalized, reason := .none, finalizing := false }) fin
    fun _ _ _ => ⟨rfl, by simp⟩
  simp [Device.finalizeDone, h]

@[simp] theorem Device.finalWrite_fin {z : CartId} {d : Device} {i : DriveId} {c : CartId} {e : Cart}
    (fin : d.FinalizedAt z) :
    (Device.finalWrite d i c e).FinalizedAt z := by
  unfold Device.finalWrite; (repeat' split) <;> simp (maxDischargeDepth := 12) [*]

@[simp] theorem Device.mountFailed_fin {z : CartId} {d : Device} {i : DriveId} (fin : d.FinalizedAt z) :
    (Device.mountFailed d i).FinalizedAt z := by
  unfold Device.mountFailed; (repeat' split) <;> simp (maxDischargeDepth := 12) [*]

@[simp] theorem Device.checkNotReady_fin {z : CartId} {d : Device} {i : DriveId} (fin : d.FinalizedAt z) :
    (Device.checkNotReady d i).FinalizedAt z := by
  unfold Device.checkNotReady; (repeat' split) <;> simp (maxDischargeDepth := 12) [*]

@[simp] theorem Device.checkFailed_fin {z : CartId} {d : Device} {i : DriveId} {r : FinalizeResult}
    (fin : d.FinalizedAt z) :
    (Device.checkFailed d i r).FinalizedAt z := by
  unfold Device.checkFailed; (repeat' split) <;> simp (maxDischargeDepth := 12) [*]

@[simp] theorem Device.eodMismatch_fin {z : CartId} {d : Device} {c : CartId} {ends : Bool} (fin : d.FinalizedAt z) :
    (Device.eodMismatch d c ends).FinalizedAt z := by simp (maxDischargeDepth := 12) [Device.eodMismatch, *]

@[simp] theorem Device.appendMismatch_fin {z : CartId} {d : Device} {i : DriveId} {c : CartId}
    (fin : d.FinalizedAt z) :
    (Device.appendMismatch d i c).FinalizedAt z := by simp (maxDischargeDepth := 12) [Device.appendMismatch, *]

@[simp] theorem Device.appendGood_fin {z : CartId} {d : Device} {i : DriveId} {c : CartId} {e : Cart}
    (fin : d.FinalizedAt z) :
    (Device.appendGood d i c e).FinalizedAt z := by
  unfold Device.appendGood; dsimp only; (repeat' split) <;> simp (maxDischargeDepth := 12) [*]

@[simp] theorem Device.appendRead_fin {z : CartId} {d : Device} {i : DriveId} {c : CartId} (fin : d.FinalizedAt z) :
    (Device.appendRead d i c).FinalizedAt z := by
  unfold Device.appendRead; dsimp only; (repeat' split) <;> simp (maxDischargeDepth := 12) [*]

@[simp] theorem Device.beginAppend_fin {z : CartId} {d : Device} {i : DriveId} (fin : d.FinalizedAt z) :
    (Device.beginAppend d i).FinalizedAt z := by
  unfold Device.beginAppend; (repeat' split) <;> simp (maxDischargeDepth := 12) [*]

@[simp] theorem Device.writeLabel_fin {z : CartId} {d : Device} {i : DriveId} {c : CartId} {job : LabelJob}
    (fin : d.FinalizedAt z) :
    (Device.writeLabel d i c job).FinalizedAt z := by
  unfold Device.writeLabel; (repeat' split) <;> simp (maxDischargeDepth := 12) [*]

@[simp] theorem Device.beginLabelling_fin {z : CartId} {d : Device} {i : DriveId} {c : CartId} {e : Cart} {p : PoolId}
    (fin : d.FinalizedAt z) :
    (Device.beginLabelling d i c e p).FinalizedAt z := by
  unfold Device.beginLabelling; (repeat' split) <;> simp (maxDischargeDepth := 12) [*]

@[simp] theorem Device.labelFailed_fin {z : CartId} {d : Device} {i : DriveId} {c : CartId} (fin : d.FinalizedAt z) :
    (Device.labelFailed d i c).FinalizedAt z := by simp (maxDischargeDepth := 12) [Device.labelFailed, *]

@[simp] theorem Device.labelled_fin {z : CartId} {d : Device} {i : DriveId} {c : CartId} {job : LabelJob}
    (fin : d.FinalizedAt z) : (d.labelled i c job).FinalizedAt z := by
  unfold Device.labelled
  split
  · rename_i e he
    split
    · refine Device.appendGood_fin (Device.writeCart_fin fin fun hc => ⟨_, rfl, ?_, by simp [Cart.labelledAs]⟩)
      subst hc
      obtain ⟨x, hx, hp, -⟩ := fin
      obtain rfl : e = x := Option.some.inj (he.symm.trans hx)
      exact hp
    · exact Device.mountFailed_fin fin
  · exact Device.mountFailed_fin fin

@[simp] theorem Device.beginLabel_fin {z : CartId} {d : Device} {i : DriveId} (fin : d.FinalizedAt z) :
    (Device.beginLabel d i).FinalizedAt z := fin

@[simp] theorem Device.labelGood_fin {z : CartId} {d : Device} {i : DriveId} {c : CartId} (fin : d.FinalizedAt z) :
    (Device.labelGood d i c).FinalizedAt z := by
  unfold Device.labelGood; (repeat' split) <;> simp (maxDischargeDepth := 12) [*]

@[simp] theorem Device.labelBad_fin {z : CartId} {d : Device} {i : DriveId} {c : CartId} (fin : d.FinalizedAt z) :
    (Device.labelBad d i c).FinalizedAt z := by
  unfold Device.labelBad; dsimp only; (repeat' split) <;> simp (maxDischargeDepth := 12) [*]

@[simp] theorem Device.labelRead_fin {z : CartId} {d : Device} {i : DriveId} {retries : Nat} {r : DriveResult}
    {block : Bytes} (fin : d.FinalizedAt z) : (d.labelRead i retries r block).FinalizedAt z := by
  have edit : ∀ c s, (d.editCart c fun e => { e with serial := s }).FinalizedAt z := fun c s =>
    Device.editCart_fin fin fun _ hp hn => ⟨hp, hn⟩
  unfold Device.labelRead
  (repeat' split) <;> simp (maxDischargeDepth := 12) [fin, edit]

@[simp] theorem Device.appendReadEnd_fin {z : CartId} {d : Device} {i : DriveId} {retries : Nat} {r : DriveResult} {block : Bytes}
    (fin : d.FinalizedAt z) :
    (Device.appendReadEnd d i retries r block).FinalizedAt z := by
  unfold Device.appendReadEnd; dsimp only; (repeat' split) <;> simp (maxDischargeDepth := 12) [*]

@[simp] theorem Device.appendEndFound_fin {z : CartId} {d : Device} {i : DriveId} {r : DriveResult} {n : Nat}
    (fin : d.FinalizedAt z) : (d.appendEndFound i r n).FinalizedAt z := by
  have edit : ∀ c, (d.editCart c fun e => { e with eod := some (e.eod.getD n) }).FinalizedAt z := fun c =>
    Device.editCart_fin fin fun _ hp _ => ⟨hp, by simp⟩
  unfold Device.appendEndFound
  (repeat' split) <;> simp (maxDischargeDepth := 12) [fin, edit]

@[simp] theorem Device.hostReady_fin {z : CartId} {d : Device} {m : Nat} (fin : d.FinalizedAt z) :
    (Device.hostReady d m).FinalizedAt z := by
  unfold Device.hostReady; (repeat' split) <;> simp (maxDischargeDepth := 12) [*]

@[simp] theorem Device.prepareHost_fin {z : CartId} {d : Device} {i : DriveId} (fin : d.FinalizedAt z) :
    (Device.prepareHost d i).FinalizedAt z := by
  unfold Device.prepareHost; (repeat' split) <;> simp (maxDischargeDepth := 12) [*]

@[simp] theorem Device.serveHost_fin {z : CartId} {d : Device} {i : DriveId} {k : Claim} (fin : d.FinalizedAt z) :
    (Device.serveHost d i k).FinalizedAt z := by
  unfold Device.serveHost; dsimp only; (repeat' split) <;> simp (maxDischargeDepth := 12) [*]

@[simp] theorem Device.presentHost_fin {z : CartId} {d : Device} {i : DriveId} (fin : d.FinalizedAt z) :
    (Device.presentHost d i).FinalizedAt z := by
  unfold Device.presentHost; (repeat' split) <;> simp (maxDischargeDepth := 12) [*]

@[simp] theorem Device.beginMount_fin {z : CartId} {d : Device} {i : DriveId} (fin : d.FinalizedAt z) :
    (d.beginMount i).FinalizedAt z := by
  unfold Device.beginMount
  (repeat' split) <;> try simp (maxDischargeDepth := 12) [fin]
  rename_i h
  exact Device.setPhase_fin (Device.requestMove_fin fin h)

@[simp] theorem Device.assign_fin {z : CartId} {d : Device} {k : Claim} {c : Choice} (fin : d.FinalizedAt z) :
    (Device.assign d k c).FinalizedAt z := by
  unfold Device.assign; dsimp only; (repeat' split) <;> simp (maxDischargeDepth := 12) [*]

@[simp] theorem Device.decideDrive_fin {z : CartId} {i : DriveId} {fuel : Nat} {d : Device} (fin : d.FinalizedAt z) :
    (Device.decideDrive i fuel d).FinalizedAt z := by
  induction fuel generalizing d with
  | zero => exact fin
  | succ n ih =>
    unfold Device.decideDrive
    split
    · lift_lets; intro cs first
      clear_value first
      cases first with
      | some a => simp (maxDischargeDepth := 12) [fin]
      | none =>
        have hw := Device.weigh_fin (i := i) (ks := cs) fin
        dsimp only
        split <;> rename_i h <;> rw [h] at hw
        · split <;> simp_all
        · exact hw
    · exact fin

@[simp] theorem Device.settleRelease_fin {z : CartId} {d : Device} {i : DriveId} (fin : d.FinalizedAt z) :
    (Device.settleRelease d i).FinalizedAt z := by
  unfold Device.settleRelease; dsimp only; (repeat' split) <;> simp (maxDischargeDepth := 12) [*]

@[simp] theorem Device.arbitrate_fin {z : CartId} {d : Device} (fin : d.FinalizedAt z) :
    d.arbitrate.FinalizedAt z :=
  Device.postAll_fin (Device.fin_foldl (fun _ _ h => Device.settleRelease_fin h) _
    (Device.fin_foldl (fun _ _ h => Device.decideDrive_fin h) _ fin))

@[simp] theorem Device.driveEmptied_fin {z : CartId} {d : Device} {i : DriveId} (fin : d.FinalizedAt z) :
    (Device.driveEmptied d i).FinalizedAt z := by simp (maxDischargeDepth := 12) [Device.driveEmptied, *]

@[simp] theorem Device.mountDone_fin {z : CartId} {d : Device} {i : DriveId} {l : Load} {host : Bool}
    (fin : d.FinalizedAt z) :
    (Device.mountDone d i l host).FinalizedAt z := by
  unfold Device.mountDone; (repeat' split) <;> simp (maxDischargeDepth := 12) [*]

@[simp] theorem Device.askReturn_fin {z : CartId} {d : Device} {i : DriveId} (fin : d.FinalizedAt z) :
    (d.askReturn i).FinalizedAt z := by
  unfold Device.askReturn
  dsimp only
  (repeat' split) <;> try simp (maxDischargeDepth := 12) [fin]
  all_goals
    rename_i h
    exact Device.setPhase_fin (Device.requestMove_fin (Device.takeDestination_fin fin) h)

@[simp] theorem Device.askAllReturns_fin {z : CartId} {d : Device} (fin : d.FinalizedAt z) :
    (Device.askAllReturns d).FinalizedAt z := by
  unfold Device.askAllReturns
  refine Device.fin_foldl (fun d a h => ?_) _ (by simp (maxDischargeDepth := 12) [*])
  (repeat' split) <;> simp (maxDischargeDepth := 12) [*]

@[simp] theorem Device.returnAgain_fin {z : CartId} {d : Device} {i : DriveId} {b : Option ElemId}
    (fin : d.FinalizedAt z) :
    (d.returnAgain i b).FinalizedAt z := by
  unfold Device.returnAgain
  dsimp only
  (repeat' split) <;> try simp (maxDischargeDepth := 12) [fin]
  rename_i h
  exact Device.setPhase_fin (Device.requestMove_fin fin h)

@[simp] theorem Device.returnEnded_fin {z : CartId} {d : Device} {i : DriveId} {m : Move} {r : MoveResult}
    (fin : d.FinalizedAt z) :
    (Device.returnEnded d i m r).FinalizedAt z := by
  unfold Device.returnEnded; (repeat' split) <;> simp (maxDischargeDepth := 12) [*]

@[simp] theorem Device.checkSuspension_fin {z : CartId} {d : Device} {i : DriveId} (fin : d.FinalizedAt z) :
    (Device.checkSuspension d i).FinalizedAt z := by
  unfold Device.checkSuspension; dsimp only; (repeat' split) <;> simp (maxDischargeDepth := 12) [*]

@[simp] theorem Device.popContext_fin {z : CartId} {d : Device} {i : DriveId} {k : Context} {rest : List Context}
    (fin : d.FinalizedAt z) :
    (Device.popContext d i k rest).FinalizedAt z := by
  unfold Device.popContext; (repeat' split) <;> simp (maxDischargeDepth := 12) [*]

@[simp] theorem Device.workEnded_fin {z : CartId} {d : Device} {i : DriveId} (fin : d.FinalizedAt z) :
    (Device.workEnded d i).FinalizedAt z := by
  unfold Device.workEnded; dsimp only; (repeat' split) <;> simp (maxDischargeDepth := 12) [*]

@[simp] theorem Device.endWork_fin {z : CartId} {d : Device} {i : DriveId} (fin : d.FinalizedAt z) :
    (Device.endWork d i).FinalizedAt z := by
  unfold Device.endWork; (repeat' split) <;> simp (maxDischargeDepth := 12) [*]

@[simp] theorem Device.dropContext_fin {z : CartId} {d : Device} {w : Work} (fin : d.FinalizedAt z) :
    (Device.dropContext d w).FinalizedAt z := by
  unfold Device.dropContext
  refine Device.fin_foldl (fun d a h => ?_) _ (by simp (maxDischargeDepth := 12) [*])
  (repeat' split) <;> simp (maxDischargeDepth := 12) [*]

@[simp] theorem Device.cleanRequested_fin {z : CartId} {d : Device} {i : DriveId} (fin : d.FinalizedAt z) :
    (Device.cleanRequested d i).FinalizedAt z := by
  unfold Device.cleanRequested; dsimp only; (repeat' split) <;> simp (maxDischargeDepth := 12) [*]

@[simp] theorem Device.beginClean_fin {z : CartId} {d : Device} {i : DriveId} (fin : d.FinalizedAt z) :
    (Device.beginClean d i).FinalizedAt z := fin

@[simp] theorem Device.cleanEnd_fin {z : CartId} {d : Device} {i : DriveId} {r : DriveResult}
    (fin : d.FinalizedAt z) : (d.cleanEnd i r).FinalizedAt z := by
  have edit : ∀ c, (d.editCart c fun e => { e with uses := e.uses - 1 }).FinalizedAt z := fun c =>
    Device.editCart_fin fin fun _ hp hn => ⟨hp, hn⟩
  unfold Device.cleanEnd
  extract_lets d1 d2 d3
  have h1 : d1.FinalizedAt z := by unfold d1; dsimp only; (repeat' split) <;> simp [fin, edit]
  have h2 : d2.FinalizedAt z := Device.modDrive_fin h1
  have h3 : d3.FinalizedAt z := by unfold d3; split <;> simp [h2]
  exact Device.startUnmount_fin (Device.returnClaim_fin h3)

@[simp] theorem Device.present_fin {z : CartId} {d : Device} {client : XeClient} {record : TapeRecord} {age : Nat}
    (fin : d.FinalizedAt z) :
    (Device.present d client record age).FinalizedAt z := by simp (maxDischargeDepth := 12) [Device.present, *]

@[simp] theorem Device.withdrawXe_fin {z : CartId} {d : Device} {client : XeClient} (fin : d.FinalizedAt z) :
    (Device.withdrawXe d client).FinalizedAt z := fin

@[simp] theorem Device.dropXe_fin {z : CartId} {d : Device} {client : XeClient} (fin : d.FinalizedAt z) :
    (Device.dropXe d client).FinalizedAt z := fin

@[simp] theorem Device.xeChoose_fin {z : CartId} {d : Device} (fin : d.FinalizedAt z) :
    (Device.xeChoose d).FinalizedAt z := by
  unfold Device.xeChoose; (repeat' split) <;> simp (maxDischargeDepth := 12) [*]

@[simp] theorem Device.claimRestore_fin {z : CartId} {d : Device} {e : Restore} {c : CartId} (fin : d.FinalizedAt z) :
    (Device.claimRestore d e c).FinalizedAt z := by simp (maxDischargeDepth := 12) [Device.claimRestore, *]

@[simp] theorem Device.promoteOne_fin {z : CartId} {d : Device} (fin : d.FinalizedAt z) :
    (Device.promoteOne d).FinalizedAt z := by
  unfold Device.promoteOne; (repeat' split) <;> simp (maxDischargeDepth := 12) [*]

@[simp] theorem Device.promote_fin {z : CartId} {d : Device} (fin : d.FinalizedAt z) :
    d.promote.FinalizedAt z := by
  have h : ∀ n, (Nat.repeat Device.promoteOne n d).FinalizedAt z := by
    intro n
    induction n with
    | zero => exact fin
    | succ n ih => exact Device.promoteOne_fin ih
  exact h _

@[simp] theorem Device.endWorkOf_fin {z : CartId} {d : Device} {w : Work} (fin : d.FinalizedAt z) :
    (Device.endWorkOf d w).FinalizedAt z := by
  unfold Device.endWorkOf; (repeat' split) <;> simp (maxDischargeDepth := 12) [*]

@[simp] theorem Device.freeRestore_fin {z : CartId} {d : Device} {r : RestoreId} (fin : d.FinalizedAt z) :
    (Device.freeRestore d r).FinalizedAt z := fin

@[simp] theorem Device.leaveRestore_fin {z : CartId} {d : Device} {r : RestoreId} {e : Restore}
    (fin : d.FinalizedAt z) :
    (Device.leaveRestore d r e).FinalizedAt z := by simp (maxDischargeDepth := 12) [Device.leaveRestore, *]

@[simp] theorem Device.endRestore_fin {z : CartId} {d : Device} {r : RestoreId} {status : EndStatus}
    (fin : d.FinalizedAt z) : (d.endRestore r status).FinalizedAt z := by
  unfold Device.endRestore; (repeat' split) <;> simp (maxDischargeDepth := 12) [*]

@[simp] theorem Device.cancelRestores_fin {z : CartId} {d : Device} (fin : d.FinalizedAt z) :
    d.cancelRestores.FinalizedAt z :=
  Device.post_fin (Device.fin_foldl (fun _ _ h => Device.setGrants_fin (Device.freeRestore_fin h)) _
    (Device.fin_foldl (fun _ _ h => Device.endWorkOf_fin h) _
      (Device.fin_foldl (fun _ _ h => Device.leaveRestore_fin h) _ fin)))

@[simp] theorem Device.endRead_fin {z : CartId} {d : Device} {r : RestoreId} (fin : d.FinalizedAt z) :
    (Device.endRead d r).FinalizedAt z := by
  unfold Device.endRead; (repeat' split) <;> simp (maxDischargeDepth := 12) [*]

@[simp] theorem Device.locateStart_fin {z : CartId} {d : Device} {r : RestoreId} {i : DriveId} {n : Nat}
    (fin : d.FinalizedAt z) :
    (Device.locateStart d r i n).FinalizedAt z := fin

@[simp] theorem Device.restoreServed_fin {z : CartId} {d : Device} {r : RestoreId} {i : DriveId}
    (fin : d.FinalizedAt z) :
    (Device.restoreServed d r i).FinalizedAt z := by
  unfold Device.restoreServed; (repeat' split) <;> simp (maxDischargeDepth := 12) [*]

@[simp] theorem Device.chainTo_fin {z : CartId} {d : Device} {e : Restore} {q : Part} (fin : d.FinalizedAt z) :
    (Device.chainTo d e q).FinalizedAt z := by
  unfold Device.chainTo; dsimp only; (repeat' split) <;> simp (maxDischargeDepth := 12) [*]

@[simp] theorem Device.chainStep_fin {z : CartId} {d : Device} {e : Restore} {p : Part} (fin : d.FinalizedAt z) :
    (Device.chainStep d e p).FinalizedAt z := by
  unfold Device.chainStep; (repeat' split) <;> simp (maxDischargeDepth := 12) [*]

@[simp] theorem Device.partEnd_fin {z : CartId} {d : Device} {e : Restore} {p : Part} (fin : d.FinalizedAt z) :
    (Device.partEnd d e p).FinalizedAt z := by
  unfold Device.partEnd; dsimp only; (repeat' split) <;> simp (maxDischargeDepth := 12) [*]

@[simp] theorem Device.readOn_fin {z : CartId} {d : Device} {i : DriveId} {n : Nat} (fin : d.FinalizedAt z) :
    (Device.readOn d i n).FinalizedAt z := by
  unfold Device.readOn; (repeat' split) <;> simp (maxDischargeDepth := 12) [*]

@[simp] theorem Device.nextRead_fin {z : CartId} {d : Device} {e : Restore} {p : Part} (fin : d.FinalizedAt z) :
    (Device.nextRead d e p).FinalizedAt z := by
  unfold Device.nextRead; dsimp only; (repeat' split) <;> simp (maxDischargeDepth := 12) [*]

@[simp] theorem Device.restoreGoOn_fin {z : CartId} {d : Device} {r : RestoreId} (fin : d.FinalizedAt z) :
    (Device.restoreGoOn d r).FinalizedAt z := by
  unfold Device.restoreGoOn; (repeat' split) <;> simp (maxDischargeDepth := 12) [*]

@[simp] theorem Device.pushIfReady_fin {z : CartId} {d : Device} {i : DriveId} (fin : d.FinalizedAt z) :
    (Device.pushIfReady d i).FinalizedAt z := by
  unfold Device.pushIfReady; (repeat' split) <;> simp (maxDischargeDepth := 12) [*]

@[simp] theorem Device.restoreRead_fin {z : CartId} {d : Device} {r : RestoreId} {i : DriveId} {res : DriveResult} {block : Bytes}
    (fin : d.FinalizedAt z) :
    (Device.restoreRead d r i res block).FinalizedAt z := by
  unfold Device.restoreRead; dsimp only; (repeat' split) <;> simp (maxDischargeDepth := 12) [*]

@[simp] theorem Device.emits_fin {z : CartId} {d : Device} {fs : List (Nat × Bytes)} {g : Nat × Bytes → OutFrame}
    (fin : d.FinalizedAt z) :
    (fs.foldl (fun d f => d.emit (g f)) d).FinalizedAt z :=
  Device.fin_foldl (fun _ _ h => Device.emit_fin h) _ fin

@[simp] theorem Device.sendFrames_fin {z : CartId} {d : Device} {r : RestoreId} (fin : d.FinalizedAt z) :
    (d.sendFrames r).FinalizedAt z := by
  unfold Device.sendFrames; dsimp only; (repeat' split) <;> simp (maxDischargeDepth := 12) [*]

@[simp] theorem Device.restoreResult_fin {z : CartId} {d : Device} {r : RestoreId} {res : XeResult}
    (fin : d.FinalizedAt z) :
    (Device.restoreResult d r res).FinalizedAt z := by
  unfold Device.restoreResult; (repeat' split) <;> simp (maxDischargeDepth := 12) [*]

@[simp] theorem Device.resultToRestore_fin {z : CartId} {d : Device} {r : RestoreId} {res : XeResult}
    (fin : d.FinalizedAt z) :
    (Device.resultToRestore d r res).FinalizedAt z := by
  unfold Device.resultToRestore; (repeat' split) <;> simp (maxDischargeDepth := 12) [*]

@[simp] theorem Device.restoreResume_fin {z : CartId} {d : Device} {r : RestoreId} (fin : d.FinalizedAt z) :
    (Device.restoreResume d r).FinalizedAt z := by
  unfold Device.restoreResume; dsimp only; (repeat' split) <;> simp (maxDischargeDepth := 12) [*]

@[simp] theorem Device.restorePushed_fin {z : CartId} {d : Device} {r : RestoreId} (fin : d.FinalizedAt z) :
    (Device.restorePushed d r).FinalizedAt z := fin

@[simp] theorem Device.modEntry_fin {z : CartId} {d : Device} {c : CartId} {g : VerifyEntry → VerifyEntry}
    (fin : d.FinalizedAt z) :
    (Device.modEntry d c g).FinalizedAt z := by
  unfold Device.modEntry; (repeat' split) <;> simp (maxDischargeDepth := 12) [*]

@[simp] theorem Device.insertNew_fin {z : CartId} {d : Device} {c : CartId} (fin : d.FinalizedAt z) :
    (Device.insertNew d c).FinalizedAt z := by simp (maxDischargeDepth := 12) [Device.insertNew, *]

@[simp] theorem Device.recompute_fin {z : CartId} {d : Device} {c : CartId} (fin : d.FinalizedAt z) :
    (Device.recompute d c).FinalizedAt z := by simp (maxDischargeDepth := 12) [Device.recompute, *]

@[simp] theorem Device.reclass_fin {z : CartId} {d : Device} {c : CartId} {src dst : ClaimKind}
    (fin : d.FinalizedAt z) :
    (Device.reclass d c src dst).FinalizedAt z := by
  unfold Device.reclass; (repeat' split) <;> simp (maxDischargeDepth := 12) [*]

@[simp] theorem Device.overdueTest_fin {z : CartId} {d : Device} {c : CartId} (fin : d.FinalizedAt z) :
    (Device.overdueTest d c).FinalizedAt z := by
  unfold Device.overdueTest; (repeat' split) <;> simp (maxDischargeDepth := 12) [*]

@[simp] theorem Device.timeChanged_fin {z : CartId} {d : Device} {old : Nat} (fin : d.FinalizedAt z) :
    (Device.timeChanged d old).FinalizedAt z := by
  unfold Device.timeChanged; dsimp only; (repeat' split) <;> simp (maxDischargeDepth := 12) [*]

@[simp] theorem Device.claimVerify_fin {z : CartId} {d : Device} {e : VerifyEntry} {kind : ClaimKind}
    (fin : d.FinalizedAt z) :
    (Device.claimVerify d e kind).FinalizedAt z := by simp (maxDischargeDepth := 12) [Device.claimVerify, *]

@[simp] theorem Device.withdrawVerify_fin {z : CartId} {d : Device} {c : CartId} (fin : d.FinalizedAt z) :
    (Device.withdrawVerify d c).FinalizedAt z := by simp (maxDischargeDepth := 12) [Device.withdrawVerify, *]

@[simp] theorem Device.scheduleLoop_fin {z : CartId} {fuel : Nat} {d : Device} (fin : d.FinalizedAt z) :
    (Device.scheduleLoop fuel d).FinalizedAt z := by
  induction fuel generalizing d with
  | zero => exact fin
  | succ n ih =>
    unfold Device.scheduleLoop
    (repeat' split) <;> simp (maxDischargeDepth := 12) [ih, fin]

@[simp] theorem Device.verifySchedule_fin {z : CartId} {d : Device} (fin : d.FinalizedAt z) :
    (Device.verifySchedule d).FinalizedAt z := by simp (maxDischargeDepth := 12) [Device.verifySchedule, *]

@[simp] theorem Device.entryChanged_fin {z : CartId} {d : Device} {c : CartId} (fin : d.FinalizedAt z) :
    (Device.entryChanged d c).FinalizedAt z := by simp (maxDischargeDepth := 12) [Device.entryChanged, *]

@[simp] theorem Device.verifyNotify_fin {z : CartId} {d : Device} {c : CartId} (fin : d.FinalizedAt z) :
    (Device.verifyNotify d c).FinalizedAt z := by
  unfold Device.verifyNotify; (repeat' split) <;> simp (maxDischargeDepth := 12) [*]

@[simp] theorem Device.blockEntry_fin {z : CartId} {d : Device} {c : CartId} {r : BlockReason}
    (fin : d.FinalizedAt z) :
    (Device.blockEntry d c r).FinalizedAt z := by simp (maxDischargeDepth := 12) [Device.blockEntry, *]

@[simp] theorem Device.unblock_fin {z : CartId} {d : Device} {c : CartId} {r : BlockReason} (fin : d.FinalizedAt z) :
    (Device.unblock d c r).FinalizedAt z := by
  unfold Device.unblock; (repeat' split) <;> simp (maxDischargeDepth := 12) [*]

@[simp] theorem Device.settlePart_fin {z : CartId} {d : Device} {p : PassPart} (fin : d.FinalizedAt z) :
    (Device.settlePart d p).FinalizedAt z := by
  unfold Device.settlePart; (repeat' split) <;> simp (maxDischargeDepth := 12) [*]

@[simp] theorem Device.freePass_fin {z : CartId} {d : Device} {p : Pass} (fin : d.FinalizedAt z) :
    (Device.freePass d p).FinalizedAt z :=
  Device.post_fin (Device.fin_foldl (fun _ _ h => Device.unpinVerify_fin h) _ fin)

@[simp] theorem Device.entryAfterPass_fin {z : CartId} {d : Device} {c : CartId} (fin : d.FinalizedAt z) :
    (Device.entryAfterPass d c).FinalizedAt z := by simp (maxDischargeDepth := 12) [Device.entryAfterPass, *]

@[simp] theorem Device.endPass_fin {z : CartId} {d : Device} {c : CartId} (fin : d.FinalizedAt z) :
    (d.endPass c).FinalizedAt z := by
  unfold Device.endPass
  split
  · exact fin
  · exact Device.post_fin (Device.endWorkOf_fin (Device.entryAfterPass_fin (Device.freePass_fin
      (Device.fin_foldl (fun _ _ h => Device.settlePart_fin h) _ fin))))

@[simp] theorem Device.abandonPass_fin {z : CartId} {d : Device} {c : CartId} {work : Bool} (fin : d.FinalizedAt z) :
    (Device.abandonPass d c work).FinalizedAt z := by
  unfold Device.abandonPass; (repeat' split) <;> simp (maxDischargeDepth := 12) [*]

@[simp] theorem Device.passStart_fin {z : CartId} {d : Device} {c : CartId} {i : DriveId} (fin : d.FinalizedAt z) :
    (d.passStart c i).FinalizedAt z := by
  unfold Device.passStart
  split
  · exact Device.endWorkOf_fin fin
  · extract_lets parts first last d1 p _ d2 d3
    have h1 : d1.FinalizedAt z := Device.fin_foldl (fun _ _ h => Device.pinVerify_fin h) _ fin
    have h3 : d3.FinalizedAt z := Device.modEntry_fin (d := d2) h1
    split
    · exact Device.endPass_fin h3
    · simp (maxDischargeDepth := 12) [h3]

@[simp] theorem Device.failPart_fin {z : CartId} {d : Device} {c : CartId} {id : Nat} (fin : d.FinalizedAt z) :
    (Device.failPart d c id).FinalizedAt z := by simp (maxDischargeDepth := 12) [Device.failPart, *]

@[simp] theorem Device.passRecords_fin {z : CartId} {c : CartId} {block order : Nat} {qs : List TapeRecord} {d : Device}
    (fin : d.FinalizedAt z) :
    (Device.passRecords c block order qs d).1.FinalizedAt z := by
  induction qs generalizing d with
  | nil => simp (maxDischargeDepth := 12) [Device.passRecords, fin]
  | cons q qs ih =>
    unfold Device.passRecords
    (repeat' split) <;> simp (maxDischargeDepth := 12) [ih, fin]

@[simp] theorem Device.passNextRead_fin {z : CartId} {d : Device} {c : CartId} (fin : d.FinalizedAt z) :
    (Device.passNextRead d c).FinalizedAt z := by
  unfold Device.passNextRead; (repeat' split) <;> simp (maxDischargeDepth := 12) [*]

@[simp] theorem Device.passGoOn_fin {z : CartId} {d : Device} {c : CartId} (fin : d.FinalizedAt z) :
    (Device.passGoOn d c).FinalizedAt z := by
  unfold Device.passGoOn; dsimp only; (repeat' split) <;> simp (maxDischargeDepth := 12) [*]

@[simp] theorem Device.passLost_fin {z : CartId} {d : Device} {c : CartId} {n : Nat} (fin : d.FinalizedAt z) :
    (d.passLost c n).FinalizedAt z := by
  unfold Device.passLost
  split
  · exact fin
  · exact Device.fin_foldl (fun _ _ h => Device.failPart_fin h) _ fin

@[simp] theorem Device.passRead_fin {z : CartId} {d : Device} {c : CartId} {i : DriveId} {res : DriveResult} {block : Bytes}
    (fin : d.FinalizedAt z) :
    (Device.passRead d c i res block).FinalizedAt z := by
  unfold Device.passRead; dsimp only; (repeat' split) <;> simp (maxDischargeDepth := 12) [*]

@[simp] theorem Device.passResult_fin {z : CartId} {d : Device} {c : CartId} {res : XeResult}
    (fin : d.FinalizedAt z) :
    (Device.passResult d c res).FinalizedAt z := by
  unfold Device.passResult; (repeat' split) <;> simp (maxDischargeDepth := 12) [*]

@[simp] theorem Device.resultToPass_fin {z : CartId} {d : Device} {c : CartId} {res : XeResult}
    (fin : d.FinalizedAt z) :
    (Device.resultToPass d c res).FinalizedAt z := by
  unfold Device.resultToPass; (repeat' split) <;> simp (maxDischargeDepth := 12) [*]

@[simp] theorem Device.passResume_fin {z : CartId} {d : Device} {c : CartId} (fin : d.FinalizedAt z) :
    (Device.passResume d c).FinalizedAt z := by
  unfold Device.passResume; dsimp only; (repeat' split) <;> simp (maxDischargeDepth := 12) [*]

@[simp] theorem Device.passPushed_fin {z : CartId} {d : Device} {c : CartId} (fin : d.FinalizedAt z) :
    (Device.passPushed d c).FinalizedAt z := fin

@[simp] theorem Device.resetMoves_fin {z : CartId} {d : Device} {i : DriveId} {rescan : Bool}
    (fin : d.FinalizedAt z) :
    (Device.resetMoves d i rescan).FinalizedAt z := by
  unfold Device.resetMoves
  refine Device.fin_foldl (fun d a h => ?_) _ (by simp (maxDischargeDepth := 12) [*])
  (repeat' split) <;> simp (maxDischargeDepth := 12) [*]

@[simp] theorem Device.unreadyHost_fin {z : CartId} {d : Device} {i : DriveId} (fin : d.FinalizedAt z) :
    (Device.unreadyHost d i).FinalizedAt z := by
  unfold Device.unreadyHost; (repeat' split) <;> simp (maxDischargeDepth := 12) [*]

@[simp] theorem Device.endContext_fin {z : CartId} {d : Device} {w : Work} (fin : d.FinalizedAt z) :
    (Device.endContext d w).FinalizedAt z := by
  unfold Device.endContext; (repeat' split) <;> simp (maxDischargeDepth := 12) [*]

@[simp] theorem Device.endContexts_fin {z : CartId} {d : Device} {i : DriveId} (fin : d.FinalizedAt z) :
    (d.endContexts i).FinalizedAt z := by
  unfold Device.endContexts
  exact Device.returnClaim_fin (Device.fin_foldl (fun _ _ h => Device.endContext_fin h) _
    (Device.modDrive_fin fin))

@[simp] theorem Device.resetStep3_fin {z : CartId} {d : Device} {i : DriveId} (fin : d.FinalizedAt z) :
    (Device.resetStep3 d i).FinalizedAt z := by
  unfold Device.resetStep3; (repeat' split) <;> simp (maxDischargeDepth := 12) [*]

@[simp] theorem Device.driveReset_fin {z : CartId} {d : Device} {i : DriveId} {rescan : Bool}
    (fin : d.FinalizedAt z) :
    (Device.driveReset d i rescan).FinalizedAt z := by
  unfold Device.driveReset; dsimp only; (repeat' split) <;> simp (maxDischargeDepth := 12) [*]

@[simp] theorem Device.faultFinalize_fin {z : CartId} {d : Device} {i : DriveId} (fin : d.FinalizedAt z) :
    (Device.faultFinalize d i).FinalizedAt z := by
  unfold Device.faultFinalize; (repeat' split) <;> simp (maxDischargeDepth := 12) [*]

@[simp] theorem Device.driveFault_fin {z : CartId} {d : Device} {i : DriveId} {cause : FaultCause}
    (fin : d.FinalizedAt z) :
    (Device.driveFault d i cause).FinalizedAt z := by
  unfold Device.driveFault; dsimp only; (repeat' split) <;> simp (maxDischargeDepth := 12) [*]

@[simp] theorem Device.completion_fin {z : CartId} {d : Device} {i : DriveId} {number : BitVec 16} {name : CmdName} {r : DriveResult}
    {found : Nat} {k : Device → DriveCmd → DriveResult → Device} (fin : d.FinalizedAt z)
    (hk : ∀ d c r, d.FinalizedAt z → (k d c r).FinalizedAt z) :
    (d.completion i number name r found k).FinalizedAt z := by
  unfold Device.completion
  split
  · exact fin
  · split
    · lift_lets; intro r' x
      split <;> simp (maxDischargeDepth := 12) [hk, x, fin]
    · exact fin

@[simp] theorem Device.commandTimedOut_fin {z : CartId} {d : Device} {i : DriveId} (fin : d.FinalizedAt z) :
    (Device.commandTimedOut d i).FinalizedAt z := by
  unfold Device.commandTimedOut; (repeat' split) <;> simp (maxDischargeDepth := 12) [*]

@[simp] theorem Device.cleaningLoaded_fin {z : CartId} {d : Device} {i : DriveId} (fin : d.FinalizedAt z) :
    (d.cleaningLoaded i).FinalizedAt z := by
  unfold Device.cleaningLoaded; split <;> simp (maxDischargeDepth := 12) [*]

@[simp] theorem Device.loadEnd_fin {z : CartId} {d : Device} {i : DriveId} (fin : d.FinalizedAt z) :
    (Device.loadEnd d i).FinalizedAt z := by
  unfold Device.loadEnd; dsimp only; (repeat' split) <;> simp (maxDischargeDepth := 12) [*]

@[simp] theorem Device.toPowerMouth_fin {z : CartId} {d : Device} {i : DriveId} (fin : d.FinalizedAt z) :
    (Device.toPowerMouth d i).FinalizedAt z := by simp (maxDischargeDepth := 12) [Device.toPowerMouth, *]

@[simp] theorem Device.presented_fin {z : CartId} {d : Device} {i : DriveId} (fin : d.FinalizedAt z) :
    (Device.presented d i).FinalizedAt z := by
  unfold Device.presented; (repeat' split) <;> simp (maxDischargeDepth := 12) [*]

@[simp] theorem Device.unloadEnd_fin {z : CartId} {d : Device} {i : DriveId} {r : DriveResult}
    (fin : d.FinalizedAt z) :
    (Device.unloadEnd d i r).FinalizedAt z := by
  unfold Device.unloadEnd; (repeat' split) <;> simp (maxDischargeDepth := 12) [*]

@[simp] theorem Device.startReading_fin {z : CartId} {d : Device} {i : DriveId} (fin : d.FinalizedAt z) :
    (Device.startReading d i).FinalizedAt z := by
  unfold Device.startReading; (repeat' split) <;> simp (maxDischargeDepth := 12) [*]

@[simp] theorem Device.resumeReading_fin {z : CartId} {d : Device} {i : DriveId} (fin : d.FinalizedAt z) :
    (Device.resumeReading d i).FinalizedAt z := by
  unfold Device.resumeReading; (repeat' split) <;> simp (maxDischargeDepth := 12) [*]

@[simp] theorem Device.popLost_fin {z : CartId} {d : Device} {i : DriveId} (fin : d.FinalizedAt z) :
    (Device.popLost d i).FinalizedAt z := by
  unfold Device.popLost; (repeat' split) <;> simp (maxDischargeDepth := 12) [*]

@[simp] theorem Device.popMismatch_fin {z : CartId} {d : Device} {i : DriveId} (fin : d.FinalizedAt z) :
    (Device.popMismatch d i).FinalizedAt z := by
  unfold Device.popMismatch; (repeat' split) <;> simp (maxDischargeDepth := 12) [*]

@[simp] theorem Device.popGood_fin {z : CartId} {d : Device} {i : DriveId} {f : FeedId} {e : Cart}
    (fin : d.FinalizedAt z) :
    (Device.popGood d i f e).FinalizedAt z := by simp (maxDischargeDepth := 12) [Device.popGood, *]

@[simp] theorem Device.popLocated_fin {z : CartId} {d : Device} {i : DriveId} {r : DriveResult}
    (fin : d.FinalizedAt z) :
    (Device.popLocated d i r).FinalizedAt z := by
  unfold Device.popLocated; dsimp only; (repeat' split) <;> simp (maxDischargeDepth := 12) [*]

@[simp] theorem Device.locateDone_fin {z : CartId} {d : Device} {i : DriveId} {cmd : DriveCmd} {r : DriveResult}
    (fin : d.FinalizedAt z) :
    (Device.locateDone d i cmd r).FinalizedAt z := by
  unfold Device.locateDone; (repeat' split) <;> simp (maxDischargeDepth := 12) [*]

@[simp] theorem Device.popAppendRead_fin {z : CartId} {d : Device} {i : DriveId} {retries : Nat} {r : DriveResult} {block : Bytes}
    (fin : d.FinalizedAt z) :
    (Device.popAppendRead d i retries r block).FinalizedAt z := by
  unfold Device.popAppendRead; dsimp only; (repeat' split) <;> simp (maxDischargeDepth := 12) [*]

@[simp] theorem Device.popLabelRead_fin {z : CartId} {d : Device} {i : DriveId} {retries : Nat} {r : DriveResult} {block : Bytes}
    (fin : d.FinalizedAt z) :
    (Device.popLabelRead d i retries r block).FinalizedAt z := by
  unfold Device.popLabelRead; dsimp only; (repeat' split) <;> simp (maxDischargeDepth := 12) [*]

@[simp] theorem Device.identified_fin {z : CartId} {d : Device} {i : DriveId} {r : DriveResult} {block : Bytes}
    (fin : d.FinalizedAt z) :
    (Device.identified d i r block).FinalizedAt z := fin

@[simp] theorem Device.readDone_fin {z : CartId} {d : Device} {i : DriveId} {r : DriveResult} {block : Bytes}
    (fin : d.FinalizedAt z) :
    (Device.readDone d i r block).FinalizedAt z := by
  unfold Device.readDone; (repeat' split) <;> simp (maxDischargeDepth := 12) [*]

@[simp] theorem Device.finalWritten_fin {z : CartId} {d : Device} {i : DriveId} {cmd : DriveCmd} {r : DriveResult}
    (fin : d.FinalizedAt z) :
    (Device.finalWritten d i cmd r).FinalizedAt z := by
  unfold Device.finalWritten; (repeat' split) <;> simp (maxDischargeDepth := 12) [*]

@[simp] theorem Device.writeDone_fin {z : CartId} {d : Device} {i : DriveId} {cmd : DriveCmd} {r : DriveResult}
    (fin : d.FinalizedAt z) :
    (Device.writeDone d i cmd r).FinalizedAt z := by
  unfold Device.writeDone; (repeat' split) <;> simp (maxDischargeDepth := 12) [*]

@[simp] theorem Device.speedDone_fin {z : CartId} {d : Device} {i : DriveId} (fin : d.FinalizedAt z) :
    (Device.speedDone d i).FinalizedAt z := by
  unfold Device.speedDone; (repeat' split) <;> simp (maxDischargeDepth := 12) [*]

@[simp] theorem Device.serve_fin {z : CartId} {d : Device} {i : DriveId} {w : Work} (fin : d.FinalizedAt z) :
    (Device.serve d i w).FinalizedAt z := by
  unfold Device.serve; (repeat' split) <;> simp (maxDischargeDepth := 12) [*]

@[simp] theorem Device.push_fin {z : CartId} {d : Device} {i : DriveId} {w : Work} {resume order : Nat}
    (fin : d.FinalizedAt z) :
    (Device.push d i w resume order).FinalizedAt z := by
  unfold Device.push; (repeat' split) <;> simp (maxDischargeDepth := 12) [*]

@[simp] theorem Device.pushWork_fin {z : CartId} {d : Device} {i : DriveId} {w : Work} {order : Nat}
    (fin : d.FinalizedAt z) :
    (Device.pushWork d i w order).FinalizedAt z := by
  unfold Device.pushWork; (repeat' split) <;> simp (maxDischargeDepth := 12) [*]

@[simp] theorem Device.resumeCancelled_fin {z : CartId} {d : Device} {i : DriveId} (fin : d.FinalizedAt z) :
    (Device.resumeCancelled d i).FinalizedAt z := by
  unfold Device.resumeCancelled; (repeat' split) <;> simp (maxDischargeDepth := 12) [*]

@[simp] theorem Device.pushReady_fin {z : CartId} {d : Device} {i : DriveId} (fin : d.FinalizedAt z) :
    (Device.pushReady d i).FinalizedAt z := by
  unfold Device.pushReady; (repeat' split) <;> simp (maxDischargeDepth := 12) [*]

@[simp] theorem Device.claimFailed_fin {z : CartId} {d : Device} {o : Owner} (fin : d.FinalizedAt z) :
    (Device.claimFailed d o).FinalizedAt z := by
  unfold Device.claimFailed; (repeat' split) <;> simp (maxDischargeDepth := 12) [*]

@[simp] theorem Device.tellLost_fin {z : CartId} {d : Device} {k : Claim} (fin : d.FinalizedAt z) :
    (Device.tellLost d k).FinalizedAt z := by
  unfold Device.tellLost; (repeat' split) <;> simp (maxDischargeDepth := 12) [*]

@[simp] theorem Device.finalizeLost_fin {z : CartId} {d : Device} {c : CartId} (fin : d.FinalizedAt z) :
    (Device.finalizeLost d c).FinalizedAt z := by
  unfold Device.finalizeLost; (repeat' split) <;> simp (maxDischargeDepth := 12) [*]

@[simp] theorem Device.locationChanged_fin {z : CartId} {d : Device} {c : CartId} (fin : d.FinalizedAt z) :
    (d.locationChanged c).FinalizedAt z := by
  refine Device.post_fin ?_
  split
  · split <;> simp [fin]
  · exact Device.finalizeLost_fin (Device.fin_foldl (fun _ _ h => Device.tellLost_fin h) _ fin)
  · exact fin

@[simp] theorem Device.mediaReturned_fin {z : CartId} {d : Device} {p : PoolId} (fin : d.FinalizedAt z) :
    (d.mediaReturned p).FinalizedAt z := by
  unfold Device.mediaReturned
  refine Device.post_fin (Device.fin_foldl (fun d k h => ?_) _ fin)
  extract_lets y
  have hy : y.FinalizedAt z := h
  split
  · exact Device.setStall_fin hy
  · exact hy

@[simp] theorem Device.takenIn_fin {z : CartId} {d : Device} {j : DriveId} {m : Move} {host : Bool} (fin : d.FinalizedAt z) :
    (Device.takenIn d j m host).FinalizedAt z := by
  unfold Device.takenIn; (repeat' split) <;> simp (maxDischargeDepth := 12) [*]

@[simp] theorem Device.passedOn_fin {z : CartId} {d : Device} {i : DriveId} {m : Move} {r : MoveResult} (fin : d.FinalizedAt z) :
    (Device.passedOn d i m r).FinalizedAt z := by
  unfold Device.passedOn; (repeat' split) <;> simp (maxDischargeDepth := 12) [*]

@[simp] theorem Device.driveMoveEnded_fin {z : CartId} {d : Device} {i : DriveId} {m : Move} {r : MoveResult}
    (fin : d.FinalizedAt z) :
    (Device.driveMoveEnded d i m r).FinalizedAt z := by
  unfold Device.driveMoveEnded; dsimp only; (repeat' split) <;> simp (maxDischargeDepth := 12) [*]

@[simp] theorem Device.releaseHostClaims_fin {z : CartId} {d : Device} {m : Nat} (fin : d.FinalizedAt z) :
    (Device.releaseHostClaims d m).FinalizedAt z := by
  unfold Device.releaseHostClaims
  refine Device.fin_foldl (fun d a h => ?_) _ (by simp (maxDischargeDepth := 12) [*])
  (repeat' split) <;> simp (maxDischargeDepth := 12) [*]

@[simp] theorem Device.hostSource_fin {z : CartId} {d : Device} {i : DriveId} {m : Move} {r : MoveResult}
    (fin : d.FinalizedAt z) :
    (Device.hostSource d i m r).FinalizedAt z := by
  unfold Device.hostSource; (repeat' split) <;> simp (maxDischargeDepth := 12) [*]

@[simp] theorem Device.hostDestination_fin {z : CartId} {d : Device} {i : DriveId} {m : Move} {r : MoveResult}
    (fin : d.FinalizedAt z) :
    (Device.hostDestination d i m r).FinalizedAt z := by
  unfold Device.hostDestination; (repeat' split) <;> simp (maxDischargeDepth := 12) [*]

@[simp] theorem Device.moveEnded_fin {z : CartId} {d : Device} {m : Move} {r : MoveResult} (fin : d.FinalizedAt z) :
    (Device.moveEnded d m r).FinalizedAt z := by
  unfold Device.moveEnded; (repeat' split) <;> simp (maxDischargeDepth := 12) [*]

@[simp] theorem Device.driveRescan_fin {z : CartId} {d : Device} {i : DriveId} (fin : d.FinalizedAt z) :
    (Device.driveRescan d i).FinalizedAt z := by
  unfold Device.driveRescan; dsimp only; (repeat' split) <;> simp (maxDischargeDepth := 12) [*]

@[simp] theorem Device.applyFound_fin {z : CartId} {d : Device} {i : DriveId} (fin : d.FinalizedAt z) :
    (Device.applyFound d i).FinalizedAt z := by
  unfold Device.applyFound; dsimp only; (repeat' split) <;> simp (maxDischargeDepth := 12) [*]

@[simp] theorem Device.inventoryDone_fin {z : CartId} {d : Device} (fin : d.FinalizedAt z) :
    (Device.inventoryDone d).FinalizedAt z := by
  unfold Device.inventoryDone
  refine Device.fin_foldl (fun d a h => ?_) _ (by simp (maxDischargeDepth := 12) [*])
  (repeat' split) <;> simp (maxDischargeDepth := 12) [*]

@[simp] theorem Device.perform_fin {z : CartId} {d : Device} {t : Task} (fin : d.FinalizedAt z) :
    (d.perform t).FinalizedAt z := by
  cases t
  all_goals (try (simp (maxDischargeDepth := 12) [Device.perform, fin]; done))
  exact Device.fin_foldl (fun _ _ h => Device.askAgain_fin h) _ fin

@[simp] theorem Device.settleLoop_fin {z : CartId} {fuel : Nat} {d : Device} (fin : d.FinalizedAt z) :
    (d.settleLoop fuel).FinalizedAt z := by
  induction fuel generalizing d with
  | zero => exact fin
  | succ n ih =>
    unfold Device.settleLoop
    split
    · exact fin
    · exact ih (Device.perform_fin fin)

@[simp] theorem Device.settle_fin {z : CartId} {d : Device} (fin : d.FinalizedAt z) :
    (Device.settle d).FinalizedAt z := by simp (maxDischargeDepth := 12) [Device.settle, *]

@[simp] theorem Device.takeData_fin {z : CartId} {d : Device} {c : StreamId} {payload : Bytes}
    (fin : d.FinalizedAt z) :
    (d.takeData c payload).FinalizedAt z := by
  unfold Device.takeData; dsimp only; (repeat' split) <;> simp (maxDischargeDepth := 12) [*]

@[simp] theorem Device.takeCut_fin {z : CartId} {d : Device} {c : StreamId} (fin : d.FinalizedAt z) :
    (d.takeCut c).FinalizedAt z := by
  unfold Device.takeCut; split <;> simp (maxDischargeDepth := 12) [*]

@[simp] theorem Device.takeEnd_fin {z : CartId} {d : Device} {c : StreamId} (fin : d.FinalizedAt z) :
    (d.takeEnd c).FinalizedAt z := by
  unfold Device.takeEnd; split <;> simp (maxDischargeDepth := 12) [*]

@[simp] theorem Device.openStream_fin {z : CartId} {d : Device} {tag : Tag} {c : StreamId} {jobTag : Nat} {p : PoolId} {size : Nat}
    {policy : Policy} (fin : d.FinalizedAt z) :
    (d.openStream tag c jobTag p size policy).FinalizedAt z := by simp (maxDischargeDepth := 12) [Device.openStream, *]

@[simp] theorem Device.poolEffects_fin {z : CartId} {d : Device} {p : PoolId} {old new : Pool}
    (fin : d.FinalizedAt z) :
    (Device.poolEffects d p old new).FinalizedAt z := by
  unfold Device.poolEffects; dsimp only; (repeat' split) <;> simp (maxDischargeDepth := 12) [*]

@[simp] theorem Device.loadPool_fin {z : CartId} {d : Device} {tag : Tag} {p : PoolId} {a : PoolArgs}
    (fin : d.FinalizedAt z) :
    (Device.loadPool d tag p a).FinalizedAt z := by simp (maxDischargeDepth := 12) [Device.loadPool, *]

@[simp] theorem Device.adoptInDrive_fin {z : CartId} {d : Device} {e : ElemId} {c : CartId} (fin : d.FinalizedAt z) :
    (Device.adoptInDrive d e c).FinalizedAt z := by
  unfold Device.adoptInDrive; dsimp only; (repeat' split) <;> simp (maxDischargeDepth := 12) [*]

theorem Device.createCart_fin {z : CartId} {d : Device} {tag : Tag} {c : CartId} {x : Bytes} {a : CartArgs}
    (fin : d.FinalizedAt z) (hc : d.cart c = none) : (d.createCart tag c x a).FinalizedAt z := by
  unfold Device.createCart
  split
  · exact Device.respond_fin (Device.fillRow_fin fin hc)
  · exact Device.adoptInDrive_fin (Device.respond_fin
      (Device.fillRow_fin (Device.setContent_fin fin) (by simpa using hc)))

theorem Device.editEntry_fin {z : CartId} {d : Device} {tag : Tag} {c : CartId} {e : Cart} {a : CartArgs}
    {read : Bool} (fin : d.FinalizedAt z)
    (he : c = z → (e.edited a).protection = some .finalized ∧ (e.edited a).eod ≠ none) :
    (d.editEntry tag c e a read).FinalizedAt z := by
  unfold Device.editEntry
  extract_lets new d1 d2 d3 d4
  have h1 : d1.FinalizedAt z := Device.writeCart_fin fin fun h => ⟨_, rfl, he h⟩
  have h2 : d2.FinalizedAt z := Device.respond_fin h1
  have h3 : d3.FinalizedAt z := by unfold d3; split <;> simp [h2]
  have h4 : d4.FinalizedAt z := by unfold d4; split <;> simp [h3]
  split <;> simp [h4]

theorem Device.changeEntry_fin {z : CartId} {d : Device} {tag : Tag} {index : Nat} {g : Cart → Cart}
    (fin : d.FinalizedAt z) (hg : ∀ c, finOf? 128 index = some c → (d.editCart c g).FinalizedAt z) :
    (d.changeEntry tag index g).FinalizedAt z := by
  unfold Device.changeEntry
  split
  · exact Device.respond_fin (hg _ ‹_›)
  · exact fin

theorem Device.removeCart_fin {z : CartId} {d : Device} {tag : Tag} {c : CartId} (fin : d.FinalizedAt z)
    (hc : c ≠ z) : (d.removeCart tag c).FinalizedAt z := by
  unfold Device.removeCart
  split
  · exact fin
  · extract_lets d1 d2
    have h1 : d1.FinalizedAt z := by unfold d1; split <;> simp [fin]
    exact Device.respond_fin (Device.writeCart_fin h1 fun h => absurd h hc)

@[simp] theorem Device.beginInventory_fin {z : CartId} {d : Device} {tag : Tag} {first last : Nat}
    (fin : d.FinalizedAt z) :
    (Device.beginInventory d tag first last).FinalizedAt z := by simp (maxDischargeDepth := 12) [Device.beginInventory, *]

@[simp] theorem Device.claimHost_fin {z : CartId} {d : Device} {move : Nat} {e : ElemId} (fin : d.FinalizedAt z) :
    (Device.claimHost d move e).FinalizedAt z := by
  unfold Device.claimHost; (repeat' split) <;> simp (maxDischargeDepth := 12) [*]

@[simp] theorem Device.hostMove_fin {z : CartId} {d : Device} {tag : Tag} {a b : ElemId} {load : Load}
    (fin : d.FinalizedAt z) :
    (Device.hostMove d tag a b load).FinalizedAt z := by
  unfold Device.hostMove; dsimp only; (repeat' split) <;> simp (maxDischargeDepth := 12) [*]

@[simp] theorem Device.transferDone_fin {z : CartId} {d : Device} {n : BitVec 16} {r : TransferResult}
    (fin : d.FinalizedAt z) :
    (Device.transferDone d n r).FinalizedAt z := by
  unfold Device.transferDone; (repeat' split) <;> simp (maxDischargeDepth := 12) [*]

@[simp] theorem Device.scanDone_fin {z : CartId} {d : Device} {n : BitVec 16} {r : ScanResult}
    (fin : d.FinalizedAt z) :
    (Device.scanDone d n r).FinalizedAt z := by
  unfold Device.scanDone; (repeat' split) <;> simp (maxDischargeDepth := 12) [*]

@[simp] theorem Device.rehomeDone_fin {z : CartId} {d : Device} {n : BitVec 16} {r : ScanResult}
    (fin : d.FinalizedAt z) :
    (Device.rehomeDone d n r).FinalizedAt z := by
  unfold Device.rehomeDone; (repeat' split) <;> simp (maxDischargeDepth := 12) [*]

@[simp] theorem Device.takeGrant_fin {z : CartId} {d : Device} {r : RestoreId} {count : Nat} (fin : d.FinalizedAt z) :
    (d.takeGrant r count).FinalizedAt z := by
  unfold Device.takeGrant; dsimp only; (repeat' split) <;> simp (maxDischargeDepth := 12) [*]

@[simp] theorem Device.acceptRestore_fin {z : CartId} {d : Device} {tag : Tag} {r : RestoreId} {priority : Priority} {p : Part} {first count : Option Nat} {follow : Bool}
    (fin : d.FinalizedAt z) :
    (Device.acceptRestore d tag r priority p first count follow).FinalizedAt z := by simp (maxDischargeDepth := 12) [Device.acceptRestore, *]

@[simp] theorem Device.expansionEnd_fin {z : CartId} {d : Device} (fin : d.FinalizedAt z) :
    (Device.expansionEnd d).FinalizedAt z := by
  unfold Device.expansionEnd; (repeat' split) <;> simp (maxDischargeDepth := 12) [*]

@[simp] theorem Device.verifyNow_fin {z : CartId} {d : Device} {tag : Tag} {c : CartId} (fin : d.FinalizedAt z) :
    (Device.verifyNow d tag c).FinalizedAt z := by
  unfold Device.verifyNow; (repeat' split) <;> simp (maxDischargeDepth := 12) [*]

@[simp] theorem Device.loadSegment_fin {z : CartId} {d : Device} {tag : Tag} {a : SegmentArgs} {c : CartId}
    (fin : d.FinalizedAt z) :
    (d.loadSegment tag a c).FinalizedAt z := by
  unfold Device.loadSegment; dsimp only; (repeat' split) <;> simp (maxDischargeDepth := 12) [*]

@[simp] theorem Device.forgetPart_fin {z : CartId} {d : Device} {id : Nat} (fin : d.FinalizedAt z) :
    (d.forgetPart id).FinalizedAt z := fin

@[simp] theorem Device.releaseSegment_fin {z : CartId} {d : Device} {tag : Tag} {p : Part} (fin : d.FinalizedAt z) :
    (Device.releaseSegment d tag p).FinalizedAt z := by simp (maxDischargeDepth := 12) [Device.releaseSegment, *]

@[simp] theorem Device.periodEnd_fin {z : CartId} {d : Device} {f : FeedId} (fin : d.FinalizedAt z) :
    (d.periodEnd f).FinalizedAt z := by
  unfold Device.periodEnd; (repeat' split) <;> simp (maxDischargeDepth := 12) [*]

@[simp] theorem Device.decideWaiting_fin {z : CartId} {d : Device} (fin : d.FinalizedAt z) :
    (Device.decideWaiting d).FinalizedAt z := by simp (maxDischargeDepth := 12) [Device.decideWaiting, *]

@[simp] theorem Device.closeOld_fin {z : CartId} {d : Device} (fin : d.FinalizedAt z) :
    (Device.closeOld d).FinalizedAt z := by
  unfold Device.closeOld
  refine Device.fin_foldl (fun d a h => ?_) _ (by simp (maxDischargeDepth := 12) [*])
  (repeat' split) <;> simp (maxDischargeDepth := 12) [*]

@[simp] theorem Device.unmountIdle_fin {z : CartId} {d : Device} (fin : d.FinalizedAt z) :
    (Device.unmountIdle d).FinalizedAt z := by
  unfold Device.unmountIdle
  refine Device.fin_foldl (fun d a h => ?_) _ (by simp (maxDischargeDepth := 12) [*])
  (repeat' split) <;> simp (maxDischargeDepth := 12) [*]

@[simp] theorem Device.endStalled_fin {z : CartId} {d : Device} (fin : d.FinalizedAt z) :
    (Device.endStalled d).FinalizedAt z := by
  unfold Device.endStalled
  refine Device.fin_foldl (fun d a h => ?_) _ (by simp (maxDischargeDepth := 12) [*])
  (repeat' split) <;> simp (maxDischargeDepth := 12) [*]

@[simp] theorem Device.paramEffects_fin {z : CartId} {d : Device} {p : Param} (fin : d.FinalizedAt z) :
    (d.paramEffects p).FinalizedAt z := by
  unfold Device.paramEffects; split <;> simp (maxDischargeDepth := 12) [*]

@[simp] theorem Device.setParam_fin {z : CartId} {d : Device} {tag : Tag} {k : Param} {v : Nat}
    (fin : d.FinalizedAt z) :
    (Device.setParam d tag k v).FinalizedAt z := by
  unfold Device.setParam; dsimp only; (repeat' split) <;> simp (maxDischargeDepth := 12) [*]

@[simp] theorem Device.setTime_fin {z : CartId} {d : Device} {tag : Tag} {t : Nat} (fin : d.FinalizedAt z) :
    (Device.setTime d tag t).FinalizedAt z := by simp (maxDischargeDepth := 12) [Device.setTime, *]

@[simp] theorem Device.second_fin {z : CartId} {d : Device} (fin : d.FinalizedAt z) :
    (Device.second d).FinalizedAt z := by simp (maxDischargeDepth := 12) [Device.second, *]

@[simp] theorem Device.poll_fin {z : CartId} {d : Device} {tag : Tag} (fin : d.FinalizedAt z) :
    (d.poll tag).FinalizedAt z := by
  unfold Device.poll; split <;> simp (maxDischargeDepth := 12) [*]

@[simp] theorem Device.removeEmptied_fin {z : CartId} {d : Device} (fin : d.FinalizedAt z) :
    d.removeEmptied.FinalizedAt z :=
  Device.fin_foldl (fun d f h => by split; exacts [Device.feedProgress_fin h, h]) _ fin

@[simp] theorem Device.linkReset_fin {z : CartId} {d : Device} (fin : d.FinalizedAt z) :
    d.linkReset.FinalizedAt z := by
  unfold Device.linkReset
  extract_lets d1 d2
  have h1 : d1.FinalizedAt z := Device.fin_foldl (fun d c h => by split; exacts [h, Device.abort_fin h]) _ fin
  have h2 : d2.FinalizedAt z := Device.cancelRestores_fin (Device.removeEmptied_fin h1)
  clear_value d2
  exact h2

@[simp] theorem Device.freeMarked_fin {z : CartId} {d : Device} {fs : List OutFrame} (fin : d.FinalizedAt z) :
    (Device.freeMarked d fs).FinalizedAt z := by
  unfold Device.freeMarked
  refine Device.fin_foldl (fun d a h => ?_) _ (by simp (maxDischargeDepth := 12) [*])
  (repeat' split) <;> simp (maxDischargeDepth := 12) [*]

@[simp] theorem Device.discardUnsent_fin {z : CartId} {d : Device} {stays : OutFrame → Bool} (fin : d.FinalizedAt z) :
    (Device.discardUnsent d stays).FinalizedAt z := by simp (maxDischargeDepth := 12) [Device.discardUnsent, *]

@[simp] theorem Device.sendFrame_fin {z : CartId} {d : Device} {f : OutFrame} {rest : List OutFrame}
    (fin : d.FinalizedAt z) :
    (Device.sendFrame d f rest).FinalizedAt z := by simp (maxDischargeDepth := 12) [Device.sendFrame, *]

/-- A RESP, the count of a command and every decision leave a FINALIZED cartridge FINALIZED. -/
theorem final_kept (z : CartId) : Kept (fun d => d.FinalizedAt z) where
  respond _ _ _ _ h := Device.respond_fin h
  begun _ h := h
  settle _ h := Device.settle_fin h

/-- Checks that all pass. -/
theorem firstFailing_none {l : List (Bool × Status)} (h : firstFailing l = none) : ∀ p ∈ l, p.1 = false := by
  induction l with
  | nil => simp
  | cons a l ih =>
    obtain ⟨b, st⟩ := a
    cases b
    · rw [firstFailing] at h; intro p hp; rcases List.mem_cons.mp hp with rfl | hp; rfl; exact ih (by simpa using h) p hp
    · simp [firstFailing] at h

/-- The checks after the generation (R89) of a request that is not refused. -/
theorem conditional_none {pre own : List (Bool × Status)} {x : Expected} {gen : BitVec 8}
    (h : conditional pre x gen own = none) : ∀ p ∈ own, p.1 = false := by
  unfold conditional at h
  split at h
  · cases h
  · split at h
    · exact firstFailing_none h
    · cases h

/-- The own checks of a request on one entry that is not refused. -/
theorem entry_none {d : Device} {index : Nat} {x : Expected} {own} {c e} (h : d.entryRefusal index x own = none)
    (hi : finOf? 128 index = some c) (he : d.cart c = some e) : ∀ p ∈ own c e, p.1 = false := by
  unfold Device.entryRefusal at h
  rw [hi] at h; simp only [he] at h
  exact conditional_none h

/-- An edit that leaves the kind leaves a finalized entry finalized (R85). -/
theorem edited_fin {e : Cart} {a : CartArgs} (hp : e.protection = some .finalized) (hn : e.eod ≠ none)
    (hk : (namedValue a.kind).getD e.kind = e.kind) :
    (e.edited a).protection = some .finalized ∧ (e.edited a).eod ≠ none := by
  simp only [Cart.edited, hk, Cart.toKind]
  refine ⟨by simpa using hp, ?_⟩
  simp only [if_true]
  split
  · rename_i h; intro h'; rw [h'] at h; cases h
  · exact hn

end Sys2Proof.Machine
end

