-- ==== Sys2Proof/Laws/Fixed.lean ====
section
/-!
SUPPORT. What no decision changes: for every operation on the device, one lemma that its `fixed` part stays.
-/
namespace Sys2Proof.Machine

theorem Device.fixed_free (d : Device) (intake : Intake) (ce : Ce) (xe : Xe) (feeds : Vector (Option Feed) 4)
    (map : SegMap) (drives : Vector Drive 4) (arb : Arbiter) (ru : RestoreUnit) (vu : VerifyUnit) (agenda : List Task) :
    ({ d with intake, ce, xe, feeds, map, drives, arb, ru, vu, agenda } : Device).fixed = d.fixed := rfl

theorem Device.fixed_media (d : Device) (intake : Intake) (ce : Ce) (xe : Xe) (feeds : Vector (Option Feed) 4)
    (map : SegMap) (drives : Vector Drive 4) (arb : Arbiter) (ru : RestoreUnit) (vu : VerifyUnit) (agenda : List Task)
    (media : Media) (hp : media.pools = d.media.pools) (hl : media.holdLine = d.media.holdLine) :
    ({ d with intake, ce, xe, feeds, map, drives, arb, ru, vu, agenda, media } : Device).fixed = d.fixed := by
  simp [Device.fixed, hp, hl]

theorem Device.fixed_changer (d : Device) (intake : Intake) (ce : Ce) (xe : Xe)
    (feeds : Vector (Option Feed) 4) (map : SegMap) (drives : Vector Drive 4) (arb : Arbiter) (ru : RestoreUnit)
    (vu : VerifyUnit) (agenda : List Task) (changer : Changer) (h : changer.doorOpen = d.changer.doorOpen) :
    ({ d with intake, ce, xe, feeds, map, drives, arb, ru, vu, agenda, changer } : Device).fixed = d.fixed := by
  simp [Device.fixed, h]

theorem Device.fixed_mu (d : Device) (mu : Management) (hp : mu.params = d.mu.params)
    (ht : mu.time = d.mu.time) (he : mu.elapsed = d.mu.elapsed) : ({ d with mu } : Device).fixed = d.fixed := by
  simp [Device.fixed, hp, ht, he]

theorem Device.fixed_link (d : Device) (link : Link) (hu : link.up = d.link.up)
    (he : link.errors = d.link.errors) (hw : link.wire = d.link.wire) :
    ({ d with link } : Device).fixed = d.fixed := by
  simp [Device.fixed, hu, he, hw]

theorem Device.fixed_foldl {α : Type} (g : Device → α → Device) (h : ∀ d a, (g d a).fixed = d.fixed) (l : List α)
    (d : Device) : (l.foldl g d).fixed = d.fixed := by
  induction l generalizing d with
  | nil => rfl
  | cons a l ih => rw [List.foldl_cons, ih, h]


@[simp] theorem Device.modStream_fixed (d : Device) (c : StreamId) (g : Stream → Stream) :
    (Device.modStream d c g).fixed = d.fixed := rfl

@[simp] theorem Device.setFeed_fixed (d : Device) (f : FeedId) (v : Option Feed) :
    (Device.setFeed d f v).fixed = d.fixed := rfl

@[simp] theorem Device.modFeed_fixed (d : Device) (f : FeedId) (g : Feed → Feed) :
    (Device.modFeed d f g).fixed = d.fixed := rfl

@[simp] theorem Device.modDrive_fixed (d : Device) (i : DriveId) (g : Drive → Drive) :
    (Device.modDrive d i g).fixed = d.fixed := rfl

@[simp] theorem Device.setRow_fixed (d : Device) (c : CartId) (r : CartRow) :
    (Device.setRow d c r).fixed = d.fixed := rfl

@[simp] theorem Device.modElem_fixed (d : Device) (e : ElemId) (g : Element → Element) :
    (Device.modElem d e g).fixed = d.fixed := rfl

@[simp] theorem Device.post_fixed (d : Device) (t : Task) :
    (Device.post d t).fixed = d.fixed := by
  unfold Device.post; (repeat' split) <;> simp [Device.fixed]

@[simp] theorem Device.postAll_fixed (d : Device) (ts : List Task) : (d.postAll ts).fixed = d.fixed :=
  Device.fixed_foldl Device.post Device.post_fixed ts d

@[simp] theorem Device.setEvent_fixed (d : Device) (k : EventKind) (v : Option Event) :
    (Device.setEvent d k v).fixed = d.fixed := rfl

@[simp] theorem Device.raise_fixed (d : Device) (k : EventKind) (arg : EventArg) :
    (Device.raise d k arg).fixed = d.fixed := rfl

@[simp] theorem Device.emit_fixed (d : Device) (f : OutFrame) :
    (Device.emit d f).fixed = d.fixed := rfl

@[simp] theorem Device.respond_fixed (d : Device) (tag : Tag) (status : Status) (items : List Item) :
    (Device.respond d tag status items).fixed = d.fixed := rfl

@[simp] theorem Device.modPart_fixed (d : Device) (id : Nat) (g : Part → Part) :
    (Device.modPart d id g).fixed = d.fixed := rfl

@[simp] theorem Device.addPart_fixed (d : Device) (p : Part) :
    (Device.addPart d p).fixed = d.fixed := rfl

@[simp] theorem Device.freePart_fixed (d : Device) (id : Nat) :
    (Device.freePart d id).fixed = d.fixed := rfl

@[simp] theorem Device.reserve_fixed (d : Device) (n : Nat) :
    (Device.reserve d n).fixed = d.fixed := rfl

@[simp] theorem Device.consumeReservation_fixed (d : Device) :
    (Device.consumeReservation d).fixed = d.fixed := rfl

@[simp] theorem Device.releaseReservations_fixed (d : Device) (n : Nat) :
    (Device.releaseReservations d n).fixed = d.fixed := by
  unfold Device.releaseReservations; dsimp only; (repeat' split) <;> simp [Device.fixed_media]

@[simp] theorem Device.createPart_fixed (d : Device) (r : Option PartRef) (c : CartId) (rec : Record) (block : Nat) :
    (Device.createPart d r c rec block).1.fixed = d.fixed := rfl

@[simp] theorem Device.closePart_fixed (d : Device) (id : Nat) (gap truncated continued : Bool) :
    (Device.closePart d id gap truncated continued).fixed = d.fixed := by
  unfold Device.closePart; (repeat' split) <;> simp

@[simp] theorem Device.closeRef_fixed (d : Device) (r : Option PartRef) (gap truncated : Bool) :
    (Device.closeRef d r gap truncated).fixed = d.fixed := by
  unfold Device.closeRef; (repeat' split) <;> simp

@[simp] theorem Device.setBad_fixed (d : Device) (id : Nat) :
    (Device.setBad d id).fixed = d.fixed := by
  unfold Device.setBad; (repeat' split) <;> simp

@[simp] theorem Device.setVerified_fixed (d : Device) (id : Nat) :
    (Device.setVerified d id).fixed = d.fixed := by
  unfold Device.setVerified; (repeat' split) <;> simp

@[simp] theorem Device.markSuspect_fixed (d : Device) (id : Nat) :
    (Device.markSuspect d id).fixed = d.fixed := by
  unfold Device.markSuspect; (repeat' split) <;> simp

@[simp] theorem Device.pinRestore_fixed (d : Device) (id : Nat) :
    (Device.pinRestore d id).fixed = d.fixed := rfl

@[simp] theorem Device.unpinRestore_fixed (d : Device) (id : Nat) :
    (Device.unpinRestore d id).fixed = d.fixed := rfl

@[simp] theorem Device.pinVerify_fixed (d : Device) (id : Nat) :
    (Device.pinVerify d id).fixed = d.fixed := rfl

@[simp] theorem Device.unpinVerify_fixed (d : Device) (id : Nat) :
    (Device.unpinVerify d id).fixed = d.fixed := rfl

@[simp] theorem Device.signals_fixed (before after : Device) (c : CartId) :
    (Device.signals before after c).fixed = after.fixed := by simp [Device.signals]

@[simp] theorem Device.writeCart_fixed (d : Device) (c : CartId) (e : Option Cart) :
    (Device.writeCart d c e).fixed = d.fixed := by
  unfold Device.writeCart; dsimp only; (repeat' split) <;> simp [*]

@[simp] theorem Device.editCart_fixed (d : Device) (c : CartId) (g : Cart → Cart) :
    (Device.editCart d c g).fixed = d.fixed := by
  unfold Device.editCart; (repeat' split) <;> simp

@[simp] theorem Device.markFull_fixed (d : Device) (c : CartId) (ends : Bool) :
    (Device.markFull d c ends).fixed = d.fixed := by simp [Device.markFull]

@[simp] theorem Device.markMismatch_fixed (d : Device) (c : CartId) (r : Reason) (ends : Bool) :
    (Device.markMismatch d c r ends).fixed = d.fixed := by simp [Device.markMismatch]

@[simp] theorem Device.markFinalized_fixed (d : Device) (c : CartId) (ends : Bool) :
    (Device.markFinalized d c ends).fixed = d.fixed := by simp [Device.markFinalized]

@[simp] theorem Device.setContent_fixed (d : Device) (e : ElemId) (v : Content) :
    (Device.setContent d e v).fixed = d.fixed := by
  unfold Device.setContent; (repeat' split) <;> simp

@[simp] theorem Device.loseCart_fixed (d : Device) (c : CartId) :
    (Device.loseCart d c).fixed = d.fixed := by simp [Device.loseCart]

@[simp] theorem Device.cartOutside_fixed (d : Device) (c : CartId) :
    (Device.cartOutside d c).fixed = d.fixed := by simp [Device.cartOutside]

@[simp] theorem Device.loseDisplaced_fixed (d : Device) (e : ElemId) :
    (Device.loseDisplaced d e).fixed = d.fixed := by
  unfold Device.loseDisplaced; (repeat' split) <;> simp

@[simp] theorem Device.forgetFormer_fixed (d : Device) (c : CartId) :
    (Device.forgetFormer d c).fixed = d.fixed := rfl

@[simp] theorem Device.settleIn_fixed (d : Device) (e : ElemId) (c : CartId) :
    (Device.settleIn d e c).fixed = d.fixed := by simp [Device.settleIn]

@[simp] theorem Device.scanEmpty_fixed (d : Device) (e : ElemId) :
    (Device.scanEmpty d e).fixed = d.fixed := by
  unfold Device.scanEmpty; dsimp only; (repeat' split) <;> simp [*]

@[simp] theorem Device.scanBarcode_fixed (d : Device) (e : ElemId) (x : Bytes) :
    (Device.scanBarcode d e x).1.fixed = d.fixed := by
  unfold Device.scanBarcode; dsimp only; (repeat' split) <;> simp [*]

@[simp] theorem Device.scan_fixed (d : Device) (e : ElemId) (r : ScanResult) :
    (Device.scan d e r).1.fixed = d.fixed := by
  unfold Device.scan; (repeat' split) <;> simp

@[simp] theorem Device.scanUnreadable_fixed (d : Device) (e : ElemId) :
    (Device.scanUnreadable d e).fixed = d.fixed := by
  unfold Device.scanUnreadable; (repeat' split) <;> simp

@[simp] theorem Device.loseElem_fixed (d : Device) (e : ElemId) :
    (Device.loseElem d e).fixed = d.fixed := by
  unfold Device.loseElem; (repeat' split) <;> simp

@[simp] theorem Device.evict_fixed (d : Device) (e : ElemId) :
    (Device.evict d e).fixed = d.fixed := by
  unfold Device.evict; (repeat' split) <;> simp

@[simp] theorem Device.vacate_fixed (d : Device) (c : CartId) :
    (Device.vacate d c).fixed = d.fixed := by
  unfold Device.vacate; (repeat' split) <;> simp

@[simp] theorem Device.relocate_fixed (d : Device) (a b : ElemId) (load : Load) (hostMove : Bool) :
    (Device.relocate d a b load hostMove).fixed = d.fixed := by
  unfold Device.relocate; dsimp only; (repeat' split) <;> simp

@[simp] theorem Device.pickerHold_fixed (d : Device) (a : ElemId) (load : Load) :
    (Device.pickerHold d a load).fixed = d.fixed := by
  unfold Device.pickerHold; (repeat' split) <;> simp

@[simp] theorem Device.takeDestination_fixed (d : Device) (load : Load) (e : ElemId) :
    (Device.takeDestination d load e).fixed = d.fixed := by
  unfold Device.takeDestination; (repeat' split) <;> simp

@[simp] theorem Device.postFeed_fixed (d : Device) (f : Option FeedId) (t : FeedId → Task) :
    (Device.postFeed d f t).fixed = d.fixed := by
  unfold Device.postFeed; (repeat' split) <;> simp

@[simp] theorem Device.cutDecision_fixed (d : Device) (c : StreamId) :
    (Device.cutDecision d c).fixed = d.fixed := by
  unfold Device.cutDecision; dsimp only; (repeat' split) <;> simp [*]

@[simp] theorem Device.finishRecord_fixed (d : Device) (c : StreamId) :
    (Device.finishRecord d c).fixed = d.fixed := by
  unfold Device.finishRecord; (repeat' split) <;> simp

@[simp] theorem Device.leaveFeed_fixed (d : Device) (c : StreamId) :
    (Device.leaveFeed d c).fixed = d.fixed := by
  unfold Device.leaveFeed; dsimp only; (repeat' split) <;> simp [Device.fixed_media]

@[simp] theorem Device.closeIfDone_fixed (d : Device) (c : StreamId) :
    (Device.closeIfDone d c).fixed = d.fixed := by
  unfold Device.closeIfDone; dsimp only; (repeat' split) <;> simp [*]

@[simp] theorem Device.handOver_fixed (d : Device) (c : StreamId) (f : FeedId) (s after : Stream) :
    (Device.handOver d c f s after).fixed = d.fixed := by
  unfold Device.handOver; (repeat' split) <;> simp

@[simp] theorem Device.abort_fixed (d : Device) (c : StreamId) :
    (Device.abort d c).fixed = d.fixed := by
  unfold Device.abort; dsimp only; (repeat' split) <;> simp [Device.fixed_link]

@[simp] theorem Device.takeRecord_fixed (d : Device) (c : StreamId) (f : FeedId) (o : Offered) :
    (Device.takeRecord d c f o).fixed = d.fixed := rfl

@[simp] theorem Device.ceSearch_fixed (d : Device) :
    (Device.ceSearch d).fixed = d.fixed := by
  unfold Device.ceSearch; (repeat' split) <;> simp

@[simp] theorem Device.compress_fixed (d : Device) :
    (Device.compress d).fixed = d.fixed := by
  unfold Device.compress; (repeat' split) <;> simp [Device.fixed]

@[simp] theorem Device.issue_fixed (d : Device) (i : DriveId) (cmd : DriveCmd) :
    (Device.issue d i cmd).fixed = d.fixed := rfl

@[simp] theorem Device.setPhase_fixed (d : Device) (i : DriveId) (p : Phase) :
    (Device.setPhase d i p).fixed = d.fixed := rfl

@[simp] theorem Device.setDrive_fixed (d : Device) (i : DriveId) (s : DriveState) (p : Phase) :
    (Device.setDrive d i s p).fixed = d.fixed := rfl

@[simp] theorem Device.takeEntry_fixed (d : Device) :
    (Device.takeEntry d).fixed = d.fixed := rfl

@[simp] theorem Device.modMove_fixed (d : Device) (id : Nat) (g : Move → Move) :
    (Device.modMove d id g).fixed = d.fixed := rfl

@[simp] theorem Device.enterMove_fixed (d : Device) (src : ElemId) (dst : Option ElemId) (load : Load) (cls : Option Nat) (requester : Requester) (ready : Bool) :
    (Device.enterMove d src dst load cls requester ready).fixed = d.fixed := by
  unfold Device.enterMove; dsimp only; (repeat' split) <;> simp [Device.fixed_changer]

@[simp] theorem Device.clearMarks_fixed (d : Device) (id : Nat) :
    (Device.clearMarks d id).fixed = d.fixed := rfl

@[simp] theorem Device.dropMove_fixed (d : Device) (id : Nat) :
    (Device.dropMove d id).fixed = d.fixed := rfl

theorem Device.requestMove_fixed {d d' : Device} {i : DriveId} {c : CartId} {b : ElemId} {cls : Nat}
    (h : d.requestMove i c b cls = some d') : d'.fixed = d.fixed := by
  unfold Device.requestMove at h
  cases hs : d.moveSource c b <;> simp [hs] at h
  rw [← h]; simp

@[simp] theorem Device.withdrawMoves_fixed (d : Device) (i : DriveId) :
    (Device.withdrawMoves d i).fixed = d.fixed := by
  unfold Device.withdrawMoves
  refine Device.fixed_foldl _ (fun d a => ?_) _ _
  (repeat' split) <;> simp

@[simp] theorem Device.modClaim_fixed (d : Device) (order : Nat) (g : Claim → Claim) :
    (Device.modClaim d order g).fixed = d.fixed := rfl

@[simp] theorem Device.removeClaim_fixed (d : Device) (order : Nat) :
    (Device.removeClaim d order).fixed = d.fixed := rfl

@[simp] theorem Device.postTarget_fixed (d : Device) (t : Target) : (d.postTarget t).fixed = d.fixed := by
  cases t <;> simp [Device.postTarget]

@[simp] theorem Device.placeClaim_fixed (d : Device) (kind : ClaimKind) (owner : Owner) (target : Target) (preferred : Option DriveId) :
    (Device.placeClaim d kind owner target preferred).fixed = d.fixed := by
  unfold Device.placeClaim; dsimp only; (repeat' split) <;> simp [Device.fixed_media]

@[simp] theorem Device.returnClaim_fixed (d : Device) (i : DriveId) :
    (Device.returnClaim d i).fixed = d.fixed := by
  unfold Device.returnClaim; dsimp only; (repeat' split) <;> simp [*]

@[simp] theorem Device.clearClaim_fixed (d : Device) (i : DriveId) :
    (Device.clearClaim d i).fixed = d.fixed := by
  unfold Device.clearClaim; (repeat' split) <;> simp

@[simp] theorem Device.cancelSuspension_fixed (d : Device) (order : Nat) :
    (Device.cancelSuspension d order).fixed = d.fixed := by
  unfold Device.cancelSuspension
  refine Device.fixed_foldl _ (fun d a => ?_) _ _
  (repeat' split) <;> simp

@[simp] theorem Device.withdrawClaim_fixed (d : Device) (order : Nat) :
    (Device.withdrawClaim d order).fixed = d.fixed := by
  unfold Device.withdrawClaim; dsimp only; (repeat' split) <;> simp [*]

@[simp] theorem Device.withdrawOf_fixed (d : Device) (o : Owner) :
    (Device.withdrawOf d o).fixed = d.fixed := by
  unfold Device.withdrawOf; (repeat' split) <;> simp

@[simp] theorem Device.declare_fixed (d : Device) (members : List Opening) (g : StreamState → StreamState) :
    (Device.declare d members g).fixed = d.fixed := by
  unfold Device.declare
  refine Device.fixed_foldl _ (fun d a => ?_) _ _
  (repeat' split) <;> simp

@[simp] theorem Device.setStall_fixed (d : Device) (f : FeedId) (g : Stall → Stall) :
    (Device.setStall d f g).fixed = d.fixed := by
  unfold Device.setStall; dsimp only; (repeat' split) <;> simp [*]

@[simp] theorem Device.join_fixed (d : Device) (c : StreamId) (f : FeedId) :
    (Device.join d c f).fixed = d.fixed := by
  unfold Device.join; dsimp only; (repeat' split) <;> simp [Device.fixed_media]

@[simp] theorem Device.bindOne_fixed (d : Device) (c : StreamId) :
    (Device.bindOne d c).fixed = d.fixed := by
  unfold Device.bindOne; dsimp only; (repeat' split) <;> simp [*]

@[simp] theorem Device.bindAll_fixed (d : Device) :
    (Device.bindAll d).fixed = d.fixed := by
  unfold Device.bindAll
  refine Device.fixed_foldl _ (fun d a => ?_) _ _
  (repeat' split) <;> simp

@[simp] theorem Device.closePending_fixed (d : Device) (f : FeedId) :
    (Device.closePending d f).fixed = d.fixed := by
  unfold Device.closePending; (repeat' split) <;> simp

@[simp] theorem Device.closeWaiting_fixed (d : Device) (f : FeedId) :
    (Device.closeWaiting d f).fixed = d.fixed := by
  unfold Device.closeWaiting; (repeat' split) <;> simp

@[simp] theorem Device.closeDrained_fixed (d : Device) (f : FeedId) :
    (Device.closeDrained d f).fixed = d.fixed := by
  unfold Device.closeDrained; (repeat' split) <;> simp

@[simp] theorem Device.issueSpeed_fixed (d : Device) (f : FeedId) :
    (Device.issueSpeed d f).fixed = d.fixed := by
  unfold Device.issueSpeed; (repeat' split) <;> simp

@[simp] theorem Device.spanTrigger_fixed (d : Device) (f : FeedId) (full : Bool) :
    (Device.spanTrigger d f full).fixed = d.fixed := by
  unfold Device.spanTrigger; (repeat' split) <;> simp

@[simp] theorem Device.closeAtDeparture_fixed (d : Device) (c : CartId) (r : Option PartRef) (truncated : Bool) :
    (Device.closeAtDeparture d c r truncated).fixed = d.fixed := by
  unfold Device.closeAtDeparture; (repeat' split) <;> simp

@[simp] theorem Device.closeParts_fixed (d : Device) (x : Feed) (c : CartId) : (d.closeParts x c).fixed = d.fixed :=
  (Device.fixed_foldl _ (fun d e => Device.closeAtDeparture_fixed d c (Departed.part e) true) _ _).trans
    (Device.fixed_foldl _ (fun d o => Device.closeAtDeparture_fixed d c (d.stream (Opening.chan o)).part false) _ _)

@[simp] theorem Device.dropReservations_fixed (d : Device) (f : FeedId) :
    (Device.dropReservations d f).fixed = d.fixed := by
  unfold Device.dropReservations; (repeat' split) <;> simp

@[simp] theorem Device.releaseDrive_fixed (d : Device) (i : DriveId) :
    (Device.releaseDrive d i).fixed = d.fixed := by simp [Device.releaseDrive]

@[simp] theorem Device.signalRelease_fixed (d : Device) (c : CartId) :
    (Device.signalRelease d c).fixed = d.fixed := by simp [Device.signalRelease]

@[simp] theorem Device.removeFeed_fixed (d : Device) (f : FeedId) :
    (Device.removeFeed d f).fixed = d.fixed := by simp [Device.removeFeed]

@[simp] theorem Device.depart_fixed (d : Device) (f : FeedId) (x : Feed) :
    (Device.depart d f x).fixed = d.fixed := by
  unfold Device.depart; (repeat' split) <;> simp

@[simp] theorem Device.retire_fixed (d : Device) (f : FeedId) (x : Feed) :
    (Device.retire d f x).fixed = d.fixed := by
  unfold Device.retire; (repeat' split) <;> simp

@[simp] theorem Device.postReady_fixed (d : Device) (x : Feed) :
    (Device.postReady d x).fixed = d.fixed := by
  unfold Device.postReady; (repeat' split) <;> simp

@[simp] theorem Device.feedProgress_fixed (d : Device) (f : FeedId) :
    (Device.feedProgress d f).fixed = d.fixed := by
  unfold Device.feedProgress; (repeat' split) <;> simp

@[simp] theorem Device.memberLeft_fixed (d : Device) (f : FeedId) :
    (Device.memberLeft d f).fixed = d.fixed := by
  unfold Device.memberLeft; (repeat' split) <;> simp

@[simp] theorem Device.askReservations_fixed (d : Device) (f : FeedId) (x : Feed) (c : CartId) (b : Block) :
    (Device.askReservations d f x c b).1.fixed = d.fixed := by
  unfold Device.askReservations; dsimp only; (repeat' split) <;> simp [*]

@[simp] theorem Device.roomAgain_fixed (d : Device) (before after : Nat) :
    (Device.roomAgain d before after).fixed = d.fixed := by
  unfold Device.roomAgain; (repeat' split) <;> simp

@[simp] theorem Device.dispatchHead_fixed (d : Device) (f : FeedId) (i : DriveId) (e : Cart) :
    (Device.dispatchHead d f i e).fixed = d.fixed := by
  unfold Device.dispatchHead; dsimp only; (repeat' split) <;> simp

@[simp] theorem Device.dispatchLoop_fixed (f : FeedId) (fuel : Nat) (d : Device) :
    (Device.dispatchLoop f fuel d).fixed = d.fixed := by
  induction fuel generalizing d with
  | zero => rfl
  | succ n ih =>
    unfold Device.dispatchLoop
    split
    · rfl
    · split
      · split
        · rfl
        · split
          · simp
          · split
            · rfl
            · lift_lets; intro asked; split <;> simp [ih, asked]
      · rfl

@[simp] theorem Device.feedDecide_fixed (d : Device) (f : FeedId) :
    (Device.feedDecide d f).fixed = d.fixed := by
  unfold Device.feedDecide; dsimp only; (repeat' split) <;> simp [*]

@[simp] theorem Device.askAgain_fixed (d : Device) (f : FeedId) :
    (Device.askAgain d f).fixed = d.fixed := by
  unfold Device.askAgain; dsimp only; (repeat' split) <;> simp [*]

@[simp] theorem Device.closeNow_fixed (d : Device) (f : FeedId) : (d.closeNow f).fixed = d.fixed := by
  unfold Device.closeNow; (repeat' split) <;> simp

@[simp] theorem Device.closeBefore_fixed (d : Device) (f : FeedId) : (d.closeBefore f).fixed = d.fixed := by
  unfold Device.closeBefore; (repeat' split) <;> simp

@[simp] theorem Device.placed_fixed (d : Device) (r : CeRecord) (h : Hold) :
    (Device.placed d r h).fixed = d.fixed := by
  unfold Device.placed; dsimp only; (repeat' split) <;> simp [Device.fixed_media]

@[simp] theorem Device.placeHeld_fixed (d : Device) (r : CeRecord) (h : Hold) (k : PlaceCase) :
    (d.placeHeld r h k).fixed = d.fixed := by
  unfold Device.placeHeld; dsimp only; (repeat' split) <;> simp

@[simp] theorem Device.offerHeld_fixed (d : Device) :
    (Device.offerHeld d).fixed = d.fixed := by
  unfold Device.offerHeld; dsimp only; (repeat' split) <;> simp [*]

@[simp] theorem Device.setRef_fixed (d : Device) (f : FeedId) (o : Opening) (r : PartRef) :
    (Device.setRef d f o r).fixed = d.fixed := by
  unfold Device.setRef; (repeat' split) <;> simp

theorem Device.spendReservation_fixed {d d' : Device} {f : FeedId} {x : Feed} {o : Opening}
    (h : d.spendReservation f x o = some d') : d'.fixed = d.fixed := by
  unfold Device.spendReservation at h
  split at h
  · cases h; simp
  · split at h <;> cases h; rfl

@[simp] theorem Device.mapRecord_fixed (d : Device) (f : FeedId) (c : CartId) (block : Nat) (r : Record) :
    (Device.mapRecord d f c block r).fixed = d.fixed := by
  unfold Device.mapRecord; dsimp only; (repeat' split) <;> simp [*]
  exact Device.spendReservation_fixed ‹_›

@[simp] theorem Device.countOff_fixed (d : Device) (f : FeedId) (r : Record) :
    (Device.countOff d f r).fixed = d.fixed := by
  unfold Device.countOff; (repeat' split) <;> simp

@[simp] theorem Device.confirm_fixed (d : Device) (f : FeedId) (c : CartId) (b : Flight) :
    (Device.confirm d f c b).fixed = d.fixed := by
  unfold Device.confirm; dsimp only; (repeat' split) <;> simp [Device.fixed_foldl]

@[simp] theorem Device.underrun_fixed (d : Device) (f : FeedId) :
    (Device.underrun d f).fixed = d.fixed := by
  unfold Device.underrun; (repeat' split) <;> simp

@[simp] theorem Device.feedWrite_fixed (d : Device) (f : FeedId) (r : DriveResult) :
    (Device.feedWrite d f r).fixed = d.fixed := by
  unfold Device.feedWrite
  split
  · rfl
  · split
    · simp
    · split
      · split
        · simp
          split <;> simp
        · simp
      · rfl

@[simp] theorem Device.feedSpeed_fixed (d : Device) (f : FeedId) :
    (Device.feedSpeed d f).fixed = d.fixed := by simp [Device.feedSpeed]

@[simp] theorem Device.feedServed_fixed (d : Device) (f : FeedId) (i : DriveId) (c : CartId) :
    (Device.feedServed d f i c).fixed = d.fixed := by simp [Device.feedServed]

@[simp] theorem Device.feedNoMedia_fixed (d : Device) (f : FeedId) :
    (Device.feedNoMedia d f).fixed = d.fixed := by
  unfold Device.feedNoMedia; dsimp only; (repeat' split) <;> simp [*]

@[simp] theorem Device.feedSuspend_fixed (d : Device) (f : FeedId) :
    (Device.feedSuspend d f).fixed = d.fixed := by simp [Device.feedSuspend]

@[simp] theorem Device.feedUnsuspend_fixed (d : Device) (f : FeedId) :
    (Device.feedUnsuspend d f).fixed = d.fixed := by simp [Device.feedUnsuspend]

@[simp] theorem Device.feedPushed_fixed (d : Device) (f : FeedId) :
    (Device.feedPushed d f).fixed = d.fixed := rfl

@[simp] theorem Device.feedResumed_fixed (d : Device) (f : FeedId) :
    (Device.feedResumed d f).fixed = d.fixed := by simp [Device.feedResumed]

@[simp] theorem Device.feedResumeFailed_fixed (d : Device) (f : FeedId) :
    (Device.feedResumeFailed d f).fixed = d.fixed := by simp [Device.feedResumeFailed]

@[simp] theorem Device.feedUnbind_fixed (d : Device) (f : FeedId) :
    (Device.feedUnbind d f).fixed = d.fixed := by
  unfold Device.feedUnbind; (repeat' split) <;> simp

@[simp] theorem Device.giveOrder_fixed (d : Device) (p : PickerState) (k : OrderKind) :
    (Device.giveOrder d p k).fixed = d.fixed := rfl

@[simp] theorem Device.freePicker_fixed (d : Device) :
    (Device.freePicker d).fixed = d.fixed := by
  unfold Device.freePicker; dsimp only; (repeat' split) <;> simp [Device.fixed_changer]

@[simp] theorem Device.faultPicker_fixed (d : Device) (elems : List ElemId) (arg : ElemId) :
    (Device.faultPicker d elems arg).fixed = d.fixed := rfl

@[simp] theorem Device.ensurePlacement_fixed (d : Device) :
    (Device.ensurePlacement d).fixed = d.fixed := by
  unfold Device.ensurePlacement; (repeat' split) <;> simp

theorem Device.aimPlacement_fixed {d d' : Device} {m : Move} (h : d.aimPlacement m = some d') :
    d'.fixed = d.fixed := by
  unfold Device.aimPlacement at h
  split at h
  · cases hs : d.destination m.load <;> simp [hs] at h
    rw [← h]; simp
  · cases h; rfl

@[simp] theorem Device.endMove_fixed (d : Device) (m : Move) (r : MoveResult) :
    (Device.endMove d m r).fixed = d.fixed := by
  unfold Device.endMove; (repeat' split) <;> simp

@[simp] theorem Device.loseMail_fixed (d : Device) (m : Move) : (d.loseMail m).fixed = d.fixed := by
  unfold Device.loseMail
  split
  · exact Device.fixed_foldl _ (fun d e => by split <;> simp) _ _
  · rfl

@[simp] theorem Device.startMove_fixed (d : Device) (m : Move) :
    (Device.startMove d m).1.fixed = d.fixed := by
  unfold Device.startMove; (repeat' split) <;> simp

@[simp] theorem Device.requeueMove_fixed (d : Device) (m : Move) (e : ElemId) :
    (Device.requeueMove d m e).fixed = d.fixed := rfl

@[simp] theorem Device.resolveMove_fixed (d : Device) (m : Move) :
    (Device.resolveMove d m).fixed = d.fixed := by
  unfold Device.resolveMove; (repeat' split) <;> simp

@[simp] theorem Device.resolveInterrupted_fixed (d : Device) (id : Nat) :
    (d.resolveInterrupted id).fixed = d.fixed := by
  unfold Device.resolveInterrupted; (repeat' split) <;> simp

@[simp] theorem Device.resetResolve_fixed (d : Device) (r : ResetSeq) :
    (Device.resetResolve d r).fixed = d.fixed := by
  unfold Device.resetResolve; dsimp only; (repeat' split) <;> simp [Device.fixed_changer, Device.fixed_foldl]

@[simp] theorem Device.resetScan_fixed (d : Device) (r : ResetSeq) (todo : List ElemId) :
    (Device.resetScan d r todo).fixed = d.fixed := by
  unfold Device.resetScan; dsimp only; (repeat' split) <;> simp [Device.fixed_changer]

@[simp] theorem Device.runPlacement_fixed (d : Device) (r : ResetSeq) : (d.runPlacement r).fixed = d.fixed := by
  unfold Device.runPlacement
  lift_lets; intro x c y
  have hx : y.fixed = d.fixed :=
    (Device.fixed_changer _ _ _ _ _ _ _ _ _ _ _ _ rfl).trans (Device.ensurePlacement_fixed d)
  clear_value y
  split
  · simp [hx]
  · split
    · simp [hx]
    · rename_i h
      have hm := Device.aimPlacement_fixed h
      split
      · simp [hx]
      · lift_lets; intro b; split <;> simp [b, hm, hx]

@[simp] theorem Device.takeUpPlacement_fixed (d : Device) (r : ResetSeq) :
    (d.takeUpPlacement r).1.fixed = d.fixed := by
  unfold Device.takeUpPlacement; dsimp only; (repeat' split) <;> simp [Device.fixed_media]

@[simp] theorem Device.resetPlace_fixed (d : Device) (r : ResetSeq) : (d.resetPlace r).fixed = d.fixed := by
  simp [Device.resetPlace]

@[simp] theorem Device.changerReset_fixed (d : Device) :
    (Device.changerReset d).fixed = d.fixed := by
  unfold Device.changerReset; dsimp only; (repeat' split) <;> simp [Device.fixed_changer]

@[simp] theorem Device.afterMove_fixed (d : Device) :
    (Device.afterMove d).fixed = d.fixed := by
  unfold Device.afterMove; (repeat' split) <;> simp

@[simp] theorem Device.failMove_fixed (d : Device) (m : Move) (c : MoveCause) :
    (Device.failMove d m c).fixed = d.fixed := by simp [Device.failMove]

@[simp] theorem Device.gripFault_fixed (d : Device) (m : Move) :
    (Device.gripFault d m).fixed = d.fixed := by simp [Device.gripFault]

@[simp] theorem Device.holdInPicker_fixed (d : Device) (m : Move) :
    (Device.holdInPicker d m).fixed = d.fixed := by simp [Device.holdInPicker]

@[simp] theorem Device.gripFailure_fixed (d : Device) (m : Move) (b : ElemId) (atSource : Bool) :
    (Device.gripFailure d m b atSource).fixed = d.fixed := by
  unfold Device.gripFailure; (repeat' split) <;> simp

@[simp] theorem Device.transferEnd_fixed (d : Device) (m : Move) (b : ElemId) (r : TransferResult) :
    (Device.transferEnd d m b r).fixed = d.fixed := by
  unfold Device.transferEnd; (repeat' split) <;> simp

@[simp] theorem Device.advanceInventory_fixed (d : Device) (v : Inventory) :
    (Device.advanceInventory d v).fixed = d.fixed := by
  unfold Device.advanceInventory; dsimp only; (repeat' split) <;> simp [Device.fixed_changer]

@[simp] theorem Device.inventoryStep_fixed (d : Device) (v : Inventory) :
    (Device.inventoryStep d v).fixed = d.fixed := by
  unfold Device.inventoryStep; dsimp only; (repeat' split) <;> simp [Device.fixed_changer]

@[simp] theorem Device.inventoryScanned_fixed (d : Device) (e : ElemId) (r : ScanResult) (stale : Bool) :
    (Device.inventoryScanned d e r stale).fixed = d.fixed := by
  unfold Device.inventoryScanned; (repeat' split) <;> simp

@[simp] theorem Device.mailScanned_fixed (d : Device) (e : ElemId) (r : ScanResult) (stale : Bool) :
    (Device.mailScanned d e r stale).fixed = d.fixed := by
  unfold Device.mailScanned; dsimp only; (repeat' split) <;> simp [Device.fixed_changer]

@[simp] theorem Device.scanEnd_fixed (d : Device) (e : ElemId) (purpose : ScanFor) (stale : Bool) (r : ScanResult) :
    (Device.scanEnd d e purpose stale r).fixed = d.fixed := by
  unfold Device.scanEnd; dsimp only; (repeat' split) <;> simp [*]

@[simp] theorem Device.rehomeEnd_fixed (d : Device) (r : ScanResult) :
    (Device.rehomeEnd d r).fixed = d.fixed := by
  unfold Device.rehomeEnd; dsimp only; (repeat' split) <;> simp [*]

@[simp] theorem Device.pickerChoose_fixed (d : Device) : d.pickerChoose.fixed = d.fixed := by
  unfold Device.pickerChoose
  split
  · split
    · rfl
    · rename_i m _
      lift_lets; intro aimed
      have ha : ∀ e, aimed = some e → e.fixed = d.fixed := by
        intro e h
        by_cases hm : m.places = true
        · exact Device.aimPlacement_fixed (by simpa [aimed, hm] using h)
        · have : d = e := by simpa [aimed, hm] using h
          rw [this]
      clear_value aimed
      split
      · rfl
      · have he := ha _ rfl
        split
        · exact he
        · lift_lets; intro b; split <;> simp [b, he]
    · simp
    · split <;> simp
  · rfl

@[simp] theorem Device.orderTimedOut_fixed (d : Device) (k : OrderKind) :
    (Device.orderTimedOut d k).fixed = d.fixed := by
  unfold Device.orderTimedOut; (repeat' split) <;> simp

@[simp] theorem Device.loseMailSlots_fixed (d : Device) :
    (Device.loseMailSlots d).fixed = d.fixed := by
  unfold Device.loseMailSlots
  refine Device.fixed_foldl _ (fun d a => ?_) _ _
  (repeat' split) <;> simp

@[simp] theorem Device.staleScan_fixed (d : Device) :
    (Device.staleScan d).fixed = d.fixed := by
  unfold Device.staleScan; (repeat' split) <;> simp [Device.fixed]

@[simp] theorem Device.modRestore_fixed (d : Device) (r : RestoreId) (g : Restore → Restore) :
    (Device.modRestore d r g).fixed = d.fixed := rfl

@[simp] theorem Device.modPass_fixed (d : Device) (c : CartId) (g : Pass → Pass) :
    (Device.modPass d c g).fixed = d.fixed := rfl

@[simp] theorem Device.reportNone_fixed (d : Device) (k : Claim) :
    (Device.reportNone d k).fixed = d.fixed := by
  unfold Device.reportNone; (repeat' split) <;> simp

@[simp] theorem Device.weigh_fixed (i : DriveId) (ks : List Claim) (d : Device) :
    (Device.weigh i ks d).1.fixed = d.fixed := by
  induction ks generalizing d with
  | nil => rfl
  | cons k ks ih =>
    unfold Device.weigh
    (repeat' split) <;> simp [ih]

@[simp] theorem Device.startUnload_fixed (d : Device) (i : DriveId) (p : Phase) :
    (Device.startUnload d i p).fixed = d.fixed := rfl

@[simp] theorem Device.startUnmount_fixed (d : Device) (i : DriveId) :
    (Device.startUnmount d i).fixed = d.fixed := rfl

@[simp] theorem Device.toIdle_fixed (d : Device) (i : DriveId) :
    (Device.toIdle d i).fixed = d.fixed := by simp [Device.toIdle]

@[simp] theorem Device.idleOrUnmount_fixed (d : Device) (i : DriveId) :
    (Device.idleOrUnmount d i).fixed = d.fixed := by
  unfold Device.idleOrUnmount; dsimp only; (repeat' split) <;> simp [*]

@[simp] theorem Device.handOverDrive_fixed (d : Device) (i : DriveId) (w : Work) :
    (Device.handOverDrive d i w).fixed = d.fixed := by simp [Device.handOverDrive]

@[simp] theorem Device.finalizeEnd_fixed (d : Device) (c : CartId) (r : FinalizeResult) :
    (Device.finalizeEnd d c r).fixed = d.fixed := by simp [Device.finalizeEnd]

@[simp] theorem Device.finalizeDone_fixed (d : Device) (c : CartId) (n : Nat) :
    (Device.finalizeDone d c n).fixed = d.fixed := by simp [Device.finalizeDone]

@[simp] theorem Device.finalWrite_fixed (d : Device) (i : DriveId) (c : CartId) (e : Cart) :
    (Device.finalWrite d i c e).fixed = d.fixed := by
  unfold Device.finalWrite; (repeat' split) <;> simp

@[simp] theorem Device.mountFailed_fixed (d : Device) (i : DriveId) :
    (Device.mountFailed d i).fixed = d.fixed := by
  unfold Device.mountFailed; (repeat' split) <;> simp

@[simp] theorem Device.checkNotReady_fixed (d : Device) (i : DriveId) :
    (Device.checkNotReady d i).fixed = d.fixed := by
  unfold Device.checkNotReady; (repeat' split) <;> simp

@[simp] theorem Device.checkFailed_fixed (d : Device) (i : DriveId) (r : FinalizeResult) :
    (Device.checkFailed d i r).fixed = d.fixed := by
  unfold Device.checkFailed; (repeat' split) <;> simp

@[simp] theorem Device.eodMismatch_fixed (d : Device) (c : CartId) (ends : Bool) :
    (Device.eodMismatch d c ends).fixed = d.fixed := by simp [Device.eodMismatch]

@[simp] theorem Device.appendMismatch_fixed (d : Device) (i : DriveId) (c : CartId) :
    (Device.appendMismatch d i c).fixed = d.fixed := by simp [Device.appendMismatch]

@[simp] theorem Device.appendGood_fixed (d : Device) (i : DriveId) (c : CartId) (e : Cart) :
    (Device.appendGood d i c e).fixed = d.fixed := by
  unfold Device.appendGood; dsimp only; (repeat' split) <;> simp [*]

@[simp] theorem Device.appendRead_fixed (d : Device) (i : DriveId) (c : CartId) :
    (Device.appendRead d i c).fixed = d.fixed := by
  unfold Device.appendRead; dsimp only; (repeat' split) <;> simp [*]

@[simp] theorem Device.beginAppend_fixed (d : Device) (i : DriveId) :
    (Device.beginAppend d i).fixed = d.fixed := by
  unfold Device.beginAppend; (repeat' split) <;> simp

@[simp] theorem Device.writeLabel_fixed (d : Device) (i : DriveId) (c : CartId) (job : LabelJob) :
    (Device.writeLabel d i c job).fixed = d.fixed := by
  unfold Device.writeLabel; (repeat' split) <;> simp

@[simp] theorem Device.beginLabelling_fixed (d : Device) (i : DriveId) (c : CartId) (e : Cart) (p : PoolId) :
    (Device.beginLabelling d i c e p).fixed = d.fixed := by
  unfold Device.beginLabelling; (repeat' split) <;> simp

@[simp] theorem Device.labelFailed_fixed (d : Device) (i : DriveId) (c : CartId) :
    (Device.labelFailed d i c).fixed = d.fixed := by simp [Device.labelFailed]

@[simp] theorem Device.labelled_fixed (d : Device) (i : DriveId) (c : CartId) (job : LabelJob) :
    (Device.labelled d i c job).fixed = d.fixed := by
  unfold Device.labelled; dsimp only; (repeat' split) <;> simp [*]

@[simp] theorem Device.beginLabel_fixed (d : Device) (i : DriveId) :
    (Device.beginLabel d i).fixed = d.fixed := rfl

@[simp] theorem Device.labelGood_fixed (d : Device) (i : DriveId) (c : CartId) :
    (Device.labelGood d i c).fixed = d.fixed := by
  unfold Device.labelGood; (repeat' split) <;> simp

@[simp] theorem Device.labelBad_fixed (d : Device) (i : DriveId) (c : CartId) :
    (Device.labelBad d i c).fixed = d.fixed := by
  unfold Device.labelBad; dsimp only; (repeat' split) <;> simp [*]

@[simp] theorem Device.labelRead_fixed (d : Device) (i : DriveId) (retries : Nat) (r : DriveResult) (block : Bytes) :
    (Device.labelRead d i retries r block).fixed = d.fixed := by
  unfold Device.labelRead; (repeat' split) <;> simp

@[simp] theorem Device.appendReadEnd_fixed (d : Device) (i : DriveId) (retries : Nat) (r : DriveResult) (block : Bytes) :
    (Device.appendReadEnd d i retries r block).fixed = d.fixed := by
  unfold Device.appendReadEnd; dsimp only; (repeat' split) <;> simp [*]

@[simp] theorem Device.appendEndFound_fixed (d : Device) (i : DriveId) (r : DriveResult) (n : Nat) :
    (Device.appendEndFound d i r n).fixed = d.fixed := by
  unfold Device.appendEndFound; (repeat' split) <;> simp

@[simp] theorem Device.hostReady_fixed (d : Device) (m : Nat) :
    (Device.hostReady d m).fixed = d.fixed := by
  unfold Device.hostReady; (repeat' split) <;> simp

@[simp] theorem Device.prepareHost_fixed (d : Device) (i : DriveId) :
    (Device.prepareHost d i).fixed = d.fixed := by
  unfold Device.prepareHost; (repeat' split) <;> simp

@[simp] theorem Device.serveHost_fixed (d : Device) (i : DriveId) (k : Claim) :
    (Device.serveHost d i k).fixed = d.fixed := by
  unfold Device.serveHost; dsimp only; (repeat' split) <;> simp

@[simp] theorem Device.presentHost_fixed (d : Device) (i : DriveId) :
    (Device.presentHost d i).fixed = d.fixed := by
  unfold Device.presentHost; (repeat' split) <;> simp

@[simp] theorem Device.beginMount_fixed (d : Device) (i : DriveId) : (d.beginMount i).fixed = d.fixed := by
  unfold Device.beginMount
  (repeat' split) <;> try simp
  rename_i h
  exact Device.requestMove_fixed h

@[simp] theorem Device.assign_fixed (d : Device) (k : Claim) (c : Choice) : (d.assign k c).fixed = d.fixed := by
  unfold Device.assign
  lift_lets; intro i wanted x y
  have hx : y.fixed = d.fixed := by simp [x, y]
  clear_value y
  split
  · simp [hx]
  · split
    · split <;> simp [hx]
    · simp [hx]

@[simp] theorem Device.decideDrive_fixed (i : DriveId) (fuel : Nat) (d : Device) :
    (Device.decideDrive i fuel d).fixed = d.fixed := by
  induction fuel generalizing d with
  | zero => rfl
  | succ n ih =>
    unfold Device.decideDrive
    split
    · lift_lets; intro cs first
      clear_value first
      cases first with
      | some a => simp
      | none =>
        have hw := Device.weigh_fixed i cs d
        dsimp only
        split <;> rename_i h <;> rw [h] at hw
        · split <;> simp_all
        · exact hw
    · rfl

@[simp] theorem Device.settleRelease_fixed (d : Device) (i : DriveId) :
    (Device.settleRelease d i).fixed = d.fixed := by
  unfold Device.settleRelease; dsimp only; (repeat' split) <;> simp [*]

@[simp] theorem Device.arbitrate_fixed (d : Device) :
    (Device.arbitrate d).fixed = d.fixed := by
  unfold Device.arbitrate; dsimp only; (repeat' split) <;> simp [Device.fixed_foldl]

@[simp] theorem Device.driveEmptied_fixed (d : Device) (i : DriveId) :
    (Device.driveEmptied d i).fixed = d.fixed := by simp [Device.driveEmptied]

@[simp] theorem Device.mountDone_fixed (d : Device) (i : DriveId) (l : Load) (host : Bool) :
    (Device.mountDone d i l host).fixed = d.fixed := by
  unfold Device.mountDone; (repeat' split) <;> simp

@[simp] theorem Device.askReturn_fixed (d : Device) (i : DriveId) : (d.askReturn i).fixed = d.fixed := by
  unfold Device.askReturn
  dsimp only
  (repeat' split) <;> try simp
  rename_i h
  exact (Device.requestMove_fixed h).trans (Device.takeDestination_fixed _ _ _)

@[simp] theorem Device.askAllReturns_fixed (d : Device) :
    (Device.askAllReturns d).fixed = d.fixed := by
  unfold Device.askAllReturns
  refine Device.fixed_foldl _ (fun d a => ?_) _ _
  (repeat' split) <;> simp

@[simp] theorem Device.returnAgain_fixed (d : Device) (i : DriveId) (b : Option ElemId) :
    (d.returnAgain i b).fixed = d.fixed := by
  unfold Device.returnAgain
  dsimp only
  (repeat' split) <;> try simp
  rename_i h
  exact Device.requestMove_fixed h

@[simp] theorem Device.returnEnded_fixed (d : Device) (i : DriveId) (m : Move) (r : MoveResult) :
    (Device.returnEnded d i m r).fixed = d.fixed := by
  unfold Device.returnEnded; (repeat' split) <;> simp

@[simp] theorem Device.checkSuspension_fixed (d : Device) (i : DriveId) :
    (Device.checkSuspension d i).fixed = d.fixed := by
  unfold Device.checkSuspension; dsimp only; (repeat' split) <;> simp [*]

@[simp] theorem Device.popContext_fixed (d : Device) (i : DriveId) (k : Context) (rest : List Context) :
    (Device.popContext d i k rest).fixed = d.fixed := by
  unfold Device.popContext; (repeat' split) <;> simp

@[simp] theorem Device.workEnded_fixed (d : Device) (i : DriveId) :
    (Device.workEnded d i).fixed = d.fixed := by
  unfold Device.workEnded; dsimp only; (repeat' split) <;> simp [*]

@[simp] theorem Device.endWork_fixed (d : Device) (i : DriveId) :
    (Device.endWork d i).fixed = d.fixed := by
  unfold Device.endWork; (repeat' split) <;> simp

@[simp] theorem Device.dropContext_fixed (d : Device) (w : Work) :
    (Device.dropContext d w).fixed = d.fixed := by
  unfold Device.dropContext
  refine Device.fixed_foldl _ (fun d a => ?_) _ _
  (repeat' split) <;> simp

@[simp] theorem Device.cleanRequested_fixed (d : Device) (i : DriveId) :
    (Device.cleanRequested d i).fixed = d.fixed := by
  unfold Device.cleanRequested; dsimp only; (repeat' split) <;> simp [*]

@[simp] theorem Device.beginClean_fixed (d : Device) (i : DriveId) :
    (Device.beginClean d i).fixed = d.fixed := rfl

@[simp] theorem Device.cleanEnd_fixed (d : Device) (i : DriveId) (r : DriveResult) :
    (Device.cleanEnd d i r).fixed = d.fixed := by
  unfold Device.cleanEnd; dsimp only; (repeat' split) <;> simp [*]

@[simp] theorem Device.present_fixed (d : Device) (client : XeClient) (record : TapeRecord) (age : Nat) :
    (Device.present d client record age).fixed = d.fixed := by
  unfold Device.present; dsimp only; (repeat' split) <;> simp [Device.fixed_media]

@[simp] theorem Device.withdrawXe_fixed (d : Device) (client : XeClient) :
    (Device.withdrawXe d client).fixed = d.fixed := rfl

@[simp] theorem Device.dropXe_fixed (d : Device) (client : XeClient) :
    (Device.dropXe d client).fixed = d.fixed := rfl

@[simp] theorem Device.xeChoose_fixed (d : Device) :
    (Device.xeChoose d).fixed = d.fixed := by
  unfold Device.xeChoose; (repeat' split) <;> simp [Device.fixed]

@[simp] theorem Device.claimRestore_fixed (d : Device) (e : Restore) (c : CartId) :
    (Device.claimRestore d e c).fixed = d.fixed := by simp [Device.claimRestore]

@[simp] theorem Device.promoteOne_fixed (d : Device) :
    (Device.promoteOne d).fixed = d.fixed := by
  unfold Device.promoteOne; (repeat' split) <;> simp

@[simp] theorem Device.promote_fixed (d : Device) : d.promote.fixed = d.fixed := by
  have h : ∀ n, (Nat.repeat Device.promoteOne n d).fixed = d.fixed := by
    intro n
    induction n with
    | zero => rfl
    | succ n ih => rw [Nat.repeat, Device.promoteOne_fixed, ih]
  exact h _

@[simp] theorem Device.endWorkOf_fixed (d : Device) (w : Work) :
    (Device.endWorkOf d w).fixed = d.fixed := by
  unfold Device.endWorkOf; (repeat' split) <;> simp

@[simp] theorem Device.setGrants_fixed (d : Device) (r : RestoreId) (n : Nat) :
    (Device.setGrants d r n).fixed = d.fixed := rfl

@[simp] theorem Device.freeRestore_fixed (d : Device) (r : RestoreId) :
    (Device.freeRestore d r).fixed = d.fixed := rfl

@[simp] theorem Device.leaveRestore_fixed (d : Device) (r : RestoreId) (e : Restore) :
    (Device.leaveRestore d r e).fixed = d.fixed := by simp [Device.leaveRestore]

@[simp] theorem Device.endRestore_fixed (d : Device) (r : RestoreId) (status : EndStatus) :
    (Device.endRestore d r status).fixed = d.fixed := by
  unfold Device.endRestore; (repeat' split) <;> simp

@[simp] theorem Device.cancelRestores_fixed (d : Device) : d.cancelRestores.fixed = d.fixed := by
  unfold Device.cancelRestores
  rw [Device.post_fixed, Device.fixed_foldl _ (fun d e => by simp), Device.fixed_foldl _ (fun d e => by simp),
    Device.fixed_foldl _ (fun d e => by simp)]

@[simp] theorem Device.endRead_fixed (d : Device) (r : RestoreId) :
    (Device.endRead d r).fixed = d.fixed := by
  unfold Device.endRead; (repeat' split) <;> simp

@[simp] theorem Device.locateStart_fixed (d : Device) (r : RestoreId) (i : DriveId) (n : Nat) :
    (Device.locateStart d r i n).fixed = d.fixed := rfl

@[simp] theorem Device.restoreServed_fixed (d : Device) (r : RestoreId) (i : DriveId) :
    (Device.restoreServed d r i).fixed = d.fixed := by
  unfold Device.restoreServed; (repeat' split) <;> simp

@[simp] theorem Device.chainTo_fixed (d : Device) (e : Restore) (q : Part) :
    (Device.chainTo d e q).fixed = d.fixed := by
  unfold Device.chainTo; dsimp only; (repeat' split) <;> simp [*]

@[simp] theorem Device.chainStep_fixed (d : Device) (e : Restore) (p : Part) :
    (d.chainStep e p).fixed = d.fixed := by
  unfold Device.chainStep
  lift_lets; intro ends
  (repeat' split) <;> simp [ends]

@[simp] theorem Device.partEnd_fixed (d : Device) (e : Restore) (p : Part) :
    (Device.partEnd d e p).fixed = d.fixed := by
  unfold Device.partEnd; dsimp only; (repeat' split) <;> simp [*]

@[simp] theorem Device.readOn_fixed (d : Device) (i : DriveId) (n : Nat) :
    (Device.readOn d i n).fixed = d.fixed := by
  unfold Device.readOn; (repeat' split) <;> simp

@[simp] theorem Device.nextRead_fixed (d : Device) (e : Restore) (p : Part) :
    (Device.nextRead d e p).fixed = d.fixed := by
  unfold Device.nextRead; dsimp only; (repeat' split) <;> simp [*]

@[simp] theorem Device.restoreGoOn_fixed (d : Device) (r : RestoreId) :
    (Device.restoreGoOn d r).fixed = d.fixed := by
  unfold Device.restoreGoOn; (repeat' split) <;> simp

@[simp] theorem Device.pushIfReady_fixed (d : Device) (i : DriveId) :
    (Device.pushIfReady d i).fixed = d.fixed := by
  unfold Device.pushIfReady; (repeat' split) <;> simp

@[simp] theorem Device.restoreRead_fixed (d : Device) (r : RestoreId) (i : DriveId) (res : DriveResult) (block : Bytes) :
    (Device.restoreRead d r i res block).fixed = d.fixed := by
  unfold Device.restoreRead; dsimp only; (repeat' split) <;> simp [*]

@[simp] theorem Device.sendFrames_fixed (d : Device) (r : RestoreId) : (d.sendFrames r).fixed = d.fixed := by
  unfold Device.sendFrames
  split
  · rfl
  · rename_i e _
    lift_lets; intro n x y rest
    have hx : x.fixed = d.fixed := Device.fixed_foldl _ (fun d a => Device.emit_fixed _ _) _ _
    have hy : y.fixed = d.fixed := (Device.setGrants_fixed _ _ _).trans hx
    clear_value y
    split <;> simp [hy]

@[simp] theorem Device.restoreResult_fixed (d : Device) (r : RestoreId) (res : XeResult) :
    (Device.restoreResult d r res).fixed = d.fixed := by
  unfold Device.restoreResult; (repeat' split) <;> simp

@[simp] theorem Device.resultToRestore_fixed (d : Device) (r : RestoreId) (res : XeResult) :
    (Device.resultToRestore d r res).fixed = d.fixed := by
  unfold Device.resultToRestore; (repeat' split) <;> simp

@[simp] theorem Device.restoreResume_fixed (d : Device) (r : RestoreId) :
    (Device.restoreResume d r).fixed = d.fixed := by
  unfold Device.restoreResume; dsimp only; (repeat' split) <;> simp [*]

@[simp] theorem Device.restorePushed_fixed (d : Device) (r : RestoreId) :
    (Device.restorePushed d r).fixed = d.fixed := rfl

@[simp] theorem Device.removeEntry_fixed (d : Device) (c : CartId) :
    (Device.removeEntry d c).fixed = d.fixed := rfl

@[simp] theorem Device.putEntry_fixed (d : Device) (e : VerifyEntry) :
    (Device.putEntry d e).fixed = d.fixed := rfl

@[simp] theorem Device.modEntry_fixed (d : Device) (c : CartId) (g : VerifyEntry → VerifyEntry) :
    (Device.modEntry d c g).fixed = d.fixed := by
  unfold Device.modEntry; (repeat' split) <;> simp

@[simp] theorem Device.insertNew_fixed (d : Device) (c : CartId) :
    (Device.insertNew d c).fixed = d.fixed := rfl

@[simp] theorem Device.recompute_fixed (d : Device) (c : CartId) :
    (Device.recompute d c).fixed = d.fixed := by simp [Device.recompute]

@[simp] theorem Device.reclass_fixed (d : Device) (c : CartId) (src dst : ClaimKind) :
    (Device.reclass d c src dst).fixed = d.fixed := by
  unfold Device.reclass; (repeat' split) <;> simp

@[simp] theorem Device.overdueTest_fixed (d : Device) (c : CartId) :
    (Device.overdueTest d c).fixed = d.fixed := by
  unfold Device.overdueTest; (repeat' split) <;> simp

@[simp] theorem Device.timeChanged_fixed (d : Device) (old : Nat) :
    (Device.timeChanged d old).fixed = d.fixed := by
  unfold Device.timeChanged; dsimp only; (repeat' split) <;> simp [*]

@[simp] theorem Device.claimVerify_fixed (d : Device) (e : VerifyEntry) (kind : ClaimKind) :
    (Device.claimVerify d e kind).fixed = d.fixed := by simp [Device.claimVerify]

@[simp] theorem Device.withdrawVerify_fixed (d : Device) (c : CartId) :
    (Device.withdrawVerify d c).fixed = d.fixed := by simp [Device.withdrawVerify]

@[simp] theorem Device.scheduleLoop_fixed (fuel : Nat) (d : Device) :
    (Device.scheduleLoop fuel d).fixed = d.fixed := by
  induction fuel generalizing d with
  | zero => rfl
  | succ n ih =>
    unfold Device.scheduleLoop
    (repeat' split) <;> simp [ih]

@[simp] theorem Device.verifySchedule_fixed (d : Device) :
    (Device.verifySchedule d).fixed = d.fixed := by simp [Device.verifySchedule]

@[simp] theorem Device.entryChanged_fixed (d : Device) (c : CartId) :
    (Device.entryChanged d c).fixed = d.fixed := by simp [Device.entryChanged]

@[simp] theorem Device.verifyNotify_fixed (d : Device) (c : CartId) :
    (Device.verifyNotify d c).fixed = d.fixed := by
  unfold Device.verifyNotify; (repeat' split) <;> simp

@[simp] theorem Device.blockEntry_fixed (d : Device) (c : CartId) (r : BlockReason) :
    (Device.blockEntry d c r).fixed = d.fixed := by simp [Device.blockEntry]

@[simp] theorem Device.unblock_fixed (d : Device) (c : CartId) (r : BlockReason) :
    (Device.unblock d c r).fixed = d.fixed := by
  unfold Device.unblock; (repeat' split) <;> simp

@[simp] theorem Device.settlePart_fixed (d : Device) (p : PassPart) :
    (Device.settlePart d p).fixed = d.fixed := by
  unfold Device.settlePart; (repeat' split) <;> simp

@[simp] theorem Device.freePass_fixed (d : Device) (p : Pass) :
    (Device.freePass d p).fixed = d.fixed := by
  unfold Device.freePass
  rw [Device.post_fixed]
  exact Device.fixed_foldl _ (fun d a => Device.unpinVerify_fixed d _) _ _

@[simp] theorem Device.entryAfterPass_fixed (d : Device) (c : CartId) :
    (Device.entryAfterPass d c).fixed = d.fixed := by simp [Device.entryAfterPass]

@[simp] theorem Device.endPass_fixed (d : Device) (c : CartId) : (d.endPass c).fixed = d.fixed := by
  unfold Device.endPass
  split
  · rfl
  · simp [Device.fixed_foldl]

@[simp] theorem Device.abandonPass_fixed (d : Device) (c : CartId) (work : Bool) :
    (Device.abandonPass d c work).fixed = d.fixed := by
  unfold Device.abandonPass; (repeat' split) <;> simp

@[simp] theorem Device.passStart_fixed (d : Device) (c : CartId) (i : DriveId) :
    (d.passStart c i).fixed = d.fixed := by
  unfold Device.passStart
  split
  · simp
  · lift_lets; intro parts first last x p v y z
    have hx : x.fixed = d.fixed := Device.fixed_foldl _ (fun d a => Device.pinVerify_fixed _ _) _ _
    have hy : y.fixed = d.fixed := (Device.fixed_free _ _ _ _ _ _ _ _ _ _ _).trans hx
    have hz : z.fixed = d.fixed := (Device.modEntry_fixed _ _ _).trans hy
    clear_value z
    split <;> simp [hz]

@[simp] theorem Device.failPart_fixed (d : Device) (c : CartId) (id : Nat) :
    (Device.failPart d c id).fixed = d.fixed := by simp [Device.failPart]

@[simp] theorem Device.passRecords_fixed (c : CartId) (block order : Nat) (qs : List TapeRecord) (d : Device) :
    (Device.passRecords c block order qs d).1.fixed = d.fixed := by
  induction qs generalizing d with
  | nil => simp [Device.passRecords]
  | cons q qs ih =>
    unfold Device.passRecords
    (repeat' split) <;> simp [ih]

@[simp] theorem Device.passNextRead_fixed (d : Device) (c : CartId) :
    (Device.passNextRead d c).fixed = d.fixed := by
  unfold Device.passNextRead; (repeat' split) <;> simp

@[simp] theorem Device.passGoOn_fixed (d : Device) (c : CartId) :
    (Device.passGoOn d c).fixed = d.fixed := by
  unfold Device.passGoOn; dsimp only; (repeat' split) <;> simp [*]

@[simp] theorem Device.passLost_fixed (d : Device) (c : CartId) (n : Nat) : (d.passLost c n).fixed = d.fixed := by
  unfold Device.passLost
  split
  · rfl
  · exact Device.fixed_foldl _ (fun d q => Device.failPart_fixed d c (PassPart.id q)) _ _

@[simp] theorem Device.passRead_fixed (d : Device) (c : CartId) (i : DriveId) (res : DriveResult) (block : Bytes) :
    (Device.passRead d c i res block).fixed = d.fixed := by
  unfold Device.passRead; dsimp only; (repeat' split) <;> simp [*]

@[simp] theorem Device.passResult_fixed (d : Device) (c : CartId) (res : XeResult) :
    (Device.passResult d c res).fixed = d.fixed := by
  unfold Device.passResult; (repeat' split) <;> simp

@[simp] theorem Device.resultToPass_fixed (d : Device) (c : CartId) (res : XeResult) :
    (Device.resultToPass d c res).fixed = d.fixed := by
  unfold Device.resultToPass; (repeat' split) <;> simp

@[simp] theorem Device.passResume_fixed (d : Device) (c : CartId) :
    (Device.passResume d c).fixed = d.fixed := by
  unfold Device.passResume; dsimp only; (repeat' split) <;> simp [*]

@[simp] theorem Device.passPushed_fixed (d : Device) (c : CartId) :
    (Device.passPushed d c).fixed = d.fixed := rfl

@[simp] theorem Device.resetMoves_fixed (d : Device) (i : DriveId) (rescan : Bool) :
    (Device.resetMoves d i rescan).fixed = d.fixed := by
  unfold Device.resetMoves
  refine Device.fixed_foldl _ (fun d a => ?_) _ _
  (repeat' split) <;> simp

@[simp] theorem Device.unreadyHost_fixed (d : Device) (i : DriveId) :
    (Device.unreadyHost d i).fixed = d.fixed := by
  unfold Device.unreadyHost; (repeat' split) <;> simp

@[simp] theorem Device.endContext_fixed (d : Device) (w : Work) :
    (Device.endContext d w).fixed = d.fixed := by
  unfold Device.endContext; (repeat' split) <;> simp

@[simp] theorem Device.endContexts_fixed (d : Device) (i : DriveId) : (d.endContexts i).fixed = d.fixed := by
  unfold Device.endContexts
  lift_lets; intro x works y
  rw [Device.returnClaim_fixed, Device.fixed_foldl _ (fun d a => Device.endContext_fixed d a), Device.modDrive_fixed]

@[simp] theorem Device.resetStep3_fixed (d : Device) (i : DriveId) :
    (Device.resetStep3 d i).fixed = d.fixed := by
  unfold Device.resetStep3; (repeat' split) <;> simp

@[simp] theorem Device.driveReset_fixed (d : Device) (i : DriveId) (rescan : Bool) :
    (Device.driveReset d i rescan).fixed = d.fixed := by
  unfold Device.driveReset; dsimp only; (repeat' split) <;> simp [*]

@[simp] theorem Device.faultFinalize_fixed (d : Device) (i : DriveId) :
    (Device.faultFinalize d i).fixed = d.fixed := by
  unfold Device.faultFinalize; (repeat' split) <;> simp

@[simp] theorem Device.driveFault_fixed (d : Device) (i : DriveId) (cause : FaultCause) :
    (Device.driveFault d i cause).fixed = d.fixed := by
  unfold Device.driveFault; dsimp only; (repeat' split) <;> simp [*]

theorem Device.completion_fixed (d : Device) (i : DriveId) (number : BitVec 16) (name : CmdName) (r : DriveResult)
    (found : Nat) (k : Device → DriveCmd → DriveResult → Device) (hk : ∀ d c r, (k d c r).fixed = d.fixed) :
    (d.completion i number name r found k).fixed = d.fixed := by
  unfold Device.completion
  split
  · rfl
  · split
    · lift_lets; intro r' x
      split <;> simp [hk, x]
    · rfl

@[simp] theorem Device.commandTimedOut_fixed (d : Device) (i : DriveId) :
    (Device.commandTimedOut d i).fixed = d.fixed := by
  unfold Device.commandTimedOut; (repeat' split) <;> simp

@[simp] theorem Device.cleaningLoaded_fixed (d : Device) (i : DriveId) : (d.cleaningLoaded i).fixed = d.fixed := by
  unfold Device.cleaningLoaded; split <;> simp

@[simp] theorem Device.loadEnd_fixed (d : Device) (i : DriveId) :
    (Device.loadEnd d i).fixed = d.fixed := by
  unfold Device.loadEnd; dsimp only; (repeat' split) <;> simp [*]

@[simp] theorem Device.toPowerMouth_fixed (d : Device) (i : DriveId) :
    (Device.toPowerMouth d i).fixed = d.fixed := by simp [Device.toPowerMouth]

@[simp] theorem Device.presented_fixed (d : Device) (i : DriveId) :
    (Device.presented d i).fixed = d.fixed := by
  unfold Device.presented; (repeat' split) <;> simp

@[simp] theorem Device.unloadEnd_fixed (d : Device) (i : DriveId) (r : DriveResult) :
    (Device.unloadEnd d i r).fixed = d.fixed := by
  unfold Device.unloadEnd; (repeat' split) <;> simp

@[simp] theorem Device.startReading_fixed (d : Device) (i : DriveId) :
    (Device.startReading d i).fixed = d.fixed := by
  unfold Device.startReading; (repeat' split) <;> simp

@[simp] theorem Device.resumeReading_fixed (d : Device) (i : DriveId) :
    (Device.resumeReading d i).fixed = d.fixed := by
  unfold Device.resumeReading; (repeat' split) <;> simp

@[simp] theorem Device.popLost_fixed (d : Device) (i : DriveId) :
    (Device.popLost d i).fixed = d.fixed := by
  unfold Device.popLost; (repeat' split) <;> simp

@[simp] theorem Device.popMismatch_fixed (d : Device) (i : DriveId) :
    (Device.popMismatch d i).fixed = d.fixed := by
  unfold Device.popMismatch; (repeat' split) <;> simp

@[simp] theorem Device.popGood_fixed (d : Device) (i : DriveId) (f : FeedId) (e : Cart) :
    (Device.popGood d i f e).fixed = d.fixed := by simp [Device.popGood]

@[simp] theorem Device.popLocated_fixed (d : Device) (i : DriveId) (r : DriveResult) :
    (Device.popLocated d i r).fixed = d.fixed := by
  unfold Device.popLocated; dsimp only; (repeat' split) <;> simp [*]

@[simp] theorem Device.locateDone_fixed (d : Device) (i : DriveId) (cmd : DriveCmd) (r : DriveResult) :
    (Device.locateDone d i cmd r).fixed = d.fixed := by
  unfold Device.locateDone; (repeat' split) <;> simp

@[simp] theorem Device.popAppendRead_fixed (d : Device) (i : DriveId) (retries : Nat) (r : DriveResult) (block : Bytes) :
    (Device.popAppendRead d i retries r block).fixed = d.fixed := by
  unfold Device.popAppendRead; dsimp only; (repeat' split) <;> simp [*]

@[simp] theorem Device.popLabelRead_fixed (d : Device) (i : DriveId) (retries : Nat) (r : DriveResult) (block : Bytes) :
    (Device.popLabelRead d i retries r block).fixed = d.fixed := by
  unfold Device.popLabelRead; dsimp only; (repeat' split) <;> simp [*]

@[simp] theorem Device.identified_fixed (d : Device) (i : DriveId) (r : DriveResult) (block : Bytes) :
    (Device.identified d i r block).fixed = d.fixed := rfl

@[simp] theorem Device.readDone_fixed (d : Device) (i : DriveId) (r : DriveResult) (block : Bytes) :
    (Device.readDone d i r block).fixed = d.fixed := by
  unfold Device.readDone; (repeat' split) <;> simp

@[simp] theorem Device.finalWritten_fixed (d : Device) (i : DriveId) (cmd : DriveCmd) (r : DriveResult) :
    (Device.finalWritten d i cmd r).fixed = d.fixed := by
  unfold Device.finalWritten; (repeat' split) <;> simp

@[simp] theorem Device.writeDone_fixed (d : Device) (i : DriveId) (cmd : DriveCmd) (r : DriveResult) :
    (Device.writeDone d i cmd r).fixed = d.fixed := by
  unfold Device.writeDone; (repeat' split) <;> simp

@[simp] theorem Device.speedDone_fixed (d : Device) (i : DriveId) :
    (Device.speedDone d i).fixed = d.fixed := by
  unfold Device.speedDone; (repeat' split) <;> simp

@[simp] theorem Device.serve_fixed (d : Device) (i : DriveId) (w : Work) :
    (Device.serve d i w).fixed = d.fixed := by
  unfold Device.serve; (repeat' split) <;> simp

@[simp] theorem Device.push_fixed (d : Device) (i : DriveId) (w : Work) (resume order : Nat) :
    (Device.push d i w resume order).fixed = d.fixed := by
  unfold Device.push; (repeat' split) <;> simp

@[simp] theorem Device.pushWork_fixed (d : Device) (i : DriveId) (w : Work) (order : Nat) :
    (Device.pushWork d i w order).fixed = d.fixed := by
  unfold Device.pushWork; (repeat' split) <;> simp

@[simp] theorem Device.resumeCancelled_fixed (d : Device) (i : DriveId) :
    (Device.resumeCancelled d i).fixed = d.fixed := by
  unfold Device.resumeCancelled; (repeat' split) <;> simp

@[simp] theorem Device.pushReady_fixed (d : Device) (i : DriveId) :
    (Device.pushReady d i).fixed = d.fixed := by
  unfold Device.pushReady; (repeat' split) <;> simp

@[simp] theorem Device.claimFailed_fixed (d : Device) (o : Owner) :
    (Device.claimFailed d o).fixed = d.fixed := by
  unfold Device.claimFailed; (repeat' split) <;> simp

@[simp] theorem Device.tellLost_fixed (d : Device) (k : Claim) :
    (Device.tellLost d k).fixed = d.fixed := by
  unfold Device.tellLost; (repeat' split) <;> simp

@[simp] theorem Device.finalizeLost_fixed (d : Device) (c : CartId) :
    (Device.finalizeLost d c).fixed = d.fixed := by
  unfold Device.finalizeLost; (repeat' split) <;> simp

@[simp] theorem Device.locationChanged_fixed (d : Device) (c : CartId) : (d.locationChanged c).fixed = d.fixed := by
  unfold Device.locationChanged
  rw [Device.post_fixed]
  split
  · split <;> simp
  · simp [Device.fixed_foldl]
  · rfl

@[simp] theorem Device.mediaReturned_fixed (d : Device) (p : PoolId) : (d.mediaReturned p).fixed = d.fixed := by
  unfold Device.mediaReturned
  lift_lets; intro ks x
  rw [Device.post_fixed]
  refine Device.fixed_foldl _ (fun d k => ?_) _ _
  lift_lets; intro y
  split <;> simp [y]

@[simp] theorem Device.takenIn_fixed (d : Device) (j : DriveId) (m : Move) (host : Bool) :
    (Device.takenIn d j m host).fixed = d.fixed := by
  unfold Device.takenIn; (repeat' split) <;> simp

@[simp] theorem Device.passedOn_fixed (d : Device) (i : DriveId) (m : Move) (r : MoveResult) :
    (Device.passedOn d i m r).fixed = d.fixed := by
  unfold Device.passedOn; (repeat' split) <;> simp

@[simp] theorem Device.driveMoveEnded_fixed (d : Device) (i : DriveId) (m : Move) (r : MoveResult) :
    (Device.driveMoveEnded d i m r).fixed = d.fixed := by
  unfold Device.driveMoveEnded; dsimp only; (repeat' split) <;> simp

@[simp] theorem Device.releaseHostClaims_fixed (d : Device) (m : Nat) :
    (Device.releaseHostClaims d m).fixed = d.fixed := by
  unfold Device.releaseHostClaims
  refine Device.fixed_foldl _ (fun d a => ?_) _ _
  (repeat' split) <;> simp

@[simp] theorem Device.hostSource_fixed (d : Device) (i : DriveId) (m : Move) (r : MoveResult) :
    (Device.hostSource d i m r).fixed = d.fixed := by
  unfold Device.hostSource; (repeat' split) <;> simp

@[simp] theorem Device.hostDestination_fixed (d : Device) (i : DriveId) (m : Move) (r : MoveResult) :
    (Device.hostDestination d i m r).fixed = d.fixed := by
  unfold Device.hostDestination; (repeat' split) <;> simp

@[simp] theorem Device.moveEnded_fixed (d : Device) (m : Move) (r : MoveResult) :
    (Device.moveEnded d m r).fixed = d.fixed := by
  unfold Device.moveEnded; (repeat' split) <;> simp

@[simp] theorem Device.driveRescan_fixed (d : Device) (i : DriveId) :
    (Device.driveRescan d i).fixed = d.fixed := by
  unfold Device.driveRescan; dsimp only; (repeat' split) <;> simp [*]

@[simp] theorem Device.applyFound_fixed (d : Device) (i : DriveId) :
    (Device.applyFound d i).fixed = d.fixed := by
  unfold Device.applyFound; dsimp only; (repeat' split) <;> simp [*]

@[simp] theorem Device.inventoryDone_fixed (d : Device) :
    (Device.inventoryDone d).fixed = d.fixed := by
  unfold Device.inventoryDone
  refine Device.fixed_foldl _ (fun d a => ?_) _ _
  (repeat' split) <;> simp

@[simp] theorem Device.perform_fixed (d : Device) (t : Task) : (d.perform t).fixed = d.fixed := by
  cases t <;> simp [Device.perform, Device.fixed_foldl]

@[simp] theorem Device.settleLoop_fixed (fuel : Nat) (d : Device) : (d.settleLoop fuel).fixed = d.fixed := by
  induction fuel generalizing d with
  | zero => rfl
  | succ n ih =>
    unfold Device.settleLoop
    split
    · rfl
    · rw [ih, Device.perform_fixed]; rfl

@[simp] theorem Device.settle_fixed (d : Device) :
    (Device.settle d).fixed = d.fixed := by simp [Device.settle]

@[simp] theorem Device.openStream_fixed (d : Device) (tag : Tag) (c : StreamId) (jobTag : Nat) (p : PoolId) (size : Nat) (policy : Policy) :
    (Device.openStream d tag c jobTag p size policy).fixed = d.fixed := by
  unfold Device.openStream; dsimp only; (repeat' split) <;> simp [Device.fixed_media]

@[simp] theorem Device.poolEffects_fixed (d : Device) (p : PoolId) (old new : Pool) :
    (Device.poolEffects d p old new).fixed = d.fixed := by
  unfold Device.poolEffects; dsimp only; (repeat' split) <;> simp [*]

@[simp] theorem Device.adoptInDrive_fixed (d : Device) (e : ElemId) (c : CartId) :
    (Device.adoptInDrive d e c).fixed = d.fixed := by
  unfold Device.adoptInDrive; dsimp only; (repeat' split) <;> simp [*]

@[simp] theorem Device.createCart_fixed (d : Device) (tag : Tag) (c : CartId) (x : Bytes) (a : CartArgs) :
    (Device.createCart d tag c x a).fixed = d.fixed := by
  unfold Device.createCart; (repeat' split) <;> simp

@[simp] theorem Device.editEntry_fixed (d : Device) (tag : Tag) (c : CartId) (e : Cart) (a : CartArgs) (read : Bool) :
    (Device.editEntry d tag c e a read).fixed = d.fixed := by
  unfold Device.editEntry; dsimp only; (repeat' split) <;> simp [*]

@[simp] theorem Device.changeEntry_fixed (d : Device) (tag : Tag) (index : Nat) (g : Cart → Cart) :
    (Device.changeEntry d tag index g).fixed = d.fixed := by
  unfold Device.changeEntry; (repeat' split) <;> simp

@[simp] theorem Device.removeCart_fixed (d : Device) (tag : Tag) (c : CartId) :
    (Device.removeCart d tag c).fixed = d.fixed := by
  unfold Device.removeCart; (repeat' split) <;> simp

@[simp] theorem Device.beginInventory_fixed (d : Device) (tag : Tag) (first last : Nat) :
    (Device.beginInventory d tag first last).fixed = d.fixed := by
  unfold Device.beginInventory; dsimp only; (repeat' split) <;> simp [Device.fixed_changer]

@[simp] theorem Device.claimHost_fixed (d : Device) (move : Nat) (e : ElemId) :
    (Device.claimHost d move e).fixed = d.fixed := by
  unfold Device.claimHost; (repeat' split) <;> simp

@[simp] theorem Device.hostMove_fixed (d : Device) (tag : Tag) (a b : ElemId) (load : Load) :
    (Device.hostMove d tag a b load).fixed = d.fixed := by
  unfold Device.hostMove; dsimp only; (repeat' split) <;> simp [*]

@[simp] theorem Device.transferDone_fixed (d : Device) (n : BitVec 16) (r : TransferResult) :
    (Device.transferDone d n r).fixed = d.fixed := by
  unfold Device.transferDone; (repeat' split) <;> simp

@[simp] theorem Device.scanDone_fixed (d : Device) (n : BitVec 16) (r : ScanResult) :
    (Device.scanDone d n r).fixed = d.fixed := by
  unfold Device.scanDone; (repeat' split) <;> simp

@[simp] theorem Device.rehomeDone_fixed (d : Device) (n : BitVec 16) (r : ScanResult) :
    (Device.rehomeDone d n r).fixed = d.fixed := by
  unfold Device.rehomeDone; (repeat' split) <;> simp

@[simp] theorem Device.takeGrant_fixed (d : Device) (r : RestoreId) (count : Nat) :
    (Device.takeGrant d r count).fixed = d.fixed := by
  unfold Device.takeGrant; dsimp only; (repeat' split) <;> simp [*]

@[simp] theorem Device.acceptRestore_fixed (d : Device) (tag : Tag) (r : RestoreId) (priority : Priority) (p : Part) (first count : Option Nat) (follow : Bool) :
    (Device.acceptRestore d tag r priority p first count follow).fixed = d.fixed := by
  unfold Device.acceptRestore; dsimp only; (repeat' split) <;> simp [Device.fixed_media]

@[simp] theorem Device.expansionEnd_fixed (d : Device) :
    (Device.expansionEnd d).fixed = d.fixed := by
  unfold Device.expansionEnd; dsimp only; (repeat' split) <;> simp [Device.fixed_media]

@[simp] theorem Device.verifyNow_fixed (d : Device) (tag : Tag) (c : CartId) :
    (Device.verifyNow d tag c).fixed = d.fixed := by
  unfold Device.verifyNow; (repeat' split) <;> simp

@[simp] theorem Device.loadSegment_fixed (d : Device) (tag : Tag) (a : SegmentArgs) (c : CartId) :
    (Device.loadSegment d tag a c).fixed = d.fixed := by
  unfold Device.loadSegment; dsimp only; (repeat' split) <;> simp [*]

@[simp] theorem Device.forgetPart_fixed (d : Device) (id : Nat) : (d.forgetPart id).fixed = d.fixed := rfl

@[simp] theorem Device.releaseSegment_fixed (d : Device) (tag : Tag) (p : Part) :
    (Device.releaseSegment d tag p).fixed = d.fixed := by simp [Device.releaseSegment]

@[simp] theorem Device.periodEnd_fixed (d : Device) (f : FeedId) :
    (Device.periodEnd d f).fixed = d.fixed := by
  unfold Device.periodEnd; (repeat' split) <;> simp

@[simp] theorem Device.decideWaiting_fixed (d : Device) :
    (Device.decideWaiting d).fixed = d.fixed := by simp [Device.decideWaiting]

@[simp] theorem Device.closeOld_fixed (d : Device) :
    (Device.closeOld d).fixed = d.fixed := by
  unfold Device.closeOld
  refine Device.fixed_foldl _ (fun d a => ?_) _ _
  (repeat' split) <;> simp

@[simp] theorem Device.unmountIdle_fixed (d : Device) :
    (Device.unmountIdle d).fixed = d.fixed := by
  unfold Device.unmountIdle
  refine Device.fixed_foldl _ (fun d a => ?_) _ _
  (repeat' split) <;> simp

@[simp] theorem Device.endStalled_fixed (d : Device) :
    (Device.endStalled d).fixed = d.fixed := by
  unfold Device.endStalled
  refine Device.fixed_foldl _ (fun d a => ?_) _ _
  (repeat' split) <;> simp

@[simp] theorem Device.paramEffects_fixed (d : Device) (p : Param) : (d.paramEffects p).fixed = d.fixed := by
  cases p <;> simp [Device.paramEffects]

@[simp] theorem Device.poll_fixed (d : Device) (tag : Tag) :
    (Device.poll d tag).fixed = d.fixed := by
  unfold Device.poll; (repeat' split) <;> simp

@[simp] theorem Device.freeMarked_fixed (d : Device) (fs : List OutFrame) :
    (Device.freeMarked d fs).fixed = d.fixed := by
  unfold Device.freeMarked
  refine Device.fixed_foldl _ (fun d a => ?_) _ _
  (repeat' split) <;> simp

@[simp] theorem Device.discardUnsent_fixed (d : Device) (stays : OutFrame → Bool) :
    (Device.discardUnsent d stays).fixed = d.fixed := by
  unfold Device.discardUnsent
  refine Device.fixed_foldl _ (fun d a => ?_) _ _
  (repeat' split) <;> simp

end Sys2Proof.Machine
end

