-- ==== Sys2Proof/Laws/Sound.lean ====
section
/-!
SUPPORT. What every operation on the device keeps: for each, one lemma that sound tables (R12, R55, R56, R66, R153,
R162, R180) stay sound.
-/
namespace Sys2Proof.Machine

theorem Stream.sound_of {s : Stream} (h : RingSound s.state s.credits s.slots.length s.overruns s.nextSeq) :
    s.Sound := h

@[simp] theorem Device.sound_mk {intake : Intake} {ce : Ce} {xe : Xe} {feeds : Vector (Option Feed) 4} {map : SegMap}
    {media : Media} {changer : Changer} {drives : Vector Drive 4} {arb : Arbiter} {ru : RestoreUnit} {vu : VerifyUnit}
    {mu : Management} {link : Link} {agenda : List Task} {moment : Nat} :
    (Device.mk intake ce xe feeds map media changer drives arb ru vu mu link agenda moment).Sound ↔
      TablesSound intake.streams feeds map.parts map.counter mu.events link.grants vu.list := Iff.rfl

@[simp] theorem Device.tables_sound {d : Device} (h : d.Sound) :
    TablesSound d.intake.streams d.feeds d.map.parts d.map.counter d.mu.events d.link.grants d.vu.list := h

@[simp] theorem Feed.governor_sound {x : Feed} (h : x.Sound) :
    GovernorSound x.step x.upCount x.estimate x.periodCount x.stops := h

@[simp] theorem Feed.sound_mk {state pool members departed drive cart assembly staging nextDseq flights returned held
    reservations stall estimate step upCount periodCount speedOut stops written spanFull suspending periodStart} :
    (Feed.mk state pool members departed drive cart assembly staging nextDseq flights returned held reservations stall
      estimate step upCount periodCount speedOut stops written spanFull suspending periodStart).Sound ↔
      GovernorSound step upCount estimate periodCount stops := Iff.rfl

@[simp] theorem Stream.ring_sound {s : Stream} (h : s.Sound) :
    RingSound s.state s.credits s.slots.length s.overruns s.nextSeq := h

@[simp] theorem Stream.sound_mk {state jobTag pool recordSize policy readSlot byteOffset writeSlot slots offered credits
    nextSeq unconfirmed accepted overruns gap feed part storedRun bypass opening limitReached} :
    (Stream.mk state jobTag pool recordSize policy readSlot byteOffset writeSlot slots offered credits nextSeq
      unconfirmed accepted overruns gap feed part storedRun bypass opening limitReached).Sound ↔
      RingSound state credits slots.length overruns nextSeq := Iff.rfl

theorem Device.sound_foldl {α : Type} {g : Device → α → Device} (hg : ∀ d a, d.Sound → (g d a).Sound) (l : List α)
    {d : Device} (h : d.Sound) : (l.foldl g d).Sound := by
  induction l generalizing d with
  | nil => exact h
  | cons a l ih => exact ih (hg d a h)

@[simp] theorem Device.modStream_sound {d : Device} {c : StreamId} {g : Stream → Stream} (h : d.Sound)
    (hg : (g (d.stream c)).Sound) : (d.modStream c g).Sound :=
  { h with
    streams := fun x => by
      by_cases hx : c = x
      · subst hx; simpa [Device.modStream] using hg
      · have := h.streams x
        simpa [Device.modStream, Vector.getElem_set, Fin.val_ne_of_ne hx] using this }

@[simp] theorem Device.stream_sound {d : Device} (h : d.Sound) (c : StreamId) : (d.stream c).Sound := h.streams c

theorem Device.setFeed_sound {d : Device} {f : FeedId} {v : Option Feed} (h : d.Sound)
    (hv : ∀ x, v = some x → x.Sound) : (d.setFeed f v).Sound :=
  { h with
    feeds := fun y x hx => by
      by_cases hy : f = y
      · subst hy; exact hv x (by simpa [Device.setFeed] using hx)
      · exact h.feeds y x (by simpa [Device.setFeed, Vector.getElem_set, Fin.val_ne_of_ne hy] using hx) }

theorem Device.feed_sound {d : Device} (h : d.Sound) {f : FeedId} {x : Feed} (hx : d.feed f = some x) : x.Sound :=
  h.feeds f x hx

@[simp] theorem Device.setFeedSome_sound {d : Device} {f : FeedId} {x : Feed} (h : d.Sound) (hx : x.Sound) :
    (d.setFeed f (some x)).Sound := Device.setFeed_sound h fun _ hy => by cases hy; exact hx

@[simp] theorem Device.setFeedNone_sound {d : Device} {f : FeedId} (h : d.Sound) : (d.setFeed f none).Sound :=
  Device.setFeed_sound h fun _ hy => nomatch hy

theorem Device.modFeed_sound {d : Device} {f : FeedId} {g : Feed → Feed} (h : d.Sound)
    (hg : ∀ x, x.Sound → (g x).Sound) : (d.modFeed f g).Sound := by
  refine Device.setFeed_sound h fun x hx => ?_
  obtain ⟨y, hy, rfl⟩ := Option.map_eq_some_iff.mp hx
  exact hg y (Device.feed_sound h hy)

@[simp] theorem Device.modFeed_same {d : Device} {f : FeedId} {g : Feed → Feed} (h : d.Sound)
    (hg : ∀ x, (g x).step = x.step ∧ (g x).upCount = x.upCount ∧ (g x).estimate = x.estimate ∧
      (g x).periodCount = x.periodCount ∧ (g x).stops = x.stops) : (d.modFeed f g).Sound := by
  refine Device.modFeed_sound h fun x hx => ?_
  obtain ⟨h1, h2, h3, h4, h5⟩ := hg x
  exact { step := h1 ▸ hx.step, upCount := h2 ▸ hx.upCount, estimate := h3 ▸ hx.estimate,
          periodCount := h4 ▸ hx.periodCount, stops := h5 ▸ hx.stops }

@[simp] theorem Device.post_sound {d : Device} {t : Task} (h : d.Sound) : (d.post t).Sound := by
  unfold Device.post; split <;> exact h

@[simp] theorem Device.postAll_sound {d : Device} {ts : List Task} (h : d.Sound) : (d.postAll ts).Sound :=
  Device.sound_foldl (fun _ _ h => Device.post_sound h) ts h

@[simp] theorem Device.modDrive_sound {d : Device} {i : DriveId} {g : Drive → Drive} (h : d.Sound) :
    (d.modDrive i g).Sound := h

@[simp] theorem Device.setRow_sound {d : Device} {c : CartId} {r : CartRow} (h : d.Sound) : (d.setRow c r).Sound := h

@[simp] theorem Device.modElem_sound {d : Device} {e : ElemId} {g : Element → Element} (h : d.Sound) :
    (d.modElem e g).Sound := h

theorem Device.setEvent_sound {d : Device} {k : EventKind} {v : Option Event} (h : d.Sound)
    (hv : ∀ e, v = some e → 1 ≤ e.count ∧ e.count ≤ 255) : (d.setEvent k v).Sound :=
  { h with
    events := fun y e he => by
      by_cases hy : k.index = y
      · subst hy; exact hv e (by simpa [Device.setEvent] using he)
      · exact h.events y e (by simpa [Device.setEvent, Vector.getElem_set, Fin.val_ne_of_ne hy] using he) }

@[simp] theorem Device.raise_sound {d : Device} {k : EventKind} {a : EventArg} (h : d.Sound) :
    (d.raise k a).Sound := by
  refine Device.setEvent_sound h fun e he => ?_
  cases he
  unfold raiseEvent
  split
  · exact ⟨Nat.le_refl 1, Nat.le_of_ble_eq_true rfl⟩
  · rename_i e he
    have := h.events k.index e he
    constructor
    · exact Nat.le_min.mpr ⟨by decide, Nat.le_add_left 1 _⟩
    · exact Nat.min_le_left _ _

@[simp] theorem Device.emit_sound {d : Device} {f : OutFrame} (h : d.Sound) : (d.emit f).Sound := h

@[simp] theorem Device.respond_sound {d : Device} {tag : Tag} {st : Status} {is : List Item} (h : d.Sound) :
    (d.respond tag st is).Sound := h

@[simp] theorem Device.linkError_sound {d : Device} (h : d.Sound) : d.linkError.Sound := h

@[simp] theorem Device.modPart_sound {d : Device} {id : Nat} {g : Part → Part} (h : d.Sound) (hg : ∀ p, (g p).id = p.id) :
    (d.modPart id g).Sound :=
  { h with
    parts := fun p hp => by
      obtain ⟨q, hq, rfl⟩ := List.mem_map.mp hp
      have := h.parts q hq
      split <;> simp_all }

theorem mem_insertPart {p q : Part} {l : List Part} : q ∈ insertPart p l ↔ q = p ∨ q ∈ l := by
  induction l with
  | nil => simp [insertPart]
  | cons x xs ih => simp only [insertPart]; split <;> simp [ih]; tauto

theorem Device.addPart_sound {d : Device} {p : Part} (h : d.Sound) (hp : 1 ≤ p.id ∧ p.id ≤ Config.max32) :
    (d.addPart p).Sound :=
  { h with
    parts := fun q hq => by
      rcases mem_insertPart.mp hq with rfl | hq
      · exact hp
      · exact h.parts q hq }

@[simp] theorem Device.freePart_sound {d : Device} {id : Nat} (h : d.Sound) : (d.freePart id).Sound :=
  { h with parts := fun p hp => h.parts p (List.mem_filter.mp hp).1 }

theorem nextPartId_range (n : Nat) : 1 ≤ nextPartId n ∧ nextPartId n ≤ Config.max32 := by
  unfold nextPartId Config.max32; split <;> omega

theorem freePartId_range (used : Nat → Bool) (fuel n : Nat) (h : 1 ≤ n ∧ n ≤ Config.max32) :
    1 ≤ freePartId used fuel n ∧ freePartId used fuel n ≤ Config.max32 := by
  induction fuel generalizing n with
  | zero => exact h
  | succ k ih =>
    unfold freePartId
    split
    · exact ih _ (nextPartId_range n)
    · exact h

@[simp] theorem Device.reserve_sound {d : Device} {n : Nat} (h : d.Sound) : (d.reserve n).Sound := h

@[simp] theorem Device.consumeReservation_sound {d : Device} (h : d.Sound) : d.consumeReservation.Sound := h

@[simp] theorem Device.releaseReservations_sound {d : Device} {n : Nat} (h : d.Sound) :
    (d.releaseReservations n).Sound := by
  unfold Device.releaseReservations; split
  · exact h
  · exact Device.post_sound h

@[simp] theorem Device.createPart_sound {d : Device} {r : Option PartRef} {c : CartId} {rec : Record} {b : Nat}
    (h : d.Sound) : (d.createPart r c rec b).1.Sound :=
  have hid := freePartId_range (fun n => (d.part? n).isSome) (d.map.parts.length + 1) d.map.counter h.counter
  have := Device.addPart_sound (p := Part.create d.newPartId (nextPartNumber r) c rec b) h hid
  { this with counter := nextPartId_range _ }

theorem Device.setGrants_sound {d : Device} {r : RestoreId} {n : Nat} (h : d.Sound) (hn : n ≤ 65535) :
    (d.setGrants r n).Sound :=
  { h with
    grants := fun x => by
      by_cases hx : r = x
      · subst hx; simpa [Device.setGrants] using hn
      · simpa [Device.setGrants, Vector.getElem_set, Fin.val_ne_of_ne hx] using h.grants x }

@[simp] theorem Device.modRestore_sound {d : Device} {r : RestoreId} {g : Restore → Restore} (h : d.Sound) :
    (d.modRestore r g).Sound := h

@[simp] theorem Device.modPass_sound {d : Device} {c : CartId} {g : Pass → Pass} (h : d.Sound) :
    (d.modPass c g).Sound := h

@[simp] theorem Device.removeEntry_sound {d : Device} {c : CartId} (h : d.Sound) : (d.removeEntry c).Sound :=
  { h with list := h.list.filter _ }

theorem pairwise_insertEntry (e : VerifyEntry) (l : List VerifyEntry)
    (h : l.Pairwise fun a b => a.deadline ≤ b.deadline) :
    (insertEntry e l).Pairwise fun a b => a.deadline ≤ b.deadline := by
  have mem : ∀ (l : List VerifyEntry) x, x ∈ insertEntry e l → x = e ∨ x ∈ l := by
    intro l
    induction l with
    | nil => intro x hx; simpa [insertEntry] using hx
    | cons y ys ih =>
      intro x hx
      unfold insertEntry at hx
      split at hx
      · simpa using hx
      · rcases List.mem_cons.mp hx with rfl | hx
        · simp
        · rcases ih x hx with rfl | h <;> simp_all
  induction l with
  | nil => simp [insertEntry]
  | cons y ys ih =>
    have hy := List.pairwise_cons.mp h
    unfold insertEntry
    split
    · rename_i hb
      refine List.pairwise_cons.mpr ⟨fun z hz => ?_, h⟩
      have hey : e.deadline ≤ y.deadline := by
        simp only [VerifyEntry.before, Bool.or_eq_true, Bool.and_eq_true, decide_eq_true_eq, beq_iff_eq] at hb
        omega
      rcases List.mem_cons.mp hz with rfl | hz
      · exact hey
      · exact Nat.le_trans hey (hy.1 z hz)
    · rename_i hb
      refine List.pairwise_cons.mpr ⟨fun z hz => ?_, ih hy.2⟩
      have hye : y.deadline ≤ e.deadline := by
        simp only [VerifyEntry.before, Bool.or_eq_true, Bool.and_eq_true, decide_eq_true_eq, beq_iff_eq] at hb
        omega
      rcases mem ys z hz with rfl | hz
      · exact hye
      · exact hy.1 z hz

@[simp] theorem Device.putEntry_sound {d : Device} {e : VerifyEntry} (h : d.Sound) : (d.putEntry e).Sound :=
  have h' := Device.removeEntry_sound (c := e.cart) h
  { h' with list := pairwise_insertEntry e _ h'.list }


@[simp] theorem Feed.close_sound {x : Feed} {now : Nat} (h : x.Sound) : (x.close now).Sound := by
  unfold Feed.close
  split
  · exact h
  · exact { h with periodCount := by show (if _ then _ else _) ≤ _; split; exacts [Nat.min_le_left _ _, h.periodCount] }

@[simp] theorem Feed.openWith_sound {x : Feed} {r : Record} {now : Nat} (h : x.Sound) : (x.openWith r now).Sound := h

@[simp] theorem Feed.place_sound {x : Feed} {r : Record} {now : Nat} {k : PlaceCase} (h : x.Sound) :
    (x.place r now k).Sound := by
  cases k <;> exact h

@[simp] theorem Feed.start_sound {x : Feed} {now : Nat} (h : x.Sound) : (x.start now).Sound := by
  unfold Feed.start
  split
  · exact { h with upCount := Nat.zero_le _, periodCount := Nat.zero_le _ }
  · exact h

@[simp] theorem Feed.returnFlights_sound {x : Feed} (h : x.Sound) : x.returnFlights.Sound := h

theorem targetStep_range (e : Nat) : 1 ≤ targetStep e ∧ targetStep e ≤ 8 := by
  unfold targetStep
  cases h : [8, 7, 6, 5, 4, 3, 2].find? (fun k => decide (16 * (300 + 100 * k) ≤ e + e / 8)) with
  | none => simp
  | some k =>
    have := List.mem_of_find?_eq_some h
    simp only [Option.getD_some]
    simp at this
    omega

theorem Feed.governor_keeps {x : Feed} {n : Nat} (h : x.Sound) : (x.governor n).1.Sound := by
  have hk := targetStep_range (nextEstimate x.estimate x.periodCount)
  have he : nextEstimate x.estimate x.periodCount ≤ 65535 := Nat.min_le_left _ _
  unfold Feed.governor
  simp only
  repeat' split
  all_goals
    exact
      { step := by have := h.step; simp only; omega
        upCount := by first | exact Nat.zero_le _ | exact Nat.min_le_left _ _
        estimate := he
        periodCount := Nat.zero_le _
        stops := h.stops }

@[simp] theorem Device.closePart_sound {d : Device} {id : Nat} {gap truncated continued : Bool} (h : d.Sound) :
    (d.closePart id gap truncated continued).Sound := by
  unfold Device.closePart
  split
  · exact h
  · split
    · exact Device.post_sound (Device.modPart_sound h fun _ => rfl)
    · exact Device.modPart_sound h fun _ => rfl

@[simp] theorem Device.closeRef_sound {d : Device} {r : Option PartRef} {gap truncated : Bool} (sound : d.Sound) :
    (Device.closeRef d r gap truncated).Sound := by
  unfold Device.closeRef; (repeat' split) <;> simp (maxDischargeDepth := 12) [*]

@[simp] theorem Device.setBad_sound {d : Device} {id : Nat} (h : d.Sound) : (d.setBad id).Sound := by
  unfold Device.setBad
  split
  · exact h
  · split
    · exact h
    · exact Device.post_sound (Device.raise_sound (Device.modPart_sound h fun _ => rfl))

@[simp] theorem Device.setVerified_sound {d : Device} {id : Nat} (h : d.Sound) : (d.setVerified id).Sound := by
  unfold Device.setVerified
  split
  · exact h
  · split
    · exact Device.post_sound (Device.modPart_sound h fun _ => rfl)
    · exact h

@[simp] theorem Device.markSuspect_sound {d : Device} {id : Nat} (h : d.Sound) : (d.markSuspect id).Sound := by
  unfold Device.markSuspect
  split
  · exact h
  · split
    · exact Device.post_sound (Device.raise_sound (Device.modPart_sound h fun _ => rfl))
    · exact h

@[simp] theorem Device.pinRestore_sound {d : Device} {id : Nat} (h : d.Sound) : (d.pinRestore id).Sound :=
  Device.modPart_sound h fun _ => rfl

@[simp] theorem Device.unpinRestore_sound {d : Device} {id : Nat} (h : d.Sound) : (d.unpinRestore id).Sound :=
  Device.modPart_sound h fun _ => rfl

@[simp] theorem Device.pinVerify_sound {d : Device} {id : Nat} (h : d.Sound) : (d.pinVerify id).Sound :=
  Device.modPart_sound h fun _ => rfl

@[simp] theorem Device.unpinVerify_sound {d : Device} {id : Nat} (h : d.Sound) : (d.unpinVerify id).Sound :=
  Device.modPart_sound h fun _ => rfl

@[simp] theorem Device.signals_sound {d after : Device} {c : CartId} (h : after.Sound) :
    (Device.signals d after c).Sound := Device.postAll_sound h

@[simp] theorem Device.writeCart_sound {d : Device} {c : CartId} {e : Option Cart} (h : d.Sound) :
    (d.writeCart c e).Sound := by
  unfold Device.writeCart
  extract_lets old a b e'
  split
  · exact h
  · have hb : b.Sound := by unfold b; split <;> first | exact h | exact Device.post_sound h
    refine Device.signals_sound ?_
    unfold e'
    split
    · split
      · exact Device.post_sound hb
      · exact hb
    · exact hb

@[simp] theorem Device.editCart_sound {d : Device} {c : CartId} {g : Cart → Cart} (sound : d.Sound) :
    (Device.editCart d c g).Sound := by
  unfold Device.editCart; (repeat' split) <;> simp (maxDischargeDepth := 12) [*]

@[simp] theorem Device.markFull_sound {d : Device} {c : CartId} {ends : Bool} (sound : d.Sound) :
    (Device.markFull d c ends).Sound := by simp (maxDischargeDepth := 12) [Device.markFull, *]

@[simp] theorem Device.markMismatch_sound {d : Device} {c : CartId} {r : Reason} {ends : Bool} (sound : d.Sound) :
    (Device.markMismatch d c r ends).Sound := by simp (maxDischargeDepth := 12) [Device.markMismatch, *]

@[simp] theorem Device.markFinalized_sound {d : Device} {c : CartId} {ends : Bool} (sound : d.Sound) :
    (Device.markFinalized d c ends).Sound := by simp (maxDischargeDepth := 12) [Device.markFinalized, *]

@[simp] theorem Device.setContent_sound {d : Device} {e : ElemId} {v : Content} (sound : d.Sound) :
    (Device.setContent d e v).Sound := by
  unfold Device.setContent; (repeat' split) <;> simp (maxDischargeDepth := 12) [*]

@[simp] theorem Device.loseCart_sound {d : Device} {c : CartId} (sound : d.Sound) :
    (Device.loseCart d c).Sound := by simp (maxDischargeDepth := 12) [Device.loseCart, *]

@[simp] theorem Device.cartOutside_sound {d : Device} {c : CartId} (sound : d.Sound) :
    (Device.cartOutside d c).Sound := by simp (maxDischargeDepth := 12) [Device.cartOutside, *]

@[simp] theorem Device.loseDisplaced_sound {d : Device} {e : ElemId} (sound : d.Sound) :
    (Device.loseDisplaced d e).Sound := by
  unfold Device.loseDisplaced; (repeat' split) <;> simp (maxDischargeDepth := 12) [*]

@[simp] theorem Device.forgetFormer_sound {d : Device} {c : CartId} (sound : d.Sound) :
    (Device.forgetFormer d c).Sound := sound

@[simp] theorem Device.settleIn_sound {d : Device} {e : ElemId} {c : CartId} (sound : d.Sound) :
    (Device.settleIn d e c).Sound := by simp (maxDischargeDepth := 12) [Device.settleIn, *]

@[simp] theorem Device.scanEmpty_sound {d : Device} {e : ElemId} (sound : d.Sound) :
    (Device.scanEmpty d e).Sound := by
  unfold Device.scanEmpty; dsimp only; (repeat' split) <;> simp (maxDischargeDepth := 12) [*]

@[simp] theorem Device.scanBarcode_sound {d : Device} {e : ElemId} {x : Bytes} (sound : d.Sound) :
    (Device.scanBarcode d e x).1.Sound := by
  unfold Device.scanBarcode; dsimp only; (repeat' split) <;> simp (maxDischargeDepth := 12) [*]

@[simp] theorem Device.scan_sound {d : Device} {e : ElemId} {r : ScanResult} (sound : d.Sound) :
    (Device.scan d e r).1.Sound := by
  unfold Device.scan; (repeat' split) <;> simp (maxDischargeDepth := 12) [*]

@[simp] theorem Device.scanUnreadable_sound {d : Device} {e : ElemId} (sound : d.Sound) :
    (Device.scanUnreadable d e).Sound := by
  unfold Device.scanUnreadable; (repeat' split) <;> simp (maxDischargeDepth := 12) [*]

@[simp] theorem Device.loseElem_sound {d : Device} {e : ElemId} (sound : d.Sound) :
    (Device.loseElem d e).Sound := by
  unfold Device.loseElem; (repeat' split) <;> simp (maxDischargeDepth := 12) [*]

@[simp] theorem Device.evict_sound {d : Device} {e : ElemId} (sound : d.Sound) :
    (Device.evict d e).Sound := by
  unfold Device.evict; (repeat' split) <;> simp (maxDischargeDepth := 12) [*]

@[simp] theorem Device.vacate_sound {d : Device} {c : CartId} (sound : d.Sound) :
    (Device.vacate d c).Sound := by
  unfold Device.vacate; (repeat' split) <;> simp (maxDischargeDepth := 12) [*]

@[simp] theorem Device.relocate_sound {d : Device} {a b : ElemId} {l : Load} {m : Bool} (h : d.Sound) :
    (d.relocate a b l m).Sound := by
  unfold Device.relocate
  split
  · extract_lets d1 d2
    have h2 : d2.Sound :=
      Device.setContent_sound (Device.evict_sound (Device.evict_sound (Device.vacate_sound h)))
    split
    · exact Device.setContent_sound h2
    · exact Device.editCart_sound (Device.setContent_sound h2)
  · exact Device.setContent_sound (Device.setContent_sound (Device.evict_sound h))

@[simp] theorem Device.pickerHold_sound {d : Device} {a : ElemId} {load : Load} (sound : d.Sound) :
    (Device.pickerHold d a load).Sound := by
  unfold Device.pickerHold; (repeat' split) <;> simp (maxDischargeDepth := 12) [*]

@[simp] theorem Device.takeDestination_sound {d : Device} {load : Load} {e : ElemId} (sound : d.Sound) :
    (Device.takeDestination d load e).Sound := by
  unfold Device.takeDestination; (repeat' split) <;> simp (maxDischargeDepth := 12) [*]

@[simp] theorem Device.postFeed_sound {d : Device} {f : Option FeedId} {t : FeedId → Task} (h : d.Sound) :
    (d.postFeed f t).Sound := by
  unfold Device.postFeed; split
  · exact Device.post_sound h
  · exact h

theorem Stream.dropUnconsumed_length (s : Stream) : s.dropUnconsumed.slots.length ≤ s.slots.length := by
  have take : ∀ (l : List Slot) n, (takeSlots n l).length ≤ l.length := by
    intro l
    induction l with
    | nil => simp (maxDischargeDepth := 12) [takeSlots]
    | cons x xs ih => intro n; unfold takeSlots; split <;> [simp; (split <;> simp (maxDischargeDepth := 12) [ih])]
  simp only [Stream.dropUnconsumed]
  split
  · exact take _ _
  · simp

theorem clearCut_length (l : List Slot) : (clearCut l).length = l.length := by
  induction l with
  | nil => rfl
  | cons x xs ih => unfold clearCut; split <;> simp (maxDischargeDepth := 12) [ih]

theorem Stream.cut_length (s : Stream) (k : CutCase) : (s.cut k).slots.length = s.slots.length := by
  cases k <;> simp (maxDischargeDepth := 12) [Stream.cut, Stream.cutRecord, clearCut_length]

theorem Stream.cut_sound {s : Stream} (h : s.Sound) (k : CutCase) : (s.cut k).Sound where
  taking := by rw [Stream.cut_length]; cases k <;> exact h.taking
  ending := by cases k <;> exact h.ending
  occupied := by rw [Stream.cut_length]; exact h.occupied
  overruns := by cases k <;> exact h.overruns
  nextSeq := by cases k <;> exact Nat.min_le_left _ _

theorem Stream.atLimit_sound {s : Stream} (h : s.Sound) : s.atLimit.Sound where
  taking := fun ht => nomatch ht
  ending := fun _ => rfl
  occupied := Nat.le_trans s.dropUnconsumed_length h.occupied
  overruns := h.overruns
  nextSeq := h.nextSeq

@[simp] theorem Device.cutDecision_sound {d : Device} {c : StreamId} (h : d.Sound) : (d.cutDecision c).Sound := by
  unfold Device.cutDecision
  extract_lets s
  split
  · exact h
  · split
    · exact h
    · rename_i k _
      extract_lets cut d' d''
      have hcut : cut.Sound := Stream.cut_sound (Device.stream_sound h c) k
      split
      · refine Device.postFeed_sound (Device.post_sound ?_)
        have hd : d'.Sound := Device.modStream_sound h (Stream.atLimit_sound hcut)
        unfold d''
        split
        · exact Device.raise_sound hd
        · exact hd
      · exact Device.post_sound (Device.modStream_sound h hcut)

theorem freeSlots_length (n : Nat) (l : List Slot) : (freeSlots n l).1.length ≤ l.length := by
  induction l generalizing n with
  | nil => simp (maxDischargeDepth := 12) [freeSlots]
  | cons x xs ih => unfold freeSlots; split <;> simp; exact Nat.le_succ_of_le (ih _)

theorem Stream.finish_freed (s : Stream) : s.finish.1.slots.length + s.finish.2 = s.slots.length := by
  have := freeSlots_length (s.byteOffset + s.offeredLen) s.slots
  simp only [Stream.finish]; omega

@[simp] theorem Device.finishRecord_sound {d : Device} {c : StreamId} (h : d.Sound) : (d.finishRecord c).Sound := by
  have hs := Device.stream_sound h c
  have hf := Stream.finish_freed (d.stream c)
  have hstate : (d.stream c).finish.1.state = (d.stream c).state := rfl
  have hcred : (d.stream c).finish.1.credits = (d.stream c).credits := rfl
  have hover : (d.stream c).finish.1.overruns = (d.stream c).overruns := rfl
  have hseq : (d.stream c).finish.1.nextSeq = (d.stream c).nextSeq := rfl
  have same : (d.stream c).finish.1.state.takes = false ∨ (d.stream c).finish.2 = 0 →
      (d.stream c).finish.1.Sound := fun ho =>
    { taking := fun ht => by
        rcases ho with ho | ho
        · rw [ho] at ht; cases ht
        · have := hs.taking (by simpa [hstate] using ht)
          omega
      ending := hs.ending
      occupied := by have := hs.occupied; omega
      overruns := hs.overruns
      nextSeq := hs.nextSeq }
  unfold Device.finishRecord
  generalize hg : (d.stream c).finish = q at *
  obtain ⟨s, freed⟩ := q
  simp only at *
  split
  · rename_i ht
    refine Device.cutDecision_sound (Device.emit_sound (Device.modStream_sound h ?_))
    exact
      { taking := fun _ => by
          have := hs.taking (hstate ▸ ht.1)
          show s.credits + freed + s.slots.length = _
          omega
        ending := fun he => by
          have : s.state = .ending := he
          rw [this] at ht; exact absurd ht.1 (by decide)
        occupied := by have := hs.occupied; show s.slots.length ≤ _; omega
        overruns := hover ▸ hs.overruns
        nextSeq := hseq ▸ hs.nextSeq }
  · rename_i ht
    have hsound : s.Sound := same (by
      by_cases hz : s.state.takes = true
      · right; rw [not_and] at ht; have := ht hz; omega
      · left; simpa using hz)
    have hd : (d.modStream c fun _ => s).Sound := Device.modStream_sound h hsound
    split
    · exact hd
    · exact Device.cutDecision_sound hd

@[simp] theorem Device.leaveFeed_sound {d : Device} {c : StreamId} (h : d.Sound) : (d.leaveFeed c).Sound := by
  unfold Device.leaveFeed
  split
  · exact h
  · exact Device.post_sound (Device.modFeed_sound h fun _ hx => hx)

theorem Stream.closedUp_sound {s : Stream} (h : s.Sound) : s.closedUp.Sound where
  taking := fun ht => nomatch ht
  ending := fun he => nomatch he
  occupied := h.occupied
  overruns := h.overruns
  nextSeq := h.nextSeq

@[simp] theorem Device.closeIfDone_sound {d : Device} {c : StreamId} (h : d.Sound) : (d.closeIfDone c).Sound := by
  unfold Device.closeIfDone
  extract_lets s
  split
  · have h' : ((d.closeRef s.part s.gap false).leaveFeed c).Sound := by simp (maxDischargeDepth := 12) [h]
    exact Device.modStream_sound h' (Stream.closedUp_sound (Device.stream_sound h' c))
  · exact h

@[simp] theorem Device.handOver_sound {d : Device} {c : StreamId} {f : FeedId} {s after : Stream} (sound : d.Sound) :
    (Device.handOver d c f s after).Sound := by
  unfold Device.handOver; (repeat' split) <;> simp (maxDischargeDepth := 12) [*]

theorem Stream.abandon_sound {s : Stream} (h : s.Sound) : s.abandon.closedUp.Sound := by
  have key : ∀ s : Stream, s.Sound → s.dropUnconsumed.closedUp.Sound := fun s h =>
    { taking := fun ht => nomatch ht
      ending := fun he => nomatch he
      occupied := Nat.le_trans s.dropUnconsumed_length h.occupied
      overruns := h.overruns
      nextSeq := h.nextSeq }
  unfold Stream.abandon
  extract_lets u s'
  refine key s' ?_
  unfold s'
  split
  · exact { h with }
  · exact h

@[simp] theorem Device.abort_sound {d : Device} {c : StreamId} (h : d.Sound) : (d.abort c).Sound := by
  unfold Device.abort
  extract_lets s after d' d''
  have hd : d'.Sound := by unfold d'; split <;> simp (maxDischargeDepth := 12) [h]
  exact Device.modStream_sound (Device.leaveFeed_sound (c := c) hd) (g := fun _ => after.closedUp)
    (Stream.abandon_sound (Device.stream_sound h c))

@[simp] theorem Device.takeRecord_sound {d : Device} {c : StreamId} {f : FeedId} {o : Offered} (h : d.Sound) :
    (d.takeRecord c f o).Sound :=
  Device.modStream_sound (g := fun s => { s with offered := some { o with taken := true } }) h (Device.stream_sound h c)

@[simp] theorem Device.ceSearch_sound {d : Device} (sound : d.Sound) :
    (Device.ceSearch d).Sound := by
  unfold Device.ceSearch; (repeat' split) <;> simp (maxDischargeDepth := 12) [*]

@[simp] theorem Device.compress_sound {d : Device} (sound : d.Sound) :
    (Device.compress d).Sound := by
  unfold Device.compress; (repeat' split) <;> simp (maxDischargeDepth := 12) [*]

@[simp] theorem Device.issue_sound {d : Device} {i : DriveId} {cmd : DriveCmd} (sound : d.Sound) :
    (Device.issue d i cmd).Sound := sound

@[simp] theorem Device.setPhase_sound {d : Device} {i : DriveId} {p : Phase} (sound : d.Sound) :
    (Device.setPhase d i p).Sound := sound

@[simp] theorem Device.setDrive_sound {d : Device} {i : DriveId} {s : DriveState} {p : Phase} (sound : d.Sound) :
    (Device.setDrive d i s p).Sound := sound

@[simp] theorem Device.takeEntry_sound {d : Device} (sound : d.Sound) :
    (Device.takeEntry d).Sound := sound

@[simp] theorem Device.modMove_sound {d : Device} {id : Nat} {g : Move → Move} (sound : d.Sound) :
    (Device.modMove d id g).Sound := sound

@[simp] theorem Device.enterMove_sound {d : Device} {src : ElemId} {dst : Option ElemId} {load : Load} {cls : Option Nat} {requester : Requester} {ready : Bool} (sound : d.Sound) :
    (Device.enterMove d src dst load cls requester ready).Sound := by
  unfold Device.enterMove; (repeat' split) <;> simp (maxDischargeDepth := 12) [*]

@[simp] theorem Device.clearMarks_sound {d : Device} {id : Nat} (sound : d.Sound) :
    (Device.clearMarks d id).Sound := sound

@[simp] theorem Device.dropMove_sound {d : Device} {id : Nat} (sound : d.Sound) :
    (Device.dropMove d id).Sound := sound

theorem Device.requestMove_sound {d d' : Device} {i : DriveId} {c : CartId} {b : ElemId} {cls : Nat} (sound : d.Sound)
    (h : d.requestMove i c b cls = some d') : d'.Sound := by
  unfold Device.requestMove at h
  cases hs : d.moveSource c b <;> simp [hs] at h
  rw [← h]; simp (maxDischargeDepth := 12) [sound]

@[simp] theorem Device.withdrawMoves_sound {d : Device} {i : DriveId} (sound : d.Sound) :
    (Device.withdrawMoves d i).Sound := by
  unfold Device.withdrawMoves
  refine Device.sound_foldl (fun d a h => ?_) _ (by simp (maxDischargeDepth := 12) [*])
  (repeat' split) <;> simp (maxDischargeDepth := 12) [*]

@[simp] theorem Device.modClaim_sound {d : Device} {order : Nat} {g : Claim → Claim} (sound : d.Sound) :
    (Device.modClaim d order g).Sound := sound

@[simp] theorem Device.removeClaim_sound {d : Device} {order : Nat} (sound : d.Sound) :
    (Device.removeClaim d order).Sound := sound

@[simp] theorem Device.postTarget_sound {d : Device} {t : Target} (h : d.Sound) : (d.postTarget t).Sound := by
  cases t <;> simp (maxDischargeDepth := 12) [Device.postTarget, h]

@[simp] theorem Device.placeClaim_sound {d : Device} {kind : ClaimKind} {owner : Owner} {target : Target} {preferred : Option DriveId} (sound : d.Sound) :
    (Device.placeClaim d kind owner target preferred).Sound := by simp (maxDischargeDepth := 12) [Device.placeClaim, *]

@[simp] theorem Device.returnClaim_sound {d : Device} {i : DriveId} (sound : d.Sound) :
    (Device.returnClaim d i).Sound := by
  unfold Device.returnClaim; dsimp only; (repeat' split) <;> simp (maxDischargeDepth := 12) [*]

@[simp] theorem Device.clearClaim_sound {d : Device} {i : DriveId} (sound : d.Sound) :
    (Device.clearClaim d i).Sound := by
  unfold Device.clearClaim; (repeat' split) <;> simp (maxDischargeDepth := 12) [*]

@[simp] theorem Device.cancelSuspension_sound {d : Device} {order : Nat} (sound : d.Sound) :
    (Device.cancelSuspension d order).Sound := by
  unfold Device.cancelSuspension
  refine Device.sound_foldl (fun d a h => ?_) _ (by simp (maxDischargeDepth := 12) [*])
  (repeat' split) <;> simp (maxDischargeDepth := 12) [*]

@[simp] theorem Device.withdrawClaim_sound {d : Device} {order : Nat} (sound : d.Sound) :
    (Device.withdrawClaim d order).Sound := by
  unfold Device.withdrawClaim; dsimp only; (repeat' split) <;> simp (maxDischargeDepth := 12) [*]

@[simp] theorem Device.withdrawOf_sound {d : Device} {o : Owner} (sound : d.Sound) :
    (Device.withdrawOf d o).Sound := by
  unfold Device.withdrawOf; (repeat' split) <;> simp (maxDischargeDepth := 12) [*]

theorem StreamState.stall_takes (s : StreamState) : s.stall.takes = s.takes := by cases s <;> rfl
theorem StreamState.stall_ending (s : StreamState) : s.stall = .ending ↔ s = .ending := by
  cases s <;> simp (maxDischargeDepth := 12) [StreamState.stall]
theorem StreamState.recover_takes (s : StreamState) : s.recover.takes = s.takes := by cases s <;> rfl
theorem StreamState.recover_ending (s : StreamState) : s.recover = .ending ↔ s = .ending := by
  cases s <;> simp (maxDischargeDepth := 12) [StreamState.recover]

theorem Stream.state_sound (s : Stream) {g : StreamState} (h : s.Sound) (ht : g.takes = s.state.takes)
    (he : g = .ending ↔ s.state = .ending) : ({ s with state := g } : Stream).Sound where
  taking := fun hg => h.taking (ht ▸ hg)
  ending := fun hg => h.ending (he.mp hg)
  occupied := h.occupied
  overruns := h.overruns
  nextSeq := h.nextSeq

@[simp] theorem Device.declareStall_sound {d : Device} {os : List Opening} (h : d.Sound) :
    (d.declare os StreamState.stall).Sound :=
  Device.sound_foldl (fun d a h => Device.modStream_sound h
    (Stream.state_sound (d.stream a.chan) (Device.stream_sound h a.chan) (StreamState.stall_takes _)
      (StreamState.stall_ending (d.stream a.chan).state))) os h

@[simp] theorem Device.declareRecover_sound {d : Device} {os : List Opening} (h : d.Sound) :
    (d.declare os StreamState.recover).Sound :=
  Device.sound_foldl (fun d a h => Device.modStream_sound h
    (Stream.state_sound (d.stream a.chan) (Device.stream_sound h a.chan) (StreamState.recover_takes _)
      (StreamState.recover_ending (d.stream a.chan).state))) os h

@[simp] theorem Device.setStall_sound {d : Device} {f : FeedId} {g : Stall → Stall} (h : d.Sound) :
    (d.setStall f g).Sound := by
  unfold Device.setStall
  split
  · exact h
  · rename_i x hx
    extract_lets stall d'
    have hs := Device.feed_sound h hx
    have hd : d'.Sound := Device.setFeedSome_sound h hs
    split
    · exact Device.declareStall_sound hd
    · split
      · exact Device.post_sound (Device.declareRecover_sound hd)
      · exact hd

@[simp] theorem Device.join_sound {d : Device} {c : StreamId} {f : FeedId} (h : d.Sound) : (d.join c f).Sound := by
  unfold Device.join
  split
  · exact h
  · rename_i x hx
    extract_lets d' d''
    have hs := Device.feed_sound h hx
    have hd : d'.Sound := Device.setFeedSome_sound h hs
    refine Device.post_sound (?_ : d''.Sound)
    refine Device.modStream_sound hd ?_
    have hs := Device.stream_sound hd c
    refine Stream.state_sound { d'.stream c with feed := some f } hs ?_ ?_
    · show (if _ then _ else _ : StreamState).takes = (d'.stream c).state.takes
      split
      · rename_i hw; rw [hw]; split <;> rfl
      · rfl
    · show (if _ then _ else _ : StreamState) = .ending ↔ (d'.stream c).state = .ending
      split
      · rename_i hw; rw [hw]; split <;> simp
      · exact Iff.rfl

@[simp] theorem Device.bindOne_sound {d : Device} {c : StreamId} (sound : d.Sound) : (d.bindOne c).Sound := by
  unfold Device.bindOne
  extract_lets p
  split
  · exact Device.join_sound sound
  · split
    · refine Device.placeClaim_sound (Device.join_sound (Device.setFeedSome_sound sound ?_))
      exact { step := ⟨Nat.le_refl 1, Nat.le_of_ble_eq_true rfl⟩, upCount := Nat.zero_le _, estimate := Nat.zero_le _,
              periodCount := Nat.zero_le _, stops := Nat.zero_le _ }
    · exact sound

@[simp] theorem Device.bindAll_sound {d : Device} (sound : d.Sound) :
    (Device.bindAll d).Sound := by
  unfold Device.bindAll
  refine Device.sound_foldl (fun d a h => ?_) _ (by simp (maxDischargeDepth := 12) [*])
  (repeat' split) <;> simp (maxDischargeDepth := 12) [*]

@[simp] theorem Device.closePending_sound {d : Device} {f : FeedId} (sound : d.Sound) :
    (Device.closePending d f).Sound := by
  unfold Device.closePending
  split <;> [exact sound; have hs := Device.feed_sound sound ‹_›]
  (repeat' split) <;> simp (maxDischargeDepth := 12) [*]

@[simp] theorem Device.closeWaiting_sound {d : Device} {f : FeedId} (sound : d.Sound) :
    (Device.closeWaiting d f).Sound := by
  unfold Device.closeWaiting; (repeat' split) <;> simp (maxDischargeDepth := 12) [*]

@[simp] theorem Device.closeDrained_sound {d : Device} {f : FeedId} (sound : d.Sound) :
    (Device.closeDrained d f).Sound := by
  unfold Device.closeDrained; (repeat' split) <;> simp (maxDischargeDepth := 12) [*]

@[simp] theorem Device.issueSpeed_sound {d : Device} {f : FeedId} (sound : d.Sound) :
    (Device.issueSpeed d f).Sound := by
  unfold Device.issueSpeed
  split <;> [exact sound; have hs := Device.feed_sound sound ‹_›]
  (repeat' split) <;> simp (maxDischargeDepth := 12) [*]

@[simp] theorem Device.spanTrigger_sound {d : Device} {f : FeedId} {full : Bool} (sound : d.Sound) :
    (d.spanTrigger f full).Sound := by
  unfold Device.spanTrigger
  split
  · exact sound
  · rename_i x hx
    have hs := Device.feed_sound sound hx
    split
    · exact Device.setFeedSome_sound sound hs
    · exact Device.post_sound (Device.closePending_sound (Device.setStall_sound (Device.setFeedSome_sound sound hs)))

@[simp] theorem Device.closeAtDeparture_sound {d : Device} {c : CartId} {r : Option PartRef} {truncated : Bool} (sound : d.Sound) :
    (Device.closeAtDeparture d c r truncated).Sound := by
  unfold Device.closeAtDeparture; (repeat' split) <;> simp (maxDischargeDepth := 12) [*]

@[simp] theorem Device.closeParts_sound {d : Device} {x : Feed} {c : CartId} (sound : d.Sound) :
    (d.closeParts x c).Sound :=
  Device.sound_foldl (fun _ _ h => Device.closeAtDeparture_sound h) _
    (Device.sound_foldl (fun _ _ h => Device.closeAtDeparture_sound h) _ sound)

@[simp] theorem Device.dropReservations_sound {d : Device} {f : FeedId} (sound : d.Sound) :
    (Device.dropReservations d f).Sound := by
  unfold Device.dropReservations
  split <;> [exact sound; have hs := Device.feed_sound sound ‹_›]
  (repeat' split) <;> simp (maxDischargeDepth := 12) [*]

@[simp] theorem Device.releaseDrive_sound {d : Device} {i : DriveId} (sound : d.Sound) :
    (Device.releaseDrive d i).Sound := by simp (maxDischargeDepth := 12) [Device.releaseDrive, *]

@[simp] theorem Device.signalRelease_sound {d : Device} {c : CartId} (sound : d.Sound) :
    (Device.signalRelease d c).Sound := by simp (maxDischargeDepth := 12) [Device.signalRelease, *]

@[simp] theorem Device.removeFeed_sound {d : Device} {f : FeedId} (sound : d.Sound) :
    (Device.removeFeed d f).Sound := by simp (maxDischargeDepth := 12) [Device.removeFeed, *]

@[simp] theorem Device.depart_sound {d : Device} {f : FeedId} {x : Feed} (sound : d.Sound) :
    (Device.depart d f x).Sound := by
  unfold Device.depart; (repeat' split) <;> simp (maxDischargeDepth := 12) [*]

@[simp] theorem Device.retire_sound {d : Device} {f : FeedId} {x : Feed} (sound : d.Sound) :
    (Device.retire d f x).Sound := by
  unfold Device.retire; (repeat' split) <;> simp (maxDischargeDepth := 12) [*]

@[simp] theorem Device.postReady_sound {d : Device} {x : Feed} (sound : d.Sound) :
    (Device.postReady d x).Sound := by
  unfold Device.postReady; (repeat' split) <;> simp (maxDischargeDepth := 12) [*]

@[simp] theorem Device.feedProgress_sound {d : Device} {f : FeedId} (sound : d.Sound) :
    (Device.feedProgress d f).Sound := by
  unfold Device.feedProgress; (repeat' split) <;> simp (maxDischargeDepth := 12) [*]

@[simp] theorem Device.memberLeft_sound {d : Device} {f : FeedId} (sound : d.Sound) : (d.memberLeft f).Sound := by
  unfold Device.memberLeft
  extract_lets d1
  have h1 : d1.Sound := by
    unfold d1
    split
    · exact sound
    · rename_i x hx
      have hs := Device.feed_sound sound hx
      split
      · exact Device.setFeedSome_sound sound hs
      · exact sound
  exact Device.post_sound (Device.post_sound (Device.post_sound h1))

theorem Device.askReservations_sound {d : Device} {f : FeedId} {x : Feed} {c : CartId} {b : Block} (sound : d.Sound)
    (hx : d.feed f = some x) : (d.askReservations f x c b).1.Sound := by
  have hs := Device.feed_sound sound hx
  unfold Device.askReservations
  extract_lets os
  split
  · exact sound
  · split
    · exact Device.setFeedSome_sound (Device.reserve_sound sound) hs
    · exact Device.raise_sound (Device.setStall_sound sound)

@[simp] theorem Device.roomAgain_sound {d : Device} {m n : Nat} (sound : d.Sound) :
    (Device.roomAgain d m n).Sound := by
  unfold Device.roomAgain; (repeat' split) <;> simp (maxDischargeDepth := 12) [*]

@[simp] theorem Device.dispatchHead_sound {d : Device} {f : FeedId} {i : DriveId} {e : Cart} (sound : d.Sound) :
    (Device.dispatchHead d f i e).Sound := by
  unfold Device.dispatchHead
  split <;> [exact sound; have hs := Device.feed_sound sound ‹_›]
  split
  · exact sound
  · exact Device.roomAgain_sound (Device.issue_sound (Device.setFeedSome_sound sound hs))

@[simp] theorem Device.dispatchLoop_sound {f : FeedId} {fuel : Nat} {d : Device} (sound : d.Sound) :
    (Device.dispatchLoop f fuel d).Sound := by
  induction fuel generalizing d with
  | zero => exact sound
  | succ n ih =>
    unfold Device.dispatchLoop
    split
    · exact sound
    · rename_i x hx
      split
      · split
        · exact sound
        · split
          · exact Device.spanTrigger_sound sound
          · split
            · exact sound
            · extract_lets asked
              have ha : asked.1.Sound := Device.askReservations_sound sound hx
              split
              · exact ih (Device.dispatchHead_sound ha)
              · exact ha
      · exact sound

@[simp] theorem Device.feedDecide_sound {d : Device} {f : FeedId} (sound : d.Sound) : (d.feedDecide f).Sound := by
  unfold Device.feedDecide
  extract_lets d1 d2
  have h1 : d1.Sound := Device.closeWaiting_sound (Device.closeDrained_sound sound)
  have h2 : d2.Sound := by
    unfold d2
    split
    · exact h1
    · rename_i x hx
      have hs := Device.feed_sound h1 hx
      dsimp only
      (repeat' split) <;> simp (maxDischargeDepth := 12) [h1, hs]
  exact Device.feedProgress_sound (Device.closeWaiting_sound h2)

@[simp] theorem Device.askAgain_sound {d : Device} {f : FeedId} (sound : d.Sound) : (d.askAgain f).Sound := by
  unfold Device.askAgain
  split
  · exact sound
  · rename_i x hx
    split
    · exact sound
    · split
      · extract_lets asked
        have ha : asked.1.Sound := Device.askReservations_sound sound hx
        split
        · exact Device.feedDecide_sound (Device.setStall_sound ha)
        · exact ha
      · exact sound

@[simp] theorem Device.closeNow_sound {d : Device} {f : FeedId} (sound : d.Sound) : (d.closeNow f).Sound := by
  unfold Device.closeNow
  split
  · exact sound
  · rename_i x hx
    exact Device.feedDecide_sound (Device.post_sound (Device.setFeedSome_sound sound
      (Feed.close_sound (Device.feed_sound sound hx))))

@[simp] theorem Device.closeBefore_sound {d : Device} {f : FeedId} (sound : d.Sound) : (d.closeBefore f).Sound := by
  unfold Device.closeBefore; (repeat' split) <;> simp (maxDischargeDepth := 12) [*]

@[simp] theorem Device.placed_sound {d : Device} {r : CeRecord} {h : Hold} (sound : d.Sound) :
    (Device.placed d r h).Sound := by
  unfold Device.placed; dsimp only; (repeat' split) <;> simp (maxDischargeDepth := 12) [*]

@[simp] theorem Device.placeHeld_sound {d : Device} {r : CeRecord} {h : Hold} {k : PlaceCase} (sound : d.Sound) :
    (d.placeHeld r h k).Sound := by
  unfold Device.placeHeld
  cases k <;>
    exact Device.placed_sound (Device.modFeed_sound (by simp (maxDischargeDepth := 12) [*])
      fun x hx => Feed.place_sound hx)

@[simp] theorem Device.offerHeld_sound {d : Device} (sound : d.Sound) : d.offerHeld.Sound := by
  unfold Device.offerHeld
  split
  · rename_i r _ _ _
    extract_lets d1
    have h1 : d1.Sound := Device.closeBefore_sound sound
    split
    · exact h1
    · rename_i x hx
      have hs := Device.feed_sound h1 hx
      split
      · exact Device.placeHeld_sound h1
      · exact Device.setFeedSome_sound h1 hs
  · exact sound

@[simp] theorem Device.setRef_sound {d : Device} {f : FeedId} {o : Opening} {r : PartRef} (sound : d.Sound) :
    (Device.setRef d f o r).Sound := by
  unfold Device.setRef
  split <;> [exact sound; have hs := Device.feed_sound sound ‹_›]
  (repeat' split) <;> simp (maxDischargeDepth := 12) [*]

theorem Device.spendReservation_sound {d d' : Device} {f : FeedId} {x : Feed} {o : Opening} (sound : d.Sound)
    (hx : x.Sound) (h : d.spendReservation f x o = some d') : d'.Sound := by
  unfold Device.spendReservation at h
  split at h
  · cases h; exact Device.consumeReservation_sound (Device.setFeedSome_sound sound hx)
  · split at h <;> cases h; exact sound

@[simp] theorem Device.mapRecord_sound {d : Device} {f : FeedId} {c : CartId} {block : Nat} {r : Record}
    (sound : d.Sound) : (d.mapRecord f c block r).Sound := by
  unfold Device.mapRecord
  split
  · exact sound
  · rename_i x hx
    have hs := Device.feed_sound sound hx
    extract_lets ref
    split
    · exact Device.modPart_sound sound fun _ => rfl
    · split
      · exact sound
      · exact Device.setRef_sound (Device.createPart_sound (Device.spendReservation_sound sound hs ‹_›))

@[simp] theorem Device.countOff_sound {d : Device} {f : FeedId} {r : Record} (sound : d.Sound) :
    (Device.countOff d f r).Sound := by
  unfold Device.countOff; (repeat' split) <;> simp (maxDischargeDepth := 12) [*]

@[simp] theorem Device.confirm_sound {d : Device} {f : FeedId} {c : CartId} {b : Flight} (sound : d.Sound) :
    (Device.confirm d f c b).Sound := by
  unfold Device.confirm
  extract_lets d1 d2
  have h1 : d1.Sound := by simp (maxDischargeDepth := 12) [d1, *]
  split
  · exact Device.sound_foldl (fun d r h => Device.countOff_sound (Device.mapRecord_sound h)) _
      (Device.editCart_sound h1)
  · exact h1

@[simp] theorem Device.underrun_sound {d : Device} {f : FeedId} (sound : d.Sound) : (d.underrun f).Sound := by
  unfold Device.underrun
  split
  · exact sound
  · rename_i x hx
    have hs := Device.feed_sound sound hx
    split
    · exact Device.setFeedSome_sound sound { hs with upCount := Nat.zero_le _, stops := Nat.min_le_left _ _ }
    · exact sound

@[simp] theorem Device.feedWrite_sound {d : Device} {f : FeedId} {r : DriveResult} (sound : d.Sound) :
    (d.feedWrite f r).Sound := by
  unfold Device.feedWrite
  split
  · exact sound
  · rename_i x hx
    have hs := Device.feed_sound sound hx
    split
    · exact Device.post_sound (Device.setFeedSome_sound sound hs)
    · split
      · split
        · refine Device.post_sound ?_
          split <;> simp (maxDischargeDepth := 12) [sound]
        · exact Device.post_sound (Device.spanTrigger_sound (Device.setFeedSome_sound sound hs))
      · exact sound

@[simp] theorem Device.feedSpeed_sound {d : Device} {f : FeedId} (sound : d.Sound) :
    (Device.feedSpeed d f).Sound := by simp (maxDischargeDepth := 12) [Device.feedSpeed, *]

@[simp] theorem Device.feedServed_sound {d : Device} {f : FeedId} {i : DriveId} {c : CartId} (sound : d.Sound) :
    (Device.feedServed d f i c).Sound := by simp (maxDischargeDepth := 12) [Device.feedServed, *]

@[simp] theorem Device.feedNoMedia_sound {d : Device} {f : FeedId} (sound : d.Sound) :
    (Device.feedNoMedia d f).Sound := by
  unfold Device.feedNoMedia; dsimp only; (repeat' split) <;> simp (maxDischargeDepth := 12) [*]

@[simp] theorem Device.feedSuspend_sound {d : Device} {f : FeedId} (sound : d.Sound) :
    (Device.feedSuspend d f).Sound := by simp (maxDischargeDepth := 12) [Device.feedSuspend, *]

@[simp] theorem Device.feedUnsuspend_sound {d : Device} {f : FeedId} (sound : d.Sound) :
    (Device.feedUnsuspend d f).Sound := by simp (maxDischargeDepth := 12) [Device.feedUnsuspend, *]

@[simp] theorem Device.feedPushed_sound {d : Device} {f : FeedId} (sound : d.Sound) :
    (Device.feedPushed d f).Sound := by simp (maxDischargeDepth := 12) [Device.feedPushed, *]

@[simp] theorem Device.feedResumed_sound {d : Device} {f : FeedId} (sound : d.Sound) :
    (Device.feedResumed d f).Sound := by simp (maxDischargeDepth := 12) [Device.feedResumed, *]

@[simp] theorem Device.feedResumeFailed_sound {d : Device} {f : FeedId} (sound : d.Sound) :
    (Device.feedResumeFailed d f).Sound := by simp (maxDischargeDepth := 12) [Device.feedResumeFailed, *]

@[simp] theorem Device.feedUnbind_sound {d : Device} {f : FeedId} (sound : d.Sound) : (d.feedUnbind f).Sound := by
  unfold Device.feedUnbind
  split
  · exact sound
  · rename_i x hx
    have hs := Device.feed_sound sound hx
    extract_lets _ d1 d2 d3 d4 d5 d6
    have h1 : d1.Sound := Device.setFeedSome_sound sound hs
    have h2 : d2.Sound := by unfold d2; split <;> simp (maxDischargeDepth := 12) [h1]
    clear_value d2
    simp (maxDischargeDepth := 12) [d6, d5, d4, d3, h2]

@[simp] theorem Device.giveOrder_sound {d : Device} {p : PickerState} {k : OrderKind} (sound : d.Sound) :
    (Device.giveOrder d p k).Sound := sound

@[simp] theorem Device.freePicker_sound {d : Device} (sound : d.Sound) :
    (Device.freePicker d).Sound := by simp (maxDischargeDepth := 12) [Device.freePicker, *]

@[simp] theorem Device.faultPicker_sound {d : Device} {elems : List ElemId} {arg : ElemId} (sound : d.Sound) :
    (Device.faultPicker d elems arg).Sound := by simp (maxDischargeDepth := 12) [Device.faultPicker, *]

@[simp] theorem Device.ensurePlacement_sound {d : Device} (sound : d.Sound) :
    (Device.ensurePlacement d).Sound := by
  unfold Device.ensurePlacement; (repeat' split) <;> simp (maxDischargeDepth := 12) [*]

theorem Device.aimPlacement_sound {d d' : Device} {m : Move} (sound : d.Sound) (h : d.aimPlacement m = some d') :
    d'.Sound := by
  unfold Device.aimPlacement at h
  split at h
  · cases hs : d.destination m.load <;> simp [hs] at h
    rw [← h]; simp (maxDischargeDepth := 12) [sound]
  · cases h; exact sound

@[simp] theorem Device.endMove_sound {d : Device} {m : Move} {r : MoveResult} (sound : d.Sound) :
    (Device.endMove d m r).Sound := by
  unfold Device.endMove; (repeat' split) <;> simp (maxDischargeDepth := 12) [*]

@[simp] theorem Device.loseMail_sound {d : Device} {m : Move} (sound : d.Sound) : (d.loseMail m).Sound := by
  unfold Device.loseMail
  split
  · exact Device.sound_foldl (fun d e h => by split <;> simp [h]) _ sound
  · exact sound

@[simp] theorem Device.startMove_sound {d : Device} {m : Move} (sound : d.Sound) :
    (Device.startMove d m).1.Sound := by
  unfold Device.startMove; (repeat' split) <;> simp (maxDischargeDepth := 12) [*]

@[simp] theorem Device.requeueMove_sound {d : Device} {m : Move} {e : ElemId} (sound : d.Sound) :
    (Device.requeueMove d m e).Sound := sound

@[simp] theorem Device.resolveMove_sound {d : Device} {m : Move} (sound : d.Sound) :
    (Device.resolveMove d m).Sound := by
  unfold Device.resolveMove; (repeat' split) <;> simp (maxDischargeDepth := 12) [*]

@[simp] theorem Device.resolveInterrupted_sound {d : Device} {id : Nat} (sound : d.Sound) :
    (d.resolveInterrupted id).Sound := by
  unfold Device.resolveInterrupted; (repeat' split) <;> simp (maxDischargeDepth := 12) [*]

@[simp] theorem Device.resetResolve_sound {d : Device} {r : ResetSeq} (sound : d.Sound) :
    (Device.resetResolve d r).Sound := by
  have h := Device.sound_foldl (g := Device.resolveInterrupted) (fun _ _ h => Device.resolveInterrupted_sound h) r.interrupted sound
  unfold Device.resetResolve; simp (maxDischargeDepth := 12) [h]

@[simp] theorem Device.resetScan_sound {d : Device} {r : ResetSeq} {todo : List ElemId} (sound : d.Sound) :
    (Device.resetScan d r todo).Sound := by
  unfold Device.resetScan; (repeat' split) <;> simp (maxDischargeDepth := 12) [*]

@[simp] theorem Device.runPlacement_sound {d : Device} {r : ResetSeq} (sound : d.Sound) :
    (d.runPlacement r).Sound := by
  unfold Device.runPlacement
  extract_lets d1 _ d2
  have h2 : d2.Sound := Device.ensurePlacement_sound sound
  split
  · exact Device.resetScan_sound h2
  · split
    · exact Device.resetScan_sound h2
    · rename_i aimed ha
      have hm := Device.aimPlacement_sound h2 ha
      split
      · exact Device.resetScan_sound h2
      · extract_lets begun
        have hb : begun.1.Sound := Device.startMove_sound hm
        split
        · exact hb
        · exact Device.resetScan_sound (Device.ensurePlacement_sound hb)

@[simp] theorem Device.takeUpPlacement_sound {d : Device} {r : ResetSeq} (sound : d.Sound) :
    (d.takeUpPlacement r).1.Sound := by
  unfold Device.takeUpPlacement; (repeat' split) <;> simp (maxDischargeDepth := 12) [*]

@[simp] theorem Device.resetPlace_sound {d : Device} {r : ResetSeq} (sound : d.Sound) : (d.resetPlace r).Sound :=
  Device.runPlacement_sound (Device.takeUpPlacement_sound sound)

@[simp] theorem Device.changerReset_sound {d : Device} (sound : d.Sound) :
    (Device.changerReset d).Sound := by simp (maxDischargeDepth := 12) [Device.changerReset, *]

@[simp] theorem Device.afterMove_sound {d : Device} (sound : d.Sound) :
    (Device.afterMove d).Sound := by
  unfold Device.afterMove; (repeat' split) <;> simp (maxDischargeDepth := 12) [*]

@[simp] theorem Device.failMove_sound {d : Device} {m : Move} {c : MoveCause} (sound : d.Sound) :
    (Device.failMove d m c).Sound := by simp (maxDischargeDepth := 12) [Device.failMove, *]

@[simp] theorem Device.gripFault_sound {d : Device} {m : Move} (sound : d.Sound) :
    (Device.gripFault d m).Sound := by simp (maxDischargeDepth := 12) [Device.gripFault, *]

@[simp] theorem Device.holdInPicker_sound {d : Device} {m : Move} (sound : d.Sound) :
    (Device.holdInPicker d m).Sound := by simp (maxDischargeDepth := 12) [Device.holdInPicker, *]

@[simp] theorem Device.gripFailure_sound {d : Device} {m : Move} {b : ElemId} {atSource : Bool} (sound : d.Sound) :
    (Device.gripFailure d m b atSource).Sound := by
  unfold Device.gripFailure; (repeat' split) <;> simp (maxDischargeDepth := 12) [*]

@[simp] theorem Device.transferEnd_sound {d : Device} {m : Move} {b : ElemId} {r : TransferResult} (sound : d.Sound) :
    (Device.transferEnd d m b r).Sound := by
  unfold Device.transferEnd; (repeat' split) <;> simp (maxDischargeDepth := 12) [*]

@[simp] theorem Device.advanceInventory_sound {d : Device} {v : Inventory} (sound : d.Sound) :
    (Device.advanceInventory d v).Sound := by
  unfold Device.advanceInventory; (repeat' split) <;> simp (maxDischargeDepth := 12) [*]

@[simp] theorem Device.inventoryStep_sound {d : Device} {v : Inventory} (sound : d.Sound) :
    (Device.inventoryStep d v).Sound := by
  unfold Device.inventoryStep; (repeat' split) <;> simp (maxDischargeDepth := 12) [*]

@[simp] theorem Device.inventoryScanned_sound {d : Device} {e : ElemId} {r : ScanResult} {stale : Bool} (sound : d.Sound) :
    (Device.inventoryScanned d e r stale).Sound := by
  unfold Device.inventoryScanned; (repeat' split) <;> simp (maxDischargeDepth := 12) [*]

@[simp] theorem Device.mailScanned_sound {d : Device} {e : ElemId} {r : ScanResult} {stale : Bool} (sound : d.Sound) :
    (Device.mailScanned d e r stale).Sound := by
  unfold Device.mailScanned; dsimp only; (repeat' split) <;> simp (maxDischargeDepth := 12) [*]

@[simp] theorem Device.scanEnd_sound {d : Device} {e : ElemId} {purpose : ScanFor} {stale : Bool} {r : ScanResult} (sound : d.Sound) :
    (Device.scanEnd d e purpose stale r).Sound := by
  unfold Device.scanEnd; dsimp only; (repeat' split) <;> simp (maxDischargeDepth := 12) [*]

@[simp] theorem Device.rehomeEnd_sound {d : Device} {r : ScanResult} (sound : d.Sound) :
    (Device.rehomeEnd d r).Sound := by
  unfold Device.rehomeEnd; dsimp only; (repeat' split) <;> simp (maxDischargeDepth := 12) [*]

@[simp] theorem Device.pickerChoose_sound {d : Device} (sound : d.Sound) : d.pickerChoose.Sound := by
  unfold Device.pickerChoose
  split
  · split
    · exact sound
    · rename_i m _
      lift_lets; intro aimed
      have ha : ∀ e, aimed = some e → e.Sound := by
        intro e h
        by_cases hm : m.places = true
        · exact Device.aimPlacement_sound sound (by simpa [aimed, hm] using h)
        · have : d = e := by simpa [aimed, hm] using h
          exact this ▸ sound
      clear_value aimed
      split
      · exact sound
      · have he := ha _ rfl
        split
        · exact he
        · lift_lets; intro b; split <;> simp (maxDischargeDepth := 12) [b, he]
    · exact Device.inventoryStep_sound sound
    · split <;> simp (maxDischargeDepth := 12) [sound]
  · exact sound

@[simp] theorem Device.orderTimedOut_sound {d : Device} {k : OrderKind} (sound : d.Sound) :
    (Device.orderTimedOut d k).Sound := by
  unfold Device.orderTimedOut; (repeat' split) <;> simp (maxDischargeDepth := 12) [*]

@[simp] theorem Device.loseMailSlots_sound {d : Device} (sound : d.Sound) :
    (Device.loseMailSlots d).Sound := by
  unfold Device.loseMailSlots
  refine Device.sound_foldl (fun d a h => ?_) _ (by simp (maxDischargeDepth := 12) [*])
  (repeat' split) <;> simp (maxDischargeDepth := 12) [*]

@[simp] theorem Device.staleScan_sound {d : Device} (sound : d.Sound) :
    (Device.staleScan d).Sound := by
  unfold Device.staleScan; (repeat' split) <;> simp (maxDischargeDepth := 12) [*]

@[simp] theorem Device.doorOpens_sound {d : Device} (sound : d.Sound) :
    (Device.doorOpens d).Sound := by simp (maxDischargeDepth := 12) [Device.doorOpens, *]

@[simp] theorem Device.doorCloses_sound {d : Device} (sound : d.Sound) :
    (Device.doorCloses d).Sound := by simp (maxDischargeDepth := 12) [Device.doorCloses, *]

@[simp] theorem Device.reportNone_sound {d : Device} {k : Claim} (sound : d.Sound) :
    (Device.reportNone d k).Sound := by
  unfold Device.reportNone; (repeat' split) <;> simp (maxDischargeDepth := 12) [*]

@[simp] theorem Device.weigh_sound {i : DriveId} {ks : List Claim} {d : Device} (sound : d.Sound) :
    (Device.weigh i ks d).1.Sound := by
  induction ks generalizing d with
  | nil => exact sound
  | cons k ks ih =>
    unfold Device.weigh
    (repeat' split) <;> simp (maxDischargeDepth := 12) [ih, sound]

@[simp] theorem Device.startUnload_sound {d : Device} {i : DriveId} {p : Phase} (sound : d.Sound) :
    (Device.startUnload d i p).Sound := sound

@[simp] theorem Device.startUnmount_sound {d : Device} {i : DriveId} (sound : d.Sound) :
    (Device.startUnmount d i).Sound := sound

@[simp] theorem Device.toIdle_sound {d : Device} {i : DriveId} (sound : d.Sound) :
    (Device.toIdle d i).Sound := by simp (maxDischargeDepth := 12) [Device.toIdle, *]

@[simp] theorem Device.idleOrUnmount_sound {d : Device} {i : DriveId} (sound : d.Sound) :
    (Device.idleOrUnmount d i).Sound := by
  unfold Device.idleOrUnmount; dsimp only; (repeat' split) <;> simp (maxDischargeDepth := 12) [*]

@[simp] theorem Device.handOverDrive_sound {d : Device} {i : DriveId} {w : Work} (sound : d.Sound) :
    (Device.handOverDrive d i w).Sound := by simp (maxDischargeDepth := 12) [Device.handOverDrive, *]

@[simp] theorem Device.finalizeEnd_sound {d : Device} {c : CartId} {r : FinalizeResult} (sound : d.Sound) :
    (Device.finalizeEnd d c r).Sound := by simp (maxDischargeDepth := 12) [Device.finalizeEnd, *]

@[simp] theorem Device.finalizeDone_sound {d : Device} {c : CartId} {n : Nat} (sound : d.Sound) :
    (Device.finalizeDone d c n).Sound := by simp (maxDischargeDepth := 12) [Device.finalizeDone, *]

@[simp] theorem Device.finalWrite_sound {d : Device} {i : DriveId} {c : CartId} {e : Cart} (sound : d.Sound) :
    (Device.finalWrite d i c e).Sound := by
  unfold Device.finalWrite; (repeat' split) <;> simp (maxDischargeDepth := 12) [*]

@[simp] theorem Device.mountFailed_sound {d : Device} {i : DriveId} (sound : d.Sound) :
    (Device.mountFailed d i).Sound := by
  unfold Device.mountFailed; (repeat' split) <;> simp (maxDischargeDepth := 12) [*]

@[simp] theorem Device.checkNotReady_sound {d : Device} {i : DriveId} (sound : d.Sound) :
    (Device.checkNotReady d i).Sound := by
  unfold Device.checkNotReady; (repeat' split) <;> simp (maxDischargeDepth := 12) [*]

@[simp] theorem Device.checkFailed_sound {d : Device} {i : DriveId} {r : FinalizeResult} (sound : d.Sound) :
    (Device.checkFailed d i r).Sound := by
  unfold Device.checkFailed; (repeat' split) <;> simp (maxDischargeDepth := 12) [*]

@[simp] theorem Device.eodMismatch_sound {d : Device} {c : CartId} {ends : Bool} (sound : d.Sound) :
    (Device.eodMismatch d c ends).Sound := by simp (maxDischargeDepth := 12) [Device.eodMismatch, *]

@[simp] theorem Device.appendMismatch_sound {d : Device} {i : DriveId} {c : CartId} (sound : d.Sound) :
    (Device.appendMismatch d i c).Sound := by simp (maxDischargeDepth := 12) [Device.appendMismatch, *]

@[simp] theorem Device.appendGood_sound {d : Device} {i : DriveId} {c : CartId} {e : Cart} (sound : d.Sound) :
    (Device.appendGood d i c e).Sound := by
  unfold Device.appendGood; dsimp only; (repeat' split) <;> simp (maxDischargeDepth := 12) [*]

@[simp] theorem Device.appendRead_sound {d : Device} {i : DriveId} {c : CartId} (sound : d.Sound) :
    (Device.appendRead d i c).Sound := by
  unfold Device.appendRead; dsimp only; (repeat' split) <;> simp (maxDischargeDepth := 12) [*]

@[simp] theorem Device.beginAppend_sound {d : Device} {i : DriveId} (sound : d.Sound) :
    (Device.beginAppend d i).Sound := by
  unfold Device.beginAppend; (repeat' split) <;> simp (maxDischargeDepth := 12) [*]

@[simp] theorem Device.writeLabel_sound {d : Device} {i : DriveId} {c : CartId} {job : LabelJob} (sound : d.Sound) :
    (Device.writeLabel d i c job).Sound := by
  unfold Device.writeLabel; (repeat' split) <;> simp (maxDischargeDepth := 12) [*]

@[simp] theorem Device.beginLabelling_sound {d : Device} {i : DriveId} {c : CartId} {e : Cart} {p : PoolId} (sound : d.Sound) :
    (Device.beginLabelling d i c e p).Sound := by
  unfold Device.beginLabelling; (repeat' split) <;> simp (maxDischargeDepth := 12) [*]

@[simp] theorem Device.labelFailed_sound {d : Device} {i : DriveId} {c : CartId} (sound : d.Sound) :
    (Device.labelFailed d i c).Sound := by simp (maxDischargeDepth := 12) [Device.labelFailed, *]

@[simp] theorem Device.labelled_sound {d : Device} {i : DriveId} {c : CartId} {job : LabelJob} (sound : d.Sound) :
    (Device.labelled d i c job).Sound := by
  unfold Device.labelled; dsimp only; (repeat' split) <;> simp (maxDischargeDepth := 12) [*]

@[simp] theorem Device.beginLabel_sound {d : Device} {i : DriveId} (sound : d.Sound) :
    (Device.beginLabel d i).Sound := sound

@[simp] theorem Device.labelGood_sound {d : Device} {i : DriveId} {c : CartId} (sound : d.Sound) :
    (Device.labelGood d i c).Sound := by
  unfold Device.labelGood; (repeat' split) <;> simp (maxDischargeDepth := 12) [*]

@[simp] theorem Device.labelBad_sound {d : Device} {i : DriveId} {c : CartId} (sound : d.Sound) :
    (Device.labelBad d i c).Sound := by
  unfold Device.labelBad; dsimp only; (repeat' split) <;> simp (maxDischargeDepth := 12) [*]

@[simp] theorem Device.labelRead_sound {d : Device} {i : DriveId} {retries : Nat} {r : DriveResult} {block : Bytes} (sound : d.Sound) :
    (Device.labelRead d i retries r block).Sound := by
  unfold Device.labelRead; (repeat' split) <;> simp (maxDischargeDepth := 12) [*]

@[simp] theorem Device.appendReadEnd_sound {d : Device} {i : DriveId} {retries : Nat} {r : DriveResult} {block : Bytes} (sound : d.Sound) :
    (Device.appendReadEnd d i retries r block).Sound := by
  unfold Device.appendReadEnd; dsimp only; (repeat' split) <;> simp (maxDischargeDepth := 12) [*]

@[simp] theorem Device.appendEndFound_sound {d : Device} {i : DriveId} {r : DriveResult} {n : Nat} (sound : d.Sound) :
    (Device.appendEndFound d i r n).Sound := by
  unfold Device.appendEndFound; (repeat' split) <;> simp (maxDischargeDepth := 12) [*]

@[simp] theorem Device.hostReady_sound {d : Device} {m : Nat} (sound : d.Sound) :
    (Device.hostReady d m).Sound := by
  unfold Device.hostReady; (repeat' split) <;> simp (maxDischargeDepth := 12) [*]

@[simp] theorem Device.prepareHost_sound {d : Device} {i : DriveId} (sound : d.Sound) :
    (Device.prepareHost d i).Sound := by
  unfold Device.prepareHost; (repeat' split) <;> simp (maxDischargeDepth := 12) [*]

@[simp] theorem Device.serveHost_sound {d : Device} {i : DriveId} {k : Claim} (sound : d.Sound) :
    (Device.serveHost d i k).Sound := by
  unfold Device.serveHost; dsimp only; (repeat' split) <;> simp (maxDischargeDepth := 12) [*]

@[simp] theorem Device.presentHost_sound {d : Device} {i : DriveId} (sound : d.Sound) :
    (Device.presentHost d i).Sound := by
  unfold Device.presentHost; (repeat' split) <;> simp (maxDischargeDepth := 12) [*]

@[simp] theorem Device.beginMount_sound {d : Device} {i : DriveId} (sound : d.Sound) : (d.beginMount i).Sound := by
  unfold Device.beginMount
  (repeat' split) <;> try simp (maxDischargeDepth := 12) [sound]
  rename_i h
  exact Device.setPhase_sound (Device.requestMove_sound sound h)

@[simp] theorem Device.assign_sound {d : Device} {k : Claim} {c : Choice} (sound : d.Sound) :
    (Device.assign d k c).Sound := by
  unfold Device.assign; dsimp only; (repeat' split) <;> simp (maxDischargeDepth := 12) [*]

@[simp] theorem Device.decideDrive_sound {i : DriveId} {fuel : Nat} {d : Device} (sound : d.Sound) :
    (Device.decideDrive i fuel d).Sound := by
  induction fuel generalizing d with
  | zero => exact sound
  | succ n ih =>
    unfold Device.decideDrive
    split
    · lift_lets; intro cs first
      clear_value first
      cases first with
      | some a => simp (maxDischargeDepth := 12) [sound]
      | none =>
        have hw := Device.weigh_sound (i := i) (ks := cs) sound
        dsimp only
        split <;> rename_i h <;> rw [h] at hw
        · split <;> simp_all
        · exact hw
    · exact sound

@[simp] theorem Device.settleRelease_sound {d : Device} {i : DriveId} (sound : d.Sound) :
    (Device.settleRelease d i).Sound := by
  unfold Device.settleRelease; dsimp only; (repeat' split) <;> simp (maxDischargeDepth := 12) [*]

@[simp] theorem Device.arbitrate_sound {d : Device} (sound : d.Sound) : d.arbitrate.Sound :=
  Device.postAll_sound (Device.sound_foldl (fun _ _ h => Device.settleRelease_sound h) _
    (Device.sound_foldl (fun _ _ h => Device.decideDrive_sound h) _ sound))

@[simp] theorem Device.driveEmptied_sound {d : Device} {i : DriveId} (sound : d.Sound) :
    (Device.driveEmptied d i).Sound := by simp (maxDischargeDepth := 12) [Device.driveEmptied, *]

@[simp] theorem Device.mountDone_sound {d : Device} {i : DriveId} {l : Load} {host : Bool} (sound : d.Sound) :
    (Device.mountDone d i l host).Sound := by
  unfold Device.mountDone; (repeat' split) <;> simp (maxDischargeDepth := 12) [*]

@[simp] theorem Device.askReturn_sound {d : Device} {i : DriveId} (sound : d.Sound) : (d.askReturn i).Sound := by
  unfold Device.askReturn
  dsimp only
  (repeat' split) <;> try simp (maxDischargeDepth := 12) [sound]
  rename_i h
  exact Device.setPhase_sound (Device.requestMove_sound (Device.takeDestination_sound sound) h)

@[simp] theorem Device.askAllReturns_sound {d : Device} (sound : d.Sound) :
    (Device.askAllReturns d).Sound := by
  unfold Device.askAllReturns
  refine Device.sound_foldl (fun d a h => ?_) _ (by simp (maxDischargeDepth := 12) [*])
  (repeat' split) <;> simp (maxDischargeDepth := 12) [*]

@[simp] theorem Device.returnAgain_sound {d : Device} {i : DriveId} {b : Option ElemId} (sound : d.Sound) :
    (d.returnAgain i b).Sound := by
  unfold Device.returnAgain
  dsimp only
  (repeat' split) <;> try simp (maxDischargeDepth := 12) [sound]
  rename_i h
  exact Device.setPhase_sound (Device.requestMove_sound sound h)

@[simp] theorem Device.returnEnded_sound {d : Device} {i : DriveId} {m : Move} {r : MoveResult} (sound : d.Sound) :
    (Device.returnEnded d i m r).Sound := by
  unfold Device.returnEnded; (repeat' split) <;> simp (maxDischargeDepth := 12) [*]

@[simp] theorem Device.checkSuspension_sound {d : Device} {i : DriveId} (sound : d.Sound) :
    (Device.checkSuspension d i).Sound := by
  unfold Device.checkSuspension; dsimp only; (repeat' split) <;> simp (maxDischargeDepth := 12) [*]

@[simp] theorem Device.popContext_sound {d : Device} {i : DriveId} {k : Context} {rest : List Context} (sound : d.Sound) :
    (Device.popContext d i k rest).Sound := by
  unfold Device.popContext; (repeat' split) <;> simp (maxDischargeDepth := 12) [*]

@[simp] theorem Device.workEnded_sound {d : Device} {i : DriveId} (sound : d.Sound) :
    (Device.workEnded d i).Sound := by
  unfold Device.workEnded; dsimp only; (repeat' split) <;> simp (maxDischargeDepth := 12) [*]

@[simp] theorem Device.endWork_sound {d : Device} {i : DriveId} (sound : d.Sound) :
    (Device.endWork d i).Sound := by
  unfold Device.endWork; (repeat' split) <;> simp (maxDischargeDepth := 12) [*]

@[simp] theorem Device.dropContext_sound {d : Device} {w : Work} (sound : d.Sound) :
    (Device.dropContext d w).Sound := by
  unfold Device.dropContext
  refine Device.sound_foldl (fun d a h => ?_) _ (by simp (maxDischargeDepth := 12) [*])
  (repeat' split) <;> simp (maxDischargeDepth := 12) [*]

@[simp] theorem Device.cleanRequested_sound {d : Device} {i : DriveId} (sound : d.Sound) :
    (Device.cleanRequested d i).Sound := by
  unfold Device.cleanRequested; dsimp only; (repeat' split) <;> simp (maxDischargeDepth := 12) [*]

@[simp] theorem Device.beginClean_sound {d : Device} {i : DriveId} (sound : d.Sound) :
    (Device.beginClean d i).Sound := sound

@[simp] theorem Device.cleanEnd_sound {d : Device} {i : DriveId} {r : DriveResult} (sound : d.Sound) :
    (Device.cleanEnd d i r).Sound := by
  unfold Device.cleanEnd; dsimp only; (repeat' split) <;> simp (maxDischargeDepth := 12) [*]

@[simp] theorem Device.present_sound {d : Device} {client : XeClient} {record : TapeRecord} {age : Nat} (sound : d.Sound) :
    (Device.present d client record age).Sound := by simp (maxDischargeDepth := 12) [Device.present, *]

@[simp] theorem Device.withdrawXe_sound {d : Device} {client : XeClient} (sound : d.Sound) :
    (Device.withdrawXe d client).Sound := sound

@[simp] theorem Device.dropXe_sound {d : Device} {client : XeClient} (sound : d.Sound) :
    (Device.dropXe d client).Sound := sound

@[simp] theorem Device.xeChoose_sound {d : Device} (sound : d.Sound) :
    (Device.xeChoose d).Sound := by
  unfold Device.xeChoose; (repeat' split) <;> simp (maxDischargeDepth := 12) [*]

@[simp] theorem Device.claimRestore_sound {d : Device} {e : Restore} {c : CartId} (sound : d.Sound) :
    (Device.claimRestore d e c).Sound := by simp (maxDischargeDepth := 12) [Device.claimRestore, *]

@[simp] theorem Device.promoteOne_sound {d : Device} (sound : d.Sound) :
    (Device.promoteOne d).Sound := by
  unfold Device.promoteOne; (repeat' split) <;> simp (maxDischargeDepth := 12) [*]

@[simp] theorem Device.promote_sound {d : Device} (sound : d.Sound) : d.promote.Sound := by
  have h : ∀ n, (Nat.repeat Device.promoteOne n d).Sound := by
    intro n
    induction n with
    | zero => exact sound
    | succ n ih => exact Device.promoteOne_sound ih
  exact h _

@[simp] theorem Device.endWorkOf_sound {d : Device} {w : Work} (sound : d.Sound) :
    (Device.endWorkOf d w).Sound := by
  unfold Device.endWorkOf; (repeat' split) <;> simp (maxDischargeDepth := 12) [*]

@[simp] theorem Device.freeRestore_sound {d : Device} {r : RestoreId} (sound : d.Sound) :
    (Device.freeRestore d r).Sound := sound

@[simp] theorem Device.leaveRestore_sound {d : Device} {r : RestoreId} {e : Restore} (sound : d.Sound) :
    (Device.leaveRestore d r e).Sound := by simp (maxDischargeDepth := 12) [Device.leaveRestore, *]

@[simp] theorem Device.endRestore_sound {d : Device} {r : RestoreId} {status : EndStatus} (sound : d.Sound) :
    (d.endRestore r status).Sound := by
  unfold Device.endRestore
  split
  · exact sound
  · split
    · exact sound
    · exact Device.post_sound (Device.setGrants_sound
        (Device.emit_sound (Device.endWorkOf_sound (Device.leaveRestore_sound sound))) (Nat.zero_le _))

@[simp] theorem Device.cancelRestores_sound {d : Device} (sound : d.Sound) : d.cancelRestores.Sound :=
  Device.post_sound (Device.sound_foldl
    (fun _ _ h => Device.setGrants_sound (Device.freeRestore_sound h) (Nat.zero_le _)) _
    (Device.sound_foldl (fun _ _ h => Device.endWorkOf_sound h) _
      (Device.sound_foldl (fun _ _ h => Device.leaveRestore_sound h) _ sound)))

@[simp] theorem Device.endRead_sound {d : Device} {r : RestoreId} (sound : d.Sound) :
    (Device.endRead d r).Sound := by
  unfold Device.endRead; (repeat' split) <;> simp (maxDischargeDepth := 12) [*]

@[simp] theorem Device.locateStart_sound {d : Device} {r : RestoreId} {i : DriveId} {n : Nat} (sound : d.Sound) :
    (Device.locateStart d r i n).Sound := sound

@[simp] theorem Device.restoreServed_sound {d : Device} {r : RestoreId} {i : DriveId} (sound : d.Sound) :
    (Device.restoreServed d r i).Sound := by
  unfold Device.restoreServed; (repeat' split) <;> simp (maxDischargeDepth := 12) [*]

@[simp] theorem Device.chainTo_sound {d : Device} {e : Restore} {q : Part} (sound : d.Sound) :
    (Device.chainTo d e q).Sound := by
  unfold Device.chainTo; dsimp only; (repeat' split) <;> simp (maxDischargeDepth := 12) [*]

@[simp] theorem Device.chainStep_sound {d : Device} {e : Restore} {p : Part} (sound : d.Sound) :
    (Device.chainStep d e p).Sound := by
  unfold Device.chainStep; (repeat' split) <;> simp (maxDischargeDepth := 12) [*]

@[simp] theorem Device.partEnd_sound {d : Device} {e : Restore} {p : Part} (sound : d.Sound) :
    (Device.partEnd d e p).Sound := by
  unfold Device.partEnd; dsimp only; (repeat' split) <;> simp (maxDischargeDepth := 12) [*]

@[simp] theorem Device.readOn_sound {d : Device} {i : DriveId} {n : Nat} (sound : d.Sound) :
    (Device.readOn d i n).Sound := by
  unfold Device.readOn; (repeat' split) <;> simp (maxDischargeDepth := 12) [*]

@[simp] theorem Device.nextRead_sound {d : Device} {e : Restore} {p : Part} (sound : d.Sound) :
    (Device.nextRead d e p).Sound := by
  unfold Device.nextRead; dsimp only; (repeat' split) <;> simp (maxDischargeDepth := 12) [*]

@[simp] theorem Device.restoreGoOn_sound {d : Device} {r : RestoreId} (sound : d.Sound) :
    (Device.restoreGoOn d r).Sound := by
  unfold Device.restoreGoOn; (repeat' split) <;> simp (maxDischargeDepth := 12) [*]

@[simp] theorem Device.pushIfReady_sound {d : Device} {i : DriveId} (sound : d.Sound) :
    (Device.pushIfReady d i).Sound := by
  unfold Device.pushIfReady; (repeat' split) <;> simp (maxDischargeDepth := 12) [*]

@[simp] theorem Device.restoreRead_sound {d : Device} {r : RestoreId} {i : DriveId} {res : DriveResult} {block : Bytes} (sound : d.Sound) :
    (Device.restoreRead d r i res block).Sound := by
  unfold Device.restoreRead; dsimp only; (repeat' split) <;> simp (maxDischargeDepth := 12) [*]

theorem Device.emits_sound {d : Device} {fs : List (Nat × Bytes)} {g : Nat × Bytes → OutFrame} (sound : d.Sound) :
    (fs.foldl (fun d f => d.emit (g f)) d).Sound :=
  Device.sound_foldl (fun _ _ h => Device.emit_sound h) _ sound

@[simp] theorem Device.sendFrames_sound {d : Device} {r : RestoreId} (sound : d.Sound) : (d.sendFrames r).Sound := by
  unfold Device.sendFrames
  split
  · exact sound
  · rename_i e _
    extract_lets n d1 d2 rest
    have h1 : d1.Sound := Device.emits_sound sound
    have h2 : d2.Sound := Device.setGrants_sound h1 (Nat.le_trans (Nat.sub_le _ _) (h1.grants r))
    split
    · exact Device.restoreGoOn_sound (Device.modRestore_sound h2)
    · exact Device.modRestore_sound h2

@[simp] theorem Device.restoreResult_sound {d : Device} {r : RestoreId} {res : XeResult} (sound : d.Sound) :
    (Device.restoreResult d r res).Sound := by
  unfold Device.restoreResult; (repeat' split) <;> simp (maxDischargeDepth := 12) [*]

@[simp] theorem Device.resultToRestore_sound {d : Device} {r : RestoreId} {res : XeResult} (sound : d.Sound) :
    (Device.resultToRestore d r res).Sound := by
  unfold Device.resultToRestore; (repeat' split) <;> simp (maxDischargeDepth := 12) [*]

@[simp] theorem Device.restoreResume_sound {d : Device} {r : RestoreId} (sound : d.Sound) :
    (Device.restoreResume d r).Sound := by
  unfold Device.restoreResume; dsimp only; (repeat' split) <;> simp (maxDischargeDepth := 12) [*]

@[simp] theorem Device.restorePushed_sound {d : Device} {r : RestoreId} (sound : d.Sound) :
    (Device.restorePushed d r).Sound := sound

@[simp] theorem Device.modEntry_sound {d : Device} {c : CartId} {g : VerifyEntry → VerifyEntry} (sound : d.Sound) :
    (Device.modEntry d c g).Sound := by
  unfold Device.modEntry; (repeat' split) <;> simp (maxDischargeDepth := 12) [*]

@[simp] theorem Device.insertNew_sound {d : Device} {c : CartId} (sound : d.Sound) :
    (Device.insertNew d c).Sound := by simp (maxDischargeDepth := 12) [Device.insertNew, *]

@[simp] theorem Device.recompute_sound {d : Device} {c : CartId} (sound : d.Sound) :
    (Device.recompute d c).Sound := by simp (maxDischargeDepth := 12) [Device.recompute, *]

@[simp] theorem Device.reclass_sound {d : Device} {c : CartId} {src dst : ClaimKind} (sound : d.Sound) :
    (Device.reclass d c src dst).Sound := by
  unfold Device.reclass; (repeat' split) <;> simp (maxDischargeDepth := 12) [*]

@[simp] theorem Device.overdueTest_sound {d : Device} {c : CartId} (sound : d.Sound) :
    (Device.overdueTest d c).Sound := by
  unfold Device.overdueTest; (repeat' split) <;> simp (maxDischargeDepth := 12) [*]

@[simp] theorem Device.timeChanged_sound {d : Device} {old : Nat} (sound : d.Sound) :
    (Device.timeChanged d old).Sound := by
  unfold Device.timeChanged; dsimp only; (repeat' split) <;> simp (maxDischargeDepth := 12) [*]

@[simp] theorem Device.claimVerify_sound {d : Device} {e : VerifyEntry} {kind : ClaimKind} (sound : d.Sound) :
    (Device.claimVerify d e kind).Sound := by simp (maxDischargeDepth := 12) [Device.claimVerify, *]

@[simp] theorem Device.withdrawVerify_sound {d : Device} {c : CartId} (sound : d.Sound) :
    (Device.withdrawVerify d c).Sound := by simp (maxDischargeDepth := 12) [Device.withdrawVerify, *]

@[simp] theorem Device.scheduleLoop_sound {fuel : Nat} {d : Device} (sound : d.Sound) :
    (Device.scheduleLoop fuel d).Sound := by
  induction fuel generalizing d with
  | zero => exact sound
  | succ n ih =>
    unfold Device.scheduleLoop
    (repeat' split) <;> simp (maxDischargeDepth := 12) [ih, sound]

@[simp] theorem Device.verifySchedule_sound {d : Device} (sound : d.Sound) :
    (Device.verifySchedule d).Sound := by simp (maxDischargeDepth := 12) [Device.verifySchedule, *]

@[simp] theorem Device.entryChanged_sound {d : Device} {c : CartId} (sound : d.Sound) :
    (Device.entryChanged d c).Sound := by simp (maxDischargeDepth := 12) [Device.entryChanged, *]

@[simp] theorem Device.verifyNotify_sound {d : Device} {c : CartId} (sound : d.Sound) :
    (Device.verifyNotify d c).Sound := by
  unfold Device.verifyNotify; (repeat' split) <;> simp (maxDischargeDepth := 12) [*]

@[simp] theorem Device.blockEntry_sound {d : Device} {c : CartId} {r : BlockReason} (sound : d.Sound) :
    (Device.blockEntry d c r).Sound := by simp (maxDischargeDepth := 12) [Device.blockEntry, *]

@[simp] theorem Device.unblock_sound {d : Device} {c : CartId} {r : BlockReason} (sound : d.Sound) :
    (Device.unblock d c r).Sound := by
  unfold Device.unblock; (repeat' split) <;> simp (maxDischargeDepth := 12) [*]

@[simp] theorem Device.settlePart_sound {d : Device} {p : PassPart} (sound : d.Sound) :
    (Device.settlePart d p).Sound := by
  unfold Device.settlePart; (repeat' split) <;> simp (maxDischargeDepth := 12) [*]

@[simp] theorem Device.freePass_sound {d : Device} {p : Pass} (sound : d.Sound) :
    (Device.freePass d p).Sound :=
  Device.post_sound (Device.sound_foldl (fun _ _ h => Device.unpinVerify_sound h) _ sound)

@[simp] theorem Device.entryAfterPass_sound {d : Device} {c : CartId} (sound : d.Sound) :
    (Device.entryAfterPass d c).Sound := by simp (maxDischargeDepth := 12) [Device.entryAfterPass, *]

@[simp] theorem Device.endPass_sound {d : Device} {c : CartId} (sound : d.Sound) : (d.endPass c).Sound := by
  unfold Device.endPass
  split
  · exact sound
  · exact Device.post_sound (Device.endWorkOf_sound (Device.entryAfterPass_sound (Device.freePass_sound
      (Device.sound_foldl (fun _ _ h => Device.settlePart_sound h) _ sound))))

@[simp] theorem Device.abandonPass_sound {d : Device} {c : CartId} {work : Bool} (sound : d.Sound) :
    (Device.abandonPass d c work).Sound := by
  unfold Device.abandonPass; (repeat' split) <;> simp (maxDischargeDepth := 12) [*]

@[simp] theorem Device.passStart_sound {d : Device} {c : CartId} {i : DriveId} (sound : d.Sound) :
    (d.passStart c i).Sound := by
  unfold Device.passStart
  split
  · exact Device.endWorkOf_sound sound
  · extract_lets parts first last d1 p _ d2 d3
    have h1 : d1.Sound := Device.sound_foldl (fun _ _ h => Device.pinVerify_sound h) _ sound
    have h3 : d3.Sound := Device.modEntry_sound (d := d2) h1
    split
    · exact Device.endPass_sound h3
    · simp (maxDischargeDepth := 12) [h3]

@[simp] theorem Device.failPart_sound {d : Device} {c : CartId} {id : Nat} (sound : d.Sound) :
    (Device.failPart d c id).Sound := by simp (maxDischargeDepth := 12) [Device.failPart, *]

@[simp] theorem Device.passRecords_sound {c : CartId} {block order : Nat} {qs : List TapeRecord} {d : Device}
    (sound : d.Sound) : (Device.passRecords c block order qs d).1.Sound := by
  induction qs generalizing d with
  | nil => simp (maxDischargeDepth := 12) [Device.passRecords, sound]
  | cons q qs ih =>
    unfold Device.passRecords
    (repeat' split) <;> simp (maxDischargeDepth := 12) [ih, sound]

@[simp] theorem Device.passNextRead_sound {d : Device} {c : CartId} (sound : d.Sound) :
    (Device.passNextRead d c).Sound := by
  unfold Device.passNextRead; (repeat' split) <;> simp (maxDischargeDepth := 12) [*]

@[simp] theorem Device.passGoOn_sound {d : Device} {c : CartId} (sound : d.Sound) :
    (Device.passGoOn d c).Sound := by
  unfold Device.passGoOn; dsimp only; (repeat' split) <;> simp (maxDischargeDepth := 12) [*]

@[simp] theorem Device.passLost_sound {d : Device} {c : CartId} {n : Nat} (sound : d.Sound) : (d.passLost c n).Sound := by
  unfold Device.passLost
  split
  · exact sound
  · exact Device.sound_foldl (fun _ _ h => Device.failPart_sound h) _ sound

@[simp] theorem Device.passRead_sound {d : Device} {c : CartId} {i : DriveId} {res : DriveResult} {block : Bytes} (sound : d.Sound) :
    (Device.passRead d c i res block).Sound := by
  unfold Device.passRead; dsimp only; (repeat' split) <;> simp (maxDischargeDepth := 12) [*]

@[simp] theorem Device.passResult_sound {d : Device} {c : CartId} {res : XeResult} (sound : d.Sound) :
    (Device.passResult d c res).Sound := by
  unfold Device.passResult; (repeat' split) <;> simp (maxDischargeDepth := 12) [*]

@[simp] theorem Device.resultToPass_sound {d : Device} {c : CartId} {res : XeResult} (sound : d.Sound) :
    (Device.resultToPass d c res).Sound := by
  unfold Device.resultToPass; (repeat' split) <;> simp (maxDischargeDepth := 12) [*]

@[simp] theorem Device.passResume_sound {d : Device} {c : CartId} (sound : d.Sound) :
    (Device.passResume d c).Sound := by
  unfold Device.passResume; dsimp only; (repeat' split) <;> simp (maxDischargeDepth := 12) [*]

@[simp] theorem Device.passPushed_sound {d : Device} {c : CartId} (sound : d.Sound) :
    (Device.passPushed d c).Sound := sound

@[simp] theorem Device.resetMoves_sound {d : Device} {i : DriveId} {rescan : Bool} (sound : d.Sound) :
    (Device.resetMoves d i rescan).Sound := by
  unfold Device.resetMoves
  refine Device.sound_foldl (fun d a h => ?_) _ (by simp (maxDischargeDepth := 12) [*])
  (repeat' split) <;> simp (maxDischargeDepth := 12) [*]

@[simp] theorem Device.unreadyHost_sound {d : Device} {i : DriveId} (sound : d.Sound) :
    (Device.unreadyHost d i).Sound := by
  unfold Device.unreadyHost; (repeat' split) <;> simp (maxDischargeDepth := 12) [*]

@[simp] theorem Device.endContext_sound {d : Device} {w : Work} (sound : d.Sound) :
    (Device.endContext d w).Sound := by
  unfold Device.endContext; (repeat' split) <;> simp (maxDischargeDepth := 12) [*]

@[simp] theorem Device.endContexts_sound {d : Device} {i : DriveId} (sound : d.Sound) : (d.endContexts i).Sound := by
  unfold Device.endContexts
  exact Device.returnClaim_sound (Device.sound_foldl (fun _ _ h => Device.endContext_sound h) _
    (Device.modDrive_sound sound))

@[simp] theorem Device.resetStep3_sound {d : Device} {i : DriveId} (sound : d.Sound) :
    (Device.resetStep3 d i).Sound := by
  unfold Device.resetStep3; (repeat' split) <;> simp (maxDischargeDepth := 12) [*]

@[simp] theorem Device.driveReset_sound {d : Device} {i : DriveId} {rescan : Bool} (sound : d.Sound) :
    (Device.driveReset d i rescan).Sound := by
  unfold Device.driveReset; dsimp only; (repeat' split) <;> simp (maxDischargeDepth := 12) [*]

@[simp] theorem Device.faultFinalize_sound {d : Device} {i : DriveId} (sound : d.Sound) :
    (Device.faultFinalize d i).Sound := by
  unfold Device.faultFinalize; (repeat' split) <;> simp (maxDischargeDepth := 12) [*]

@[simp] theorem Device.driveFault_sound {d : Device} {i : DriveId} {cause : FaultCause} (sound : d.Sound) :
    (Device.driveFault d i cause).Sound := by
  unfold Device.driveFault; dsimp only; (repeat' split) <;> simp (maxDischargeDepth := 12) [*]

theorem Device.completion_sound {d : Device} {i : DriveId} {number : BitVec 16} {name : CmdName} {r : DriveResult}
    {found : Nat} {k : Device → DriveCmd → DriveResult → Device} (sound : d.Sound)
    (hk : ∀ d c r, d.Sound → (k d c r).Sound) : (d.completion i number name r found k).Sound := by
  unfold Device.completion
  split
  · exact sound
  · split
    · lift_lets; intro r' x
      split <;> simp (maxDischargeDepth := 12) [hk, x, sound]
    · exact sound

@[simp] theorem Device.commandTimedOut_sound {d : Device} {i : DriveId} (sound : d.Sound) :
    (Device.commandTimedOut d i).Sound := by
  unfold Device.commandTimedOut; (repeat' split) <;> simp (maxDischargeDepth := 12) [*]

@[simp] theorem Device.cleaningLoaded_sound {d : Device} {i : DriveId} (sound : d.Sound) :
    (d.cleaningLoaded i).Sound := by
  unfold Device.cleaningLoaded; split <;> simp (maxDischargeDepth := 12) [*]

@[simp] theorem Device.loadEnd_sound {d : Device} {i : DriveId} (sound : d.Sound) :
    (Device.loadEnd d i).Sound := by
  unfold Device.loadEnd; dsimp only; (repeat' split) <;> simp (maxDischargeDepth := 12) [*]

@[simp] theorem Device.toPowerMouth_sound {d : Device} {i : DriveId} (sound : d.Sound) :
    (Device.toPowerMouth d i).Sound := by simp (maxDischargeDepth := 12) [Device.toPowerMouth, *]

@[simp] theorem Device.presented_sound {d : Device} {i : DriveId} (sound : d.Sound) :
    (Device.presented d i).Sound := by
  unfold Device.presented; (repeat' split) <;> simp (maxDischargeDepth := 12) [*]

@[simp] theorem Device.unloadEnd_sound {d : Device} {i : DriveId} {r : DriveResult} (sound : d.Sound) :
    (Device.unloadEnd d i r).Sound := by
  unfold Device.unloadEnd; (repeat' split) <;> simp (maxDischargeDepth := 12) [*]

@[simp] theorem Device.startReading_sound {d : Device} {i : DriveId} (sound : d.Sound) :
    (Device.startReading d i).Sound := by
  unfold Device.startReading; (repeat' split) <;> simp (maxDischargeDepth := 12) [*]

@[simp] theorem Device.resumeReading_sound {d : Device} {i : DriveId} (sound : d.Sound) :
    (Device.resumeReading d i).Sound := by
  unfold Device.resumeReading; (repeat' split) <;> simp (maxDischargeDepth := 12) [*]

@[simp] theorem Device.popLost_sound {d : Device} {i : DriveId} (sound : d.Sound) :
    (Device.popLost d i).Sound := by
  unfold Device.popLost; (repeat' split) <;> simp (maxDischargeDepth := 12) [*]

@[simp] theorem Device.popMismatch_sound {d : Device} {i : DriveId} (sound : d.Sound) :
    (Device.popMismatch d i).Sound := by
  unfold Device.popMismatch; (repeat' split) <;> simp (maxDischargeDepth := 12) [*]

@[simp] theorem Device.popGood_sound {d : Device} {i : DriveId} {f : FeedId} {e : Cart} (sound : d.Sound) :
    (Device.popGood d i f e).Sound := by simp (maxDischargeDepth := 12) [Device.popGood, *]

@[simp] theorem Device.popLocated_sound {d : Device} {i : DriveId} {r : DriveResult} (sound : d.Sound) :
    (Device.popLocated d i r).Sound := by
  unfold Device.popLocated; dsimp only; (repeat' split) <;> simp (maxDischargeDepth := 12) [*]

@[simp] theorem Device.locateDone_sound {d : Device} {i : DriveId} {cmd : DriveCmd} {r : DriveResult} (sound : d.Sound) :
    (Device.locateDone d i cmd r).Sound := by
  unfold Device.locateDone; (repeat' split) <;> simp (maxDischargeDepth := 12) [*]

@[simp] theorem Device.popAppendRead_sound {d : Device} {i : DriveId} {retries : Nat} {r : DriveResult} {block : Bytes} (sound : d.Sound) :
    (Device.popAppendRead d i retries r block).Sound := by
  unfold Device.popAppendRead; dsimp only; (repeat' split) <;> simp (maxDischargeDepth := 12) [*]

@[simp] theorem Device.popLabelRead_sound {d : Device} {i : DriveId} {retries : Nat} {r : DriveResult} {block : Bytes} (sound : d.Sound) :
    (Device.popLabelRead d i retries r block).Sound := by
  unfold Device.popLabelRead; dsimp only; (repeat' split) <;> simp (maxDischargeDepth := 12) [*]

@[simp] theorem Device.identified_sound {d : Device} {i : DriveId} {r : DriveResult} {block : Bytes} (sound : d.Sound) :
    (Device.identified d i r block).Sound := sound

@[simp] theorem Device.readDone_sound {d : Device} {i : DriveId} {r : DriveResult} {block : Bytes} (sound : d.Sound) :
    (Device.readDone d i r block).Sound := by
  unfold Device.readDone; (repeat' split) <;> simp (maxDischargeDepth := 12) [*]

@[simp] theorem Device.finalWritten_sound {d : Device} {i : DriveId} {cmd : DriveCmd} {r : DriveResult} (sound : d.Sound) :
    (Device.finalWritten d i cmd r).Sound := by
  unfold Device.finalWritten; (repeat' split) <;> simp (maxDischargeDepth := 12) [*]

@[simp] theorem Device.writeDone_sound {d : Device} {i : DriveId} {cmd : DriveCmd} {r : DriveResult} (sound : d.Sound) :
    (Device.writeDone d i cmd r).Sound := by
  unfold Device.writeDone; (repeat' split) <;> simp (maxDischargeDepth := 12) [*]

@[simp] theorem Device.speedDone_sound {d : Device} {i : DriveId} (sound : d.Sound) :
    (Device.speedDone d i).Sound := by
  unfold Device.speedDone; (repeat' split) <;> simp (maxDischargeDepth := 12) [*]

@[simp] theorem Device.serve_sound {d : Device} {i : DriveId} {w : Work} (sound : d.Sound) :
    (Device.serve d i w).Sound := by
  unfold Device.serve; (repeat' split) <;> simp (maxDischargeDepth := 12) [*]

@[simp] theorem Device.push_sound {d : Device} {i : DriveId} {w : Work} {resume order : Nat} (sound : d.Sound) :
    (Device.push d i w resume order).Sound := by
  unfold Device.push; (repeat' split) <;> simp (maxDischargeDepth := 12) [*]

@[simp] theorem Device.pushWork_sound {d : Device} {i : DriveId} {w : Work} {order : Nat} (sound : d.Sound) :
    (Device.pushWork d i w order).Sound := by
  unfold Device.pushWork; (repeat' split) <;> simp (maxDischargeDepth := 12) [*]

@[simp] theorem Device.resumeCancelled_sound {d : Device} {i : DriveId} (sound : d.Sound) :
    (Device.resumeCancelled d i).Sound := by
  unfold Device.resumeCancelled; (repeat' split) <;> simp (maxDischargeDepth := 12) [*]

@[simp] theorem Device.pushReady_sound {d : Device} {i : DriveId} (sound : d.Sound) :
    (Device.pushReady d i).Sound := by
  unfold Device.pushReady; (repeat' split) <;> simp (maxDischargeDepth := 12) [*]

@[simp] theorem Device.claimFailed_sound {d : Device} {o : Owner} (sound : d.Sound) :
    (Device.claimFailed d o).Sound := by
  unfold Device.claimFailed; (repeat' split) <;> simp (maxDischargeDepth := 12) [*]

@[simp] theorem Device.tellLost_sound {d : Device} {k : Claim} (sound : d.Sound) :
    (Device.tellLost d k).Sound := by
  unfold Device.tellLost; (repeat' split) <;> simp (maxDischargeDepth := 12) [*]

@[simp] theorem Device.finalizeLost_sound {d : Device} {c : CartId} (sound : d.Sound) :
    (Device.finalizeLost d c).Sound := by
  unfold Device.finalizeLost; (repeat' split) <;> simp (maxDischargeDepth := 12) [*]

@[simp] theorem Device.locationChanged_sound {d : Device} {c : CartId} (sound : d.Sound) :
    (d.locationChanged c).Sound := by
  refine Device.post_sound ?_
  split
  · split <;> simp [sound]
  · exact Device.finalizeLost_sound (Device.sound_foldl (fun _ _ h => Device.tellLost_sound h) _ sound)
  · exact sound

@[simp] theorem Device.mediaReturned_sound {d : Device} {p : PoolId} (sound : d.Sound) : (d.mediaReturned p).Sound := by
  unfold Device.mediaReturned
  refine Device.post_sound (Device.sound_foldl (fun d k h => ?_) _ sound)
  extract_lets y
  have hy : y.Sound := h
  split
  · exact Device.setStall_sound hy
  · exact hy

@[simp] theorem Device.takenIn_sound {d : Device} {j : DriveId} {m : Move} {host : Bool} (sound : d.Sound) :
    (Device.takenIn d j m host).Sound := by
  unfold Device.takenIn; (repeat' split) <;> simp (maxDischargeDepth := 12) [*]

@[simp] theorem Device.passedOn_sound {d : Device} {i : DriveId} {m : Move} {r : MoveResult} (sound : d.Sound) :
    (Device.passedOn d i m r).Sound := by
  unfold Device.passedOn; (repeat' split) <;> simp (maxDischargeDepth := 12) [*]

@[simp] theorem Device.driveMoveEnded_sound {d : Device} {i : DriveId} {m : Move} {r : MoveResult} (sound : d.Sound) :
    (Device.driveMoveEnded d i m r).Sound := by
  unfold Device.driveMoveEnded; dsimp only; (repeat' split) <;> simp (maxDischargeDepth := 12) [*]

@[simp] theorem Device.releaseHostClaims_sound {d : Device} {m : Nat} (sound : d.Sound) :
    (Device.releaseHostClaims d m).Sound := by
  unfold Device.releaseHostClaims
  refine Device.sound_foldl (fun d a h => ?_) _ (by simp (maxDischargeDepth := 12) [*])
  (repeat' split) <;> simp (maxDischargeDepth := 12) [*]

@[simp] theorem Device.hostSource_sound {d : Device} {i : DriveId} {m : Move} {r : MoveResult} (sound : d.Sound) :
    (Device.hostSource d i m r).Sound := by
  unfold Device.hostSource; (repeat' split) <;> simp (maxDischargeDepth := 12) [*]

@[simp] theorem Device.hostDestination_sound {d : Device} {i : DriveId} {m : Move} {r : MoveResult} (sound : d.Sound) :
    (Device.hostDestination d i m r).Sound := by
  unfold Device.hostDestination; (repeat' split) <;> simp (maxDischargeDepth := 12) [*]

@[simp] theorem Device.moveEnded_sound {d : Device} {m : Move} {r : MoveResult} (sound : d.Sound) :
    (Device.moveEnded d m r).Sound := by
  unfold Device.moveEnded; (repeat' split) <;> simp (maxDischargeDepth := 12) [*]

@[simp] theorem Device.driveRescan_sound {d : Device} {i : DriveId} (sound : d.Sound) :
    (Device.driveRescan d i).Sound := by
  unfold Device.driveRescan; dsimp only; (repeat' split) <;> simp (maxDischargeDepth := 12) [*]

@[simp] theorem Device.applyFound_sound {d : Device} {i : DriveId} (sound : d.Sound) :
    (Device.applyFound d i).Sound := by
  unfold Device.applyFound; dsimp only; (repeat' split) <;> simp (maxDischargeDepth := 12) [*]

@[simp] theorem Device.inventoryDone_sound {d : Device} (sound : d.Sound) :
    (Device.inventoryDone d).Sound := by
  unfold Device.inventoryDone
  refine Device.sound_foldl (fun d a h => ?_) _ (by simp (maxDischargeDepth := 12) [*])
  (repeat' split) <;> simp (maxDischargeDepth := 12) [*]

@[simp] theorem Device.perform_sound {d : Device} {t : Task} (sound : d.Sound) : (d.perform t).Sound := by
  cases t
  all_goals (try (simp (maxDischargeDepth := 12) [Device.perform, sound]; done))
  exact Device.sound_foldl (fun _ _ h => Device.askAgain_sound h) _ sound

@[simp] theorem Device.settleLoop_sound {fuel : Nat} {d : Device} (sound : d.Sound) : (d.settleLoop fuel).Sound := by
  induction fuel generalizing d with
  | zero => exact sound
  | succ n ih =>
    unfold Device.settleLoop
    split
    · exact sound
    · exact ih (Device.perform_sound sound)

@[simp] theorem Device.settle_sound {d : Device} (sound : d.Sound) :
    (Device.settle d).Sound := by simp (maxDischargeDepth := 12) [Device.settle, *]

@[simp] theorem Device.takeData_sound {d : Device} {c : StreamId} {payload : Bytes} (sound : d.Sound) :
    (d.takeData c payload).Sound := by
  have hs := Device.stream_sound sound c
  unfold Device.takeData
  extract_lets s
  split
  · exact sound
  · rename_i hbad
    have htake : (d.stream c).state.takes = true := by
      cases h : (d.stream c).state.takes <;> simp_all [s]
    split
    · refine Device.raise_sound (Device.modStream_sound sound ?_)
      exact { hs with overruns := Nat.min_le_left _ _ }
    · rename_i hc
      have hpos : 0 < (d.stream c).credits := Nat.pos_of_ne_zero hc
      have hsum := hs.taking htake
      refine Device.cutDecision_sound (Device.modStream_sound sound ?_)
      have hlen : ((d.stream c).store payload).slots.length = (d.stream c).slots.length + 1 := by
        simp [Stream.store]
      exact
        { taking := fun _ => by rw [hlen]; show (d.stream c).credits - 1 + _ = _; omega
          ending := fun he => by
            have he' : (d.stream c).state = .ending := he
            rw [he'] at htake; cases htake
          occupied := by rw [hlen]; omega
          overruns := hs.overruns
          nextSeq := hs.nextSeq }

theorem flagLast_length (l : List Slot) : (flagLast l).length = l.length := by
  induction l with
  | nil => rfl
  | cons x xs ih => cases xs <;> simp_all [flagLast]

theorem Stream.mark_sound {s : Stream} (h : s.Sound) : s.mark.Sound := by
  unfold Stream.mark
  split
  · exact h
  · exact
      { taking := by simpa [flagLast_length] using h.taking
        ending := h.ending
        occupied := by simpa [flagLast_length] using h.occupied
        overruns := h.overruns
        nextSeq := h.nextSeq }

@[simp] theorem Device.takeCut_sound {d : Device} {c : StreamId} (sound : d.Sound) : (d.takeCut c).Sound := by
  unfold Device.takeCut
  split
  · exact Device.cutDecision_sound (Device.modStream_sound sound (Stream.mark_sound (Device.stream_sound sound c)))
  · exact sound

@[simp] theorem Device.takeEnd_sound {d : Device} {c : StreamId} (sound : d.Sound) : (d.takeEnd c).Sound := by
  have hs := Device.stream_sound sound c
  unfold Device.takeEnd
  split
  · refine Device.postFeed_sound (Device.closeIfDone_sound (Device.cutDecision_sound (Device.modStream_sound sound ?_)))
    exact { taking := fun h => (nomatch h), ending := fun _ => rfl, occupied := hs.occupied, overruns := hs.overruns,
            nextSeq := hs.nextSeq }
  · exact sound

@[simp] theorem Device.openStream_sound {d : Device} {tag : Tag} {c : StreamId} {jobTag : Nat} {p : PoolId} {size : Nat}
    {policy : Policy} (sound : d.Sound) : (d.openStream tag c jobTag p size policy).Sound := by
  unfold Device.openStream
  extract_lets d1 d2
  have h1 : d1.Sound := by
    refine Device.modStream_sound sound ?_
    exact { taking := fun _ => rfl, ending := fun h => (nomatch h), occupied := Nat.zero_le _, overruns := Nat.zero_le _,
            nextSeq := Nat.zero_le _ }
  exact Device.post_sound h1

@[simp] theorem Device.poolEffects_sound {d : Device} {p : PoolId} {old new : Pool} (sound : d.Sound) :
    (Device.poolEffects d p old new).Sound := by
  unfold Device.poolEffects; dsimp only; (repeat' split) <;> simp (maxDischargeDepth := 12) [*]

@[simp] theorem Device.loadPool_sound {d : Device} {tag : Tag} {p : PoolId} {a : PoolArgs} (sound : d.Sound) :
    (Device.loadPool d tag p a).Sound := by simp (maxDischargeDepth := 12) [Device.loadPool, *]

@[simp] theorem Device.adoptInDrive_sound {d : Device} {e : ElemId} {c : CartId} (sound : d.Sound) :
    (Device.adoptInDrive d e c).Sound := by
  unfold Device.adoptInDrive; dsimp only; (repeat' split) <;> simp (maxDischargeDepth := 12) [*]

@[simp] theorem Device.createCart_sound {d : Device} {tag : Tag} {c : CartId} {x : Bytes} {a : CartArgs} (sound : d.Sound) :
    (Device.createCart d tag c x a).Sound := by
  unfold Device.createCart; (repeat' split) <;> simp (maxDischargeDepth := 12) [*]

@[simp] theorem Device.editEntry_sound {d : Device} {tag : Tag} {c : CartId} {e : Cart} {a : CartArgs} {read : Bool} (sound : d.Sound) :
    (Device.editEntry d tag c e a read).Sound := by
  unfold Device.editEntry; dsimp only; (repeat' split) <;> simp (maxDischargeDepth := 12) [*]

@[simp] theorem Device.changeEntry_sound {d : Device} {tag : Tag} {index : Nat} {g : Cart → Cart} (sound : d.Sound) :
    (Device.changeEntry d tag index g).Sound := by
  unfold Device.changeEntry; (repeat' split) <;> simp (maxDischargeDepth := 12) [*]

@[simp] theorem Device.removeCart_sound {d : Device} {tag : Tag} {c : CartId} (sound : d.Sound) :
    (Device.removeCart d tag c).Sound := by
  unfold Device.removeCart; (repeat' split) <;> simp (maxDischargeDepth := 12) [*]

@[simp] theorem Device.beginInventory_sound {d : Device} {tag : Tag} {first last : Nat} (sound : d.Sound) :
    (Device.beginInventory d tag first last).Sound := by simp (maxDischargeDepth := 12) [Device.beginInventory, *]

@[simp] theorem Device.claimHost_sound {d : Device} {move : Nat} {e : ElemId} (sound : d.Sound) :
    (Device.claimHost d move e).Sound := by
  unfold Device.claimHost; (repeat' split) <;> simp (maxDischargeDepth := 12) [*]

@[simp] theorem Device.hostMove_sound {d : Device} {tag : Tag} {a b : ElemId} {load : Load} (sound : d.Sound) :
    (Device.hostMove d tag a b load).Sound := by
  unfold Device.hostMove; dsimp only; (repeat' split) <;> simp (maxDischargeDepth := 12) [*]

@[simp] theorem Device.transferDone_sound {d : Device} {n : BitVec 16} {r : TransferResult} (sound : d.Sound) :
    (Device.transferDone d n r).Sound := by
  unfold Device.transferDone; (repeat' split) <;> simp (maxDischargeDepth := 12) [*]

@[simp] theorem Device.scanDone_sound {d : Device} {n : BitVec 16} {r : ScanResult} (sound : d.Sound) :
    (Device.scanDone d n r).Sound := by
  unfold Device.scanDone; (repeat' split) <;> simp (maxDischargeDepth := 12) [*]

@[simp] theorem Device.rehomeDone_sound {d : Device} {n : BitVec 16} {r : ScanResult} (sound : d.Sound) :
    (Device.rehomeDone d n r).Sound := by
  unfold Device.rehomeDone; (repeat' split) <;> simp (maxDischargeDepth := 12) [*]

@[simp] theorem Device.takeGrant_sound {d : Device} {r : RestoreId} {count : Nat} (sound : d.Sound) :
    (d.takeGrant r count).Sound := by
  unfold Device.takeGrant
  extract_lets d1
  have h1 : d1.Sound := Device.setGrants_sound sound (Nat.min_le_left _ _)
  split
  · exact Device.sendFrames_sound h1
  · exact h1

@[simp] theorem Device.acceptRestore_sound {d : Device} {tag : Tag} {r : RestoreId} {priority : Priority} {p : Part} {first count : Option Nat} {follow : Bool} (sound : d.Sound) :
    (Device.acceptRestore d tag r priority p first count follow).Sound := by simp (maxDischargeDepth := 12) [Device.acceptRestore, *]

@[simp] theorem Device.expansionEnd_sound {d : Device} (sound : d.Sound) :
    (Device.expansionEnd d).Sound := by
  unfold Device.expansionEnd; (repeat' split) <;> simp (maxDischargeDepth := 12) [*]

@[simp] theorem Device.verifyNow_sound {d : Device} {tag : Tag} {c : CartId} (sound : d.Sound) :
    (Device.verifyNow d tag c).Sound := by
  unfold Device.verifyNow; (repeat' split) <;> simp (maxDischargeDepth := 12) [*]

theorem Device.loadSegment_sound {d : Device} {tag : Tag} {a : SegmentArgs} {c : CartId} (sound : d.Sound)
    (ha : 1 ≤ a.part ∧ a.part ≤ Config.max32) : (d.loadSegment tag a c).Sound := by
  unfold Device.loadSegment
  extract_lets p d1
  have h1 : d1.Sound := Device.respond_sound (Device.addPart_sound sound ha)
  split
  · exact Device.post_sound h1
  · exact h1

@[simp] theorem Device.forgetPart_sound {d : Device} {id : Nat} (sound : d.Sound) : (d.forgetPart id).Sound :=
  { sound with
    streams := fun c => by simpa [Device.forgetPart, Stream.Sound] using sound.streams c
    feeds := fun f x hx => by
      obtain ⟨y, hy, rfl⟩ : ∃ y, d.feeds[f] = some y ∧ _ = x := by simpa [Device.forgetPart] using hx
      exact sound.feeds f y hy }

@[simp] theorem Device.releaseSegment_sound {d : Device} {tag : Tag} {p : Part} (sound : d.Sound) :
    (Device.releaseSegment d tag p).Sound := by simp (maxDischargeDepth := 12) [Device.releaseSegment, *]

@[simp] theorem Device.periodEnd_sound {d : Device} {f : FeedId} (sound : d.Sound) : (d.periodEnd f).Sound := by
  unfold Device.periodEnd
  split
  · exact sound
  · rename_i x hx
    have hs := Feed.governor_keeps (n := d.mu.params.startLevel) (Device.feed_sound sound hx)
    split
    rename_i y changed hy
    rw [hy] at hs
    have h1 : (d.setFeed f (some y)).Sound := Device.setFeedSome_sound sound hs
    split
    · exact Device.issueSpeed_sound h1
    · exact h1

@[simp] theorem Device.decideWaiting_sound {d : Device} (sound : d.Sound) :
    (Device.decideWaiting d).Sound := by simp (maxDischargeDepth := 12) [Device.decideWaiting, *]

@[simp] theorem Device.closeOld_sound {d : Device} (sound : d.Sound) :
    (Device.closeOld d).Sound := by
  unfold Device.closeOld
  refine Device.sound_foldl (fun d a h => ?_) _ (by simp (maxDischargeDepth := 12) [*])
  (repeat' split) <;> simp (maxDischargeDepth := 12) [*]

@[simp] theorem Device.unmountIdle_sound {d : Device} (sound : d.Sound) :
    (Device.unmountIdle d).Sound := by
  unfold Device.unmountIdle
  refine Device.sound_foldl (fun d a h => ?_) _ (by simp (maxDischargeDepth := 12) [*])
  (repeat' split) <;> simp (maxDischargeDepth := 12) [*]

@[simp] theorem Device.endStalled_sound {d : Device} (sound : d.Sound) :
    (Device.endStalled d).Sound := by
  unfold Device.endStalled
  refine Device.sound_foldl (fun d a h => ?_) _ (by simp (maxDischargeDepth := 12) [*])
  (repeat' split) <;> simp (maxDischargeDepth := 12) [*]

@[simp] theorem Device.paramEffects_sound {d : Device} {p : Param} (sound : d.Sound) : (d.paramEffects p).Sound := by
  cases p <;> simp (maxDischargeDepth := 12) [Device.paramEffects, sound]

@[simp] theorem Device.setParam_sound {d : Device} {tag : Tag} {k : Param} {v : Nat} (sound : d.Sound) :
    (Device.setParam d tag k v).Sound := by
  unfold Device.setParam; dsimp only; (repeat' split) <;> simp (maxDischargeDepth := 12) [*]

@[simp] theorem Device.setTime_sound {d : Device} {tag : Tag} {t : Nat} (sound : d.Sound) :
    (Device.setTime d tag t).Sound := by simp (maxDischargeDepth := 12) [Device.setTime, *]

@[simp] theorem Device.second_sound {d : Device} (sound : d.Sound) :
    (Device.second d).Sound := by simp (maxDischargeDepth := 12) [Device.second, *]

@[simp] theorem Device.poll_sound {d : Device} {tag : Tag} (sound : d.Sound) : (d.poll tag).Sound := by
  unfold Device.poll
  split
  · exact Device.setEvent_sound (v := none) sound fun _ h => nomatch h
  · exact sound

@[simp] theorem Device.removeEmptied_sound {d : Device} (sound : d.Sound) : d.removeEmptied.Sound :=
  Device.sound_foldl (fun d f h => by split; exacts [Device.feedProgress_sound h, h]) _ sound

@[simp] theorem Device.linkReset_sound {d : Device} (sound : d.Sound) : d.linkReset.Sound := by
  unfold Device.linkReset
  extract_lets d1 d2
  have h1 : d1.Sound := Device.sound_foldl (fun d c h => by split; exacts [h, Device.abort_sound h]) _ sound
  have h2 : d2.Sound := Device.cancelRestores_sound (Device.removeEmptied_sound h1)
  clear_value d2
  exact { h2 with grants := fun r => (Vector.getElem_replicate r.isLt).le.trans (Nat.zero_le _) }

@[simp] theorem Device.freeMarked_sound {d : Device} {fs : List OutFrame} (sound : d.Sound) :
    (Device.freeMarked d fs).Sound := by
  unfold Device.freeMarked
  refine Device.sound_foldl (fun d a h => ?_) _ (by simp (maxDischargeDepth := 12) [*])
  (repeat' split) <;> simp (maxDischargeDepth := 12) [*]

@[simp] theorem Device.discardUnsent_sound {d : Device} {stays : OutFrame → Bool} (sound : d.Sound) :
    (Device.discardUnsent d stays).Sound := by simp (maxDischargeDepth := 12) [Device.discardUnsent, *]

@[simp] theorem Device.sendFrame_sound {d : Device} {f : OutFrame} {rest : List OutFrame} (sound : d.Sound) :
    (Device.sendFrame d f rest).Sound := by simp (maxDischargeDepth := 12) [Device.sendFrame, *]

end Sys2Proof.Machine
end

