-- ==== Sys2Proof/Laws/State.lean ====
section
/-!
SUPPORT. What each update of the state leaves: one lemma per update and field it does not touch, true by `rfl`, and what
reading back an update gives. Later proofs cite these and unfold no update.
-/
namespace Sys2Proof.Machine

variable (d : Device)

/-! ### Fields an update leaves -/
@[simp] theorem Device.begun_intake : d.begun.intake = d.intake := rfl
@[simp] theorem Device.begun_ce : d.begun.ce = d.ce := rfl
@[simp] theorem Device.begun_xe : d.begun.xe = d.xe := rfl
@[simp] theorem Device.begun_feeds : d.begun.feeds = d.feeds := rfl
@[simp] theorem Device.begun_map : d.begun.map = d.map := rfl
@[simp] theorem Device.begun_media : d.begun.media = d.media := rfl
@[simp] theorem Device.begun_changer : d.begun.changer = d.changer := rfl
@[simp] theorem Device.begun_drives : d.begun.drives = d.drives := rfl
@[simp] theorem Device.begun_arb : d.begun.arb = d.arb := rfl
@[simp] theorem Device.begun_ru : d.begun.ru = d.ru := rfl
@[simp] theorem Device.begun_vu : d.begun.vu = d.vu := rfl
@[simp] theorem Device.begun_mu : d.begun.mu = d.mu := rfl
@[simp] theorem Device.begun_link : d.begun.link = d.link := rfl
@[simp] theorem Device.begun_agenda : d.begun.agenda = d.agenda := rfl
@[simp] theorem Device.modStream_ce (c : StreamId) (g : Stream → Stream) : (d.modStream c g).ce = d.ce := rfl
@[simp] theorem Device.modStream_xe (c : StreamId) (g : Stream → Stream) : (d.modStream c g).xe = d.xe := rfl
@[simp] theorem Device.modStream_feeds (c : StreamId) (g : Stream → Stream) : (d.modStream c g).feeds = d.feeds := rfl
@[simp] theorem Device.modStream_map (c : StreamId) (g : Stream → Stream) : (d.modStream c g).map = d.map := rfl
@[simp] theorem Device.modStream_media (c : StreamId) (g : Stream → Stream) : (d.modStream c g).media = d.media := rfl
@[simp] theorem Device.modStream_changer (c : StreamId) (g : Stream → Stream) : (d.modStream c g).changer = d.changer := rfl
@[simp] theorem Device.modStream_drives (c : StreamId) (g : Stream → Stream) : (d.modStream c g).drives = d.drives := rfl
@[simp] theorem Device.modStream_arb (c : StreamId) (g : Stream → Stream) : (d.modStream c g).arb = d.arb := rfl
@[simp] theorem Device.modStream_ru (c : StreamId) (g : Stream → Stream) : (d.modStream c g).ru = d.ru := rfl
@[simp] theorem Device.modStream_vu (c : StreamId) (g : Stream → Stream) : (d.modStream c g).vu = d.vu := rfl
@[simp] theorem Device.modStream_mu (c : StreamId) (g : Stream → Stream) : (d.modStream c g).mu = d.mu := rfl
@[simp] theorem Device.modStream_link (c : StreamId) (g : Stream → Stream) : (d.modStream c g).link = d.link := rfl
@[simp] theorem Device.modStream_agenda (c : StreamId) (g : Stream → Stream) : (d.modStream c g).agenda = d.agenda := rfl
@[simp] theorem Device.modStream_moment (c : StreamId) (g : Stream → Stream) : (d.modStream c g).moment = d.moment := rfl
@[simp] theorem Device.setFeed_intake (f : FeedId) (v : Option Feed) : (d.setFeed f v).intake = d.intake := rfl
@[simp] theorem Device.setFeed_ce (f : FeedId) (v : Option Feed) : (d.setFeed f v).ce = d.ce := rfl
@[simp] theorem Device.setFeed_xe (f : FeedId) (v : Option Feed) : (d.setFeed f v).xe = d.xe := rfl
@[simp] theorem Device.setFeed_map (f : FeedId) (v : Option Feed) : (d.setFeed f v).map = d.map := rfl
@[simp] theorem Device.setFeed_media (f : FeedId) (v : Option Feed) : (d.setFeed f v).media = d.media := rfl
@[simp] theorem Device.setFeed_changer (f : FeedId) (v : Option Feed) : (d.setFeed f v).changer = d.changer := rfl
@[simp] theorem Device.setFeed_drives (f : FeedId) (v : Option Feed) : (d.setFeed f v).drives = d.drives := rfl
@[simp] theorem Device.setFeed_arb (f : FeedId) (v : Option Feed) : (d.setFeed f v).arb = d.arb := rfl
@[simp] theorem Device.setFeed_ru (f : FeedId) (v : Option Feed) : (d.setFeed f v).ru = d.ru := rfl
@[simp] theorem Device.setFeed_vu (f : FeedId) (v : Option Feed) : (d.setFeed f v).vu = d.vu := rfl
@[simp] theorem Device.setFeed_mu (f : FeedId) (v : Option Feed) : (d.setFeed f v).mu = d.mu := rfl
@[simp] theorem Device.setFeed_link (f : FeedId) (v : Option Feed) : (d.setFeed f v).link = d.link := rfl
@[simp] theorem Device.setFeed_agenda (f : FeedId) (v : Option Feed) : (d.setFeed f v).agenda = d.agenda := rfl
@[simp] theorem Device.setFeed_moment (f : FeedId) (v : Option Feed) : (d.setFeed f v).moment = d.moment := rfl
@[simp] theorem Device.modFeed_intake (f : FeedId) (g : Feed → Feed) : (d.modFeed f g).intake = d.intake := rfl
@[simp] theorem Device.modFeed_ce (f : FeedId) (g : Feed → Feed) : (d.modFeed f g).ce = d.ce := rfl
@[simp] theorem Device.modFeed_xe (f : FeedId) (g : Feed → Feed) : (d.modFeed f g).xe = d.xe := rfl
@[simp] theorem Device.modFeed_map (f : FeedId) (g : Feed → Feed) : (d.modFeed f g).map = d.map := rfl
@[simp] theorem Device.modFeed_media (f : FeedId) (g : Feed → Feed) : (d.modFeed f g).media = d.media := rfl
@[simp] theorem Device.modFeed_changer (f : FeedId) (g : Feed → Feed) : (d.modFeed f g).changer = d.changer := rfl
@[simp] theorem Device.modFeed_drives (f : FeedId) (g : Feed → Feed) : (d.modFeed f g).drives = d.drives := rfl
@[simp] theorem Device.modFeed_arb (f : FeedId) (g : Feed → Feed) : (d.modFeed f g).arb = d.arb := rfl
@[simp] theorem Device.modFeed_ru (f : FeedId) (g : Feed → Feed) : (d.modFeed f g).ru = d.ru := rfl
@[simp] theorem Device.modFeed_vu (f : FeedId) (g : Feed → Feed) : (d.modFeed f g).vu = d.vu := rfl
@[simp] theorem Device.modFeed_mu (f : FeedId) (g : Feed → Feed) : (d.modFeed f g).mu = d.mu := rfl
@[simp] theorem Device.modFeed_link (f : FeedId) (g : Feed → Feed) : (d.modFeed f g).link = d.link := rfl
@[simp] theorem Device.modFeed_agenda (f : FeedId) (g : Feed → Feed) : (d.modFeed f g).agenda = d.agenda := rfl
@[simp] theorem Device.modFeed_moment (f : FeedId) (g : Feed → Feed) : (d.modFeed f g).moment = d.moment := rfl
@[simp] theorem Device.modDrive_intake (i : DriveId) (g : Drive → Drive) : (d.modDrive i g).intake = d.intake := rfl
@[simp] theorem Device.modDrive_ce (i : DriveId) (g : Drive → Drive) : (d.modDrive i g).ce = d.ce := rfl
@[simp] theorem Device.modDrive_xe (i : DriveId) (g : Drive → Drive) : (d.modDrive i g).xe = d.xe := rfl
@[simp] theorem Device.modDrive_feeds (i : DriveId) (g : Drive → Drive) : (d.modDrive i g).feeds = d.feeds := rfl
@[simp] theorem Device.modDrive_map (i : DriveId) (g : Drive → Drive) : (d.modDrive i g).map = d.map := rfl
@[simp] theorem Device.modDrive_media (i : DriveId) (g : Drive → Drive) : (d.modDrive i g).media = d.media := rfl
@[simp] theorem Device.modDrive_changer (i : DriveId) (g : Drive → Drive) : (d.modDrive i g).changer = d.changer := rfl
@[simp] theorem Device.modDrive_arb (i : DriveId) (g : Drive → Drive) : (d.modDrive i g).arb = d.arb := rfl
@[simp] theorem Device.modDrive_ru (i : DriveId) (g : Drive → Drive) : (d.modDrive i g).ru = d.ru := rfl
@[simp] theorem Device.modDrive_vu (i : DriveId) (g : Drive → Drive) : (d.modDrive i g).vu = d.vu := rfl
@[simp] theorem Device.modDrive_mu (i : DriveId) (g : Drive → Drive) : (d.modDrive i g).mu = d.mu := rfl
@[simp] theorem Device.modDrive_link (i : DriveId) (g : Drive → Drive) : (d.modDrive i g).link = d.link := rfl
@[simp] theorem Device.modDrive_agenda (i : DriveId) (g : Drive → Drive) : (d.modDrive i g).agenda = d.agenda := rfl
@[simp] theorem Device.modDrive_moment (i : DriveId) (g : Drive → Drive) : (d.modDrive i g).moment = d.moment := rfl
@[simp] theorem Device.issue_intake (i : DriveId) (cmd : DriveCmd) : (d.issue i cmd).intake = d.intake := rfl
@[simp] theorem Device.issue_ce (i : DriveId) (cmd : DriveCmd) : (d.issue i cmd).ce = d.ce := rfl
@[simp] theorem Device.issue_xe (i : DriveId) (cmd : DriveCmd) : (d.issue i cmd).xe = d.xe := rfl
@[simp] theorem Device.issue_feeds (i : DriveId) (cmd : DriveCmd) : (d.issue i cmd).feeds = d.feeds := rfl
@[simp] theorem Device.issue_map (i : DriveId) (cmd : DriveCmd) : (d.issue i cmd).map = d.map := rfl
@[simp] theorem Device.issue_media (i : DriveId) (cmd : DriveCmd) : (d.issue i cmd).media = d.media := rfl
@[simp] theorem Device.issue_changer (i : DriveId) (cmd : DriveCmd) : (d.issue i cmd).changer = d.changer := rfl
@[simp] theorem Device.issue_arb (i : DriveId) (cmd : DriveCmd) : (d.issue i cmd).arb = d.arb := rfl
@[simp] theorem Device.issue_ru (i : DriveId) (cmd : DriveCmd) : (d.issue i cmd).ru = d.ru := rfl
@[simp] theorem Device.issue_vu (i : DriveId) (cmd : DriveCmd) : (d.issue i cmd).vu = d.vu := rfl
@[simp] theorem Device.issue_mu (i : DriveId) (cmd : DriveCmd) : (d.issue i cmd).mu = d.mu := rfl
@[simp] theorem Device.issue_link (i : DriveId) (cmd : DriveCmd) : (d.issue i cmd).link = d.link := rfl
@[simp] theorem Device.issue_agenda (i : DriveId) (cmd : DriveCmd) : (d.issue i cmd).agenda = d.agenda := rfl
@[simp] theorem Device.issue_moment (i : DriveId) (cmd : DriveCmd) : (d.issue i cmd).moment = d.moment := rfl
@[simp] theorem Device.setPhase_intake (i : DriveId) (p : Phase) : (d.setPhase i p).intake = d.intake := rfl
@[simp] theorem Device.setPhase_ce (i : DriveId) (p : Phase) : (d.setPhase i p).ce = d.ce := rfl
@[simp] theorem Device.setPhase_xe (i : DriveId) (p : Phase) : (d.setPhase i p).xe = d.xe := rfl
@[simp] theorem Device.setPhase_feeds (i : DriveId) (p : Phase) : (d.setPhase i p).feeds = d.feeds := rfl
@[simp] theorem Device.setPhase_map (i : DriveId) (p : Phase) : (d.setPhase i p).map = d.map := rfl
@[simp] theorem Device.setPhase_media (i : DriveId) (p : Phase) : (d.setPhase i p).media = d.media := rfl
@[simp] theorem Device.setPhase_changer (i : DriveId) (p : Phase) : (d.setPhase i p).changer = d.changer := rfl
@[simp] theorem Device.setPhase_arb (i : DriveId) (p : Phase) : (d.setPhase i p).arb = d.arb := rfl
@[simp] theorem Device.setPhase_ru (i : DriveId) (p : Phase) : (d.setPhase i p).ru = d.ru := rfl
@[simp] theorem Device.setPhase_vu (i : DriveId) (p : Phase) : (d.setPhase i p).vu = d.vu := rfl
@[simp] theorem Device.setPhase_mu (i : DriveId) (p : Phase) : (d.setPhase i p).mu = d.mu := rfl
@[simp] theorem Device.setPhase_link (i : DriveId) (p : Phase) : (d.setPhase i p).link = d.link := rfl
@[simp] theorem Device.setPhase_agenda (i : DriveId) (p : Phase) : (d.setPhase i p).agenda = d.agenda := rfl
@[simp] theorem Device.setPhase_moment (i : DriveId) (p : Phase) : (d.setPhase i p).moment = d.moment := rfl
@[simp] theorem Device.setDrive_intake (i : DriveId) (s : DriveState) (p : Phase) : (d.setDrive i s p).intake = d.intake := rfl
@[simp] theorem Device.setDrive_ce (i : DriveId) (s : DriveState) (p : Phase) : (d.setDrive i s p).ce = d.ce := rfl
@[simp] theorem Device.setDrive_xe (i : DriveId) (s : DriveState) (p : Phase) : (d.setDrive i s p).xe = d.xe := rfl
@[simp] theorem Device.setDrive_feeds (i : DriveId) (s : DriveState) (p : Phase) : (d.setDrive i s p).feeds = d.feeds := rfl
@[simp] theorem Device.setDrive_map (i : DriveId) (s : DriveState) (p : Phase) : (d.setDrive i s p).map = d.map := rfl
@[simp] theorem Device.setDrive_media (i : DriveId) (s : DriveState) (p : Phase) : (d.setDrive i s p).media = d.media := rfl
@[simp] theorem Device.setDrive_changer (i : DriveId) (s : DriveState) (p : Phase) : (d.setDrive i s p).changer = d.changer := rfl
@[simp] theorem Device.setDrive_arb (i : DriveId) (s : DriveState) (p : Phase) : (d.setDrive i s p).arb = d.arb := rfl
@[simp] theorem Device.setDrive_ru (i : DriveId) (s : DriveState) (p : Phase) : (d.setDrive i s p).ru = d.ru := rfl
@[simp] theorem Device.setDrive_vu (i : DriveId) (s : DriveState) (p : Phase) : (d.setDrive i s p).vu = d.vu := rfl
@[simp] theorem Device.setDrive_mu (i : DriveId) (s : DriveState) (p : Phase) : (d.setDrive i s p).mu = d.mu := rfl
@[simp] theorem Device.setDrive_link (i : DriveId) (s : DriveState) (p : Phase) : (d.setDrive i s p).link = d.link := rfl
@[simp] theorem Device.setDrive_agenda (i : DriveId) (s : DriveState) (p : Phase) : (d.setDrive i s p).agenda = d.agenda := rfl
@[simp] theorem Device.setDrive_moment (i : DriveId) (s : DriveState) (p : Phase) : (d.setDrive i s p).moment = d.moment := rfl
@[simp] theorem Device.setRow_intake (c : CartId) (r : CartRow) : (d.setRow c r).intake = d.intake := rfl
@[simp] theorem Device.setRow_ce (c : CartId) (r : CartRow) : (d.setRow c r).ce = d.ce := rfl
@[simp] theorem Device.setRow_xe (c : CartId) (r : CartRow) : (d.setRow c r).xe = d.xe := rfl
@[simp] theorem Device.setRow_feeds (c : CartId) (r : CartRow) : (d.setRow c r).feeds = d.feeds := rfl
@[simp] theorem Device.setRow_map (c : CartId) (r : CartRow) : (d.setRow c r).map = d.map := rfl
@[simp] theorem Device.setRow_changer (c : CartId) (r : CartRow) : (d.setRow c r).changer = d.changer := rfl
@[simp] theorem Device.setRow_drives (c : CartId) (r : CartRow) : (d.setRow c r).drives = d.drives := rfl
@[simp] theorem Device.setRow_arb (c : CartId) (r : CartRow) : (d.setRow c r).arb = d.arb := rfl
@[simp] theorem Device.setRow_ru (c : CartId) (r : CartRow) : (d.setRow c r).ru = d.ru := rfl
@[simp] theorem Device.setRow_vu (c : CartId) (r : CartRow) : (d.setRow c r).vu = d.vu := rfl
@[simp] theorem Device.setRow_mu (c : CartId) (r : CartRow) : (d.setRow c r).mu = d.mu := rfl
@[simp] theorem Device.setRow_link (c : CartId) (r : CartRow) : (d.setRow c r).link = d.link := rfl
@[simp] theorem Device.setRow_agenda (c : CartId) (r : CartRow) : (d.setRow c r).agenda = d.agenda := rfl
@[simp] theorem Device.setRow_moment (c : CartId) (r : CartRow) : (d.setRow c r).moment = d.moment := rfl
@[simp] theorem Device.modElem_intake (e : ElemId) (g : Element → Element) : (d.modElem e g).intake = d.intake := rfl
@[simp] theorem Device.modElem_ce (e : ElemId) (g : Element → Element) : (d.modElem e g).ce = d.ce := rfl
@[simp] theorem Device.modElem_xe (e : ElemId) (g : Element → Element) : (d.modElem e g).xe = d.xe := rfl
@[simp] theorem Device.modElem_feeds (e : ElemId) (g : Element → Element) : (d.modElem e g).feeds = d.feeds := rfl
@[simp] theorem Device.modElem_map (e : ElemId) (g : Element → Element) : (d.modElem e g).map = d.map := rfl
@[simp] theorem Device.modElem_changer (e : ElemId) (g : Element → Element) : (d.modElem e g).changer = d.changer := rfl
@[simp] theorem Device.modElem_drives (e : ElemId) (g : Element → Element) : (d.modElem e g).drives = d.drives := rfl
@[simp] theorem Device.modElem_arb (e : ElemId) (g : Element → Element) : (d.modElem e g).arb = d.arb := rfl
@[simp] theorem Device.modElem_ru (e : ElemId) (g : Element → Element) : (d.modElem e g).ru = d.ru := rfl
@[simp] theorem Device.modElem_vu (e : ElemId) (g : Element → Element) : (d.modElem e g).vu = d.vu := rfl
@[simp] theorem Device.modElem_mu (e : ElemId) (g : Element → Element) : (d.modElem e g).mu = d.mu := rfl
@[simp] theorem Device.modElem_link (e : ElemId) (g : Element → Element) : (d.modElem e g).link = d.link := rfl
@[simp] theorem Device.modElem_agenda (e : ElemId) (g : Element → Element) : (d.modElem e g).agenda = d.agenda := rfl
@[simp] theorem Device.modElem_moment (e : ElemId) (g : Element → Element) : (d.modElem e g).moment = d.moment := rfl
@[simp] theorem Device.setEvent_intake (k : EventKind) (v : Option Event) : (d.setEvent k v).intake = d.intake := rfl
@[simp] theorem Device.setEvent_ce (k : EventKind) (v : Option Event) : (d.setEvent k v).ce = d.ce := rfl
@[simp] theorem Device.setEvent_xe (k : EventKind) (v : Option Event) : (d.setEvent k v).xe = d.xe := rfl
@[simp] theorem Device.setEvent_feeds (k : EventKind) (v : Option Event) : (d.setEvent k v).feeds = d.feeds := rfl
@[simp] theorem Device.setEvent_map (k : EventKind) (v : Option Event) : (d.setEvent k v).map = d.map := rfl
@[simp] theorem Device.setEvent_media (k : EventKind) (v : Option Event) : (d.setEvent k v).media = d.media := rfl
@[simp] theorem Device.setEvent_changer (k : EventKind) (v : Option Event) : (d.setEvent k v).changer = d.changer := rfl
@[simp] theorem Device.setEvent_drives (k : EventKind) (v : Option Event) : (d.setEvent k v).drives = d.drives := rfl
@[simp] theorem Device.setEvent_arb (k : EventKind) (v : Option Event) : (d.setEvent k v).arb = d.arb := rfl
@[simp] theorem Device.setEvent_ru (k : EventKind) (v : Option Event) : (d.setEvent k v).ru = d.ru := rfl
@[simp] theorem Device.setEvent_vu (k : EventKind) (v : Option Event) : (d.setEvent k v).vu = d.vu := rfl
@[simp] theorem Device.setEvent_link (k : EventKind) (v : Option Event) : (d.setEvent k v).link = d.link := rfl
@[simp] theorem Device.setEvent_agenda (k : EventKind) (v : Option Event) : (d.setEvent k v).agenda = d.agenda := rfl
@[simp] theorem Device.setEvent_moment (k : EventKind) (v : Option Event) : (d.setEvent k v).moment = d.moment := rfl
@[simp] theorem Device.raise_intake (k : EventKind) (a : EventArg) : (d.raise k a).intake = d.intake := rfl
@[simp] theorem Device.raise_ce (k : EventKind) (a : EventArg) : (d.raise k a).ce = d.ce := rfl
@[simp] theorem Device.raise_xe (k : EventKind) (a : EventArg) : (d.raise k a).xe = d.xe := rfl
@[simp] theorem Device.raise_feeds (k : EventKind) (a : EventArg) : (d.raise k a).feeds = d.feeds := rfl
@[simp] theorem Device.raise_map (k : EventKind) (a : EventArg) : (d.raise k a).map = d.map := rfl
@[simp] theorem Device.raise_media (k : EventKind) (a : EventArg) : (d.raise k a).media = d.media := rfl
@[simp] theorem Device.raise_changer (k : EventKind) (a : EventArg) : (d.raise k a).changer = d.changer := rfl
@[simp] theorem Device.raise_drives (k : EventKind) (a : EventArg) : (d.raise k a).drives = d.drives := rfl
@[simp] theorem Device.raise_arb (k : EventKind) (a : EventArg) : (d.raise k a).arb = d.arb := rfl
@[simp] theorem Device.raise_ru (k : EventKind) (a : EventArg) : (d.raise k a).ru = d.ru := rfl
@[simp] theorem Device.raise_vu (k : EventKind) (a : EventArg) : (d.raise k a).vu = d.vu := rfl
@[simp] theorem Device.raise_link (k : EventKind) (a : EventArg) : (d.raise k a).link = d.link := rfl
@[simp] theorem Device.raise_agenda (k : EventKind) (a : EventArg) : (d.raise k a).agenda = d.agenda := rfl
@[simp] theorem Device.raise_moment (k : EventKind) (a : EventArg) : (d.raise k a).moment = d.moment := rfl
@[simp] theorem Device.emit_intake (f : OutFrame) : (d.emit f).intake = d.intake := rfl
@[simp] theorem Device.emit_ce (f : OutFrame) : (d.emit f).ce = d.ce := rfl
@[simp] theorem Device.emit_xe (f : OutFrame) : (d.emit f).xe = d.xe := rfl
@[simp] theorem Device.emit_feeds (f : OutFrame) : (d.emit f).feeds = d.feeds := rfl
@[simp] theorem Device.emit_map (f : OutFrame) : (d.emit f).map = d.map := rfl
@[simp] theorem Device.emit_media (f : OutFrame) : (d.emit f).media = d.media := rfl
@[simp] theorem Device.emit_changer (f : OutFrame) : (d.emit f).changer = d.changer := rfl
@[simp] theorem Device.emit_drives (f : OutFrame) : (d.emit f).drives = d.drives := rfl
@[simp] theorem Device.emit_arb (f : OutFrame) : (d.emit f).arb = d.arb := rfl
@[simp] theorem Device.emit_ru (f : OutFrame) : (d.emit f).ru = d.ru := rfl
@[simp] theorem Device.emit_vu (f : OutFrame) : (d.emit f).vu = d.vu := rfl
@[simp] theorem Device.emit_mu (f : OutFrame) : (d.emit f).mu = d.mu := rfl
@[simp] theorem Device.emit_agenda (f : OutFrame) : (d.emit f).agenda = d.agenda := rfl
@[simp] theorem Device.emit_moment (f : OutFrame) : (d.emit f).moment = d.moment := rfl
@[simp] theorem Device.respond_intake (tag : Tag) (st : Status) (is : List Item) : (d.respond tag st is).intake = d.intake := rfl
@[simp] theorem Device.respond_ce (tag : Tag) (st : Status) (is : List Item) : (d.respond tag st is).ce = d.ce := rfl
@[simp] theorem Device.respond_xe (tag : Tag) (st : Status) (is : List Item) : (d.respond tag st is).xe = d.xe := rfl
@[simp] theorem Device.respond_feeds (tag : Tag) (st : Status) (is : List Item) : (d.respond tag st is).feeds = d.feeds := rfl
@[simp] theorem Device.respond_map (tag : Tag) (st : Status) (is : List Item) : (d.respond tag st is).map = d.map := rfl
@[simp] theorem Device.respond_media (tag : Tag) (st : Status) (is : List Item) : (d.respond tag st is).media = d.media := rfl
@[simp] theorem Device.respond_changer (tag : Tag) (st : Status) (is : List Item) : (d.respond tag st is).changer = d.changer := rfl
@[simp] theorem Device.respond_drives (tag : Tag) (st : Status) (is : List Item) : (d.respond tag st is).drives = d.drives := rfl
@[simp] theorem Device.respond_arb (tag : Tag) (st : Status) (is : List Item) : (d.respond tag st is).arb = d.arb := rfl
@[simp] theorem Device.respond_ru (tag : Tag) (st : Status) (is : List Item) : (d.respond tag st is).ru = d.ru := rfl
@[simp] theorem Device.respond_vu (tag : Tag) (st : Status) (is : List Item) : (d.respond tag st is).vu = d.vu := rfl
@[simp] theorem Device.respond_mu (tag : Tag) (st : Status) (is : List Item) : (d.respond tag st is).mu = d.mu := rfl
@[simp] theorem Device.respond_agenda (tag : Tag) (st : Status) (is : List Item) : (d.respond tag st is).agenda = d.agenda := rfl
@[simp] theorem Device.respond_moment (tag : Tag) (st : Status) (is : List Item) : (d.respond tag st is).moment = d.moment := rfl
@[simp] theorem Device.linkError_intake : d.linkError.intake = d.intake := rfl
@[simp] theorem Device.linkError_ce : d.linkError.ce = d.ce := rfl
@[simp] theorem Device.linkError_xe : d.linkError.xe = d.xe := rfl
@[simp] theorem Device.linkError_feeds : d.linkError.feeds = d.feeds := rfl
@[simp] theorem Device.linkError_map : d.linkError.map = d.map := rfl
@[simp] theorem Device.linkError_media : d.linkError.media = d.media := rfl
@[simp] theorem Device.linkError_changer : d.linkError.changer = d.changer := rfl
@[simp] theorem Device.linkError_drives : d.linkError.drives = d.drives := rfl
@[simp] theorem Device.linkError_arb : d.linkError.arb = d.arb := rfl
@[simp] theorem Device.linkError_ru : d.linkError.ru = d.ru := rfl
@[simp] theorem Device.linkError_vu : d.linkError.vu = d.vu := rfl
@[simp] theorem Device.linkError_mu : d.linkError.mu = d.mu := rfl
@[simp] theorem Device.linkError_agenda : d.linkError.agenda = d.agenda := rfl
@[simp] theorem Device.linkError_moment : d.linkError.moment = d.moment := rfl
@[simp] theorem Device.setGrants_intake (r : RestoreId) (n : Nat) : (d.setGrants r n).intake = d.intake := rfl
@[simp] theorem Device.setGrants_ce (r : RestoreId) (n : Nat) : (d.setGrants r n).ce = d.ce := rfl
@[simp] theorem Device.setGrants_xe (r : RestoreId) (n : Nat) : (d.setGrants r n).xe = d.xe := rfl
@[simp] theorem Device.setGrants_feeds (r : RestoreId) (n : Nat) : (d.setGrants r n).feeds = d.feeds := rfl
@[simp] theorem Device.setGrants_map (r : RestoreId) (n : Nat) : (d.setGrants r n).map = d.map := rfl
@[simp] theorem Device.setGrants_media (r : RestoreId) (n : Nat) : (d.setGrants r n).media = d.media := rfl
@[simp] theorem Device.setGrants_changer (r : RestoreId) (n : Nat) : (d.setGrants r n).changer = d.changer := rfl
@[simp] theorem Device.setGrants_drives (r : RestoreId) (n : Nat) : (d.setGrants r n).drives = d.drives := rfl
@[simp] theorem Device.setGrants_arb (r : RestoreId) (n : Nat) : (d.setGrants r n).arb = d.arb := rfl
@[simp] theorem Device.setGrants_ru (r : RestoreId) (n : Nat) : (d.setGrants r n).ru = d.ru := rfl
@[simp] theorem Device.setGrants_vu (r : RestoreId) (n : Nat) : (d.setGrants r n).vu = d.vu := rfl
@[simp] theorem Device.setGrants_mu (r : RestoreId) (n : Nat) : (d.setGrants r n).mu = d.mu := rfl
@[simp] theorem Device.setGrants_agenda (r : RestoreId) (n : Nat) : (d.setGrants r n).agenda = d.agenda := rfl
@[simp] theorem Device.setGrants_moment (r : RestoreId) (n : Nat) : (d.setGrants r n).moment = d.moment := rfl
@[simp] theorem Device.modPart_intake (id : Nat) (g : Part → Part) : (d.modPart id g).intake = d.intake := rfl
@[simp] theorem Device.modPart_ce (id : Nat) (g : Part → Part) : (d.modPart id g).ce = d.ce := rfl
@[simp] theorem Device.modPart_xe (id : Nat) (g : Part → Part) : (d.modPart id g).xe = d.xe := rfl
@[simp] theorem Device.modPart_feeds (id : Nat) (g : Part → Part) : (d.modPart id g).feeds = d.feeds := rfl
@[simp] theorem Device.modPart_media (id : Nat) (g : Part → Part) : (d.modPart id g).media = d.media := rfl
@[simp] theorem Device.modPart_changer (id : Nat) (g : Part → Part) : (d.modPart id g).changer = d.changer := rfl
@[simp] theorem Device.modPart_drives (id : Nat) (g : Part → Part) : (d.modPart id g).drives = d.drives := rfl
@[simp] theorem Device.modPart_arb (id : Nat) (g : Part → Part) : (d.modPart id g).arb = d.arb := rfl
@[simp] theorem Device.modPart_ru (id : Nat) (g : Part → Part) : (d.modPart id g).ru = d.ru := rfl
@[simp] theorem Device.modPart_vu (id : Nat) (g : Part → Part) : (d.modPart id g).vu = d.vu := rfl
@[simp] theorem Device.modPart_mu (id : Nat) (g : Part → Part) : (d.modPart id g).mu = d.mu := rfl
@[simp] theorem Device.modPart_link (id : Nat) (g : Part → Part) : (d.modPart id g).link = d.link := rfl
@[simp] theorem Device.modPart_agenda (id : Nat) (g : Part → Part) : (d.modPart id g).agenda = d.agenda := rfl
@[simp] theorem Device.modPart_moment (id : Nat) (g : Part → Part) : (d.modPart id g).moment = d.moment := rfl
@[simp] theorem Device.addPart_intake (p : Part) : (d.addPart p).intake = d.intake := rfl
@[simp] theorem Device.addPart_ce (p : Part) : (d.addPart p).ce = d.ce := rfl
@[simp] theorem Device.addPart_xe (p : Part) : (d.addPart p).xe = d.xe := rfl
@[simp] theorem Device.addPart_feeds (p : Part) : (d.addPart p).feeds = d.feeds := rfl
@[simp] theorem Device.addPart_media (p : Part) : (d.addPart p).media = d.media := rfl
@[simp] theorem Device.addPart_changer (p : Part) : (d.addPart p).changer = d.changer := rfl
@[simp] theorem Device.addPart_drives (p : Part) : (d.addPart p).drives = d.drives := rfl
@[simp] theorem Device.addPart_arb (p : Part) : (d.addPart p).arb = d.arb := rfl
@[simp] theorem Device.addPart_ru (p : Part) : (d.addPart p).ru = d.ru := rfl
@[simp] theorem Device.addPart_vu (p : Part) : (d.addPart p).vu = d.vu := rfl
@[simp] theorem Device.addPart_mu (p : Part) : (d.addPart p).mu = d.mu := rfl
@[simp] theorem Device.addPart_link (p : Part) : (d.addPart p).link = d.link := rfl
@[simp] theorem Device.addPart_agenda (p : Part) : (d.addPart p).agenda = d.agenda := rfl
@[simp] theorem Device.addPart_moment (p : Part) : (d.addPart p).moment = d.moment := rfl
@[simp] theorem Device.freePart_intake (id : Nat) : (d.freePart id).intake = d.intake := rfl
@[simp] theorem Device.freePart_ce (id : Nat) : (d.freePart id).ce = d.ce := rfl
@[simp] theorem Device.freePart_xe (id : Nat) : (d.freePart id).xe = d.xe := rfl
@[simp] theorem Device.freePart_feeds (id : Nat) : (d.freePart id).feeds = d.feeds := rfl
@[simp] theorem Device.freePart_media (id : Nat) : (d.freePart id).media = d.media := rfl
@[simp] theorem Device.freePart_changer (id : Nat) : (d.freePart id).changer = d.changer := rfl
@[simp] theorem Device.freePart_drives (id : Nat) : (d.freePart id).drives = d.drives := rfl
@[simp] theorem Device.freePart_arb (id : Nat) : (d.freePart id).arb = d.arb := rfl
@[simp] theorem Device.freePart_ru (id : Nat) : (d.freePart id).ru = d.ru := rfl
@[simp] theorem Device.freePart_vu (id : Nat) : (d.freePart id).vu = d.vu := rfl
@[simp] theorem Device.freePart_mu (id : Nat) : (d.freePart id).mu = d.mu := rfl
@[simp] theorem Device.freePart_link (id : Nat) : (d.freePart id).link = d.link := rfl
@[simp] theorem Device.freePart_agenda (id : Nat) : (d.freePart id).agenda = d.agenda := rfl
@[simp] theorem Device.freePart_moment (id : Nat) : (d.freePart id).moment = d.moment := rfl
@[simp] theorem Device.reserve_intake (n : Nat) : (d.reserve n).intake = d.intake := rfl
@[simp] theorem Device.reserve_ce (n : Nat) : (d.reserve n).ce = d.ce := rfl
@[simp] theorem Device.reserve_xe (n : Nat) : (d.reserve n).xe = d.xe := rfl
@[simp] theorem Device.reserve_feeds (n : Nat) : (d.reserve n).feeds = d.feeds := rfl
@[simp] theorem Device.reserve_media (n : Nat) : (d.reserve n).media = d.media := rfl
@[simp] theorem Device.reserve_changer (n : Nat) : (d.reserve n).changer = d.changer := rfl
@[simp] theorem Device.reserve_drives (n : Nat) : (d.reserve n).drives = d.drives := rfl
@[simp] theorem Device.reserve_arb (n : Nat) : (d.reserve n).arb = d.arb := rfl
@[simp] theorem Device.reserve_ru (n : Nat) : (d.reserve n).ru = d.ru := rfl
@[simp] theorem Device.reserve_vu (n : Nat) : (d.reserve n).vu = d.vu := rfl
@[simp] theorem Device.reserve_mu (n : Nat) : (d.reserve n).mu = d.mu := rfl
@[simp] theorem Device.reserve_link (n : Nat) : (d.reserve n).link = d.link := rfl
@[simp] theorem Device.reserve_agenda (n : Nat) : (d.reserve n).agenda = d.agenda := rfl
@[simp] theorem Device.reserve_moment (n : Nat) : (d.reserve n).moment = d.moment := rfl
@[simp] theorem Device.consumeReservation_intake : d.consumeReservation.intake = d.intake := rfl
@[simp] theorem Device.consumeReservation_ce : d.consumeReservation.ce = d.ce := rfl
@[simp] theorem Device.consumeReservation_xe : d.consumeReservation.xe = d.xe := rfl
@[simp] theorem Device.consumeReservation_feeds : d.consumeReservation.feeds = d.feeds := rfl
@[simp] theorem Device.consumeReservation_media : d.consumeReservation.media = d.media := rfl
@[simp] theorem Device.consumeReservation_changer : d.consumeReservation.changer = d.changer := rfl
@[simp] theorem Device.consumeReservation_drives : d.consumeReservation.drives = d.drives := rfl
@[simp] theorem Device.consumeReservation_arb : d.consumeReservation.arb = d.arb := rfl
@[simp] theorem Device.consumeReservation_ru : d.consumeReservation.ru = d.ru := rfl
@[simp] theorem Device.consumeReservation_vu : d.consumeReservation.vu = d.vu := rfl
@[simp] theorem Device.consumeReservation_mu : d.consumeReservation.mu = d.mu := rfl
@[simp] theorem Device.consumeReservation_link : d.consumeReservation.link = d.link := rfl
@[simp] theorem Device.consumeReservation_agenda : d.consumeReservation.agenda = d.agenda := rfl
@[simp] theorem Device.consumeReservation_moment : d.consumeReservation.moment = d.moment := rfl
@[simp] theorem Device.takeEntry_intake : d.takeEntry.intake = d.intake := rfl
@[simp] theorem Device.takeEntry_ce : d.takeEntry.ce = d.ce := rfl
@[simp] theorem Device.takeEntry_xe : d.takeEntry.xe = d.xe := rfl
@[simp] theorem Device.takeEntry_feeds : d.takeEntry.feeds = d.feeds := rfl
@[simp] theorem Device.takeEntry_map : d.takeEntry.map = d.map := rfl
@[simp] theorem Device.takeEntry_media : d.takeEntry.media = d.media := rfl
@[simp] theorem Device.takeEntry_drives : d.takeEntry.drives = d.drives := rfl
@[simp] theorem Device.takeEntry_arb : d.takeEntry.arb = d.arb := rfl
@[simp] theorem Device.takeEntry_ru : d.takeEntry.ru = d.ru := rfl
@[simp] theorem Device.takeEntry_vu : d.takeEntry.vu = d.vu := rfl
@[simp] theorem Device.takeEntry_mu : d.takeEntry.mu = d.mu := rfl
@[simp] theorem Device.takeEntry_link : d.takeEntry.link = d.link := rfl
@[simp] theorem Device.takeEntry_agenda : d.takeEntry.agenda = d.agenda := rfl
@[simp] theorem Device.takeEntry_moment : d.takeEntry.moment = d.moment := rfl
@[simp] theorem Device.modMove_intake (id : Nat) (g : Move → Move) : (d.modMove id g).intake = d.intake := rfl
@[simp] theorem Device.modMove_ce (id : Nat) (g : Move → Move) : (d.modMove id g).ce = d.ce := rfl
@[simp] theorem Device.modMove_xe (id : Nat) (g : Move → Move) : (d.modMove id g).xe = d.xe := rfl
@[simp] theorem Device.modMove_feeds (id : Nat) (g : Move → Move) : (d.modMove id g).feeds = d.feeds := rfl
@[simp] theorem Device.modMove_map (id : Nat) (g : Move → Move) : (d.modMove id g).map = d.map := rfl
@[simp] theorem Device.modMove_media (id : Nat) (g : Move → Move) : (d.modMove id g).media = d.media := rfl
@[simp] theorem Device.modMove_drives (id : Nat) (g : Move → Move) : (d.modMove id g).drives = d.drives := rfl
@[simp] theorem Device.modMove_arb (id : Nat) (g : Move → Move) : (d.modMove id g).arb = d.arb := rfl
@[simp] theorem Device.modMove_ru (id : Nat) (g : Move → Move) : (d.modMove id g).ru = d.ru := rfl
@[simp] theorem Device.modMove_vu (id : Nat) (g : Move → Move) : (d.modMove id g).vu = d.vu := rfl
@[simp] theorem Device.modMove_mu (id : Nat) (g : Move → Move) : (d.modMove id g).mu = d.mu := rfl
@[simp] theorem Device.modMove_link (id : Nat) (g : Move → Move) : (d.modMove id g).link = d.link := rfl
@[simp] theorem Device.modMove_agenda (id : Nat) (g : Move → Move) : (d.modMove id g).agenda = d.agenda := rfl
@[simp] theorem Device.modMove_moment (id : Nat) (g : Move → Move) : (d.modMove id g).moment = d.moment := rfl
@[simp] theorem Device.giveOrder_intake (p : PickerState) (k : OrderKind) : (d.giveOrder p k).intake = d.intake := rfl
@[simp] theorem Device.giveOrder_ce (p : PickerState) (k : OrderKind) : (d.giveOrder p k).ce = d.ce := rfl
@[simp] theorem Device.giveOrder_xe (p : PickerState) (k : OrderKind) : (d.giveOrder p k).xe = d.xe := rfl
@[simp] theorem Device.giveOrder_feeds (p : PickerState) (k : OrderKind) : (d.giveOrder p k).feeds = d.feeds := rfl
@[simp] theorem Device.giveOrder_map (p : PickerState) (k : OrderKind) : (d.giveOrder p k).map = d.map := rfl
@[simp] theorem Device.giveOrder_media (p : PickerState) (k : OrderKind) : (d.giveOrder p k).media = d.media := rfl
@[simp] theorem Device.giveOrder_drives (p : PickerState) (k : OrderKind) : (d.giveOrder p k).drives = d.drives := rfl
@[simp] theorem Device.giveOrder_arb (p : PickerState) (k : OrderKind) : (d.giveOrder p k).arb = d.arb := rfl
@[simp] theorem Device.giveOrder_ru (p : PickerState) (k : OrderKind) : (d.giveOrder p k).ru = d.ru := rfl
@[simp] theorem Device.giveOrder_vu (p : PickerState) (k : OrderKind) : (d.giveOrder p k).vu = d.vu := rfl
@[simp] theorem Device.giveOrder_mu (p : PickerState) (k : OrderKind) : (d.giveOrder p k).mu = d.mu := rfl
@[simp] theorem Device.giveOrder_link (p : PickerState) (k : OrderKind) : (d.giveOrder p k).link = d.link := rfl
@[simp] theorem Device.giveOrder_agenda (p : PickerState) (k : OrderKind) : (d.giveOrder p k).agenda = d.agenda := rfl
@[simp] theorem Device.giveOrder_moment (p : PickerState) (k : OrderKind) : (d.giveOrder p k).moment = d.moment := rfl
@[simp] theorem Device.modClaim_intake (o : Nat) (g : Claim → Claim) : (d.modClaim o g).intake = d.intake := rfl
@[simp] theorem Device.modClaim_ce (o : Nat) (g : Claim → Claim) : (d.modClaim o g).ce = d.ce := rfl
@[simp] theorem Device.modClaim_xe (o : Nat) (g : Claim → Claim) : (d.modClaim o g).xe = d.xe := rfl
@[simp] theorem Device.modClaim_feeds (o : Nat) (g : Claim → Claim) : (d.modClaim o g).feeds = d.feeds := rfl
@[simp] theorem Device.modClaim_map (o : Nat) (g : Claim → Claim) : (d.modClaim o g).map = d.map := rfl
@[simp] theorem Device.modClaim_media (o : Nat) (g : Claim → Claim) : (d.modClaim o g).media = d.media := rfl
@[simp] theorem Device.modClaim_changer (o : Nat) (g : Claim → Claim) : (d.modClaim o g).changer = d.changer := rfl
@[simp] theorem Device.modClaim_drives (o : Nat) (g : Claim → Claim) : (d.modClaim o g).drives = d.drives := rfl
@[simp] theorem Device.modClaim_ru (o : Nat) (g : Claim → Claim) : (d.modClaim o g).ru = d.ru := rfl
@[simp] theorem Device.modClaim_vu (o : Nat) (g : Claim → Claim) : (d.modClaim o g).vu = d.vu := rfl
@[simp] theorem Device.modClaim_mu (o : Nat) (g : Claim → Claim) : (d.modClaim o g).mu = d.mu := rfl
@[simp] theorem Device.modClaim_link (o : Nat) (g : Claim → Claim) : (d.modClaim o g).link = d.link := rfl
@[simp] theorem Device.modClaim_agenda (o : Nat) (g : Claim → Claim) : (d.modClaim o g).agenda = d.agenda := rfl
@[simp] theorem Device.modClaim_moment (o : Nat) (g : Claim → Claim) : (d.modClaim o g).moment = d.moment := rfl
@[simp] theorem Device.removeClaim_intake (o : Nat) : (d.removeClaim o).intake = d.intake := rfl
@[simp] theorem Device.removeClaim_ce (o : Nat) : (d.removeClaim o).ce = d.ce := rfl
@[simp] theorem Device.removeClaim_xe (o : Nat) : (d.removeClaim o).xe = d.xe := rfl
@[simp] theorem Device.removeClaim_feeds (o : Nat) : (d.removeClaim o).feeds = d.feeds := rfl
@[simp] theorem Device.removeClaim_map (o : Nat) : (d.removeClaim o).map = d.map := rfl
@[simp] theorem Device.removeClaim_media (o : Nat) : (d.removeClaim o).media = d.media := rfl
@[simp] theorem Device.removeClaim_changer (o : Nat) : (d.removeClaim o).changer = d.changer := rfl
@[simp] theorem Device.removeClaim_drives (o : Nat) : (d.removeClaim o).drives = d.drives := rfl
@[simp] theorem Device.removeClaim_ru (o : Nat) : (d.removeClaim o).ru = d.ru := rfl
@[simp] theorem Device.removeClaim_vu (o : Nat) : (d.removeClaim o).vu = d.vu := rfl
@[simp] theorem Device.removeClaim_mu (o : Nat) : (d.removeClaim o).mu = d.mu := rfl
@[simp] theorem Device.removeClaim_link (o : Nat) : (d.removeClaim o).link = d.link := rfl
@[simp] theorem Device.removeClaim_agenda (o : Nat) : (d.removeClaim o).agenda = d.agenda := rfl
@[simp] theorem Device.removeClaim_moment (o : Nat) : (d.removeClaim o).moment = d.moment := rfl
@[simp] theorem Device.modRestore_intake (r : RestoreId) (g : Restore → Restore) : (d.modRestore r g).intake = d.intake := rfl
@[simp] theorem Device.modRestore_ce (r : RestoreId) (g : Restore → Restore) : (d.modRestore r g).ce = d.ce := rfl
@[simp] theorem Device.modRestore_xe (r : RestoreId) (g : Restore → Restore) : (d.modRestore r g).xe = d.xe := rfl
@[simp] theorem Device.modRestore_feeds (r : RestoreId) (g : Restore → Restore) : (d.modRestore r g).feeds = d.feeds := rfl
@[simp] theorem Device.modRestore_map (r : RestoreId) (g : Restore → Restore) : (d.modRestore r g).map = d.map := rfl
@[simp] theorem Device.modRestore_media (r : RestoreId) (g : Restore → Restore) : (d.modRestore r g).media = d.media := rfl
@[simp] theorem Device.modRestore_changer (r : RestoreId) (g : Restore → Restore) : (d.modRestore r g).changer = d.changer := rfl
@[simp] theorem Device.modRestore_drives (r : RestoreId) (g : Restore → Restore) : (d.modRestore r g).drives = d.drives := rfl
@[simp] theorem Device.modRestore_arb (r : RestoreId) (g : Restore → Restore) : (d.modRestore r g).arb = d.arb := rfl
@[simp] theorem Device.modRestore_vu (r : RestoreId) (g : Restore → Restore) : (d.modRestore r g).vu = d.vu := rfl
@[simp] theorem Device.modRestore_mu (r : RestoreId) (g : Restore → Restore) : (d.modRestore r g).mu = d.mu := rfl
@[simp] theorem Device.modRestore_link (r : RestoreId) (g : Restore → Restore) : (d.modRestore r g).link = d.link := rfl
@[simp] theorem Device.modRestore_agenda (r : RestoreId) (g : Restore → Restore) : (d.modRestore r g).agenda = d.agenda := rfl
@[simp] theorem Device.modRestore_moment (r : RestoreId) (g : Restore → Restore) : (d.modRestore r g).moment = d.moment := rfl
@[simp] theorem Device.freeRestore_intake (r : RestoreId) : (d.freeRestore r).intake = d.intake := rfl
@[simp] theorem Device.freeRestore_ce (r : RestoreId) : (d.freeRestore r).ce = d.ce := rfl
@[simp] theorem Device.freeRestore_xe (r : RestoreId) : (d.freeRestore r).xe = d.xe := rfl
@[simp] theorem Device.freeRestore_feeds (r : RestoreId) : (d.freeRestore r).feeds = d.feeds := rfl
@[simp] theorem Device.freeRestore_map (r : RestoreId) : (d.freeRestore r).map = d.map := rfl
@[simp] theorem Device.freeRestore_media (r : RestoreId) : (d.freeRestore r).media = d.media := rfl
@[simp] theorem Device.freeRestore_changer (r : RestoreId) : (d.freeRestore r).changer = d.changer := rfl
@[simp] theorem Device.freeRestore_drives (r : RestoreId) : (d.freeRestore r).drives = d.drives := rfl
@[simp] theorem Device.freeRestore_arb (r : RestoreId) : (d.freeRestore r).arb = d.arb := rfl
@[simp] theorem Device.freeRestore_vu (r : RestoreId) : (d.freeRestore r).vu = d.vu := rfl
@[simp] theorem Device.freeRestore_mu (r : RestoreId) : (d.freeRestore r).mu = d.mu := rfl
@[simp] theorem Device.freeRestore_link (r : RestoreId) : (d.freeRestore r).link = d.link := rfl
@[simp] theorem Device.freeRestore_agenda (r : RestoreId) : (d.freeRestore r).agenda = d.agenda := rfl
@[simp] theorem Device.freeRestore_moment (r : RestoreId) : (d.freeRestore r).moment = d.moment := rfl
@[simp] theorem Device.modPass_intake (c : CartId) (g : Pass → Pass) : (d.modPass c g).intake = d.intake := rfl
@[simp] theorem Device.modPass_ce (c : CartId) (g : Pass → Pass) : (d.modPass c g).ce = d.ce := rfl
@[simp] theorem Device.modPass_xe (c : CartId) (g : Pass → Pass) : (d.modPass c g).xe = d.xe := rfl
@[simp] theorem Device.modPass_feeds (c : CartId) (g : Pass → Pass) : (d.modPass c g).feeds = d.feeds := rfl
@[simp] theorem Device.modPass_map (c : CartId) (g : Pass → Pass) : (d.modPass c g).map = d.map := rfl
@[simp] theorem Device.modPass_media (c : CartId) (g : Pass → Pass) : (d.modPass c g).media = d.media := rfl
@[simp] theorem Device.modPass_changer (c : CartId) (g : Pass → Pass) : (d.modPass c g).changer = d.changer := rfl
@[simp] theorem Device.modPass_drives (c : CartId) (g : Pass → Pass) : (d.modPass c g).drives = d.drives := rfl
@[simp] theorem Device.modPass_arb (c : CartId) (g : Pass → Pass) : (d.modPass c g).arb = d.arb := rfl
@[simp] theorem Device.modPass_ru (c : CartId) (g : Pass → Pass) : (d.modPass c g).ru = d.ru := rfl
@[simp] theorem Device.modPass_mu (c : CartId) (g : Pass → Pass) : (d.modPass c g).mu = d.mu := rfl
@[simp] theorem Device.modPass_link (c : CartId) (g : Pass → Pass) : (d.modPass c g).link = d.link := rfl
@[simp] theorem Device.modPass_agenda (c : CartId) (g : Pass → Pass) : (d.modPass c g).agenda = d.agenda := rfl
@[simp] theorem Device.modPass_moment (c : CartId) (g : Pass → Pass) : (d.modPass c g).moment = d.moment := rfl
@[simp] theorem Device.removeEntry_intake (c : CartId) : (d.removeEntry c).intake = d.intake := rfl
@[simp] theorem Device.removeEntry_ce (c : CartId) : (d.removeEntry c).ce = d.ce := rfl
@[simp] theorem Device.removeEntry_xe (c : CartId) : (d.removeEntry c).xe = d.xe := rfl
@[simp] theorem Device.removeEntry_feeds (c : CartId) : (d.removeEntry c).feeds = d.feeds := rfl
@[simp] theorem Device.removeEntry_map (c : CartId) : (d.removeEntry c).map = d.map := rfl
@[simp] theorem Device.removeEntry_media (c : CartId) : (d.removeEntry c).media = d.media := rfl
@[simp] theorem Device.removeEntry_changer (c : CartId) : (d.removeEntry c).changer = d.changer := rfl
@[simp] theorem Device.removeEntry_drives (c : CartId) : (d.removeEntry c).drives = d.drives := rfl
@[simp] theorem Device.removeEntry_arb (c : CartId) : (d.removeEntry c).arb = d.arb := rfl
@[simp] theorem Device.removeEntry_ru (c : CartId) : (d.removeEntry c).ru = d.ru := rfl
@[simp] theorem Device.removeEntry_mu (c : CartId) : (d.removeEntry c).mu = d.mu := rfl
@[simp] theorem Device.removeEntry_link (c : CartId) : (d.removeEntry c).link = d.link := rfl
@[simp] theorem Device.removeEntry_agenda (c : CartId) : (d.removeEntry c).agenda = d.agenda := rfl
@[simp] theorem Device.removeEntry_moment (c : CartId) : (d.removeEntry c).moment = d.moment := rfl

/-! ### A decision made due changes the agenda alone -/

/-- A decision made due is due, and the device is as it was. -/
theorem Device.post_eq (t : Task) : d.post t = { d with agenda := (d.post t).agenda } := by
  unfold Device.post; split <;> rfl

theorem Device.mem_post (t : Task) : t ∈ (d.post t).agenda := by
  unfold Device.post; split <;> simp_all

@[simp] theorem Device.post_intake (t : Task) : (d.post t).intake = d.intake := by rw [Device.post_eq]
@[simp] theorem Device.post_ce (t : Task) : (d.post t).ce = d.ce := by rw [Device.post_eq]
@[simp] theorem Device.post_xe (t : Task) : (d.post t).xe = d.xe := by rw [Device.post_eq]
@[simp] theorem Device.post_feeds (t : Task) : (d.post t).feeds = d.feeds := by rw [Device.post_eq]
@[simp] theorem Device.post_map (t : Task) : (d.post t).map = d.map := by rw [Device.post_eq]
@[simp] theorem Device.post_media (t : Task) : (d.post t).media = d.media := by rw [Device.post_eq]
@[simp] theorem Device.post_changer (t : Task) : (d.post t).changer = d.changer := by rw [Device.post_eq]
@[simp] theorem Device.post_drives (t : Task) : (d.post t).drives = d.drives := by rw [Device.post_eq]
@[simp] theorem Device.post_arb (t : Task) : (d.post t).arb = d.arb := by rw [Device.post_eq]
@[simp] theorem Device.post_ru (t : Task) : (d.post t).ru = d.ru := by rw [Device.post_eq]
@[simp] theorem Device.post_vu (t : Task) : (d.post t).vu = d.vu := by rw [Device.post_eq]
@[simp] theorem Device.post_mu (t : Task) : (d.post t).mu = d.mu := by rw [Device.post_eq]
@[simp] theorem Device.post_link (t : Task) : (d.post t).link = d.link := by rw [Device.post_eq]
@[simp] theorem Device.post_moment (t : Task) : (d.post t).moment = d.moment := by rw [Device.post_eq]

/-- Several decisions made due change the agenda alone. -/
theorem Device.postAll_eq (ts : List Task) : d.postAll ts = { d with agenda := (d.postAll ts).agenda } := by
  induction ts generalizing d with
  | nil => rfl
  | cons t ts ih =>
    have e : d.postAll (t :: ts) = (d.post t).postAll ts := rfl
    rw [e, ih (d.post t)]; simp

@[simp] theorem Device.postAll_intake (ts : List Task) : (d.postAll ts).intake = d.intake := by rw [Device.postAll_eq]
@[simp] theorem Device.postAll_ce (ts : List Task) : (d.postAll ts).ce = d.ce := by rw [Device.postAll_eq]
@[simp] theorem Device.postAll_xe (ts : List Task) : (d.postAll ts).xe = d.xe := by rw [Device.postAll_eq]
@[simp] theorem Device.postAll_feeds (ts : List Task) : (d.postAll ts).feeds = d.feeds := by rw [Device.postAll_eq]
@[simp] theorem Device.postAll_map (ts : List Task) : (d.postAll ts).map = d.map := by rw [Device.postAll_eq]
@[simp] theorem Device.postAll_media (ts : List Task) : (d.postAll ts).media = d.media := by rw [Device.postAll_eq]
@[simp] theorem Device.postAll_changer (ts : List Task) : (d.postAll ts).changer = d.changer := by rw [Device.postAll_eq]
@[simp] theorem Device.postAll_drives (ts : List Task) : (d.postAll ts).drives = d.drives := by rw [Device.postAll_eq]
@[simp] theorem Device.postAll_arb (ts : List Task) : (d.postAll ts).arb = d.arb := by rw [Device.postAll_eq]
@[simp] theorem Device.postAll_ru (ts : List Task) : (d.postAll ts).ru = d.ru := by rw [Device.postAll_eq]
@[simp] theorem Device.postAll_vu (ts : List Task) : (d.postAll ts).vu = d.vu := by rw [Device.postAll_eq]
@[simp] theorem Device.postAll_mu (ts : List Task) : (d.postAll ts).mu = d.mu := by rw [Device.postAll_eq]
@[simp] theorem Device.postAll_link (ts : List Task) : (d.postAll ts).link = d.link := by rw [Device.postAll_eq]
@[simp] theorem Device.postAll_moment (ts : List Task) : (d.postAll ts).moment = d.moment := by rw [Device.postAll_eq]

/-! ### Reading back -/

variable {d}

@[simp] theorem Device.stream_modStream (c : StreamId) (g : Stream → Stream) :
    (d.modStream c g).stream c = g (d.stream c) := by simp [Device.modStream, Device.stream]

theorem Device.stream_modStream_ne {c y : StreamId} (g : Stream → Stream) (h : y ≠ c) :
    (d.modStream c g).stream y = d.stream y := by
  simp only [Device.modStream, Device.stream, Fin.getElem_fin]
  exact Vector.getElem_set_ne _ _ fun e => h (Fin.ext e.symm)

@[simp] theorem Device.feed_setFeed (f : FeedId) (v : Option Feed) : (d.setFeed f v).feed f = v := by
  simp [Device.setFeed, Device.feed]

theorem Device.feed_setFeed_ne {f g : FeedId} (v : Option Feed) (h : g ≠ f) : (d.setFeed f v).feed g = d.feed g := by
  simp only [Device.setFeed, Device.feed, Fin.getElem_fin]
  exact Vector.getElem_set_ne _ _ fun e => h (Fin.ext e.symm)

@[simp] theorem Device.drive_modDrive (i : DriveId) (g : Drive → Drive) : (d.modDrive i g).drive i = g (d.drive i) := by
  simp [Device.modDrive, Device.drive]

theorem Device.drive_modDrive_ne {i j : DriveId} (g : Drive → Drive) (h : j ≠ i) :
    (d.modDrive i g).drive j = d.drive j := by
  simp only [Device.modDrive, Device.drive, Fin.getElem_fin]
  exact Vector.getElem_set_ne _ _ fun e => h (Fin.ext e.symm)

@[simp] theorem Device.row_setRow (c : CartId) (r : CartRow) : (d.setRow c r).row c = r := by
  simp [Device.setRow, Device.row]

theorem Device.row_setRow_ne {c y : CartId} (r : CartRow) (h : y ≠ c) : (d.setRow c r).row y = d.row y := by
  simp only [Device.setRow, Device.row, Fin.getElem_fin]
  exact Vector.getElem_set_ne _ _ fun e => h (Fin.ext e.symm)

@[simp] theorem Device.elem_modElem (e : ElemId) (g : Element → Element) : (d.modElem e g).elem e = g (d.elem e) := by
  simp [Device.modElem, Device.elem]

theorem Device.elem_modElem_ne {e x : ElemId} (g : Element → Element) (h : x ≠ e) :
    (d.modElem e g).elem x = d.elem x := by
  simp only [Device.modElem, Device.elem, Fin.getElem_fin]
  exact Vector.getElem_set_ne _ _ fun y => h (Fin.ext y.symm)

/-! ### What tables read in a device with a part of it left -/

@[simp] theorem Device.stream_begun (c : StreamId) : d.begun.stream c = d.stream c := rfl
@[simp] theorem Device.feed_begun (f : FeedId) : d.begun.feed f = d.feed f := rfl
@[simp] theorem Device.drive_begun (i : DriveId) : d.begun.drive i = d.drive i := rfl
@[simp] theorem Device.row_begun (c : CartId) : d.begun.row c = d.row c := rfl
@[simp] theorem Device.cart_begun (c : CartId) : d.begun.cart c = d.cart c := rfl
@[simp] theorem Device.pool_begun (p : PoolId) : d.begun.pool p = d.pool p := rfl
@[simp] theorem Device.elem_begun (e : ElemId) : d.begun.elem e = d.elem e := rfl
@[simp] theorem Device.event_begun (k : EventKind) : d.begun.event k = d.event k := rfl
@[simp] theorem Device.now_begun : d.begun.now = d.mu.elapsed := rfl
@[simp] theorem Device.time_begun : d.begun.time = d.mu.time := rfl

@[simp] theorem Device.stream_post (t : Task) (c : StreamId) : (d.post t).stream c = d.stream c := by
  rw [Device.post_eq]; rfl
@[simp] theorem Device.feed_post (t : Task) (f : FeedId) : (d.post t).feed f = d.feed f := by rw [Device.post_eq]; rfl
@[simp] theorem Device.drive_post (t : Task) (i : DriveId) : (d.post t).drive i = d.drive i := by
  rw [Device.post_eq]; rfl
@[simp] theorem Device.row_post (t : Task) (c : CartId) : (d.post t).row c = d.row c := by rw [Device.post_eq]; rfl
@[simp] theorem Device.cart_post (t : Task) (c : CartId) : (d.post t).cart c = d.cart c := by rw [Device.post_eq]; rfl
@[simp] theorem Device.pool_post (t : Task) (p : PoolId) : (d.post t).pool p = d.pool p := by rw [Device.post_eq]; rfl
@[simp] theorem Device.elem_post (t : Task) (e : ElemId) : (d.post t).elem e = d.elem e := by rw [Device.post_eq]; rfl
@[simp] theorem Device.now_post (t : Task) : (d.post t).now = d.now := by rw [Device.post_eq]; rfl

/-- A decision made due and a feed entry written, in either order. -/
theorem Device.setFeed_post (t : Task) (f : FeedId) (v : Option Feed) :
    (d.post t).setFeed f v = (d.setFeed f v).post t := by
  unfold Device.post Device.setFeed; dsimp only; split <;> rfl

/-- A feed entry written twice. -/
@[simp] theorem Device.setFeed_setFeed (f : FeedId) (v w : Option Feed) : (d.setFeed f v).setFeed f w = d.setFeed f w := by
  simp [Device.setFeed]

/-! ### The shared forms of a command, as equations -/

theorem State.run_eq (s : State) (g : Device → Device) : s.run g = .next { s with dev := (g s.dev.begun).settle } := rfl

theorem State.runIf_due {s : State} {due : Bool} {g : Device → Device} (h : due = true) :
    s.runIf due g = .next { s with dev := (g s.dev.begun).settle } := by subst h; rfl

theorem State.runIf_not_due {s : State} {due : Bool} {g : Device → Device} (h : due = false) :
    s.runIf due g = .next s := by subst h; rfl

theorem State.request_accepted {s : State} {tag : Tag} {r : Option RefusalOf} {g : Device → Device}
    (up : s.dev.link.up = true) (h : r = none) : s.request tag r g = .next { s with dev := (g s.dev.begun).settle } := by
  subst h; simp [State.request, up, State.run_eq]

theorem State.inbound_up {s : State} {o : Host.Outcome State Fault Refusal} (up : s.dev.link.up = true) :
    s.inbound o = o := by simp [State.inbound, up]

@[simp] theorem streamOf_streamChannel (c : StreamId) : streamOf? (streamChannel c) = some c := by
  unfold streamOf? streamChannel; rw [dif_pos (by omega)]; simp

@[simp] theorem restoreOf_restoreChannel (r : RestoreId) : restoreOf? (restoreChannel r) = some r := by
  unfold restoreOf? restoreChannel; rw [dif_pos (by omega)]; simp

@[simp] theorem finOf_val {n : Nat} (i : Fin n) : finOf? n i.val = some i := by simp [finOf?]

end Sys2Proof.Machine
end

