-- ==== Sys2Proof/Laws/Lawful.lean ====
section
/-!
SUPPORT. What every operation on the device keeps: for each, one lemma that the device's laws on feed capacity (R49), map
capacity (R68), part extents (R75), locations (R99) and the suspend stacks (R138) go on holding. An operation that
changes the element table and an entry's location in two moves is shown as a whole.
-/
namespace Sys2Proof.Machine

/-! ### The laws as simp reads them -/

@[simp] theorem Device.lawful_mk {intake : Intake} {ce : Ce} {xe : Xe} {feeds : Vector (Option Feed) 4} {map : SegMap}
    {media : Media} {changer : Changer} {drives : Vector Drive 4} {arb : Arbiter} {ru : RestoreUnit} {vu : VerifyUnit}
    {mu : Management} {link : Link} {agenda : List Task} {moment : Nat} :
    (Device.mk intake ce xe feeds map media changer drives arb ru vu mu link agenda moment).Lawful ↔
      LawsHold feeds map media.carts media.elems drives := Iff.rfl

@[simp] theorem Device.laws_hold {d : Device} (h : d.Lawful) :
    LawsHold d.feeds d.map d.media.carts d.media.elems d.drives := h

@[simp] theorem Feed.law_mk {state pool members departed drive cart assembly staging nextDseq flights returned held
    reservations stall estimate step upCount periodCount speedOut stops written spanFull suspending periodStart} :
    (Feed.mk state pool members departed drive cart assembly staging nextDseq flights returned held reservations stall
      estimate step upCount periodCount speedOut stops written spanFull suspending periodStart).Law ↔
      flights.length ≤ 4 ∧ flights.length + staging.length ≤ 68 := Iff.rfl

@[simp] theorem Feed.law_flights {x : Feed} (h : x.Law) : x.flights.length ≤ 4 := h.1
@[simp] theorem Feed.law_sum {x : Feed} (h : x.Law) : x.flights.length + x.staging.length ≤ 68 := h.2

@[simp] theorem reservationsOf_none : reservationsOf none = 0 := rfl
@[simp] theorem reservationsOf_some (x : Feed) : reservationsOf (some x) = x.reservations.length := rfl

theorem Device.lawful_foldl {α : Type} {g : Device → α → Device} (hg : ∀ d a, d.Lawful → (g d a).Lawful) (l : List α)
    {d : Device} (h : d.Lawful) : (l.foldl g d).Lawful := by
  induction l generalizing d with
  | nil => exact h
  | cons a l ih => exact ih (hg d a h)

/-! ### Operations that touch nothing of the laws -/

@[simp] theorem Device.modStream_lawful {d : Device} {c : StreamId} {g : Stream → Stream} (h : d.Lawful) :
    (d.modStream c g).Lawful := h
@[simp] theorem Device.post_lawful {d : Device} {t : Task} (h : d.Lawful) : (d.post t).Lawful := by
  unfold Device.post; split <;> exact h
@[simp] theorem Device.postAll_lawful {d : Device} {ts : List Task} (h : d.Lawful) : (d.postAll ts).Lawful :=
  Device.lawful_foldl (fun _ _ h => Device.post_lawful h) ts h
@[simp] theorem Device.setEvent_lawful {d : Device} {k : EventKind} {v : Option Event} (h : d.Lawful) :
    (d.setEvent k v).Lawful := h
@[simp] theorem Device.raise_lawful {d : Device} {k : EventKind} {a : EventArg} (h : d.Lawful) :
    (d.raise k a).Lawful := h
@[simp] theorem Device.emit_lawful {d : Device} {f : OutFrame} (h : d.Lawful) : (d.emit f).Lawful := h
@[simp] theorem Device.respond_lawful {d : Device} {tag : Tag} {st : Status} {is : List Item} (h : d.Lawful) :
    (d.respond tag st is).Lawful := h
@[simp] theorem Device.linkError_lawful {d : Device} (h : d.Lawful) : d.linkError.Lawful := h
@[simp] theorem Device.setGrants_lawful {d : Device} {r : RestoreId} {n : Nat} (h : d.Lawful) :
    (d.setGrants r n).Lawful := h
@[simp] theorem Device.modRestore_lawful {d : Device} {r : RestoreId} {g : Restore → Restore} (h : d.Lawful) :
    (d.modRestore r g).Lawful := h
@[simp] theorem Device.modPass_lawful {d : Device} {c : CartId} {g : Pass → Pass} (h : d.Lawful) :
    (d.modPass c g).Lawful := h
@[simp] theorem Device.removeEntry_lawful {d : Device} {c : CartId} (h : d.Lawful) : (d.removeEntry c).Lawful := h
@[simp] theorem Device.putEntry_lawful {d : Device} {e : VerifyEntry} (h : d.Lawful) : (d.putEntry e).Lawful := h
@[simp] theorem Device.modMove_lawful {d : Device} {id : Nat} {g : Move → Move} (h : d.Lawful) :
    (d.modMove id g).Lawful := h
@[simp] theorem Device.modClaim_lawful {d : Device} {order : Nat} {g : Claim → Claim} (h : d.Lawful) :
    (d.modClaim order g).Lawful := h
@[simp] theorem Device.removeClaim_lawful {d : Device} {order : Nat} (h : d.Lawful) :
    (d.removeClaim order).Lawful := h
@[simp] theorem Device.giveOrder_lawful {d : Device} {p : PickerState} {k : OrderKind} (h : d.Lawful) :
    (d.giveOrder p k).Lawful := h
@[simp] theorem Device.takeEntry_lawful {d : Device} (h : d.Lawful) : d.takeEntry.Lawful := h

/-! ### Drives (R138) -/

theorem Device.modDrive_stacks {d : Device} {i : DriveId} {g : Drive → Drive} (h : d.Lawful)
    (hg : StackLaw (d.drive i).stack → StackLaw (g (d.drive i)).stack) : (d.modDrive i g).Lawful :=
  { h with
    suspendStacks := fun j => by
      by_cases hj : i = j
      · subst hj; simpa [Device.modDrive] using hg (h.suspendStacks i)
      · have := h.suspendStacks j
        simpa [Device.modDrive, Vector.getElem_set, Fin.val_ne_of_ne hj] using this }

@[simp] theorem Device.modDrive_lawful {d : Device} {i : DriveId} {g : Drive → Drive} (h : d.Lawful)
    (hg : (g (d.drive i)).stack = (d.drive i).stack) : (d.modDrive i g).Lawful :=
  Device.modDrive_stacks h fun hs => hg ▸ hs

@[simp] theorem Device.issue_lawful {d : Device} {i : DriveId} {cmd : DriveCmd} (h : d.Lawful) : (d.issue i cmd).Lawful :=
  Device.modDrive_lawful h rfl
@[simp] theorem Device.setPhase_lawful {d : Device} {i : DriveId} {p : Phase} (h : d.Lawful) :
    (d.setPhase i p).Lawful := Device.modDrive_lawful h rfl
@[simp] theorem Device.setDrive_lawful {d : Device} {i : DriveId} {s : DriveState} {p : Phase} (h : d.Lawful) :
    (d.setDrive i s p).Lawful := Device.modDrive_lawful h rfl

theorem StackLaw.nil : StackLaw [] := ⟨Nat.zero_le _, fun _ h => nomatch h⟩

theorem StackLaw.sublist {l m : List Context} (h : StackLaw l) (hs : m.Sublist l) : StackLaw m := by
  refine ⟨Nat.le_trans hs.length_le h.1, fun k hk => ?_⟩
  cases m with
  | nil => cases hk
  | cons a m =>
    cases l with
    | nil => cases hs
    | cons b l =>
      refine h.2 k ?_
      have : m.Sublist l := by cases hs with
        | cons _ hs => exact (List.sublist_cons_self a m).trans hs
        | cons_cons _ hs => exact hs
      exact this.subset hk

theorem StackLaw.push {l : List Context} {k : Context} (h : StackLaw l) (hl : l.length < 2)
    (hk : k.work.isFeed = false ∨ l = []) : StackLaw (l ++ [k]) := by
  refine ⟨by simp [Config.stackDepth]; omega, fun x hx => ?_⟩
  cases l with
  | nil => simp at hx
  | cons a l =>
    rcases List.mem_append.mp (by simpa using hx : x ∈ l ++ [k]) with hx | hx
    · exact h.2 x hx
    · rcases hk with hk | hk
      · simp at hx; subst hx; exact hk
      · cases hk

/-! ### Feeds and reservations (R49, R68) -/

theorem Device.feed_law {d : Device} (h : d.Lawful) {f : FeedId} {x : Feed} (hx : d.feed f = some x) : x.Law :=
  h.feedCapacity f x hx

/-- The reservation count with one feed's reservations changed. -/
theorem reservations_set {feeds : Vector (Option Feed) 4} {f : FeedId} {v : Option Feed} {n : Nat}
    (h : n = reservationsOf feeds[0] + reservationsOf feeds[1] + reservationsOf feeds[2] + reservationsOf feeds[3]) :
    reservationsOf (feeds.set f v)[0] + reservationsOf (feeds.set f v)[1] + reservationsOf (feeds.set f v)[2]
      + reservationsOf (feeds.set f v)[3] + reservationsOf feeds[f] = n + reservationsOf v := by
  subst h
  match f with
  | 0 | 1 | 2 | 3 => simp; omega

/-- A feed entry and the reservation count written together. -/
theorem Device.setFeed_reserved {d : Device} {f : FeedId} {v : Option Feed} {n : Nat} (h : d.Lawful)
    (hv : ∀ x, v = some x → x.Law) (hn : n + reservationsOf (d.feed f) = d.map.reserved + reservationsOf v)
    (hc : d.map.parts.length + n ≤ 4096) :
    ({ d.setFeed f v with map := { d.map with reserved := n } } : Device).Lawful :=
  { h with
    feedCapacity := fun y x hx => by
      by_cases hy : f = y
      · subst hy; exact hv x (by simpa [Device.setFeed] using hx)
      · exact h.feedCapacity y x (by simpa [Device.setFeed, Vector.getElem_set, Fin.val_ne_of_ne hy] using hx)
    mapCapacity :=
      { h.mapCapacity with
        capacity := hc
        reserved := by
          have hr := reservations_set (f := f) (v := v) h.mapCapacity.reserved
          simp only [Device.feed] at hn
          simp only [Device.setFeed]
          omega } }

theorem Device.setFeed_lawful {d : Device} {f : FeedId} {v : Option Feed} (h : d.Lawful)
    (hv : ∀ x, v = some x → x.Law) (hn : reservationsOf v = reservationsOf (d.feed f)) : (d.setFeed f v).Lawful :=
  Device.setFeed_reserved h hv (by rw [hn]) h.mapCapacity.capacity

@[simp] theorem Device.setFeedSome_lawful {d : Device} {f : FeedId} {x : Feed} (h : d.Lawful) (hx : x.Law)
    (hn : x.reservations.length = reservationsOf (d.feed f)) : (d.setFeed f (some x)).Lawful :=
  Device.setFeed_lawful h (fun _ hy => by cases hy; exact hx) hn

theorem Device.modFeed_lawful {d : Device} {f : FeedId} {g : Feed → Feed} (h : d.Lawful)
    (hg : ∀ x, x.Law → (g x).Law ∧ (g x).reservations.length = x.reservations.length) : (d.modFeed f g).Lawful := by
  refine Device.setFeed_lawful h (fun x hx => ?_) ?_
  · obtain ⟨y, hy, rfl⟩ := Option.map_eq_some_iff.mp hx
    exact (hg y (Device.feed_law h hy)).1
  · cases hx : d.feed f with
    | none => rfl
    | some x => exact (hg x (Device.feed_law h hx)).2

@[simp] theorem Device.modFeed_lawful_same {d : Device} {f : FeedId} {g : Feed → Feed} (h : d.Lawful)
    (hg : ∀ x, (g x).staging = x.staging ∧ (g x).flights = x.flights ∧ (g x).reservations = x.reservations) :
    (d.modFeed f g).Lawful := by
  refine Device.modFeed_lawful h fun x hx => ?_
  obtain ⟨h1, h2, h3⟩ := hg x
  simp only [Feed.Law, h1, h2, h3, and_true]; exact hx

/-! ### The segment map (R68, R75) -/

theorem Device.reserved_ge {d : Device} (h : d.Lawful) (f : FeedId) : reservationsOf (d.feed f) ≤ d.map.reserved := by
  have := h.mapCapacity.reserved
  match f with
  | 0 | 1 | 2 | 3 => simp only [Device.feed, Fin.getElem_fin] at *; simp at *; omega

/-- The part records replaced by others with the same ids that keep the law on extents. -/
theorem Device.modPart_lawful {d : Device} {id : Nat} {g : Part → Part} (h : d.Lawful) (hid : ∀ p, (g p).id = p.id)
    (hg : ∀ p ∈ d.map.parts, p.id = id → p.firstBlock ≤ p.lastBlock → p.firstSeq ≤ p.lastSeq →
      (∃ e n, d.cart p.cart = some e ∧ e.eod = some n ∧ p.lastBlock < n) →
      (g p).firstBlock ≤ (g p).lastBlock ∧ (g p).firstSeq ≤ (g p).lastSeq ∧
        ∃ e n, d.cart (g p).cart = some e ∧ e.eod = some n ∧ (g p).lastBlock < n) : (d.modPart id g).Lawful :=
  { h with
    mapCapacity :=
      { h.mapCapacity with
        capacity := by simpa [Device.modPart] using h.mapCapacity.capacity
        rising := by
          have hids : ∀ p, (if p.id = id then g p else p).id = p.id := fun p => by split <;> simp [hid]
          simpa [Device.modPart, List.pairwise_map, hids] using h.mapCapacity.rising }
    extents := fun p hp => by
      obtain ⟨q, hq, rfl⟩ := List.mem_map.mp hp
      have hx := h.extents q hq
      split
      · exact hg q hq ‹_› hx.1 hx.2.1 hx.2.2
      · exact hx }

@[simp] theorem Device.modPart_lawful_same {d : Device} {id : Nat} {g : Part → Part} (h : d.Lawful)
    (hg : ∀ p, (g p).id = p.id ∧ (g p).cart = p.cart ∧ (g p).firstBlock = p.firstBlock ∧
      (g p).lastBlock = p.lastBlock ∧ (g p).firstSeq = p.firstSeq ∧ (g p).lastSeq = p.lastSeq) :
    (d.modPart id g).Lawful := by
  refine Device.modPart_lawful h (fun p => (hg p).1) fun p _ _ h1 h2 h3 => ?_
  obtain ⟨_, hc, a, b, c, e⟩ := hg p
  rw [a, b, c, e, hc]
  exact ⟨h1, h2, h3⟩

theorem insertPart_length (p : Part) (l : List Part) : (insertPart p l).length = l.length + 1 := by
  induction l with
  | nil => rfl
  | cons q qs ih => unfold insertPart; split <;> simp [ih]

theorem insertPart_rising {p : Part} {l : List Part} (h : l.Pairwise fun a b => a.id < b.id)
    (hp : ∀ q ∈ l, q.id ≠ p.id) : (insertPart p l).Pairwise fun a b => a.id < b.id := by
  induction l with
  | nil => simp [insertPart]
  | cons q qs ih =>
    have hq := List.pairwise_cons.mp h
    have hne := hp q (List.mem_cons_self ..)
    unfold insertPart
    split
    · rename_i hle
      refine List.pairwise_cons.mpr ⟨fun x hx => ?_, h⟩
      rcases List.mem_cons.mp hx with rfl | hx
      · omega
      · have := hq.1 x hx; omega
    · rename_i hle
      refine List.pairwise_cons.mpr ⟨fun x hx => ?_, ih hq.2 fun x hx => hp x (List.mem_cons_of_mem _ hx)⟩
      rcases mem_insertPart.mp hx with rfl | hx
      · omega
      · exact hq.1 x hx

/-- A part record added: its id is free, the map has room, and it keeps the law on extents. -/
theorem Device.addPart_lawful {d : Device} {p : Part} (h : d.Lawful) (hroom : d.map.parts.length + d.map.reserved < 4096)
    (hid : ∀ q ∈ d.map.parts, q.id ≠ p.id) (hb : p.firstBlock ≤ p.lastBlock) (hs : p.firstSeq ≤ p.lastSeq)
    (hc : ∃ e n, d.cart p.cart = some e ∧ e.eod = some n ∧ p.lastBlock < n) : (d.addPart p).Lawful :=
  { h with
    mapCapacity :=
      { h.mapCapacity with
        capacity := by
          have : (d.addPart p).map.parts.length = d.map.parts.length + 1 := insertPart_length ..
          show (d.addPart p).map.parts.length + d.map.reserved ≤ 4096
          omega
        rising := insertPart_rising h.mapCapacity.rising hid }
    extents := fun q hq => by
      rcases mem_insertPart.mp hq with rfl | hq
      · exact ⟨hb, hs, hc⟩
      · exact h.extents q hq }

@[simp] theorem Device.freePart_lawful {d : Device} {id : Nat} (h : d.Lawful) : (d.freePart id).Lawful :=
  { h with
    mapCapacity :=
      { h.mapCapacity with
        capacity := by
          have := List.length_filter_le (fun p => p.id != id) d.map.parts
          have := h.mapCapacity.capacity
          simp only [Device.freePart]; omega
        rising := h.mapCapacity.rising.filter _ }
    extents := fun p hp => h.extents p (List.mem_filter.mp hp).1 }

/-- The counter moves on cyclically. -/
theorem nextPartId_eq {n : Nat} (h1 : 1 ≤ n) (h2 : n ≤ 0xFFFFFFFF) : nextPartId n = n % 0xFFFFFFFF + 1 := by
  unfold nextPartId Config.max32; split <;> omega

theorem Device.part?_isSome {d : Device} {id : Nat} : (d.part? id).isSome = true ↔ ∃ p ∈ d.map.parts, p.id = id := by
  simp [Device.part?]

/-- The id the search gives, when it has looked at no more ids than there are: free, or every id looked at is held. -/
theorem freePartId_held (used : Nat → Bool) (fuel n : Nat) (h1 : 1 ≤ n) (h2 : n ≤ 0xFFFFFFFF)
    (hf : used (freePartId used fuel n) = true) :
    ∀ k, k < fuel → used ((n - 1 + k) % 0xFFFFFFFF + 1) = true := by
  induction fuel generalizing n with
  | zero => intro k hk; omega
  | succ m ih =>
    unfold freePartId at hf
    split at hf
    · rename_i hu
      have hr := nextPartId_range n
      have he := nextPartId_eq h1 h2
      intro k hk
      cases k with
      | zero =>
        rw [show (n - 1 + 0) % 0xFFFFFFFF + 1 = n from by omega]; exact hu
      | succ k =>
        have := ih (nextPartId n) hr.1 (by simpa [Config.max32] using hr.2) hf k (by omega)
        rw [he] at this
        rw [show (n - 1 + (k + 1)) % 0xFFFFFFFF = (n % 0xFFFFFFFF + 1 - 1 + k) % 0xFFFFFFFF from by omega]
        exact this
    · exact absurd hf ‹_›

/-- The id a new part takes is held by no record in use (R66). -/
theorem Device.newPartId_free {d : Device} (hc : 1 ≤ d.map.counter ∧ d.map.counter ≤ Config.max32)
    (hl : d.map.parts.length ≤ 4096) : ∀ p ∈ d.map.parts, p.id ≠ d.newPartId := by
  intro p hp he
  have hf := freePartId_held (fun n => (d.part? n).isSome) (d.map.parts.length + 1) d.map.counter hc.1
    (by simpa [Config.max32] using hc.2) (Device.part?_isSome.mpr ⟨p, hp, he⟩)
  have hs : (Finset.range (d.map.parts.length + 1)).card ≤ (d.map.parts.map (·.id)).toFinset.card := by
    refine Finset.card_le_card_of_injOn (fun k => (d.map.counter - 1 + k) % 0xFFFFFFFF + 1) (fun k hk => ?_) ?_
    · obtain ⟨q, hq, hqk⟩ := Device.part?_isSome.mp (hf k (by simpa using hk))
      simp only [Finset.mem_coe, List.mem_toFinset, List.mem_map]
      exact ⟨q, hq, hqk⟩
    · intro a ha b hb hab
      simp at ha hb hab
      omega
  have := List.toFinset_card_le (d.map.parts.map (·.id))
  simp at hs this
  omega

/-- A part created for a record on a cartridge whose EOD lies beyond the record's block. -/
theorem Device.createPart_lawful {d : Device} {r : Option PartRef} {c : CartId} {rec : Record} {b : Nat} (h : d.Lawful)
    (hroom : d.map.parts.length + d.map.reserved < 4096)
    (hc : ∃ e n, d.cart c = some e ∧ e.eod = some n ∧ b < n) : (d.createPart r c rec b).1.Lawful :=
  have h1 : (d.addPart (Part.create d.newPartId (nextPartNumber r) c rec b)).Lawful :=
    Device.addPart_lawful h hroom (Device.newPartId_free h.mapCapacity.counter (by omega)) (Nat.le_refl _) (Nat.le_refl _) hc
  { h1 with mapCapacity := { h1.mapCapacity with counter := nextPartId_range _ } }

/-! ### Cartridge entries and elements (R75, R99) -/

theorem Device.lawful_media {d d' : Device} (h : d.Lawful) (hf : d'.feeds = d.feeds) (hm : d'.map = d.map)
    (hd : d'.drives = d.drives) (he : ∀ p ∈ d.map.parts, ∀ e n, d.cart p.cart = some e → e.eod = some n → p.lastBlock < n →
      ∃ e' n', d'.cart p.cart = some e' ∧ e'.eod = some n' ∧ n ≤ n')
    (hl : LocationLaw d'.media.carts d'.media.elems) : d'.Lawful where
  feedCapacity := by rw [hf]; exact h.feedCapacity
  mapCapacity := by rw [hf, hm]; exact h.mapCapacity
  extents := fun p hp => by
    rw [hm] at hp
    obtain ⟨h1, h2, e, n, h3, h4, h5⟩ := h.extents p hp
    obtain ⟨e', n', a, b, c⟩ := he p hp e n h3 h4 h5
    exact ⟨h1, h2, e', n', a, b, Nat.lt_of_lt_of_le h5 c⟩
  locations := hl
  suspendStacks := by rw [hd]; exact h.suspendStacks

/-- The location law read through the device's own operations. -/
theorem Device.located_iff {d : Device} : LocationLaw d.media.carts d.media.elems ↔
    ∀ c e, entryLocation (d.cart c) = some (.at e) ↔ (d.elem e).content = .occupied c := by
  unfold LocationLaw entryLocation Device.cart Device.row Device.elem
  simp

theorem Device.located {d : Device} (h : d.Lawful) (c : CartId) (e : ElemId) :
    entryLocation (d.cart c) = some (.at e) ↔ (d.elem e).content = .occupied c :=
  Device.located_iff.mp h.locations c e

@[simp] theorem Device.modElem_lawful {d : Device} {e : ElemId} {g : Element → Element} (h : d.Lawful)
    (hg : (g (d.elem e)).content = (d.elem e).content) : (d.modElem e g).Lawful := by
  refine Device.lawful_media h rfl rfl rfl (fun p _ e n h1 h2 _ => ⟨e, n, h1, h2, Nat.le_refl _⟩) ?_
  refine Device.located_iff.mpr fun c y => ?_
  rw [show (d.modElem e g).cart c = d.cart c from rfl, Device.located h]
  by_cases hy : e = y
  · subst hy; simp [Device.elem, Device.modElem] at hg ⊢; rw [hg]
  · simp [Device.elem, Device.modElem, Fin.val_ne_of_ne hy]

theorem Device.elem_setContent {d : Device} {e y : ElemId} {v : Content} :
    ((d.setContent e v).elem y).content = if y = e then v else (d.elem y).content := by
  have hm : ((d.modElem e fun x => { x with content := v }).elem y).content =
      if y = e then v else (d.elem y).content := by
    by_cases hy : e = y
    · subst hy; simp [Device.elem, Device.modElem]
    · simp [Device.elem, Device.modElem, Fin.val_ne_of_ne hy, Ne.symm hy]
  unfold Device.setContent
  dsimp only
  repeat' split
  all_goals simp_all

theorem Device.cart_setContent {d : Device} {e : ElemId} {v : Content} {c : CartId} :
    (d.setContent e v).cart c = d.cart c := by
  unfold Device.setContent
  dsimp only
  repeat' split
  all_goals try simp
  all_goals rfl

/-- No cartridge stands in two elements (R99). -/
theorem Device.one_place {d : Device} (h : d.Lawful) (c : CartId) (e y : ElemId) (he : (d.elem e).content = .occupied c)
    (hy : (d.elem y).content = .occupied c) : e = y := by
  have h1 := (Device.located h c e).mpr he
  have h2 := (Device.located h c y).mpr hy
  rw [h1] at h2
  cases h2; rfl

/-- An operation that changes nothing but entries, elements and the agenda. -/
structure Device.MediaOnly (d d' : Device) : Prop where
  feeds : d'.feeds = d.feeds
  map : d'.map = d.map
  drives : d'.drives = d.drives

theorem Device.MediaOnly.refl (d : Device) : d.MediaOnly d := ⟨rfl, rfl, rfl⟩
theorem Device.MediaOnly.trans {a b c : Device} (h : a.MediaOnly b) (k : b.MediaOnly c) : a.MediaOnly c :=
  ⟨k.feeds.trans h.feeds, k.map.trans h.map, k.drives.trans h.drives⟩
theorem Device.postAll_mediaOnly (d : Device) (ts : List Task) : d.MediaOnly (d.postAll ts) := by
  unfold Device.postAll
  induction ts generalizing d with
  | nil => exact .refl d
  | cons t ts ih => exact .trans ⟨by simp, by simp, by simp⟩ (ih _)
theorem Device.cart_postAll (d : Device) (ts : List Task) (c : CartId) : (d.postAll ts).cart c = d.cart c := by
  unfold Device.postAll
  induction ts generalizing d with
  | nil => rfl
  | cons t ts ih => exact (ih _).trans (by simp)
theorem Device.elem_postAll (d : Device) (ts : List Task) (e : ElemId) : (d.postAll ts).elem e = d.elem e := by
  unfold Device.postAll
  induction ts generalizing d with
  | nil => rfl
  | cons t ts ih => exact (ih _).trans (by simp)

theorem Device.setContent_media (d : Device) (e : ElemId) (v : Content) : d.MediaOnly (d.setContent e v) := by
  unfold Device.setContent
  dsimp only
  repeat' split
  all_goals exact ⟨by simp, by simp, by simp⟩

theorem Device.setRow_media (d : Device) (c : CartId) (r : CartRow) : d.MediaOnly (d.setRow c r) := ⟨rfl, rfl, rfl⟩

theorem Device.cart_setRow (d : Device) (c x : CartId) (r : CartRow) :
    (d.setRow c r).cart x = if x = c then r.entry else d.cart x := by
  by_cases hx : c = x
  · subst hx; simp [Device.cart, Device.row, Device.setRow]
  · simp [Device.cart, Device.row, Device.setRow, Fin.val_ne_of_ne hx, Ne.symm hx]

/-- What writing an entry leaves: the entry alone, and decisions. -/
theorem Device.writeCart_all (d : Device) (c : CartId) (e : Option Cart) :
    d.MediaOnly (d.writeCart c e) ∧ (∀ x, (d.writeCart c e).cart x = if x = c then e else d.cart x) ∧
      ∀ y, (d.writeCart c e).elem y = d.elem y := by
  unfold Device.writeCart
  extract_lets old a b g
  split
  · rename_i he
    exact ⟨.refl d, fun x => by split <;> simp_all [old], fun _ => rfl⟩
  · have hb : d.MediaOnly b ∧ (∀ x, b.cart x = if x = c then e else d.cart x) ∧ ∀ y, b.elem y = d.elem y := by
      have ha : d.MediaOnly a ∧ (∀ x, a.cart x = if x = c then e else d.cart x) ∧ ∀ y, a.elem y = d.elem y :=
        ⟨Device.setRow_media .., fun x => Device.cart_setRow .., fun _ => rfl⟩
      unfold b
      split
      · exact ha
      · exact ⟨.trans ha.1 ⟨by simp, by simp, by simp⟩, by simpa using ha.2.1, by simpa using ha.2.2⟩
    have hg : d.MediaOnly g ∧ (∀ x, g.cart x = if x = c then e else d.cart x) ∧ ∀ y, g.elem y = d.elem y := by
      unfold g
      split
      · split
        · exact ⟨.trans hb.1 ⟨by simp, by simp, by simp⟩, by simpa using hb.2.1, by simpa using hb.2.2⟩
        · exact hb
      · exact hb
    exact ⟨.trans hg.1 (Device.postAll_mediaOnly ..), fun x => (Device.cart_postAll ..).trans (hg.2.1 x),
      fun y => (Device.elem_postAll ..).trans (hg.2.2 y)⟩

theorem Device.writeCart_media (d : Device) (c : CartId) (e : Option Cart) : d.MediaOnly (d.writeCart c e) :=
  (Device.writeCart_all d c e).1
theorem Device.cart_writeCart (d : Device) (c x : CartId) (e : Option Cart) :
    (d.writeCart c e).cart x = if x = c then e else d.cart x := (Device.writeCart_all d c e).2.1 x
theorem Device.elem_writeCart (d : Device) (c : CartId) (e : Option Cart) (y : ElemId) :
    (d.writeCart c e).elem y = d.elem y := (Device.writeCart_all d c e).2.2 y

theorem Device.editCart_media (d : Device) (c : CartId) (g : Cart → Cart) : d.MediaOnly (d.editCart c g) := by
  unfold Device.editCart; split
  · exact Device.writeCart_media ..
  · exact .refl d
theorem Device.cart_editCart (d : Device) (c x : CartId) (g : Cart → Cart) :
    (d.editCart c g).cart x = if x = c then (d.cart c).map g else d.cart x := by
  unfold Device.editCart; split
  · rename_i e he; rw [Device.cart_writeCart, he]; rfl
  · rename_i he; split <;> simp_all
theorem Device.elem_editCart (d : Device) (c : CartId) (g : Cart → Cart) (y : ElemId) :
    (d.editCart c g).elem y = d.elem y := by
  unfold Device.editCart; split
  · exact Device.elem_writeCart ..
  · rfl

theorem Device.elem_forgetFormer (d : Device) (c : CartId) (y : ElemId) :
    ((d.forgetFormer c).elem y).content =
      if (d.elem y).content = .unknown (some c) then .unknown none else (d.elem y).content := by
  unfold Device.forgetFormer Device.elem
  simp only [Fin.getElem_fin, Vector.getElem_map]
  split <;> rfl
theorem Device.forgetFormer_media (d : Device) (c : CartId) : d.MediaOnly (d.forgetFormer c) := ⟨rfl, rfl, rfl⟩
theorem Device.cart_forgetFormer (d : Device) (c x : CartId) : (d.forgetFormer c).cart x = d.cart x := rfl

/-- An entry written that keeps its location, and an EOD that does not fall. -/
theorem Device.writeCart_lawful {d : Device} {c : CartId} {e : Option Cart} (h : d.Lawful)
    (hl : ∀ y, entryLocation e = some (.at y) ↔ entryLocation (d.cart c) = some (.at y))
    (he : (∃ p ∈ d.map.parts, p.cart = c) → ∀ x n, d.cart c = some x → x.eod = some n →
      ∃ y m, e = some y ∧ y.eod = some m ∧ n ≤ m) : (d.writeCart c e).Lawful := by
  have hm := Device.writeCart_media d c e
  refine Device.lawful_media h hm.feeds hm.map hm.drives (fun p hp x n h1 h2 _ => ?_) ?_
  · rw [Device.cart_writeCart]
    by_cases hc : p.cart = c
    · rw [if_pos hc]; exact he ⟨p, hp, hc⟩ x n (hc ▸ h1) h2
    · rw [if_neg hc]; exact ⟨x, n, h1, h2, Nat.le_refl n⟩
  · refine Device.located_iff.mpr fun x y => ?_
    rw [Device.elem_writeCart, Device.cart_writeCart, ← Device.located h]
    split
    · rename_i hx; rw [hx]; exact hl y
    · exact Iff.rfl

/-- An entry changed that keeps its location, and an EOD that does not fall. -/
theorem Device.editCart_lawful {d : Device} {c : CartId} {g : Cart → Cart} (h : d.Lawful)
    (hl : ∀ x, (g x).location = x.location)
    (he : (∃ p ∈ d.map.parts, p.cart = c) → ∀ x n, d.cart c = some x → x.eod = some n →
      ∃ m, (g x).eod = some m ∧ n ≤ m) : (d.editCart c g).Lawful := by
  unfold Device.editCart
  split
  · rename_i x hx
    refine Device.writeCart_lawful h (fun y => by simp [entryLocation, hx, hl]) fun hp z n hz hn => ?_
    obtain ⟨m, h1, h2⟩ := he hp z n hz hn
    rw [hx] at hz; cases hz
    exact ⟨g x, m, rfl, h1, h2⟩
  · exact h

@[simp] theorem Device.editCart_lawful_same {d : Device} {c : CartId} {g : Cart → Cart} (h : d.Lawful)
    (hg : ∀ x, (g x).location = x.location ∧ (g x).eod = x.eod) : (d.editCart c g).Lawful :=
  Device.editCart_lawful h (fun x => (hg x).1) fun _ x n _ hn => ⟨n, by rw [(hg x).2, hn], Nat.le_refl n⟩

/-- The elements that locations name, after a change that gives an entry a location of its own. -/
theorem Device.at_editCart {d : Device} {c x : CartId} {g : Cart → Cart} {l : Location} {y : ElemId}
    (hg : ∀ x, (g x).location = l) : entryLocation ((d.editCart c g).cart x) = some (.at y) ↔
      if x = c then (d.cart c).isSome = true ∧ l = .at y else entryLocation (d.cart x) = some (.at y) := by
  rw [Device.cart_editCart]
  split
  · cases d.cart c <;> simp [entryLocation, hg]
  · rfl

/-- The EOD in an entry as a table. -/
def Device.eodOf (d : Device) (c : CartId) : Option (Option Nat) := (d.cart c).map (·.eod)

theorem Device.eodOf_editCart {d : Device} {c x : CartId} {g : Cart → Cart} (hg : ∀ x, (g x).eod = x.eod) :
    (d.editCart c g).eodOf x = d.eodOf x := by
  unfold Device.eodOf
  rw [Device.cart_editCart]
  split
  · rename_i h; rw [h]; cases d.cart c <;> simp [hg]
  · rfl

theorem Device.eodOf_setContent {d : Device} {e : ElemId} {v : Content} {x : CartId} :
    (d.setContent e v).eodOf x = d.eodOf x := by unfold Device.eodOf; rw [Device.cart_setContent]
theorem Device.eodOf_forgetFormer {d : Device} {c x : CartId} : (d.forgetFormer c).eodOf x = d.eodOf x := rfl

/-- A whole operation on entries and elements: it keeps every EOD, and the location law. -/
theorem Device.lawful_whole {d d' : Device} (h : d.Lawful) (hm : d.MediaOnly d')
    (he : ∀ c, d.eodOf c ≠ none → d'.eodOf c = d.eodOf c)
    (hl : ∀ c e, entryLocation (d'.cart c) = some (.at e) ↔ (d'.elem e).content = .occupied c) : d'.Lawful := by
  refine Device.lawful_media h hm.feeds hm.map hm.drives (fun p _ x n h1 h2 _ => ?_) (Device.located_iff.mpr hl)
  have hx : d.eodOf p.cart = some (some n) := by simp [Device.eodOf, h1, h2]
  have hy := (he p.cart (by simp [hx])).trans hx
  obtain ⟨y, hy, hn⟩ := Option.map_eq_some_iff.mp hy
  exact ⟨y, n, hy, hn, Nat.le_refl n⟩

theorem Device.loseCart_media (d : Device) (c : CartId) : d.MediaOnly (d.loseCart c) := Device.editCart_media ..
theorem Device.elem_loseCart (d : Device) (c : CartId) (y : ElemId) : (d.loseCart c).elem y = d.elem y :=
  Device.elem_editCart ..
theorem Device.at_loseCart (d : Device) (c x : CartId) (y : ElemId) :
    entryLocation ((d.loseCart c).cart x) = some (.at y) ↔ x ≠ c ∧ entryLocation (d.cart x) = some (.at y) := by
  rw [show d.loseCart c = d.editCart c _ from rfl, Device.at_editCart (l := .unknown) fun _ => rfl]
  split <;> simp_all
theorem Device.eodOf_loseCart (d : Device) (c x : CartId) : (d.loseCart c).eodOf x = d.eodOf x :=
  Device.eodOf_editCart fun _ => rfl

theorem Device.cartOutside_media (d : Device) (c : CartId) : d.MediaOnly (d.cartOutside c) := Device.editCart_media ..
theorem Device.elem_cartOutside (d : Device) (c : CartId) (y : ElemId) : (d.cartOutside c).elem y = d.elem y :=
  Device.elem_editCart ..
theorem Device.at_cartOutside (d : Device) (c x : CartId) (y : ElemId) :
    entryLocation ((d.cartOutside c).cart x) = some (.at y) ↔ x ≠ c ∧ entryLocation (d.cart x) = some (.at y) := by
  rw [show d.cartOutside c = d.editCart c _ from rfl, Device.at_editCart (l := .outside) fun _ => rfl]
  split <;> simp_all
theorem Device.eodOf_cartOutside (d : Device) (c x : CartId) : (d.cartOutside c).eodOf x = d.eodOf x :=
  Device.eodOf_editCart fun _ => rfl

theorem Device.settleIn_media (d : Device) (e : ElemId) (c : CartId) : d.MediaOnly (d.settleIn e c) :=
  .trans (Device.setContent_media ..) (.trans (Device.forgetFormer_media ..) (Device.editCart_media ..))
theorem Device.elem_settleIn (d : Device) (e : ElemId) (c : CartId) (y : ElemId) :
    ((d.settleIn e c).elem y).content =
      if y = e then .occupied c
      else if (d.elem y).content = .unknown (some c) then .unknown none else (d.elem y).content := by
  unfold Device.settleIn
  dsimp only
  rw [Device.elem_editCart, Device.elem_forgetFormer, Device.elem_setContent]
  split <;> simp
theorem Device.at_settleIn (d : Device) (e : ElemId) (c x : CartId) (y : ElemId) :
    entryLocation ((d.settleIn e c).cart x) = some (.at y) ↔
      if x = c then (d.cart c).isSome = true ∧ e = y else entryLocation (d.cart x) = some (.at y) := by
  unfold Device.settleIn
  dsimp only
  rw [Device.at_editCart (l := .at e) fun _ => rfl, Device.cart_forgetFormer, Device.cart_setContent,
    Device.cart_forgetFormer, Device.cart_setContent]
  simp
theorem Device.eodOf_settleIn (d : Device) (e : ElemId) (c x : CartId) : (d.settleIn e c).eodOf x = d.eodOf x := by
  unfold Device.settleIn
  dsimp only
  refine Eq.trans (Device.eodOf_editCart ?_) ?_
  · exact fun _ => rfl
  · rw [Device.eodOf_forgetFormer, Device.eodOf_setContent]

@[simp] theorem Device.loseElem_lawful {d : Device} {e : ElemId} (h : d.Lawful) : (d.loseElem e).Lawful := by
  have hl := Device.located h
  have hu := Device.one_place h
  unfold Device.loseElem
  split
  · rename_i c hc
    refine Device.lawful_whole h (.trans (Device.setContent_media ..) (Device.loseCart_media ..)) (fun x _ => ?_)
      fun x y => ?_
    · rw [Device.eodOf_loseCart, Device.eodOf_setContent]
    · rw [Device.at_loseCart, Device.elem_loseCart, Device.elem_setContent, Device.cart_setContent]
      grind
  all_goals
    first
    | exact h
    | refine Device.lawful_whole h (Device.setContent_media ..) (fun x _ => Device.eodOf_setContent) fun x y => ?_
      rw [Device.cart_setContent, Device.elem_setContent]
      grind

theorem Device.displaced_eq {d : Device} {e : ElemId} {c : CartId} (hc : d.displaced e = some c) :
    (d.elem e).content = .occupied c ∨
      ((d.elem e).content = .unknown (some c) ∧ entryLocation (d.cart c) = some .unknown) := by
  unfold Device.displaced at hc
  split at hc
  · cases hc; left; assumption
  · split at hc <;> cases hc
    right
    refine ⟨‹_›, ?_⟩
    rename_i hu
    cases hx : d.cart c <;> simp [hx] at hu
    simp [entryLocation, hu]
  · cases hc

theorem Device.displaced_none {d : Device} {e : ElemId} (hc : d.displaced e = none) (c : CartId) :
    (d.elem e).content ≠ .occupied c := by
  intro h; simp [Device.displaced, h] at hc

@[simp] theorem Device.scanEmpty_lawful {d : Device} {e : ElemId} (h : d.Lawful) : (d.scanEmpty e).Lawful := by
  have hl := Device.located h
  have hu := Device.one_place h
  unfold Device.scanEmpty
  dsimp only
  split
  · rename_i c hc
    have hd := Device.displaced_eq hc
    split
    · refine Device.lawful_whole h (.trans (Device.setContent_media ..) (Device.cartOutside_media ..)) (fun x _ => ?_)
        fun x y => ?_
      · rw [Device.eodOf_cartOutside, Device.eodOf_setContent]
      · rw [Device.at_cartOutside, Device.elem_cartOutside, Device.elem_setContent, Device.cart_setContent]
        grind
    · refine Device.lawful_whole h (.trans (Device.setContent_media ..) (Device.loseCart_media ..)) (fun x _ => ?_)
        fun x y => ?_
      · rw [Device.eodOf_loseCart, Device.eodOf_setContent]
      · rw [Device.at_loseCart, Device.elem_loseCart, Device.elem_setContent, Device.cart_setContent]
        grind
  · rename_i hc
    have hd := Device.displaced_none hc
    refine Device.lawful_whole h (Device.setContent_media ..) (fun x _ => Device.eodOf_setContent) fun x y => ?_
    rw [Device.cart_setContent, Device.elem_setContent]
    grind

/-- The displaced occupant of an element lost, before the element's content is set (R101). -/
theorem Device.lose_displaced {d : Device} (e : ElemId) (h : d.Lawful) :
    let d' := d.loseDisplaced e
    d.MediaOnly d' ∧ (∀ c, d'.eodOf c = d.eodOf c) ∧ (∀ y, d'.elem y = d.elem y) ∧
      ∀ c y, entryLocation (d'.cart c) = some (.at y) ↔ (d.elem y).content = .occupied c ∧ y ≠ e := by
  have hl := Device.located h
  have hu := Device.one_place h
  dsimp only
  unfold Device.loseDisplaced
  split
  · rename_i c hc
    have hd := Device.displaced_eq hc
    refine ⟨Device.loseCart_media .., fun _ => Device.eodOf_loseCart .., fun _ => Device.elem_loseCart .., fun x y => ?_⟩
    rw [Device.at_loseCart]
    grind
  · rename_i hc
    have hn := Device.displaced_none hc
    exact ⟨.refl d, fun _ => rfl, fun _ => rfl, fun c y => by grind⟩

@[simp] theorem Device.scanUnreadable_lawful {d : Device} {e : ElemId} (h : d.Lawful) : (d.scanUnreadable e).Lawful := by
  have hu := Device.one_place h
  obtain ⟨hm, he, hc, hl⟩ := Device.lose_displaced e h
  unfold Device.scanUnreadable
  generalize d.loseDisplaced e = d1 at *
  refine Device.lawful_whole h (.trans hm (Device.setContent_media ..)) (fun x _ => ?_) fun x y => ?_
  · rw [Device.eodOf_setContent, he]
  · rw [Device.cart_setContent, Device.elem_setContent, hl, hc]
    grind

theorem Device.isSome_location {d : Device} {c : CartId} {l : Location} (h : entryLocation (d.cart c) = some l) :
    (d.cart c).isSome = true := by
  cases hc : d.cart c <;> simp [entryLocation, hc] at h ⊢

theorem Device.byBarcode_isSome {d : Device} {x : Bytes} {c : CartId} (h : d.byBarcode x = some c) :
    (d.cart c).isSome = true := by
  have := List.find?_some h
  cases hc : d.cart c <;> simp [hc] at this ⊢

theorem Device.emptyRow_none {d : Device} {c : CartId} (h : d.emptyRow = some c) : d.cart c = none := by
  simpa using List.find?_some h

theorem Device.isSome_eodOf {d : Device} {c : CartId} : (d.cart c).isSome = (d.eodOf c).isSome := by
  simp [Device.eodOf]

@[simp] theorem Device.scanBarcode_lawful {d : Device} {e : ElemId} {x : Bytes} (h : d.Lawful) :
    (d.scanBarcode e x).1.Lawful := by
  have hl := Device.located h
  have hu := Device.one_place h
  unfold Device.scanBarcode
  split
  · rename_i c hc
    have hs := Device.byBarcode_isSome hc
    extract_lets d1 d2
    -- the element the cartridge stood in
    have h1 : d.MediaOnly d1 ∧ (∀ c, d1.cart c = d.cart c) ∧
        ∀ y, (d1.elem y).content = if y ≠ e ∧ (d.elem y).content = .occupied c then .unknown none
          else (d.elem y).content := by
      unfold d1
      split
      · rename_i f hf
        have := (hl c f).mp hf
        split
        · exact ⟨.refl d, fun _ => rfl, fun y => by grind⟩
        · refine ⟨Device.setContent_media .., fun _ => Device.cart_setContent, fun y => ?_⟩
          rw [Device.elem_setContent]; grind
      · rename_i hf
        exact ⟨.refl d, fun _ => rfl, fun y => by have := hl c y; grind⟩
    obtain ⟨m1, c1, k1⟩ := h1
    clear_value d1
    have hd : d1.displaced e = d.displaced e := by
      have : (d1.elem e).content = (d.elem e).content := by rw [k1]; simp
      simp only [Device.displaced, this, c1]
    -- what the element held
    have h2 : d1.MediaOnly d2 ∧ (∀ c, d2.eodOf c = d.eodOf c) ∧ (∀ y, d2.elem y = d1.elem y) ∧
        ∀ z y, z ≠ c → (entryLocation (d2.cart z) = some (.at y) ↔ (d.elem y).content = .occupied z ∧ y ≠ e) := by
      unfold d2
      rw [hd]
      split
      · rename_i o ho
        have := Device.displaced_eq ho
        split
        · exact ⟨.refl d1, fun _ => by unfold Device.eodOf; rw [c1], fun _ => rfl, fun z y hz => by rw [c1]; grind⟩
        · refine ⟨Device.loseCart_media .., fun _ => ?_, fun _ => Device.elem_loseCart .., fun z y hz => ?_⟩
          · rw [Device.eodOf_loseCart]; unfold Device.eodOf; rw [c1]
          · rw [Device.at_loseCart, c1]; grind
      · rename_i ho
        have := Device.displaced_none ho
        exact ⟨.refl d1, fun _ => by unfold Device.eodOf; rw [c1], fun _ => rfl, fun z y hz => by rw [c1]; grind⟩
    obtain ⟨m2, e2, k2, l2⟩ := h2
    clear_value d2
    have hs2 : (d2.cart c).isSome = true := by rw [Device.isSome_eodOf, e2, ← Device.isSome_eodOf, hs]
    refine Device.lawful_whole h (.trans m1 (.trans m2 (Device.settleIn_media ..))) (fun z _ => ?_) fun z y => ?_
    · rw [Device.eodOf_settleIn, e2]
    · rw [Device.at_settleIn, Device.elem_settleIn, k2, k1, hs2]
      grind
  · obtain ⟨m1, e1, k1, l1⟩ := Device.lose_displaced e h
    extract_lets d0
    change d.MediaOnly d0 at m1; change ∀ c, d0.eodOf c = d.eodOf c at e1
    change ∀ y, d0.elem y = d.elem y at k1
    change ∀ c y, entryLocation (d0.cart c) = some (.at y) ↔ (d.elem y).content = .occupied c ∧ y ≠ e at l1
    clear_value d0
    split
    · rename_i c hc
      have hn := Device.emptyRow_none hc
      have hn1 : d.cart c = none := by
        have : (d.cart c).isSome = (d0.cart c).isSome := by rw [Device.isSome_eodOf, ← e1, ← Device.isSome_eodOf]
        rw [hn] at this; simpa using this
      have hno : ∀ y, (d.elem y).content ≠ .occupied c := fun y hy => by
        have := (hl c y).mpr hy; simp [hn1, entryLocation] at this
      refine Device.lawful_whole h (.trans m1 (.trans (Device.setContent_media ..) (.trans (Device.forgetFormer_media ..)
        (Device.writeCart_media ..)))) (fun z hz => ?_) fun z y => ?_
      · unfold Device.eodOf at *
        rw [Device.cart_writeCart, Device.cart_forgetFormer, Device.cart_setContent]
        split
        · rename_i hzc; subst hzc; simp [hn1] at hz
        · exact e1 z
      · rw [Device.cart_writeCart, Device.elem_writeCart, Device.elem_forgetFormer, Device.elem_setContent,
          Device.cart_forgetFormer, Device.cart_setContent, k1]
        by_cases hz : z = c
        · subst hz; rw [if_pos rfl]; simp only [entryLocation, Option.map_some, Cart.scanned]; grind
        · rw [if_neg hz, l1]; grind
    · show (d0.setContent e (.foreign x)).Lawful
      refine Device.lawful_whole h (.trans m1 (Device.setContent_media ..)) (fun z _ => ?_) fun z y => ?_
      · rw [Device.eodOf_setContent, e1]
      · rw [Device.cart_setContent, Device.elem_setContent, l1, k1]
        grind

@[simp] theorem Device.scan_lawful {d : Device} {e : ElemId} {r : ScanResult} (h : d.Lawful) :
    (d.scan e r).1.Lawful := by
  unfold Device.scan; split <;> simp [h]

theorem Device.occupant_iff {d : Device} {e : ElemId} {c : CartId} :
    d.occupant e = some c ↔ (d.elem e).content = .occupied c := by
  unfold Device.occupant; split <;> simp_all

theorem Device.evict_all (d : Device) (e : ElemId) : d.MediaOnly (d.evict e) ∧ (∀ c, (d.evict e).eodOf c = d.eodOf c) ∧
    (∀ y, (d.evict e).elem y = d.elem y) ∧
    ∀ c y, entryLocation ((d.evict e).cart c) = some (.at y) ↔
      entryLocation (d.cart c) = some (.at y) ∧ (d.elem e).content ≠ .occupied c := by
  unfold Device.evict
  split
  · rename_i c hc
    rw [Device.occupant_iff] at hc
    refine ⟨Device.loseCart_media .., fun _ => Device.eodOf_loseCart .., fun _ => Device.elem_loseCart .., fun x y => ?_⟩
    rw [Device.at_loseCart]
    grind
  · rename_i hc
    have hn : ∀ c, (d.elem e).content ≠ .occupied c := fun c h => by rw [← Device.occupant_iff, hc] at h; cases h
    exact ⟨.refl d, fun _ => rfl, fun _ => rfl, fun x y => by grind⟩

theorem Device.vacate_all (d : Device) (c : CartId) : d.MediaOnly (d.vacate c) ∧
    (∀ x, (d.vacate c).cart x = d.cart x) ∧
    ∀ y, ((d.vacate c).elem y).content =
      if entryLocation (d.cart c) = some (.at y) then .unknown none else (d.elem y).content := by
  unfold Device.vacate
  split
  · rename_i e he
    refine ⟨Device.setContent_media .., fun _ => Device.cart_setContent, fun y => ?_⟩
    rw [Device.elem_setContent]
    grind
  · rename_i he
    exact ⟨.refl d, fun _ => rfl, fun y => by grind⟩

@[simp] theorem Device.relocate_lawful {d : Device} {a b : ElemId} {l : Load} {m : Bool} (h : d.Lawful) :
    (d.relocate a b l m).Lawful := by
  have hl := Device.located h
  have hu := Device.one_place h
  unfold Device.relocate
  split
  · rename_i c _
    obtain ⟨m1, c1, k1⟩ := Device.vacate_all d c
    obtain ⟨m2, e2, k2, l2⟩ := Device.evict_all (d.vacate c) a
    obtain ⟨m3, e3, k3, l3⟩ := Device.evict_all ((d.vacate c).evict a) b
    have m4 := Device.setContent_media (((d.vacate c).evict a).evict b) a .empty
    have m0 := m1.trans (m2.trans (m3.trans m4))
    have e0 : ∀ x, ((((d.vacate c).evict a).evict b).setContent a .empty).eodOf x = d.eodOf x := fun x => by
      rw [Device.eodOf_setContent, e3, e2]; unfold Device.eodOf; rw [c1]
    have k0 : ∀ y, ((((((d.vacate c).evict a).evict b).setContent a .empty).elem y).content =
        if y = a then .empty else if entryLocation (d.cart c) = some (.at y) then .unknown none
          else (d.elem y).content) := fun y => by
      rw [Device.elem_setContent, k3, k2, k1]
    have l0 : ∀ x y, x ≠ c → (entryLocation (((((d.vacate c).evict a).evict b).setContent a .empty).cart x) =
        some (.at y) ↔ (d.elem y).content = .occupied x ∧ y ≠ a ∧ y ≠ b) := fun x y hx => by
      rw [Device.cart_setContent, l3, l2, c1, k2, k1, k1, hl]
      grind
    have s0 : (((((d.vacate c).evict a).evict b).setContent a .empty).cart c).isSome = (d.cart c).isSome := by
      rw [Device.isSome_eodOf, e0, ← Device.isSome_eodOf]
    extract_lets d1 d2
    change d.MediaOnly d2 at m0
    change ∀ x, d2.eodOf x = d.eodOf x at e0
    change ∀ y, (d2.elem y).content = _ at k0
    change ∀ x y, x ≠ c → (entryLocation (d2.cart x) = some (.at y) ↔ _) at l0
    change (d2.cart c).isSome = (d.cart c).isSome at s0
    clear_value d2
    have hn : ∀ y, entryLocation (d.cart c) = some (.at y) ↔ (d.elem y).content = .occupied c := hl c
    split
    · rename_i hnone
      have hn2 : d2.cart c = none := by simpa using hnone
      refine Device.lawful_whole h (.trans m0 (Device.setContent_media ..)) (fun x _ => ?_) fun x y => ?_
      · rw [Device.eodOf_setContent, e0]
      · rw [Device.cart_setContent, Device.elem_setContent, k0]
        by_cases hx : x = c
        · subst hx
          have hno : ∀ y, (d.elem y).content ≠ .occupied x := fun y hy => by
            have hd : d.cart x = none := by simpa [hn2] using s0.symm
            have := (hn y).mpr hy
            simp [hd, entryLocation] at this
          rw [hn2]
          have : entryLocation (none : Option Cart) ≠ some (.at y) := by simp [entryLocation]
          grind
        · rw [l0 x y hx]; grind
    · rename_i hsome
      have hs : (d2.cart c).isSome = true := by cases hc : d2.cart c <;> simp [hc] at hsome ⊢
      refine Device.lawful_whole h (.trans m0 (.trans (Device.setContent_media ..) (Device.editCart_media ..)))
        (fun x _ => ?_) fun x y => ?_
      · refine Eq.trans (Device.eodOf_editCart ?_) ?_
        · exact fun _ => rfl
        · rw [Device.eodOf_setContent, e0]
      · rw [Device.at_editCart (l := .at b) fun _ => rfl, Device.elem_editCart, Device.elem_setContent,
          Device.cart_setContent, Device.cart_setContent, k0, hs]
        by_cases hx : x = c
        · subst hx; grind
        · rw [if_neg hx, l0 x y hx]; grind
  · rename_i x hx
    have ho : ∀ c, (d.elem a).content ≠ .occupied c := fun c hc => by
      rw [← Device.occupant_iff] at hc
      unfold Device.loadFrom at hx
      split at hx
      · cases hx
      · rename_i hno
        subst hx
        exact hno x c rfl hc
    obtain ⟨m1, e1, k1, l1⟩ := Device.evict_all d b
    refine Device.lawful_whole h (.trans m1 (.trans (Device.setContent_media ..) (Device.setContent_media ..)))
      (fun z _ => ?_) fun z y => ?_
    · rw [Device.eodOf_setContent, Device.eodOf_setContent, e1]
    · rw [Device.cart_setContent, Device.cart_setContent, Device.elem_setContent, Device.elem_setContent, l1, k1, hl]
      grind


/-! ### The feed unit's own updates (R49, R68) -/

/-- A feed entry replaced by one with the same reservations. -/
theorem Device.setFeedOf_lawful {d : Device} {f : FeedId} {x y : Feed} (h : d.Lawful) (hx : d.feed f = some x)
    (hy : y.Law) (hr : y.reservations.length = x.reservations.length) : (d.setFeed f (some y)).Lawful :=
  Device.setFeedSome_lawful h hy (by rw [hr, hx]; rfl)

theorem Feed.close_law {x : Feed} {now : Nat} (h : x.Law) (hs : x.assembly ≠ none → x.staging.length < 64) :
    (x.close now).Law := by
  unfold Feed.close
  split
  · exact h
  · rename_i a ha
    have := hs (by simp [ha])
    have := Feed.law_flights h
    refine Feed.law_mk.mpr ⟨this, ?_⟩
    simp
    omega

theorem Feed.close_reservations (x : Feed) (now : Nat) : (x.close now).reservations = x.reservations := by
  unfold Feed.close; split <;> rfl

theorem Feed.returnFlights_law {x : Feed} (h : x.Law) : x.returnFlights.Law := by
  have := h.2
  refine Feed.law_mk.mpr ⟨Nat.zero_le _, ?_⟩
  simp only [List.length_nil, List.length_append, List.length_map]
  simp [Config.stagingLimit, Config.writeWindow] at this
  omega

theorem Feed.start_law {x : Feed} {now : Nat} (h : x.Law) : (x.start now).Law := by
  unfold Feed.start; split <;> exact h

theorem Feed.start_reservations (x : Feed) (now : Nat) : (x.start now).reservations = x.reservations := by
  unfold Feed.start; split <;> rfl

theorem Feed.governor_law {x : Feed} {n : Nat} (h : x.Law) : (x.governor n).1.Law := by
  unfold Feed.governor; dsimp only; (repeat' split) <;> exact h

theorem Feed.governor_reservations (x : Feed) (n : Nat) : (x.governor n).1.reservations = x.reservations := by
  unfold Feed.governor; dsimp only; (repeat' split) <;> rfl

theorem Device.mapHasRoom_iff {d : Device} {n : Nat} :
    d.mapHasRoom n = true ↔ d.map.parts.length + d.map.reserved + n ≤ 4096 :=
  decide_eq_true_iff

/-! ### What the operations leave of the feeds and the media tables -/

theorem Device.closeRef_media {d : Device} {r : Option PartRef} {gap truncated : Bool} :
    (d.closeRef r gap truncated).media = d.media := by
  unfold Device.closeRef Device.closePart; (repeat' split) <;> simp

theorem Device.leaveFeed_media {d : Device} {c : StreamId} : (d.leaveFeed c).media = d.media := by
  unfold Device.leaveFeed; split <;> simp

theorem Device.closeIfDone_media {d : Device} {c : StreamId} : (d.closeIfDone c).media = d.media := by
  unfold Device.closeIfDone; dsimp only; split
  · simp [Device.leaveFeed_media, Device.closeRef_media]
  · rfl

theorem Device.setRef_media {d : Device} {f : FeedId} {o : Opening} {r : PartRef} :
    (d.setRef f o r).media = d.media := by
  unfold Device.setRef; (repeat' split) <;> simp

theorem Device.countOff_media {d : Device} {f : FeedId} {r : Record} : (d.countOff f r).media = d.media := by
  unfold Device.countOff; (repeat' split) <;> simp [Device.closeIfDone_media, Device.closeRef_media]

theorem Device.createPart_media {d : Device} {r : Option PartRef} {c : CartId} {rec : Record} {b : Nat} :
    (d.createPart r c rec b).1.media = d.media := rfl

theorem Device.spendReservation_media {d d' : Device} {f : FeedId} {x : Feed} {o : Opening}
    (h : d.spendReservation f x o = some d') : d'.media = d.media := by
  unfold Device.spendReservation at h
  split at h
  · cases h; rfl
  · split at h <;> cases h; rfl

theorem Device.mapRecord_media {d : Device} {f : FeedId} {c : CartId} {block : Nat} {r : Record} :
    (d.mapRecord f c block r).media = d.media := by
  unfold Device.mapRecord
  dsimp only
  (repeat' split) <;> try simp
  rename_i h
  rw [Device.setRef_media, Device.createPart_media, Device.spendReservation_media h]

theorem Device.foldl_feeds {α : Type} {g : Device → α → Device} (hg : ∀ d a, (g d a).feeds = d.feeds) (l : List α)
    (d : Device) : (l.foldl g d).feeds = d.feeds := by
  induction l generalizing d with
  | nil => rfl
  | cons a l ih => exact (ih _).trans (hg d a)

theorem Device.dropMove_feeds {d : Device} {id : Nat} : (d.dropMove id).feeds = d.feeds := rfl

theorem Device.withdrawMoves_feeds {d : Device} {i : DriveId} : (d.withdrawMoves i).feeds = d.feeds := by
  unfold Device.withdrawMoves
  refine Device.foldl_feeds (fun d a => ?_) _ d
  (repeat' split) <;> simp [Device.dropMove_feeds]

theorem Device.cancelSuspension_feeds {d : Device} {order : Nat} : (d.cancelSuspension order).feeds = d.feeds := by
  unfold Device.cancelSuspension
  refine Device.foldl_feeds (fun d a => ?_) _ d
  split <;> simp

theorem Device.withdrawOf_feeds {d : Device} {o : Owner} : (d.withdrawOf o).feeds = d.feeds := by
  unfold Device.withdrawOf
  split
  · unfold Device.withdrawClaim
    dsimp only
    (repeat' split) <;> simp [Device.withdrawMoves_feeds, Device.cancelSuspension_feeds]
  · rfl







@[simp] theorem Device.closePart_lawful {d : Device} {id : Nat} {gap truncated continued : Bool} (lawful : d.Lawful) :
    (d.closePart id gap truncated continued).Lawful := by
  unfold Device.closePart; unfold Part.flagged; (repeat' split) <;> simp (maxDischargeDepth := 12) [*]

@[simp] theorem Device.closeRef_lawful {d : Device} {r : Option PartRef} {gap truncated : Bool} (lawful : d.Lawful)  :
    (Device.closeRef d r gap truncated).Lawful := by
  unfold Device.closeRef; (repeat' split) <;> simp (maxDischargeDepth := 12) [*]

@[simp] theorem Device.setBad_lawful {d : Device} {id : Nat} (lawful : d.Lawful) :
    (d.setBad id).Lawful := by
  unfold Device.setBad; (repeat' split) <;> simp (maxDischargeDepth := 12) [*]

@[simp] theorem Device.setVerified_lawful {d : Device} {id : Nat} (lawful : d.Lawful) :
    (d.setVerified id).Lawful := by
  unfold Device.setVerified; (repeat' split) <;> simp (maxDischargeDepth := 12) [*]

@[simp] theorem Device.markSuspect_lawful {d : Device} {id : Nat} (lawful : d.Lawful) :
    (d.markSuspect id).Lawful := by
  unfold Device.markSuspect; (repeat' split) <;> simp (maxDischargeDepth := 12) [*]

@[simp] theorem Device.pinRestore_lawful {d : Device} {id : Nat} (lawful : d.Lawful) :
    (d.pinRestore id).Lawful := by
  unfold Device.pinRestore; (repeat' split) <;> simp (maxDischargeDepth := 12) [*]

@[simp] theorem Device.unpinRestore_lawful {d : Device} {id : Nat} (lawful : d.Lawful) :
    (d.unpinRestore id).Lawful := by
  unfold Device.unpinRestore; (repeat' split) <;> simp (maxDischargeDepth := 12) [*]

@[simp] theorem Device.pinVerify_lawful {d : Device} {id : Nat} (lawful : d.Lawful) :
    (d.pinVerify id).Lawful := by
  unfold Device.pinVerify; (repeat' split) <;> simp (maxDischargeDepth := 12) [*]

@[simp] theorem Device.unpinVerify_lawful {d : Device} {id : Nat} (lawful : d.Lawful) :
    (d.unpinVerify id).Lawful := by
  unfold Device.unpinVerify; (repeat' split) <;> simp (maxDischargeDepth := 12) [*]

@[simp] theorem Device.markFull_lawful {d : Device} {c : CartId} {ends : Bool} (lawful : d.Lawful)  :
    (Device.markFull d c ends).Lawful := by simp (maxDischargeDepth := 12) [Device.markFull, *]

@[simp] theorem Device.markMismatch_lawful {d : Device} {c : CartId} {r : Reason} {ends : Bool} (lawful : d.Lawful)  :
    (Device.markMismatch d c r ends).Lawful := by simp (maxDischargeDepth := 12) [Device.markMismatch, *]

@[simp] theorem Device.markFinalized_lawful {d : Device} {c : CartId} {ends : Bool} (lawful : d.Lawful)  :
    (Device.markFinalized d c ends).Lawful := by simp (maxDischargeDepth := 12) [Device.markFinalized, *]

















@[simp] theorem Device.pickerHold_lawful {d : Device} {a : ElemId} {load : Load} (lawful : d.Lawful)  :
    (Device.pickerHold d a load).Lawful := by
  unfold Device.pickerHold; (repeat' split) <;> simp (maxDischargeDepth := 12) [*]

@[simp] theorem Device.takeDestination_lawful {d : Device} {load : Load} {e : ElemId} (lawful : d.Lawful)  :
    (Device.takeDestination d load e).Lawful := by
  unfold Device.takeDestination; (repeat' split) <;> simp (maxDischargeDepth := 12) [*]

@[simp] theorem Device.postFeed_lawful {d : Device} {f : Option FeedId} {t : FeedId → Task} (lawful : d.Lawful) :
    (d.postFeed f t).Lawful := by
  unfold Device.postFeed; (repeat' split) <;> simp (maxDischargeDepth := 12) [*]

@[simp] theorem Device.cutDecision_lawful {d : Device} {c : StreamId} (lawful : d.Lawful) :
    (d.cutDecision c).Lawful := by
  unfold Device.cutDecision; dsimp only; (repeat' split) <;> simp (maxDischargeDepth := 12) [*]

@[simp] theorem Device.finishRecord_lawful {d : Device} {c : StreamId} (lawful : d.Lawful) :
    (d.finishRecord c).Lawful := by
  unfold Device.finishRecord; dsimp only; (repeat' split) <;> simp (maxDischargeDepth := 12) [*]

@[simp] theorem Device.leaveFeed_lawful {d : Device} {c : StreamId} (lawful : d.Lawful) :
    (d.leaveFeed c).Lawful := by
  unfold Device.leaveFeed; (repeat' split) <;> simp (maxDischargeDepth := 12) [*]

@[simp] theorem Device.closeIfDone_lawful {d : Device} {c : StreamId} (lawful : d.Lawful) :
    (d.closeIfDone c).Lawful := by
  unfold Device.closeIfDone; dsimp only; (repeat' split) <;> simp (maxDischargeDepth := 12) [*]

@[simp] theorem Device.handOver_lawful {d : Device} {c : StreamId} {f : FeedId} {s after : Stream} (lawful : d.Lawful)  :
    (Device.handOver d c f s after).Lawful := by
  unfold Device.handOver; (repeat' split) <;> simp (maxDischargeDepth := 12) [*]

@[simp] theorem Device.abort_lawful {d : Device} {c : StreamId} (lawful : d.Lawful) : (d.abort c).Lawful := by
  unfold Device.abort
  extract_lets s after d' d''
  have hd : d'.Lawful := by unfold d'; split <;> simp (maxDischargeDepth := 12) [lawful]
  exact (Device.leaveFeed_lawful (c := c) hd : (d'.leaveFeed c).Lawful)

@[simp] theorem Device.takeRecord_lawful {d : Device} {c : StreamId} {f : FeedId} {o : Offered} (lawful : d.Lawful) :
    (d.takeRecord c f o).Lawful := lawful

@[simp] theorem Device.ceSearch_lawful {d : Device} (lawful : d.Lawful)  :
    (Device.ceSearch d).Lawful := by
  unfold Device.ceSearch; (repeat' split) <;> simp (maxDischargeDepth := 12) [*]

@[simp] theorem Device.compress_lawful {d : Device} (lawful : d.Lawful)  :
    (Device.compress d).Lawful := by
  unfold Device.compress; (repeat' split) <;> simp (maxDischargeDepth := 12) [*]

@[simp] theorem Device.enterMove_lawful {d : Device} {src : ElemId} {dst : Option ElemId} {load : Load} {cls : Option Nat} {requester : Requester} {ready : Bool} (lawful : d.Lawful)  :
    (Device.enterMove d src dst load cls requester ready).Lawful := by
  unfold Device.enterMove; (repeat' split) <;> simp (maxDischargeDepth := 12) [*]

@[simp] theorem Device.clearMarks_lawful {d : Device} {id : Nat} (lawful : d.Lawful) : (d.clearMarks id).Lawful := by
  refine Device.lawful_whole lawful ⟨rfl, rfl, rfl⟩ (fun _ _ => rfl) fun c e => ?_
  rw [show (d.clearMarks id).cart c = d.cart c from rfl, Device.located lawful]
  simp [Device.elem, Device.clearMarks]

@[simp] theorem Device.dropMove_lawful {d : Device} {id : Nat} (lawful : d.Lawful)  :
    (Device.dropMove d id).Lawful := by simp (maxDischargeDepth := 12) [Device.dropMove, *]

theorem Device.requestMove_lawful {d d' : Device} {i : DriveId} {c : CartId} {b : ElemId} {cls : Nat} (lawful : d.Lawful)
    (h : d.requestMove i c b cls = some d')  :
    d'.Lawful := by
  unfold Device.requestMove at h
  cases hs : d.moveSource c b <;> simp [hs] at h
  rw [← h]; simp (maxDischargeDepth := 12) [lawful]

@[simp] theorem Device.withdrawMoves_lawful {d : Device} {i : DriveId} (lawful : d.Lawful)  :
    (Device.withdrawMoves d i).Lawful := by
  unfold Device.withdrawMoves
  refine Device.lawful_foldl (fun d a h => ?_) _ (by simp (maxDischargeDepth := 12) [*])
  (repeat' split) <;> simp (maxDischargeDepth := 12) [*]

@[simp] theorem Device.postTarget_lawful {d : Device} {t : Target} (lawful : d.Lawful) : (d.postTarget t).Lawful := by
  cases t <;> simp (maxDischargeDepth := 12) [Device.postTarget, lawful]

@[simp] theorem Device.placeClaim_lawful {d : Device} {kind : ClaimKind} {owner : Owner} {target : Target} {preferred : Option DriveId} (lawful : d.Lawful)  :
    (Device.placeClaim d kind owner target preferred).Lawful := by simp (maxDischargeDepth := 12) [Device.placeClaim, *]

@[simp] theorem Device.returnClaim_lawful {d : Device} {i : DriveId} (lawful : d.Lawful)  :
    (Device.returnClaim d i).Lawful := by
  unfold Device.returnClaim; dsimp only; (repeat' split) <;> simp (maxDischargeDepth := 12) [*]

@[simp] theorem Device.clearClaim_lawful {d : Device} {i : DriveId} (lawful : d.Lawful)  :
    (Device.clearClaim d i).Lawful := by
  unfold Device.clearClaim; (repeat' split) <;> simp (maxDischargeDepth := 12) [*]

@[simp] theorem Device.cancelSuspension_lawful {d : Device} {order : Nat} (lawful : d.Lawful)  :
    (Device.cancelSuspension d order).Lawful := by
  unfold Device.cancelSuspension
  refine Device.lawful_foldl (fun d a h => ?_) _ (by simp (maxDischargeDepth := 12) [*])
  (repeat' split) <;> simp (maxDischargeDepth := 12) [*]

@[simp] theorem Device.withdrawClaim_lawful {d : Device} {order : Nat} (lawful : d.Lawful)  :
    (Device.withdrawClaim d order).Lawful := by
  unfold Device.withdrawClaim; dsimp only; (repeat' split) <;> simp (maxDischargeDepth := 12) [*]

@[simp] theorem Device.withdrawOf_lawful {d : Device} {o : Owner} (lawful : d.Lawful)  :
    (Device.withdrawOf d o).Lawful := by
  unfold Device.withdrawOf; (repeat' split) <;> simp (maxDischargeDepth := 12) [*]

@[simp] theorem Device.declare_lawful {d : Device} {os : List Opening} {g : StreamState → StreamState} (lawful : d.Lawful) :
    (d.declare os g).Lawful := Device.lawful_foldl (fun _ _ h => Device.modStream_lawful h) os lawful



@[simp] theorem Device.setStall_lawful {d : Device} {f : FeedId} {g : Stall → Stall} (lawful : d.Lawful) :
    (d.setStall f g).Lawful := by
  unfold Device.setStall
  split
  · exact lawful
  · rename_i x hx
    extract_lets stall d'
    have hd : d'.Lawful := Device.setFeedOf_lawful lawful hx (show x.Law from Device.feed_law lawful hx) rfl
    (repeat' split) <;> simp [hd]

@[simp] theorem Device.join_lawful {d : Device} {c : StreamId} {f : FeedId} (lawful : d.Lawful) : (d.join c f).Lawful := by
  unfold Device.join
  split
  · exact lawful
  · rename_i x hx
    extract_lets d' d''
    have hd : d'.Lawful := Device.setFeedOf_lawful lawful hx (show x.Law from Device.feed_law lawful hx) rfl
    exact Device.post_lawful (hd : d''.Lawful)

@[simp] theorem Device.bindOne_lawful {d : Device} {c : StreamId} (lawful : d.Lawful) : (d.bindOne c).Lawful := by
  unfold Device.bindOne
  extract_lets p
  split
  · exact Device.join_lawful lawful
  · split
    · rename_i f hf
      have hn : d.feed f = none := by simpa using List.find?_some hf
      refine Device.placeClaim_lawful (Device.join_lawful (Device.setFeedSome_lawful lawful ?_ ?_))
      · exact ⟨Nat.zero_le _, Nat.zero_le _⟩
      · rw [hn]; rfl
    · exact lawful

@[simp] theorem Device.bindAll_lawful {d : Device} (lawful : d.Lawful)  :
    (Device.bindAll d).Lawful := by
  unfold Device.bindAll
  refine Device.lawful_foldl (fun d a h => ?_) _ (by simp (maxDischargeDepth := 12) [*])
  (repeat' split) <;> simp (maxDischargeDepth := 12) [*]

@[simp] theorem Device.closePending_lawful {d : Device} {f : FeedId} (lawful : d.Lawful) : (d.closePending f).Lawful := by
  unfold Device.closePending
  split
  · exact lawful
  · rename_i x hx
    have hs := Device.feed_law lawful hx
    split
    · exact lawful
    · split
      · rename_i hl
        exact Device.post_lawful (Device.setFeedOf_lawful lawful hx (Feed.close_law hs fun _ => hl)
          (by rw [Feed.close_reservations]))
      · exact Device.setFeedOf_lawful lawful hx hs rfl

@[simp] theorem Device.closeWaiting_lawful {d : Device} {f : FeedId} (lawful : d.Lawful)  :
    (Device.closeWaiting d f).Lawful := by
  unfold Device.closeWaiting; (repeat' split) <;> simp (maxDischargeDepth := 12) [*]

@[simp] theorem Device.closeDrained_lawful {d : Device} {f : FeedId} (lawful : d.Lawful)  :
    (Device.closeDrained d f).Lawful := by
  unfold Device.closeDrained; (repeat' split) <;> simp (maxDischargeDepth := 12) [*]

@[simp] theorem Device.issueSpeed_lawful {d : Device} {f : FeedId} (lawful : d.Lawful) : (d.issueSpeed f).Lawful := by
  unfold Device.issueSpeed
  split
  · exact lawful
  · rename_i x hx
    split
    · exact lawful
    · exact Device.issue_lawful (Device.setFeedOf_lawful lawful hx (show x.Law from Device.feed_law lawful hx) rfl)

@[simp] theorem Device.spanTrigger_lawful {d : Device} {f : FeedId} {full : Bool} (lawful : d.Lawful) :
    (d.spanTrigger f full).Lawful := by
  unfold Device.spanTrigger
  split
  · exact lawful
  · rename_i x hx
    have hs := Device.feed_law lawful hx
    split
    · exact Device.setFeedOf_lawful lawful hx hs rfl
    · exact Device.post_lawful (Device.closePending_lawful
        (Device.setStall_lawful (Device.setFeedOf_lawful lawful hx hs rfl)))

@[simp] theorem Device.closeAtDeparture_lawful {d : Device} {c : CartId} {r : Option PartRef} {truncated : Bool} (lawful : d.Lawful)  :
    (Device.closeAtDeparture d c r truncated).Lawful := by
  unfold Device.closeAtDeparture; (repeat' split) <;> simp (maxDischargeDepth := 12) [*]

@[simp] theorem Device.closeParts_lawful {d : Device} {x : Feed} {c : CartId} (lawful : d.Lawful)  :
    (d.closeParts x c).Lawful := Device.lawful_foldl (fun _ _ h => Device.closeAtDeparture_lawful h) _
    (Device.lawful_foldl (fun _ _ h => Device.closeAtDeparture_lawful h) _ lawful)

@[simp] theorem Device.dropReservations_lawful {d : Device} {f : FeedId} (lawful : d.Lawful) :
    (d.dropReservations f).Lawful := by
  unfold Device.dropReservations
  split
  · exact lawful
  · rename_i x hx
    have hs := Device.feed_law lawful hx
    have hge := Device.reserved_ge lawful f
    have hc := lawful.mapCapacity.capacity
    simp only [Config.mapSize] at hc
    rw [hx, reservationsOf_some] at hge
    unfold Device.releaseReservations
    split
    · rename_i h0
      exact Device.setFeedOf_lawful lawful hx hs h0.symm
    · refine Device.post_lawful (Device.setFeed_reserved (f := f) (v := some { x with reservations := [] })
        (n := d.map.reserved - x.reservations.length) lawful (fun y hy => by cases hy; exact hs) ?_ ?_)
      · rw [hx, reservationsOf_some, reservationsOf_some]; simp; omega
      · omega

/-- A feed holds no reservation after its release. -/
theorem Device.dropReservations_none {d : Device} {f : FeedId} :
    reservationsOf ((d.dropReservations f).feed f) = 0 := by
  unfold Device.dropReservations
  split
  · rename_i hx; rw [hx]; rfl
  · unfold Device.releaseReservations
    split <;> simp [Device.feed, Device.setFeed, reservationsOf]

@[simp] theorem Device.releaseDrive_lawful {d : Device} {i : DriveId} (lawful : d.Lawful)  :
    (Device.releaseDrive d i).Lawful := by simp (maxDischargeDepth := 12) [Device.releaseDrive, *]

@[simp] theorem Device.signalRelease_lawful {d : Device} {c : CartId} (lawful : d.Lawful)  :
    (Device.signalRelease d c).Lawful := by simp (maxDischargeDepth := 12) [Device.signalRelease, *]

@[simp] theorem Device.removeFeed_lawful {d : Device} {f : FeedId} (lawful : d.Lawful) : (d.removeFeed f).Lawful := by
  refine Device.post_lawful (Device.setFeed_lawful (Device.withdrawOf_lawful (Device.dropReservations_lawful lawful))
    (fun _ h => nomatch h) ?_)
  rw [show ((d.dropReservations f).withdrawOf (.feed f)).feed f = (d.dropReservations f).feed f from by
    unfold Device.feed; rw [Device.withdrawOf_feeds], Device.dropReservations_none]
  rfl

@[simp] theorem Device.depart_lawful {d : Device} {f : FeedId} {x : Feed} (lawful : d.Lawful)  :
    (Device.depart d f x).Lawful := by
  unfold Device.depart; (repeat' split) <;> simp (maxDischargeDepth := 12) [*]

@[simp] theorem Device.retire_lawful {d : Device} {f : FeedId} {x : Feed} (lawful : d.Lawful)  :
    (Device.retire d f x).Lawful := by
  unfold Device.retire; (repeat' split) <;> simp (maxDischargeDepth := 12) [*]

@[simp] theorem Device.postReady_lawful {d : Device} {x : Feed} (lawful : d.Lawful)  :
    (Device.postReady d x).Lawful := by
  unfold Device.postReady; (repeat' split) <;> simp (maxDischargeDepth := 12) [*]

@[simp] theorem Device.feedProgress_lawful {d : Device} {f : FeedId} (lawful : d.Lawful)  :
    (Device.feedProgress d f).Lawful := by
  unfold Device.feedProgress; (repeat' split) <;> simp (maxDischargeDepth := 12) [*]

@[simp] theorem Device.memberLeft_lawful {d : Device} {f : FeedId} (lawful : d.Lawful) : (d.memberLeft f).Lawful := by
  unfold Device.memberLeft
  extract_lets d1
  have h1 : d1.Lawful := by
    unfold d1
    split
    · exact lawful
    · rename_i x hx
      split
      · exact Device.setFeedOf_lawful lawful hx (show x.Law from Device.feed_law lawful hx) rfl
      · exact lawful
  exact Device.post_lawful (Device.post_lawful (Device.post_lawful h1))

theorem Device.askReservations_lawful {d : Device} {f : FeedId} {x : Feed} {c : CartId} {b : Block} (lawful : d.Lawful)
    (hx : d.feed f = some x) : (d.askReservations f x c b).1.Lawful := by
  unfold Device.askReservations
  extract_lets os
  split
  · exact lawful
  · split
    · rename_i hr
      have hr := Device.mapHasRoom_iff.mp hr
      refine Device.setFeed_reserved (f := f) (v := some { x with reservations := x.reservations ++ os })
        (n := d.map.reserved + os.length) lawful (fun y hy => by have hs := Device.feed_law lawful hx; cases hy; exact hs) ?_ ?_
      · rw [hx, reservationsOf_some, reservationsOf_some]; simp; omega
      · omega
    · exact Device.raise_lawful (Device.setStall_lawful lawful)

/-- A granted request leaves the feed's blocks as they were. -/
theorem Device.askReservations_feed {d : Device} {f : FeedId} {x : Feed} {c : CartId} {b : Block} (hx : d.feed f = some x)
    (h : (d.askReservations f x c b).2 = true) :
    ∃ y, (d.askReservations f x c b).1.feed f = some y ∧ y.flights = x.flights := by
  unfold Device.askReservations at h ⊢
  dsimp only at h ⊢
  split
  · exact ⟨x, hx, rfl⟩
  · rename_i ho
    rw [if_neg ho] at h
    split
    · exact ⟨{ x with reservations := x.reservations ++ d.needed x c b }, by simp [Device.feed, Device.setFeed], rfl⟩
    · rename_i hr
      rw [if_neg hr] at h
      cases h

@[simp] theorem Device.roomAgain_lawful {d : Device} {m n : Nat} (lawful : d.Lawful)  :
    (Device.roomAgain d m n).Lawful := by
  unfold Device.roomAgain; (repeat' split) <;> simp (maxDischargeDepth := 12) [*]

theorem Device.dispatchHead_lawful {d : Device} {f : FeedId} {i : DriveId} {e : Cart} (lawful : d.Lawful)
    (h : ∀ x, d.feed f = some x → x.flights.length < 4) : (d.dispatchHead f i e).Lawful := by
  unfold Device.dispatchHead
  split
  · exact lawful
  · rename_i x hx
    split
    · exact lawful
    · rename_i b bs hb
      have hs := Device.feed_law lawful hx
      have hl := h x hx
      refine Device.roomAgain_lawful (Device.issue_lawful (Device.setFeedOf_lawful lawful hx (Feed.law_mk.mpr ⟨?_, ?_⟩) rfl))
      · simp; omega
      · have := Feed.law_sum hs
        rw [hb] at this
        simp at this ⊢
        omega

@[simp] theorem Device.dispatchLoop_lawful {f : FeedId} {fuel : Nat} {d : Device} (lawful : d.Lawful) :
    (Device.dispatchLoop f fuel d).Lawful := by
  induction fuel generalizing d with
  | zero => exact lawful
  | succ n ih =>
    unfold Device.dispatchLoop
    split
    · exact lawful
    · rename_i x hx
      split
      · split
        · exact lawful
        · split
          · exact Device.spanTrigger_lawful lawful
          · split
            · exact lawful
            · rename_i hl
              extract_lets asked
              have ha : asked.1.Lawful := Device.askReservations_lawful lawful hx
              split
              · rename_i hg
                refine ih (Device.dispatchHead_lawful ha fun y hy => ?_)
                obtain ⟨z, hz, hf⟩ := Device.askReservations_feed hx hg
                rw [show asked.1.feed f = some z from hz] at hy
                cases hy
                rw [hf]
                simp only [Config.writeWindow] at hl
                omega
              · exact ha
      · exact lawful

@[simp] theorem Device.feedDecide_lawful {d : Device} {f : FeedId} (lawful : d.Lawful) : (d.feedDecide f).Lawful := by
  unfold Device.feedDecide
  extract_lets d1 d2
  have h1 : d1.Lawful := Device.closeWaiting_lawful (Device.closeDrained_lawful lawful)
  have h2 : d2.Lawful := by
    unfold d2
    split
    · exact h1
    · rename_i x hx
      have hd : (d1.setFeed f (some (x.start d1.now))).Lawful :=
        Device.setFeedOf_lawful h1 hx (Feed.start_law (Device.feed_law h1 hx)) (by rw [Feed.start_reservations])
      dsimp only
      (repeat' split) <;> simp (maxDischargeDepth := 12) [h1, hd]
  exact Device.feedProgress_lawful (Device.closeWaiting_lawful h2)

@[simp] theorem Device.askAgain_lawful {d : Device} {f : FeedId} (lawful : d.Lawful)  :
    (d.askAgain f).Lawful := by
  unfold Device.askAgain
  split
  · exact lawful
  · rename_i x hx
    split
    · exact lawful
    · split
      · extract_lets asked
        have ha : asked.1.Lawful := Device.askReservations_lawful lawful hx
        split
        · exact Device.feedDecide_lawful (Device.setStall_lawful ha)
        · exact ha
      · exact lawful

theorem Device.closeNow_lawful {d : Device} {f : FeedId} (lawful : d.Lawful)
    (room : ∀ x, d.feed f = some x → x.staging.length < 64) : (d.closeNow f).Lawful := by
  unfold Device.closeNow
  split
  · exact lawful
  · rename_i x hx
    exact Device.feedDecide_lawful (Device.post_lawful (Device.setFeedOf_lawful lawful hx
      (Feed.close_law (Device.feed_law lawful hx) fun _ => room x hx) (by rw [Feed.close_reservations])))

@[simp] theorem Device.closeBefore_lawful {d : Device} {f : FeedId} (lawful : d.Lawful) : (d.closeBefore f).Lawful := by
  unfold Device.closeBefore
  split
  · rename_i h
    refine Device.closeNow_lawful lawful fun x hx => ?_
    simp [hx, Config.stagingLimit] at h
    exact of_decide_eq_true h.1
  · exact lawful

@[simp] theorem Device.placed_lawful {d : Device} {r : CeRecord} {h : Hold} (lawful : d.Lawful)  :
    (Device.placed d r h).Lawful := by
  unfold Device.placed; dsimp only; (repeat' split) <;> simp (maxDischargeDepth := 12) [*]

/-- The third case of R47 has found room in staging for the block it closes. -/
theorem Feed.renew_room {x : Feed} {n : Nat} (hk : x.placeCase n = some .renew) : x.staging.length < 64 := by
  unfold Feed.placeCase at hk
  (repeat' split at hk) <;> simp_all [Config.stagingLimit]

theorem Device.placeHeld_lawful {d : Device} {r : CeRecord} {h : Hold} {k : PlaceCase} (lawful : d.Lawful)
    (room : k = .renew → ∀ x, d.feed r.feed = some x → x.staging.length < 64) : (d.placeHeld r h k).Lawful := by
  have place : ∀ {d : Device}, d.Lawful → (d.modFeed r.feed fun x => x.place h.record d.now k).Lawful := fun hd =>
    Device.modFeed_lawful_same hd fun x => by cases k <;> exact ⟨rfl, rfl, rfl⟩
  unfold Device.placeHeld
  cases k
  · exact Device.placed_lawful (place (Device.post_lawful lawful))
  · exact Device.placed_lawful (place (Device.post_lawful lawful))
  · exact Device.placed_lawful (place (Device.closeNow_lawful lawful (room rfl)))

@[simp] theorem Device.offerHeld_lawful {d : Device} (lawful : d.Lawful) : d.offerHeld.Lawful := by
  unfold Device.offerHeld
  split
  · rename_i r _ _ _
    extract_lets d1
    have h1 : d1.Lawful := Device.closeBefore_lawful lawful
    split
    · exact h1
    · rename_i x hx
      have hs := Device.feed_law h1 hx
      split
      · rename_i k hk
        refine Device.placeHeld_lawful h1 fun hr y hy => ?_
        rw [hx] at hy; cases hy; subst hr
        exact Feed.renew_room hk
      · exact Device.setFeedOf_lawful h1 hx hs rfl
  · exact lawful

@[simp] theorem Device.setRef_lawful {d : Device} {f : FeedId} {o : Opening} {r : PartRef} (lawful : d.Lawful) :
    (d.setRef f o r).Lawful := by
  unfold Device.setRef
  split
  · exact lawful
  · rename_i x hx
    split
    · exact Device.modStream_lawful lawful
    · exact Device.setFeedOf_lawful lawful hx (show x.Law from Device.feed_law lawful hx) rfl

theorem Device.spendReservation_lawful {d d' : Device} {f : FeedId} {x : Feed} {o : Opening} (lawful : d.Lawful)
    (hx : d.feed f = some x) (h : d.spendReservation f x o = some d') :
    d'.Lawful ∧ d'.map.parts.length + d'.map.reserved < 4096 := by
  have hc := lawful.mapCapacity.capacity
  have hge := Device.reserved_ge lawful f
  simp only [Config.mapSize] at hc
  rw [hx, reservationsOf_some] at hge
  unfold Device.spendReservation at h
  split at h
  · rename_i ho
    cases h
    have hl := List.length_erase_of_mem ho
    have hpos := List.length_pos_of_mem ho
    refine ⟨Device.setFeed_reserved (f := f) (v := some { x with reservations := x.reservations.erase o })
      (n := d.map.reserved - 1) lawful (fun y hy => by have hs := Device.feed_law lawful hx; cases hy; exact hs) ?_ ?_, ?_⟩
    · rw [hx, reservationsOf_some, reservationsOf_some]; simp only; omega
    · omega
    · show d.map.parts.length + (d.map.reserved - 1) < 4096
      omega
  · split at h <;> cases h
    rename_i hr
    have := Device.mapHasRoom_iff.mp hr
    exact ⟨lawful, by omega⟩

theorem part_unique {l : List Part} {p q : Part} (h : l.Pairwise fun a b => a.id < b.id) (hp : p ∈ l) (hq : q ∈ l)
    (he : p.id = q.id) : p = q := by
  induction l with
  | nil => cases hp
  | cons x xs ih =>
    have hx := List.pairwise_cons.mp h
    rcases List.mem_cons.mp hp with rfl | hp' <;> rcases List.mem_cons.mp hq with rfl | hq'
    · rfl
    · have := hx.1 q hq'; omega
    · have := hx.1 p hp'; omega
    · exact ih hx.2 hp' hq'

/-- A cartridge's EOD lies beyond a block. -/
def Device.Beyond (d : Device) (c : CartId) (block : Nat) : Prop :=
  ∃ e n, d.cart c = some e ∧ e.eod = some n ∧ block < n

theorem Device.beyond_of {d d' : Device} {c : CartId} {b : Nat} (hm : d'.media = d.media) (h : d.Beyond c b) :
    d'.Beyond c b := by
  unfold Device.Beyond Device.cart Device.row at *
  rw [hm]
  exact h

theorem Device.mapRecord_lawful {d : Device} {f : FeedId} {c : CartId} {block : Nat} {r : Record} (lawful : d.Lawful)
    (hb : d.Beyond c block) : (d.mapRecord f c block r).Lawful := by
  unfold Device.mapRecord
  split
  · exact lawful
  · rename_i x hx
    extract_lets ref
    split
    · rename_i p hp
      refine Device.modPart_lawful lawful (fun _ => rfl) fun q hq hid h1 h2 h3 => ?_
      have hpq : p ∈ d.map.parts ∧ p.cart = c := by
        unfold Device.currentPart at hp
        split at hp
        · obtain ⟨hp, hc⟩ := Option.filter_eq_some_iff.mp hp
          obtain ⟨n, _, hn⟩ := Option.bind_eq_some_iff.mp hp
          simp at hc
          exact ⟨List.mem_of_find?_eq_some hn, hc.2⟩
        · cases hp
      have hqp : q = p :=
        part_unique lawful.mapCapacity.rising hq hpq.1 hid
      subst hqp
      obtain ⟨e, n, he, hn, hlt⟩ := h3
      obtain ⟨e', n', he', hn', hlt'⟩ := hb
      rw [hpq.2] at he
      have hee : e' = e := by rw [he'] at he; exact Option.some.inj he
      have hnn : n' = n := by rw [hee, hn] at hn'; exact (Option.some.inj hn').symm
      refine ⟨Nat.le_trans h1 (Nat.le_max_left _ _), Nat.le_trans h2 (Nat.le_max_left _ _), e, n, ?_, hn, ?_⟩
      · show d.cart q.cart = _
        rw [hpq.2, he]
      · exact Nat.max_lt.mpr ⟨hlt, hnn ▸ hlt'⟩
    · split
      · exact lawful
      · rename_i d1 h1
        obtain ⟨hl, hr⟩ := Device.spendReservation_lawful lawful hx h1
        exact Device.setRef_lawful (Device.createPart_lawful hl hr
          (Device.beyond_of (Device.spendReservation_media h1) hb))

@[simp] theorem Device.countOff_lawful {d : Device} {f : FeedId} {r : Record} (lawful : d.Lawful)  :
    (Device.countOff d f r).Lawful := by
  unfold Device.countOff; (repeat' split) <;> simp (maxDischargeDepth := 12) [*]

@[simp] theorem Device.confirm_lawful {d : Device} {f : FeedId} {c : CartId} {b : Flight} (lawful : d.Lawful) :
    (d.confirm f c b).Lawful := by
  unfold Device.confirm
  extract_lets d1 d2
  have h1 : d1.Lawful := Device.modFeed_lawful lawful fun x hx => by
    have := Feed.law_flights hx
    have := Feed.law_sum hx
    refine ⟨Feed.law_mk.mpr ⟨?_, ?_⟩, rfl⟩ <;> simp <;> omega
  split
  · rename_i hs
    have h2 : d2.Lawful := Device.editCart_lawful h1 (fun _ => rfl) fun _ x n _ hn =>
      ⟨_, rfl, by unfold eodAfter; rw [hn]; exact Nat.le_max_left _ _⟩
    have hb : d2.Beyond c b.tape.number := by
      obtain ⟨e, he⟩ := Option.isSome_iff_exists.mp hs
      refine ⟨{ e with eod := some (eodAfter e b.tape.number) }, eodAfter e b.tape.number, ?_, rfl, ?_⟩
      · unfold d2; rw [Device.cart_editCart, if_pos rfl, he]; rfl
      · unfold eodAfter; omega
    clear_value d2
    generalize b.block.records = rs
    induction rs generalizing d2 with
    | nil => exact h2
    | cons r rs ih =>
      refine ih _ (Device.countOff_lawful (Device.mapRecord_lawful h2 hb)) (Device.beyond_of ?_ hb)
      rw [Device.countOff_media, Device.mapRecord_media]
  · exact h1

@[simp] theorem Device.underrun_lawful {d : Device} {f : FeedId} (lawful : d.Lawful) : (d.underrun f).Lawful := by
  unfold Device.underrun
  split
  · exact lawful
  · rename_i x hx
    split
    · exact Device.setFeedOf_lawful lawful hx (show x.Law from Device.feed_law lawful hx) rfl
    · exact lawful

@[simp] theorem Device.feedWrite_lawful {d : Device} {f : FeedId} {r : DriveResult} (lawful : d.Lawful) :
    (d.feedWrite f r).Lawful := by
  unfold Device.feedWrite
  split
  · exact lawful
  · rename_i x hx
    have hs := Device.feed_law lawful hx
    split
    · exact Device.post_lawful (Device.setFeedOf_lawful lawful hx hs rfl)
    · split
      · split
        · refine Device.post_lawful ?_
          split <;> simp (maxDischargeDepth := 12) [lawful]
        · exact Device.post_lawful (Device.spanTrigger_lawful
            (Device.setFeedOf_lawful lawful hx (Feed.returnFlights_law hs) rfl))
      · exact lawful

@[simp] theorem Device.feedSpeed_lawful {d : Device} {f : FeedId} (lawful : d.Lawful)  :
    (Device.feedSpeed d f).Lawful := by simp (maxDischargeDepth := 12) [Device.feedSpeed, *]

@[simp] theorem Device.feedServed_lawful {d : Device} {f : FeedId} {i : DriveId} {c : CartId} (lawful : d.Lawful)  :
    (Device.feedServed d f i c).Lawful := by simp (maxDischargeDepth := 12) [Device.feedServed, *]

@[simp] theorem Device.feedNoMedia_lawful {d : Device} {f : FeedId} (lawful : d.Lawful)  :
    (Device.feedNoMedia d f).Lawful := by
  unfold Device.feedNoMedia; dsimp only; (repeat' split) <;> simp (maxDischargeDepth := 12) [*]

@[simp] theorem Device.feedSuspend_lawful {d : Device} {f : FeedId} (lawful : d.Lawful)  :
    (Device.feedSuspend d f).Lawful := by simp (maxDischargeDepth := 12) [Device.feedSuspend, *]

@[simp] theorem Device.feedUnsuspend_lawful {d : Device} {f : FeedId} (lawful : d.Lawful)  :
    (Device.feedUnsuspend d f).Lawful := by simp (maxDischargeDepth := 12) [Device.feedUnsuspend, *]

@[simp] theorem Device.feedPushed_lawful {d : Device} {f : FeedId} (lawful : d.Lawful)  :
    (Device.feedPushed d f).Lawful := by simp (maxDischargeDepth := 12) [Device.feedPushed, *]

@[simp] theorem Device.feedResumed_lawful {d : Device} {f : FeedId} (lawful : d.Lawful)  :
    (Device.feedResumed d f).Lawful := by simp (maxDischargeDepth := 12) [Device.feedResumed, *]

@[simp] theorem Device.feedResumeFailed_lawful {d : Device} {f : FeedId} (lawful : d.Lawful)  :
    (Device.feedResumeFailed d f).Lawful := by simp (maxDischargeDepth := 12) [Device.feedResumeFailed, *]

@[simp] theorem Device.feedUnbind_lawful {d : Device} {f : FeedId} (lawful : d.Lawful) : (d.feedUnbind f).Lawful := by
  unfold Device.feedUnbind
  split
  · exact lawful
  · rename_i x hx
    extract_lets _ d1 d2 d3 d4 d5 d6
    have h1 : d1.Lawful :=
      Device.setFeedOf_lawful lawful hx (Feed.returnFlights_law (Device.feed_law lawful hx)) rfl
    have h2 : d2.Lawful := by unfold d2; split <;> simp (maxDischargeDepth := 12) [h1]
    clear_value d2
    simp (maxDischargeDepth := 12) [d6, d5, d4, d3, h2]

@[simp] theorem Device.freePicker_lawful {d : Device} (lawful : d.Lawful)  :
    (Device.freePicker d).Lawful := by simp (maxDischargeDepth := 12) [Device.freePicker, *]

@[simp] theorem Device.faultPicker_lawful {d : Device} {elems : List ElemId} {arg : ElemId} (lawful : d.Lawful)  :
    (Device.faultPicker d elems arg).Lawful := by simp (maxDischargeDepth := 12) [Device.faultPicker, *]

@[simp] theorem Device.ensurePlacement_lawful {d : Device} (lawful : d.Lawful)  :
    (Device.ensurePlacement d).Lawful := by
  unfold Device.ensurePlacement; (repeat' split) <;> simp (maxDischargeDepth := 12) [*]

theorem Device.aimPlacement_lawful {d d' : Device} {m : Move} (lawful : d.Lawful) (h : d.aimPlacement m = some d')  :
    d'.Lawful := by
  unfold Device.aimPlacement at h
  split at h
  · cases hs : d.destination m.load <;> simp [hs] at h
    rw [← h]; simp (maxDischargeDepth := 12) [lawful]
  · cases h; exact lawful

@[simp] theorem Device.endMove_lawful {d : Device} {m : Move} {r : MoveResult} (lawful : d.Lawful)  :
    (Device.endMove d m r).Lawful := by
  unfold Device.endMove; (repeat' split) <;> simp (maxDischargeDepth := 12) [*]

@[simp] theorem Device.loseMail_lawful {d : Device} {m : Move} (lawful : d.Lawful)  :
    (d.loseMail m).Lawful := by
  unfold Device.loseMail
  split
  · exact Device.lawful_foldl (fun d e h => by split <;> simp [h]) _ lawful
  · exact lawful

@[simp] theorem Device.startMove_lawful {d : Device} {m : Move} (lawful : d.Lawful)  :
    (Device.startMove d m).1.Lawful := by
  unfold Device.startMove; (repeat' split) <;> simp (maxDischargeDepth := 12) [*]

@[simp] theorem Device.requeueMove_lawful {d : Device} {m : Move} {e : ElemId} (lawful : d.Lawful)  :
    (Device.requeueMove d m e).Lawful := by simp (maxDischargeDepth := 12) [Device.requeueMove, *]

@[simp] theorem Device.resolveMove_lawful {d : Device} {m : Move} (lawful : d.Lawful)  :
    (Device.resolveMove d m).Lawful := by
  unfold Device.resolveMove; (repeat' split) <;> simp (maxDischargeDepth := 12) [*]

@[simp] theorem Device.resolveInterrupted_lawful {d : Device} {id : Nat} (lawful : d.Lawful) :
    (d.resolveInterrupted id).Lawful := by
  unfold Device.resolveInterrupted; (repeat' split) <;> simp (maxDischargeDepth := 12) [*]

@[simp] theorem Device.resetResolve_lawful {d : Device} {r : ResetSeq} (lawful : d.Lawful) :
    (Device.resetResolve d r).Lawful := by
  have h := Device.lawful_foldl (g := Device.resolveInterrupted) (fun _ _ h => Device.resolveInterrupted_lawful h) r.interrupted lawful
  unfold Device.resetResolve; simp (maxDischargeDepth := 12) [h]

@[simp] theorem Device.resetScan_lawful {d : Device} {r : ResetSeq} {todo : List ElemId} (lawful : d.Lawful)  :
    (Device.resetScan d r todo).Lawful := by
  unfold Device.resetScan; (repeat' split) <;> simp (maxDischargeDepth := 12) [*]

@[simp] theorem Device.runPlacement_lawful {d : Device} {r : ResetSeq} (lawful : d.Lawful) :
    (d.runPlacement r).Lawful := by
  unfold Device.runPlacement
  extract_lets d1 _ d2
  have h2 : d2.Lawful := Device.ensurePlacement_lawful lawful
  split
  · exact Device.resetScan_lawful h2
  · split
    · exact Device.resetScan_lawful h2
    · rename_i aimed ha
      have hm := Device.aimPlacement_lawful h2 ha
      split
      · exact Device.resetScan_lawful h2
      · extract_lets begun
        have hb : begun.1.Lawful := Device.startMove_lawful hm
        split
        · exact hb
        · exact Device.resetScan_lawful (Device.ensurePlacement_lawful hb)

@[simp] theorem Device.takeUpPlacement_lawful {d : Device} {r : ResetSeq} (lawful : d.Lawful) :
    (d.takeUpPlacement r).1.Lawful := by
  unfold Device.takeUpPlacement
  split
  · rename_i m _
    split
    · refine Device.modMove_lawful (Device.lawful_whole lawful ⟨rfl, rfl, rfl⟩ (fun _ _ => rfl) fun c e => ?_)
      refine (Device.located lawful c e).trans ?_
      simp [Device.elem]
    · exact lawful
  · exact lawful

@[simp] theorem Device.resetPlace_lawful {d : Device} {r : ResetSeq} (lawful : d.Lawful) : (d.resetPlace r).Lawful :=
  Device.runPlacement_lawful (Device.takeUpPlacement_lawful lawful)

@[simp] theorem Device.changerReset_lawful {d : Device} (lawful : d.Lawful)  :
    (Device.changerReset d).Lawful := by simp (maxDischargeDepth := 12) [Device.changerReset, *]

@[simp] theorem Device.afterMove_lawful {d : Device} (lawful : d.Lawful)  :
    (Device.afterMove d).Lawful := by
  unfold Device.afterMove; (repeat' split) <;> simp (maxDischargeDepth := 12) [*]

@[simp] theorem Device.failMove_lawful {d : Device} {m : Move} {c : MoveCause} (lawful : d.Lawful)  :
    (Device.failMove d m c).Lawful := by simp (maxDischargeDepth := 12) [Device.failMove, *]

@[simp] theorem Device.gripFault_lawful {d : Device} {m : Move} (lawful : d.Lawful)  :
    (Device.gripFault d m).Lawful := by simp (maxDischargeDepth := 12) [Device.gripFault, *]

@[simp] theorem Device.holdInPicker_lawful {d : Device} {m : Move} (lawful : d.Lawful)  :
    (Device.holdInPicker d m).Lawful := by simp (maxDischargeDepth := 12) [Device.holdInPicker, *]

@[simp] theorem Device.gripFailure_lawful {d : Device} {m : Move} {b : ElemId} {atSource : Bool} (lawful : d.Lawful)  :
    (Device.gripFailure d m b atSource).Lawful := by
  unfold Device.gripFailure; (repeat' split) <;> simp (maxDischargeDepth := 12) [*]

@[simp] theorem Device.transferEnd_lawful {d : Device} {m : Move} {b : ElemId} {r : TransferResult} (lawful : d.Lawful)  :
    (Device.transferEnd d m b r).Lawful := by
  unfold Device.transferEnd; (repeat' split) <;> simp (maxDischargeDepth := 12) [*]

@[simp] theorem Device.advanceInventory_lawful {d : Device} {v : Inventory} (lawful : d.Lawful)  :
    (Device.advanceInventory d v).Lawful := by
  unfold Device.advanceInventory; (repeat' split) <;> simp (maxDischargeDepth := 12) [*]

@[simp] theorem Device.inventoryStep_lawful {d : Device} {v : Inventory} (lawful : d.Lawful)  :
    (Device.inventoryStep d v).Lawful := by
  unfold Device.inventoryStep; (repeat' split) <;> simp (maxDischargeDepth := 12) [*]

@[simp] theorem Device.inventoryScanned_lawful {d : Device} {e : ElemId} {r : ScanResult} {stale : Bool} (lawful : d.Lawful)  :
    (Device.inventoryScanned d e r stale).Lawful := by
  unfold Device.inventoryScanned; (repeat' split) <;> simp (maxDischargeDepth := 12) [*]

@[simp] theorem Device.mailScanned_lawful {d : Device} {e : ElemId} {r : ScanResult} {stale : Bool} (lawful : d.Lawful)  :
    (Device.mailScanned d e r stale).Lawful := by
  unfold Device.mailScanned; dsimp only; (repeat' split) <;> simp (maxDischargeDepth := 12) [*]

@[simp] theorem Device.scanEnd_lawful {d : Device} {e : ElemId} {purpose : ScanFor} {stale : Bool} {r : ScanResult} (lawful : d.Lawful)  :
    (Device.scanEnd d e purpose stale r).Lawful := by
  unfold Device.scanEnd; dsimp only; (repeat' split) <;> simp (maxDischargeDepth := 12) [*]

@[simp] theorem Device.rehomeEnd_lawful {d : Device} {r : ScanResult} (lawful : d.Lawful)  :
    (Device.rehomeEnd d r).Lawful := by
  unfold Device.rehomeEnd; dsimp only; (repeat' split) <;> simp (maxDischargeDepth := 12) [*]

@[simp] theorem Device.pickerChoose_lawful {d : Device} (lawful : d.Lawful)  :
    d.pickerChoose.Lawful := by
  unfold Device.pickerChoose
  split
  · split
    · exact lawful
    · rename_i m _
      lift_lets; intro aimed
      have ha : ∀ e, aimed = some e → e.Lawful := by
        intro e h
        by_cases hm : m.places = true
        · exact Device.aimPlacement_lawful lawful (by simpa [aimed, hm] using h)
        · have : d = e := by simpa [aimed, hm] using h
          exact this ▸ lawful
      clear_value aimed
      split
      · exact lawful
      · have he := ha _ rfl
        split
        · exact he
        · lift_lets; intro b; split <;> simp (maxDischargeDepth := 12) [b, he]
    · exact Device.inventoryStep_lawful lawful
    · split <;> simp (maxDischargeDepth := 12) [lawful]
  · exact lawful

@[simp] theorem Device.orderTimedOut_lawful {d : Device} {k : OrderKind} (lawful : d.Lawful)  :
    (Device.orderTimedOut d k).Lawful := by
  unfold Device.orderTimedOut; (repeat' split) <;> simp (maxDischargeDepth := 12) [*]

@[simp] theorem Device.loseMailSlots_lawful {d : Device} (lawful : d.Lawful)  :
    (Device.loseMailSlots d).Lawful := by
  unfold Device.loseMailSlots
  refine Device.lawful_foldl (fun d a h => ?_) _ (by simp (maxDischargeDepth := 12) [*])
  (repeat' split) <;> simp (maxDischargeDepth := 12) [*]

@[simp] theorem Device.staleScan_lawful {d : Device} (lawful : d.Lawful)  :
    (Device.staleScan d).Lawful := by
  unfold Device.staleScan; (repeat' split) <;> simp (maxDischargeDepth := 12) [*]

@[simp] theorem Device.doorOpens_lawful {d : Device} (lawful : d.Lawful)  :
    (Device.doorOpens d).Lawful := by simp (maxDischargeDepth := 12) [Device.doorOpens, *]

@[simp] theorem Device.doorCloses_lawful {d : Device} (lawful : d.Lawful)  :
    (Device.doorCloses d).Lawful := by simp (maxDischargeDepth := 12) [Device.doorCloses, *]

@[simp] theorem Device.reportNone_lawful {d : Device} {k : Claim} (lawful : d.Lawful)  :
    (Device.reportNone d k).Lawful := by
  unfold Device.reportNone; (repeat' split) <;> simp (maxDischargeDepth := 12) [*]

@[simp] theorem Device.weigh_lawful {i : DriveId} {ks : List Claim} {d : Device} (lawful : d.Lawful)  :
    (Device.weigh i ks d).1.Lawful := by
  induction ks generalizing d with
  | nil => exact lawful
  | cons k ks ih =>
    unfold Device.weigh
    (repeat' split) <;> simp (maxDischargeDepth := 12) [ih, lawful]

@[simp] theorem Device.startUnload_lawful {d : Device} {i : DriveId} {p : Phase} (lawful : d.Lawful)  :
    (Device.startUnload d i p).Lawful := by simp (maxDischargeDepth := 12) [Device.startUnload, *]

@[simp] theorem Device.startUnmount_lawful {d : Device} {i : DriveId} (lawful : d.Lawful)  :
    (Device.startUnmount d i).Lawful := by simp (maxDischargeDepth := 12) [Device.startUnmount, *]

@[simp] theorem Device.toIdle_lawful {d : Device} {i : DriveId} (lawful : d.Lawful)  :
    (Device.toIdle d i).Lawful := by simp (maxDischargeDepth := 12) [Device.toIdle, *]

@[simp] theorem Device.idleOrUnmount_lawful {d : Device} {i : DriveId} (lawful : d.Lawful)  :
    (Device.idleOrUnmount d i).Lawful := by
  unfold Device.idleOrUnmount; dsimp only; (repeat' split) <;> simp (maxDischargeDepth := 12) [*]

@[simp] theorem Device.handOverDrive_lawful {d : Device} {i : DriveId} {w : Work} (lawful : d.Lawful)  :
    (Device.handOverDrive d i w).Lawful := by simp (maxDischargeDepth := 12) [Device.handOverDrive, *]

@[simp] theorem Device.finalizeEnd_lawful {d : Device} {c : CartId} {r : FinalizeResult} (lawful : d.Lawful)  :
    (Device.finalizeEnd d c r).Lawful := by simp (maxDischargeDepth := 12) [Device.finalizeEnd, *]

@[simp] theorem Device.finalizeDone_lawful {d : Device} {c : CartId} {n : Nat} (lawful : d.Lawful) :
    (d.finalizeDone c n).Lawful :=
  Device.raise_lawful (Device.withdrawOf_lawful (Device.editCart_lawful lawful (fun _ => rfl) fun _ x n _ hn =>
    ⟨_, rfl, by unfold eodAfter; rw [hn]; exact Nat.le_max_left _ _⟩))

@[simp] theorem Device.finalWrite_lawful {d : Device} {i : DriveId} {c : CartId} {e : Cart} (lawful : d.Lawful)  :
    (Device.finalWrite d i c e).Lawful := by
  unfold Device.finalWrite; (repeat' split) <;> simp (maxDischargeDepth := 12) [*]

@[simp] theorem Device.mountFailed_lawful {d : Device} {i : DriveId} (lawful : d.Lawful)  :
    (Device.mountFailed d i).Lawful := by
  unfold Device.mountFailed; (repeat' split) <;> simp (maxDischargeDepth := 12) [*]

@[simp] theorem Device.checkNotReady_lawful {d : Device} {i : DriveId} (lawful : d.Lawful) :
    (Device.checkNotReady d i).Lawful := by
  unfold Device.checkNotReady; (repeat' split) <;> simp (maxDischargeDepth := 12) [*]

@[simp] theorem Device.checkFailed_lawful {d : Device} {i : DriveId} {r : FinalizeResult} (lawful : d.Lawful)  :
    (Device.checkFailed d i r).Lawful := by
  unfold Device.checkFailed; (repeat' split) <;> simp (maxDischargeDepth := 12) [*]

@[simp] theorem Device.eodMismatch_lawful {d : Device} {c : CartId} {ends : Bool} (lawful : d.Lawful)  :
    (Device.eodMismatch d c ends).Lawful := by simp (maxDischargeDepth := 12) [Device.eodMismatch, *]

@[simp] theorem Device.appendMismatch_lawful {d : Device} {i : DriveId} {c : CartId} (lawful : d.Lawful)  :
    (Device.appendMismatch d i c).Lawful := by simp (maxDischargeDepth := 12) [Device.appendMismatch, *]

@[simp] theorem Device.appendGood_lawful {d : Device} {i : DriveId} {c : CartId} {e : Cart} (lawful : d.Lawful)  :
    (Device.appendGood d i c e).Lawful := by
  unfold Device.appendGood; dsimp only; (repeat' split) <;> simp (maxDischargeDepth := 12) [*]

@[simp] theorem Device.appendRead_lawful {d : Device} {i : DriveId} {c : CartId} (lawful : d.Lawful)  :
    (Device.appendRead d i c).Lawful := by
  unfold Device.appendRead; dsimp only; (repeat' split) <;> simp (maxDischargeDepth := 12) [*]

@[simp] theorem Device.beginAppend_lawful {d : Device} {i : DriveId} (lawful : d.Lawful)  :
    (Device.beginAppend d i).Lawful := by
  unfold Device.beginAppend; (repeat' split) <;> simp (maxDischargeDepth := 12) [*]

@[simp] theorem Device.writeLabel_lawful {d : Device} {i : DriveId} {c : CartId} {job : LabelJob} (lawful : d.Lawful)  :
    (Device.writeLabel d i c job).Lawful := by
  unfold Device.writeLabel; (repeat' split) <;> simp (maxDischargeDepth := 12) [*]

@[simp] theorem Device.beginLabelling_lawful {d : Device} {i : DriveId} {c : CartId} {e : Cart} {p : PoolId} (lawful : d.Lawful)  :
    (Device.beginLabelling d i c e p).Lawful := by
  unfold Device.beginLabelling; (repeat' split) <;> simp (maxDischargeDepth := 12) [*]

@[simp] theorem Device.labelFailed_lawful {d : Device} {i : DriveId} {c : CartId} (lawful : d.Lawful)  :
    (Device.labelFailed d i c).Lawful := by simp (maxDischargeDepth := 12) [Device.labelFailed, *]

@[simp] theorem Device.labelled_lawful {d : Device} {i : DriveId} {c : CartId} {job : LabelJob} (lawful : d.Lawful) :
    (d.labelled i c job).Lawful := by
  unfold Device.labelled
  split
  · rename_i e he
    split
    · rename_i hl
      refine Device.appendGood_lawful (Device.writeCart_lawful lawful (fun y => ?_) fun _ x n hx hn => ?_)
      · rw [he]; rfl
      · rw [he] at hx
        cases hx
        refine ⟨_, 1, rfl, rfl, ?_⟩
        simp [Cart.labellable, hn] at hl
        omega
    · exact Device.mountFailed_lawful lawful
  · exact Device.mountFailed_lawful lawful

@[simp] theorem Device.beginLabel_lawful {d : Device} {i : DriveId} (lawful : d.Lawful)  :
    (Device.beginLabel d i).Lawful := by simp (maxDischargeDepth := 12) [Device.beginLabel, *]

@[simp] theorem Device.labelGood_lawful {d : Device} {i : DriveId} {c : CartId} (lawful : d.Lawful)  :
    (Device.labelGood d i c).Lawful := by
  unfold Device.labelGood; (repeat' split) <;> simp (maxDischargeDepth := 12) [*]

@[simp] theorem Device.labelBad_lawful {d : Device} {i : DriveId} {c : CartId} (lawful : d.Lawful)  :
    (Device.labelBad d i c).Lawful := by
  unfold Device.labelBad; dsimp only; (repeat' split) <;> simp (maxDischargeDepth := 12) [*]

@[simp] theorem Device.labelRead_lawful {d : Device} {i : DriveId} {retries : Nat} {r : DriveResult} {block : Bytes} (lawful : d.Lawful)  :
    (Device.labelRead d i retries r block).Lawful := by
  unfold Device.labelRead; (repeat' split) <;> simp (maxDischargeDepth := 12) [*]

@[simp] theorem Device.appendReadEnd_lawful {d : Device} {i : DriveId} {retries : Nat} {r : DriveResult} {block : Bytes} (lawful : d.Lawful)  :
    (Device.appendReadEnd d i retries r block).Lawful := by
  unfold Device.appendReadEnd; dsimp only; (repeat' split) <;> simp (maxDischargeDepth := 12) [*]

@[simp] theorem Device.appendEndFound_lawful {d : Device} {i : DriveId} {r : DriveResult} {n : Nat} (lawful : d.Lawful) :
    (d.appendEndFound i r n).Lawful := by
  unfold Device.appendEndFound
  split
  · exact Device.mountFailed_lawful lawful
  · split
    · exact Device.appendRead_lawful (Device.editCart_lawful lawful (fun _ => rfl) fun _ x m _ hm =>
        ⟨m, by rw [hm]; rfl, Nat.le_refl m⟩)
    · exact Device.appendMismatch_lawful lawful

@[simp] theorem Device.hostReady_lawful {d : Device} {m : Nat} (lawful : d.Lawful)  :
    (Device.hostReady d m).Lawful := by
  unfold Device.hostReady; (repeat' split) <;> simp (maxDischargeDepth := 12) [*]

@[simp] theorem Device.prepareHost_lawful {d : Device} {i : DriveId} (lawful : d.Lawful)  :
    (Device.prepareHost d i).Lawful := by
  unfold Device.prepareHost; (repeat' split) <;> simp (maxDischargeDepth := 12) [*]

@[simp] theorem Device.serveHost_lawful {d : Device} {i : DriveId} {k : Claim} (lawful : d.Lawful)  :
    (Device.serveHost d i k).Lawful := by
  unfold Device.serveHost; dsimp only; (repeat' split) <;> simp (maxDischargeDepth := 12) [*]

@[simp] theorem Device.presentHost_lawful {d : Device} {i : DriveId} (lawful : d.Lawful)  :
    (Device.presentHost d i).Lawful := by
  unfold Device.presentHost; (repeat' split) <;> simp (maxDischargeDepth := 12) [*]

@[simp] theorem Device.beginMount_lawful {d : Device} {i : DriveId} (lawful : d.Lawful)  :
    (d.beginMount i).Lawful := by
  unfold Device.beginMount
  (repeat' split) <;> try simp (maxDischargeDepth := 12) [lawful]
  rename_i h
  exact Device.setPhase_lawful (Device.requestMove_lawful lawful h)

@[simp] theorem Device.assign_lawful {d : Device} {k : Claim} {c : Choice} (lawful : d.Lawful)  :
    (Device.assign d k c).Lawful := by
  unfold Device.assign; dsimp only; (repeat' split) <;> simp (maxDischargeDepth := 12) [*]

@[simp] theorem Device.decideDrive_lawful {i : DriveId} {fuel : Nat} {d : Device} (lawful : d.Lawful)  :
    (Device.decideDrive i fuel d).Lawful := by
  induction fuel generalizing d with
  | zero => exact lawful
  | succ n ih =>
    unfold Device.decideDrive
    split
    · lift_lets; intro cs first
      clear_value first
      cases first with
      | some a => simp (maxDischargeDepth := 12) [lawful]
      | none =>
        have hw := Device.weigh_lawful (i := i) (ks := cs) lawful
        dsimp only
        split <;> rename_i h <;> rw [h] at hw
        · split <;> simp_all
        · exact hw
    · exact lawful

@[simp] theorem Device.settleRelease_lawful {d : Device} {i : DriveId} (lawful : d.Lawful)  :
    (Device.settleRelease d i).Lawful := by
  unfold Device.settleRelease; dsimp only; (repeat' split) <;> simp (maxDischargeDepth := 12) [*]

@[simp] theorem Device.arbitrate_lawful {d : Device} (lawful : d.Lawful)  :
    d.arbitrate.Lawful := Device.postAll_lawful (Device.lawful_foldl (fun _ _ h => Device.settleRelease_lawful h) _
    (Device.lawful_foldl (fun _ _ h => Device.decideDrive_lawful h) _ lawful))

@[simp] theorem Device.driveEmptied_lawful {d : Device} {i : DriveId} (lawful : d.Lawful)  :
    (Device.driveEmptied d i).Lawful := by simp (maxDischargeDepth := 12) [Device.driveEmptied, *]

@[simp] theorem Device.mountDone_lawful {d : Device} {i : DriveId} {l : Load} {host : Bool} (lawful : d.Lawful)  :
    (Device.mountDone d i l host).Lawful := by
  unfold Device.mountDone; (repeat' split) <;> simp (maxDischargeDepth := 12) [*]

@[simp] theorem Device.askReturn_lawful {d : Device} {i : DriveId} (lawful : d.Lawful)  :
    (d.askReturn i).Lawful := by
  unfold Device.askReturn
  dsimp only
  (repeat' split) <;> try simp (maxDischargeDepth := 12) [lawful]
  rename_i h
  exact Device.setPhase_lawful (Device.requestMove_lawful (Device.takeDestination_lawful lawful) h)

@[simp] theorem Device.askAllReturns_lawful {d : Device} (lawful : d.Lawful)  :
    (Device.askAllReturns d).Lawful := by
  unfold Device.askAllReturns
  refine Device.lawful_foldl (fun d a h => ?_) _ (by simp (maxDischargeDepth := 12) [*])
  (repeat' split) <;> simp (maxDischargeDepth := 12) [*]

@[simp] theorem Device.returnAgain_lawful {d : Device} {i : DriveId} {b : Option ElemId} (lawful : d.Lawful)  :
    (d.returnAgain i b).Lawful := by
  unfold Device.returnAgain
  dsimp only
  (repeat' split) <;> try simp (maxDischargeDepth := 12) [lawful]
  rename_i h
  exact Device.setPhase_lawful (Device.requestMove_lawful lawful h)

@[simp] theorem Device.returnEnded_lawful {d : Device} {i : DriveId} {m : Move} {r : MoveResult} (lawful : d.Lawful)  :
    (Device.returnEnded d i m r).Lawful := by
  unfold Device.returnEnded; (repeat' split) <;> simp (maxDischargeDepth := 12) [*]

@[simp] theorem Device.checkSuspension_lawful {d : Device} {i : DriveId} (lawful : d.Lawful)  :
    (Device.checkSuspension d i).Lawful := by
  unfold Device.checkSuspension; dsimp only; (repeat' split) <;> simp (maxDischargeDepth := 12) [*]

theorem Device.popContext_lawful {d : Device} {i : DriveId} {k : Context} {rest : List Context} (lawful : d.Lawful)
    (hr : rest.Sublist (d.drive i).stack) : (d.popContext i k rest).Lawful := by
  unfold Device.popContext
  extract_lets d1
  have h1 : d1.Lawful := Device.modDrive_stacks lawful fun h => h.sublist hr
  clear_value d1
  split
  · exact Device.issue_lawful (Device.setDrive_lawful (Device.modRestore_lawful h1))
  · exact Device.issue_lawful (Device.setDrive_lawful (Device.modPass_lawful h1))
  · exact Device.issue_lawful (Device.setDrive_lawful h1)

@[simp] theorem Device.workEnded_lawful {d : Device} {i : DriveId} (lawful : d.Lawful) : (d.workEnded i).Lawful := by
  unfold Device.workEnded
  extract_lets d1 x
  have h1 : d1.Lawful := Device.modDrive_lawful lawful rfl
  split
  · exact Device.idleOrUnmount_lawful h1
  · rename_i k rest hk
    have hr : rest.reverse.Sublist (d1.drive i).stack := by
      have : x.stack = rest.reverse ++ [k] := by rw [← List.reverse_reverse x.stack, hk]; simp
      rw [show (d1.drive i).stack = _ from this]
      exact List.sublist_append_left _ _
    dsimp only
    clear_value d1
    split
    · split
      · simp (maxDischargeDepth := 12) [h1]
      · exact Device.popContext_lawful h1 hr
    · exact Device.popContext_lawful h1 hr

@[simp] theorem Device.endWork_lawful {d : Device} {i : DriveId} (lawful : d.Lawful)  :
    (Device.endWork d i).Lawful := by
  unfold Device.endWork; (repeat' split) <;> simp (maxDischargeDepth := 12) [*]

@[simp] theorem Device.dropContext_lawful {d : Device} {w : Work} (lawful : d.Lawful) : (d.dropContext w).Lawful := by
  unfold Device.dropContext
  refine Device.lawful_foldl (fun d a h => ?_) _ lawful
  split
  · exact Device.modDrive_stacks h fun hs => hs.sublist List.filter_sublist
  · exact h

@[simp] theorem Device.cleanRequested_lawful {d : Device} {i : DriveId} (lawful : d.Lawful)  :
    (Device.cleanRequested d i).Lawful := by
  unfold Device.cleanRequested; dsimp only; (repeat' split) <;> simp (maxDischargeDepth := 12) [*]

@[simp] theorem Device.beginClean_lawful {d : Device} {i : DriveId} (lawful : d.Lawful)  :
    (Device.beginClean d i).Lawful := by simp (maxDischargeDepth := 12) [Device.beginClean, *]

@[simp] theorem Device.cleanEnd_lawful {d : Device} {i : DriveId} {r : DriveResult} (lawful : d.Lawful)  :
    (Device.cleanEnd d i r).Lawful := by
  unfold Device.cleanEnd; dsimp only; (repeat' split) <;> simp (maxDischargeDepth := 12) [*]

@[simp] theorem Device.present_lawful {d : Device} {client : XeClient} {record : TapeRecord} {age : Nat} (lawful : d.Lawful)  :
    (Device.present d client record age).Lawful := by simp (maxDischargeDepth := 12) [Device.present, *]

@[simp] theorem Device.withdrawXe_lawful {d : Device} {client : XeClient} (lawful : d.Lawful)  :
    (Device.withdrawXe d client).Lawful := lawful

@[simp] theorem Device.dropXe_lawful {d : Device} {client : XeClient} (lawful : d.Lawful)  :
    (Device.dropXe d client).Lawful := lawful

@[simp] theorem Device.xeChoose_lawful {d : Device} (lawful : d.Lawful)  :
    (Device.xeChoose d).Lawful := by
  unfold Device.xeChoose; (repeat' split) <;> simp (maxDischargeDepth := 12) [*]

@[simp] theorem Device.claimRestore_lawful {d : Device} {e : Restore} {c : CartId} (lawful : d.Lawful)  :
    (Device.claimRestore d e c).Lawful := by simp (maxDischargeDepth := 12) [Device.claimRestore, *]

@[simp] theorem Device.promoteOne_lawful {d : Device} (lawful : d.Lawful)  :
    (Device.promoteOne d).Lawful := by
  unfold Device.promoteOne; (repeat' split) <;> simp (maxDischargeDepth := 12) [*]

@[simp] theorem Device.promote_lawful {d : Device} (lawful : d.Lawful)  :
    d.promote.Lawful := by
  have h : ∀ n, (Nat.repeat Device.promoteOne n d).Lawful := by
    intro n
    induction n with
    | zero => exact lawful
    | succ n ih => exact Device.promoteOne_lawful ih
  exact h _

@[simp] theorem Device.endWorkOf_lawful {d : Device} {w : Work} (lawful : d.Lawful)  :
    (Device.endWorkOf d w).Lawful := by
  unfold Device.endWorkOf; (repeat' split) <;> simp (maxDischargeDepth := 12) [*]

@[simp] theorem Device.freeRestore_lawful {d : Device} {r : RestoreId} (lawful : d.Lawful)  :
    (Device.freeRestore d r).Lawful := lawful

@[simp] theorem Device.leaveRestore_lawful {d : Device} {r : RestoreId} {e : Restore} (lawful : d.Lawful)  :
    (Device.leaveRestore d r e).Lawful := by simp (maxDischargeDepth := 12) [Device.leaveRestore, *]

@[simp] theorem Device.endRestore_lawful {d : Device} {r : RestoreId} {status : EndStatus} (lawful : d.Lawful) :
    (d.endRestore r status).Lawful := by
  unfold Device.endRestore; (repeat' split) <;> simp (maxDischargeDepth := 12) [*]

@[simp] theorem Device.cancelRestores_lawful {d : Device} (lawful : d.Lawful) : d.cancelRestores.Lawful :=
  Device.post_lawful (Device.lawful_foldl (fun _ _ h => Device.setGrants_lawful (Device.freeRestore_lawful h)) _
    (Device.lawful_foldl (fun _ _ h => Device.endWorkOf_lawful h) _
      (Device.lawful_foldl (fun _ _ h => Device.leaveRestore_lawful h) _ lawful)))

@[simp] theorem Device.endRead_lawful {d : Device} {r : RestoreId} (lawful : d.Lawful)  :
    (Device.endRead d r).Lawful := by
  unfold Device.endRead; (repeat' split) <;> simp (maxDischargeDepth := 12) [*]

@[simp] theorem Device.locateStart_lawful {d : Device} {r : RestoreId} {i : DriveId} {n : Nat} (lawful : d.Lawful)  :
    (Device.locateStart d r i n).Lawful := by simp (maxDischargeDepth := 12) [Device.locateStart, *]

@[simp] theorem Device.restoreServed_lawful {d : Device} {r : RestoreId} {i : DriveId} (lawful : d.Lawful)  :
    (Device.restoreServed d r i).Lawful := by
  unfold Device.restoreServed; (repeat' split) <;> simp (maxDischargeDepth := 12) [*]

@[simp] theorem Device.chainTo_lawful {d : Device} {e : Restore} {q : Part} (lawful : d.Lawful)  :
    (Device.chainTo d e q).Lawful := by
  unfold Device.chainTo; dsimp only; (repeat' split) <;> simp (maxDischargeDepth := 12) [*]

@[simp] theorem Device.chainStep_lawful {d : Device} {e : Restore} {p : Part} (lawful : d.Lawful)  :
    (Device.chainStep d e p).Lawful := by
  unfold Device.chainStep; (repeat' split) <;> simp (maxDischargeDepth := 12) [*]

@[simp] theorem Device.partEnd_lawful {d : Device} {e : Restore} {p : Part} (lawful : d.Lawful)  :
    (Device.partEnd d e p).Lawful := by
  unfold Device.partEnd; dsimp only; (repeat' split) <;> simp (maxDischargeDepth := 12) [*]

@[simp] theorem Device.readOn_lawful {d : Device} {i : DriveId} {n : Nat} (lawful : d.Lawful)  :
    (Device.readOn d i n).Lawful := by
  unfold Device.readOn; (repeat' split) <;> simp (maxDischargeDepth := 12) [*]

@[simp] theorem Device.nextRead_lawful {d : Device} {e : Restore} {p : Part} (lawful : d.Lawful)  :
    (Device.nextRead d e p).Lawful := by
  unfold Device.nextRead; dsimp only; (repeat' split) <;> simp (maxDischargeDepth := 12) [*]

@[simp] theorem Device.restoreGoOn_lawful {d : Device} {r : RestoreId} (lawful : d.Lawful)  :
    (Device.restoreGoOn d r).Lawful := by
  unfold Device.restoreGoOn; (repeat' split) <;> simp (maxDischargeDepth := 12) [*]

@[simp] theorem Device.pushIfReady_lawful {d : Device} {i : DriveId} (lawful : d.Lawful)  :
    (Device.pushIfReady d i).Lawful := by
  unfold Device.pushIfReady; (repeat' split) <;> simp (maxDischargeDepth := 12) [*]

@[simp] theorem Device.restoreRead_lawful {d : Device} {r : RestoreId} {i : DriveId} {res : DriveResult} {block : Bytes} (lawful : d.Lawful)  :
    (Device.restoreRead d r i res block).Lawful := by
  unfold Device.restoreRead; dsimp only; (repeat' split) <;> simp (maxDischargeDepth := 12) [*]

theorem Device.emits_lawful {d : Device} {fs : List (Nat × Bytes)} {g : Nat × Bytes → OutFrame} (lawful : d.Lawful)  :
    (fs.foldl (fun d f => d.emit (g f)) d).Lawful := Device.lawful_foldl (fun _ _ h => Device.emit_lawful h) _ lawful

@[simp] theorem Device.sendFrames_lawful {d : Device} {r : RestoreId} (lawful : d.Lawful) : (d.sendFrames r).Lawful := by
  unfold Device.sendFrames
  split
  · exact lawful
  · extract_lets n d1 d2 rest
    have h1 : d1.Lawful := Device.emits_lawful lawful
    have h2 : d2.Lawful := Device.setGrants_lawful h1
    split
    · exact Device.restoreGoOn_lawful (Device.modRestore_lawful h2)
    · exact Device.modRestore_lawful h2

@[simp] theorem Device.restoreResult_lawful {d : Device} {r : RestoreId} {res : XeResult} (lawful : d.Lawful)  :
    (Device.restoreResult d r res).Lawful := by
  unfold Device.restoreResult; (repeat' split) <;> simp (maxDischargeDepth := 12) [*]

@[simp] theorem Device.resultToRestore_lawful {d : Device} {r : RestoreId} {res : XeResult} (lawful : d.Lawful)  :
    (Device.resultToRestore d r res).Lawful := by
  unfold Device.resultToRestore; (repeat' split) <;> simp (maxDischargeDepth := 12) [*]

@[simp] theorem Device.restoreResume_lawful {d : Device} {r : RestoreId} (lawful : d.Lawful)  :
    (Device.restoreResume d r).Lawful := by
  unfold Device.restoreResume; dsimp only; (repeat' split) <;> simp (maxDischargeDepth := 12) [*]

@[simp] theorem Device.restorePushed_lawful {d : Device} {r : RestoreId} (lawful : d.Lawful)  :
    (Device.restorePushed d r).Lawful := lawful

@[simp] theorem Device.modEntry_lawful {d : Device} {c : CartId} {g : VerifyEntry → VerifyEntry} (lawful : d.Lawful)  :
    (Device.modEntry d c g).Lawful := by
  unfold Device.modEntry; (repeat' split) <;> simp (maxDischargeDepth := 12) [*]

@[simp] theorem Device.insertNew_lawful {d : Device} {c : CartId} (lawful : d.Lawful)  :
    (Device.insertNew d c).Lawful := by simp (maxDischargeDepth := 12) [Device.insertNew, *]

@[simp] theorem Device.recompute_lawful {d : Device} {c : CartId} (lawful : d.Lawful)  :
    (Device.recompute d c).Lawful := by simp (maxDischargeDepth := 12) [Device.recompute, *]

@[simp] theorem Device.reclass_lawful {d : Device} {c : CartId} {src dst : ClaimKind} (lawful : d.Lawful)  :
    (Device.reclass d c src dst).Lawful := by
  unfold Device.reclass; (repeat' split) <;> simp (maxDischargeDepth := 12) [*]

@[simp] theorem Device.overdueTest_lawful {d : Device} {c : CartId} (lawful : d.Lawful)  :
    (Device.overdueTest d c).Lawful := by
  unfold Device.overdueTest; (repeat' split) <;> simp (maxDischargeDepth := 12) [*]

@[simp] theorem Device.timeChanged_lawful {d : Device} {old : Nat} (lawful : d.Lawful)  :
    (Device.timeChanged d old).Lawful := by
  unfold Device.timeChanged; dsimp only; (repeat' split) <;> simp (maxDischargeDepth := 12) [*]

@[simp] theorem Device.claimVerify_lawful {d : Device} {e : VerifyEntry} {kind : ClaimKind} (lawful : d.Lawful)  :
    (Device.claimVerify d e kind).Lawful := by simp (maxDischargeDepth := 12) [Device.claimVerify, *]

@[simp] theorem Device.withdrawVerify_lawful {d : Device} {c : CartId} (lawful : d.Lawful)  :
    (Device.withdrawVerify d c).Lawful := by simp (maxDischargeDepth := 12) [Device.withdrawVerify, *]

@[simp] theorem Device.scheduleLoop_lawful {fuel : Nat} {d : Device} (lawful : d.Lawful)  :
    (Device.scheduleLoop fuel d).Lawful := by
  induction fuel generalizing d with
  | zero => exact lawful
  | succ n ih =>
    unfold Device.scheduleLoop
    (repeat' split) <;> simp (maxDischargeDepth := 12) [ih, lawful]

@[simp] theorem Device.verifySchedule_lawful {d : Device} (lawful : d.Lawful)  :
    (Device.verifySchedule d).Lawful := by simp (maxDischargeDepth := 12) [Device.verifySchedule, *]

@[simp] theorem Device.entryChanged_lawful {d : Device} {c : CartId} (lawful : d.Lawful)  :
    (Device.entryChanged d c).Lawful := by simp (maxDischargeDepth := 12) [Device.entryChanged, *]

@[simp] theorem Device.verifyNotify_lawful {d : Device} {c : CartId} (lawful : d.Lawful)  :
    (Device.verifyNotify d c).Lawful := by
  unfold Device.verifyNotify; (repeat' split) <;> simp (maxDischargeDepth := 12) [*]

@[simp] theorem Device.blockEntry_lawful {d : Device} {c : CartId} {r : BlockReason} (lawful : d.Lawful)  :
    (Device.blockEntry d c r).Lawful := by simp (maxDischargeDepth := 12) [Device.blockEntry, *]

@[simp] theorem Device.unblock_lawful {d : Device} {c : CartId} {r : BlockReason} (lawful : d.Lawful)  :
    (Device.unblock d c r).Lawful := by
  unfold Device.unblock; (repeat' split) <;> simp (maxDischargeDepth := 12) [*]

@[simp] theorem Device.settlePart_lawful {d : Device} {p : PassPart} (lawful : d.Lawful)  :
    (Device.settlePart d p).Lawful := by
  unfold Device.settlePart; (repeat' split) <;> simp (maxDischargeDepth := 12) [*]

@[simp] theorem Device.freePass_lawful {d : Device} {p : Pass} (lawful : d.Lawful)  :
    (Device.freePass d p).Lawful := Device.post_lawful (Device.lawful_foldl (fun _ _ h => Device.unpinVerify_lawful h) _ lawful)

@[simp] theorem Device.entryAfterPass_lawful {d : Device} {c : CartId} (lawful : d.Lawful)  :
    (Device.entryAfterPass d c).Lawful := by simp (maxDischargeDepth := 12) [Device.entryAfterPass, *]

@[simp] theorem Device.endPass_lawful {d : Device} {c : CartId} (lawful : d.Lawful)  :
    (d.endPass c).Lawful := by
  unfold Device.endPass
  split
  · exact lawful
  · exact Device.post_lawful (Device.endWorkOf_lawful (Device.entryAfterPass_lawful (Device.freePass_lawful
      (Device.lawful_foldl (fun _ _ h => Device.settlePart_lawful h) _ lawful))))

@[simp] theorem Device.abandonPass_lawful {d : Device} {c : CartId} {work : Bool} (lawful : d.Lawful)  :
    (Device.abandonPass d c work).Lawful := by
  unfold Device.abandonPass; (repeat' split) <;> simp (maxDischargeDepth := 12) [*]

@[simp] theorem Device.passStart_lawful {d : Device} {c : CartId} {i : DriveId} (lawful : d.Lawful)  :
    (d.passStart c i).Lawful := by
  unfold Device.passStart
  split
  · exact Device.endWorkOf_lawful lawful
  · extract_lets parts first last d1 p _ d2 d3
    have h1 : d1.Lawful := Device.lawful_foldl (fun _ _ h => Device.pinVerify_lawful h) _ lawful
    have h3 : d3.Lawful := Device.modEntry_lawful (d := d2) h1
    split
    · exact Device.endPass_lawful h3
    · simp (maxDischargeDepth := 12) [h3]

@[simp] theorem Device.failPart_lawful {d : Device} {c : CartId} {id : Nat} (lawful : d.Lawful)  :
    (Device.failPart d c id).Lawful := by simp (maxDischargeDepth := 12) [Device.failPart, *]

@[simp] theorem Device.passRecords_lawful {c : CartId} {block order : Nat} {qs : List TapeRecord} {d : Device}
    (lawful : d.Lawful)  :
    (Device.passRecords c block order qs d).1.Lawful := by
  induction qs generalizing d with
  | nil => simp (maxDischargeDepth := 12) [Device.passRecords, lawful]
  | cons q qs ih =>
    unfold Device.passRecords
    (repeat' split) <;> simp (maxDischargeDepth := 12) [ih, lawful]

@[simp] theorem Device.passNextRead_lawful {d : Device} {c : CartId} (lawful : d.Lawful)  :
    (Device.passNextRead d c).Lawful := by
  unfold Device.passNextRead; (repeat' split) <;> simp (maxDischargeDepth := 12) [*]

@[simp] theorem Device.passGoOn_lawful {d : Device} {c : CartId} (lawful : d.Lawful)  :
    (Device.passGoOn d c).Lawful := by
  unfold Device.passGoOn; dsimp only; (repeat' split) <;> simp (maxDischargeDepth := 12) [*]

@[simp] theorem Device.passLost_lawful {d : Device} {c : CartId} {n : Nat} (lawful : d.Lawful)  :
    (d.passLost c n).Lawful := by
  unfold Device.passLost
  split
  · exact lawful
  · exact Device.lawful_foldl (fun _ _ h => Device.failPart_lawful h) _ lawful

@[simp] theorem Device.passRead_lawful {d : Device} {c : CartId} {i : DriveId} {res : DriveResult} {block : Bytes} (lawful : d.Lawful)  :
    (Device.passRead d c i res block).Lawful := by
  unfold Device.passRead; dsimp only; (repeat' split) <;> simp (maxDischargeDepth := 12) [*]

@[simp] theorem Device.passResult_lawful {d : Device} {c : CartId} {res : XeResult} (lawful : d.Lawful)  :
    (Device.passResult d c res).Lawful := by
  unfold Device.passResult; (repeat' split) <;> simp (maxDischargeDepth := 12) [*]

@[simp] theorem Device.resultToPass_lawful {d : Device} {c : CartId} {res : XeResult} (lawful : d.Lawful)  :
    (Device.resultToPass d c res).Lawful := by
  unfold Device.resultToPass; (repeat' split) <;> simp (maxDischargeDepth := 12) [*]

@[simp] theorem Device.passResume_lawful {d : Device} {c : CartId} (lawful : d.Lawful)  :
    (Device.passResume d c).Lawful := by
  unfold Device.passResume; dsimp only; (repeat' split) <;> simp (maxDischargeDepth := 12) [*]

@[simp] theorem Device.passPushed_lawful {d : Device} {c : CartId} (lawful : d.Lawful)  :
    (Device.passPushed d c).Lawful := lawful

@[simp] theorem Device.resetMoves_lawful {d : Device} {i : DriveId} {rescan : Bool} (lawful : d.Lawful)  :
    (Device.resetMoves d i rescan).Lawful := by
  unfold Device.resetMoves
  refine Device.lawful_foldl (fun d a h => ?_) _ (by simp (maxDischargeDepth := 12) [*])
  (repeat' split) <;> simp (maxDischargeDepth := 12) [*]

@[simp] theorem Device.unreadyHost_lawful {d : Device} {i : DriveId} (lawful : d.Lawful)  :
    (Device.unreadyHost d i).Lawful := by
  unfold Device.unreadyHost; (repeat' split) <;> simp (maxDischargeDepth := 12) [*]

@[simp] theorem Device.endContext_lawful {d : Device} {w : Work} (lawful : d.Lawful)  :
    (Device.endContext d w).Lawful := by
  unfold Device.endContext; (repeat' split) <;> simp (maxDischargeDepth := 12) [*]

@[simp] theorem Device.endContexts_lawful {d : Device} {i : DriveId} (lawful : d.Lawful) : (d.endContexts i).Lawful := by
  unfold Device.endContexts
  exact Device.returnClaim_lawful (Device.lawful_foldl (fun _ _ h => Device.endContext_lawful h) _
    (Device.modDrive_stacks lawful fun _ => StackLaw.nil))

@[simp] theorem Device.resetStep3_lawful {d : Device} {i : DriveId} (lawful : d.Lawful)  :
    (Device.resetStep3 d i).Lawful := by
  unfold Device.resetStep3; (repeat' split) <;> simp (maxDischargeDepth := 12) [*]

@[simp] theorem Device.driveReset_lawful {d : Device} {i : DriveId} {rescan : Bool} (lawful : d.Lawful)  :
    (Device.driveReset d i rescan).Lawful := by
  unfold Device.driveReset; dsimp only; (repeat' split) <;> simp (maxDischargeDepth := 12) [*]

@[simp] theorem Device.faultFinalize_lawful {d : Device} {i : DriveId} (lawful : d.Lawful)  :
    (Device.faultFinalize d i).Lawful := by
  unfold Device.faultFinalize; (repeat' split) <;> simp (maxDischargeDepth := 12) [*]

@[simp] theorem Device.driveFault_lawful {d : Device} {i : DriveId} {cause : FaultCause} (lawful : d.Lawful)  :
    (Device.driveFault d i cause).Lawful := by
  unfold Device.driveFault; dsimp only; (repeat' split) <;> simp (maxDischargeDepth := 12) [*]

theorem Device.completion_lawful {d : Device} {i : DriveId} {number : BitVec 16} {name : CmdName} {r : DriveResult}
    {found : Nat} {k : Device → DriveCmd → DriveResult → Device} (lawful : d.Lawful)
    (hk : ∀ d c r, d.Lawful → (k d c r).Lawful)  :
    (d.completion i number name r found k).Lawful := by
  unfold Device.completion
  split
  · exact lawful
  · split
    · lift_lets; intro r' x
      split <;> simp (maxDischargeDepth := 12) [hk, x, lawful]
    · exact lawful

@[simp] theorem Device.commandTimedOut_lawful {d : Device} {i : DriveId} (lawful : d.Lawful)  :
    (Device.commandTimedOut d i).Lawful := by
  unfold Device.commandTimedOut; (repeat' split) <;> simp (maxDischargeDepth := 12) [*]

@[simp] theorem Device.cleaningLoaded_lawful {d : Device} {i : DriveId} (lawful : d.Lawful) :
    (d.cleaningLoaded i).Lawful := by
  unfold Device.cleaningLoaded; split <;> simp (maxDischargeDepth := 12) [*]

@[simp] theorem Device.loadEnd_lawful {d : Device} {i : DriveId} (lawful : d.Lawful)  :
    (Device.loadEnd d i).Lawful := by
  unfold Device.loadEnd; dsimp only; (repeat' split) <;> simp (maxDischargeDepth := 12) [*]

@[simp] theorem Device.toPowerMouth_lawful {d : Device} {i : DriveId} (lawful : d.Lawful)  :
    (Device.toPowerMouth d i).Lawful := by simp (maxDischargeDepth := 12) [Device.toPowerMouth, *]

@[simp] theorem Device.presented_lawful {d : Device} {i : DriveId} (lawful : d.Lawful)  :
    (Device.presented d i).Lawful := by
  unfold Device.presented; (repeat' split) <;> simp (maxDischargeDepth := 12) [*]

@[simp] theorem Device.unloadEnd_lawful {d : Device} {i : DriveId} {r : DriveResult} (lawful : d.Lawful)  :
    (Device.unloadEnd d i r).Lawful := by
  unfold Device.unloadEnd; (repeat' split) <;> simp (maxDischargeDepth := 12) [*]

@[simp] theorem Device.startReading_lawful {d : Device} {i : DriveId} (lawful : d.Lawful)  :
    (Device.startReading d i).Lawful := by
  unfold Device.startReading; (repeat' split) <;> simp (maxDischargeDepth := 12) [*]

@[simp] theorem Device.resumeReading_lawful {d : Device} {i : DriveId} (lawful : d.Lawful)  :
    (Device.resumeReading d i).Lawful := by
  unfold Device.resumeReading; (repeat' split) <;> simp (maxDischargeDepth := 12) [*]

@[simp] theorem Device.popLost_lawful {d : Device} {i : DriveId} (lawful : d.Lawful)  :
    (Device.popLost d i).Lawful := by
  unfold Device.popLost; (repeat' split) <;> simp (maxDischargeDepth := 12) [*]

@[simp] theorem Device.popMismatch_lawful {d : Device} {i : DriveId} (lawful : d.Lawful)  :
    (Device.popMismatch d i).Lawful := by
  unfold Device.popMismatch; (repeat' split) <;> simp (maxDischargeDepth := 12) [*]

@[simp] theorem Device.popGood_lawful {d : Device} {i : DriveId} {f : FeedId} {e : Cart} (lawful : d.Lawful)  :
    (Device.popGood d i f e).Lawful := by simp (maxDischargeDepth := 12) [Device.popGood, *]

@[simp] theorem Device.popLocated_lawful {d : Device} {i : DriveId} {r : DriveResult} (lawful : d.Lawful)  :
    (Device.popLocated d i r).Lawful := by
  unfold Device.popLocated; dsimp only; (repeat' split) <;> simp (maxDischargeDepth := 12) [*]

@[simp] theorem Device.locateDone_lawful {d : Device} {i : DriveId} {cmd : DriveCmd} {r : DriveResult} (lawful : d.Lawful)  :
    (Device.locateDone d i cmd r).Lawful := by
  unfold Device.locateDone; (repeat' split) <;> simp (maxDischargeDepth := 12) [*]

@[simp] theorem Device.popAppendRead_lawful {d : Device} {i : DriveId} {retries : Nat} {r : DriveResult} {block : Bytes} (lawful : d.Lawful)  :
    (Device.popAppendRead d i retries r block).Lawful := by
  unfold Device.popAppendRead; dsimp only; (repeat' split) <;> simp (maxDischargeDepth := 12) [*]

@[simp] theorem Device.popLabelRead_lawful {d : Device} {i : DriveId} {retries : Nat} {r : DriveResult} {block : Bytes} (lawful : d.Lawful)  :
    (Device.popLabelRead d i retries r block).Lawful := by
  unfold Device.popLabelRead; dsimp only; (repeat' split) <;> simp (maxDischargeDepth := 12) [*]

@[simp] theorem Device.identified_lawful {d : Device} {i : DriveId} {r : DriveResult} {block : Bytes} (lawful : d.Lawful)  :
    (Device.identified d i r block).Lawful := by simp (maxDischargeDepth := 12) [Device.identified, *]

@[simp] theorem Device.readDone_lawful {d : Device} {i : DriveId} {r : DriveResult} {block : Bytes} (lawful : d.Lawful)  :
    (Device.readDone d i r block).Lawful := by
  unfold Device.readDone; (repeat' split) <;> simp (maxDischargeDepth := 12) [*]

@[simp] theorem Device.finalWritten_lawful {d : Device} {i : DriveId} {cmd : DriveCmd} {r : DriveResult} (lawful : d.Lawful)  :
    (Device.finalWritten d i cmd r).Lawful := by
  unfold Device.finalWritten; (repeat' split) <;> simp (maxDischargeDepth := 12) [*]

@[simp] theorem Device.writeDone_lawful {d : Device} {i : DriveId} {cmd : DriveCmd} {r : DriveResult} (lawful : d.Lawful)  :
    (Device.writeDone d i cmd r).Lawful := by
  unfold Device.writeDone; (repeat' split) <;> simp (maxDischargeDepth := 12) [*]

@[simp] theorem Device.speedDone_lawful {d : Device} {i : DriveId} (lawful : d.Lawful)  :
    (Device.speedDone d i).Lawful := by
  unfold Device.speedDone; (repeat' split) <;> simp (maxDischargeDepth := 12) [*]

@[simp] theorem Device.serve_lawful {d : Device} {i : DriveId} {w : Work} (lawful : d.Lawful)  :
    (Device.serve d i w).Lawful := by
  unfold Device.serve; (repeat' split) <;> simp (maxDischargeDepth := 12) [*]

@[simp] theorem Device.push_lawful {d : Device} {i : DriveId} {w : Work} {resume order : Nat} (lawful : d.Lawful) :
    (d.push i w resume order).Lawful := by
  unfold Device.push
  split
  · exact lawful
  · extract_lets d1 d2
    have h1 : d1.Lawful := Device.modDrive_stacks lawful fun h => by
      dsimp only
      split
      · rename_i ht
        simp [Drive.takesPush, Config.stackDepth] at ht
        refine h.push (by omega) ?_
        rcases ht.2 with h | h
        · left; exact h
        · right; exact h
      · exact h
    have h2 : d2.Lawful := by unfold d2; split <;> simp [h1]
    clear_value d2
    split <;> simp (maxDischargeDepth := 12) [h2]

@[simp] theorem Device.pushWork_lawful {d : Device} {i : DriveId} {w : Work} {order : Nat} (lawful : d.Lawful)  :
    (Device.pushWork d i w order).Lawful := by
  unfold Device.pushWork; (repeat' split) <;> simp (maxDischargeDepth := 12) [*]

@[simp] theorem Device.resumeCancelled_lawful {d : Device} {i : DriveId} (lawful : d.Lawful)  :
    (Device.resumeCancelled d i).Lawful := by
  unfold Device.resumeCancelled; (repeat' split) <;> simp (maxDischargeDepth := 12) [*]

@[simp] theorem Device.pushReady_lawful {d : Device} {i : DriveId} (lawful : d.Lawful)  :
    (Device.pushReady d i).Lawful := by
  unfold Device.pushReady; (repeat' split) <;> simp (maxDischargeDepth := 12) [*]

@[simp] theorem Device.claimFailed_lawful {d : Device} {o : Owner} (lawful : d.Lawful)  :
    (Device.claimFailed d o).Lawful := by
  unfold Device.claimFailed; (repeat' split) <;> simp (maxDischargeDepth := 12) [*]

@[simp] theorem Device.tellLost_lawful {d : Device} {k : Claim} (lawful : d.Lawful)  :
    (Device.tellLost d k).Lawful := by
  unfold Device.tellLost; (repeat' split) <;> simp (maxDischargeDepth := 12) [*]

@[simp] theorem Device.finalizeLost_lawful {d : Device} {c : CartId} (lawful : d.Lawful)  :
    (Device.finalizeLost d c).Lawful := by
  unfold Device.finalizeLost; (repeat' split) <;> simp (maxDischargeDepth := 12) [*]

@[simp] theorem Device.locationChanged_lawful {d : Device} {c : CartId} (lawful : d.Lawful)  :
    (d.locationChanged c).Lawful := by
  refine Device.post_lawful ?_
  split
  · split <;> simp [lawful]
  · exact Device.finalizeLost_lawful (Device.lawful_foldl (fun _ _ h => Device.tellLost_lawful h) _ lawful)
  · exact lawful

@[simp] theorem Device.mediaReturned_lawful {d : Device} {p : PoolId} (lawful : d.Lawful)  :
    (d.mediaReturned p).Lawful := by
  unfold Device.mediaReturned
  refine Device.post_lawful (Device.lawful_foldl (fun d k h => ?_) _ lawful)
  extract_lets y
  have hy : y.Lawful := h
  split
  · exact Device.setStall_lawful hy
  · exact hy

@[simp] theorem Device.takenIn_lawful {d : Device} {j : DriveId} {m : Move} {host : Bool} (lawful : d.Lawful)  :
    (Device.takenIn d j m host).Lawful := by
  unfold Device.takenIn; (repeat' split) <;> simp (maxDischargeDepth := 12) [*]

@[simp] theorem Device.passedOn_lawful {d : Device} {i : DriveId} {m : Move} {r : MoveResult} (lawful : d.Lawful)  :
    (Device.passedOn d i m r).Lawful := by
  unfold Device.passedOn; (repeat' split) <;> simp (maxDischargeDepth := 12) [*]

@[simp] theorem Device.driveMoveEnded_lawful {d : Device} {i : DriveId} {m : Move} {r : MoveResult} (lawful : d.Lawful)  :
    (Device.driveMoveEnded d i m r).Lawful := by
  unfold Device.driveMoveEnded; dsimp only; (repeat' split) <;> simp (maxDischargeDepth := 12) [*]

@[simp] theorem Device.releaseHostClaims_lawful {d : Device} {m : Nat} (lawful : d.Lawful)  :
    (Device.releaseHostClaims d m).Lawful := by
  unfold Device.releaseHostClaims
  refine Device.lawful_foldl (fun d a h => ?_) _ (by simp (maxDischargeDepth := 12) [*])
  (repeat' split) <;> simp (maxDischargeDepth := 12) [*]

@[simp] theorem Device.hostSource_lawful {d : Device} {i : DriveId} {m : Move} {r : MoveResult} (lawful : d.Lawful)  :
    (Device.hostSource d i m r).Lawful := by
  unfold Device.hostSource; (repeat' split) <;> simp (maxDischargeDepth := 12) [*]

@[simp] theorem Device.hostDestination_lawful {d : Device} {i : DriveId} {m : Move} {r : MoveResult} (lawful : d.Lawful)  :
    (Device.hostDestination d i m r).Lawful := by
  unfold Device.hostDestination; (repeat' split) <;> simp (maxDischargeDepth := 12) [*]

@[simp] theorem Device.moveEnded_lawful {d : Device} {m : Move} {r : MoveResult} (lawful : d.Lawful)  :
    (Device.moveEnded d m r).Lawful := by
  unfold Device.moveEnded; (repeat' split) <;> simp (maxDischargeDepth := 12) [*]

@[simp] theorem Device.driveRescan_lawful {d : Device} {i : DriveId} (lawful : d.Lawful)  :
    (Device.driveRescan d i).Lawful := by
  unfold Device.driveRescan; dsimp only; (repeat' split) <;> simp (maxDischargeDepth := 12) [*]

@[simp] theorem Device.applyFound_lawful {d : Device} {i : DriveId} (lawful : d.Lawful)  :
    (Device.applyFound d i).Lawful := by
  unfold Device.applyFound; dsimp only; (repeat' split) <;> simp (maxDischargeDepth := 12) [*]

@[simp] theorem Device.inventoryDone_lawful {d : Device} (lawful : d.Lawful)  :
    (Device.inventoryDone d).Lawful := by
  unfold Device.inventoryDone
  refine Device.lawful_foldl (fun d a h => ?_) _ (by simp (maxDischargeDepth := 12) [*])
  (repeat' split) <;> simp (maxDischargeDepth := 12) [*]

@[simp] theorem Device.perform_lawful {d : Device} {t : Task} (lawful : d.Lawful)  :
    (d.perform t).Lawful := by
  cases t
  all_goals (try (simp (maxDischargeDepth := 12) [Device.perform, lawful]; done))
  exact Device.lawful_foldl (fun _ _ h => Device.askAgain_lawful h) _ lawful

@[simp] theorem Device.settleLoop_lawful {fuel : Nat} {d : Device} (lawful : d.Lawful)  :
    (d.settleLoop fuel).Lawful := by
  induction fuel generalizing d with
  | zero => exact lawful
  | succ n ih =>
    unfold Device.settleLoop
    split
    · exact lawful
    · exact ih (Device.perform_lawful lawful)

@[simp] theorem Device.settle_lawful {d : Device} (lawful : d.Lawful)  :
    (Device.settle d).Lawful := by simp (maxDischargeDepth := 12) [Device.settle, *]

@[simp] theorem Device.takeData_lawful {d : Device} {c : StreamId} {payload : Bytes} (lawful : d.Lawful) :
    (d.takeData c payload).Lawful := by
  unfold Device.takeData; dsimp only; (repeat' split) <;> simp (maxDischargeDepth := 12) [*]

@[simp] theorem Device.takeCut_lawful {d : Device} {c : StreamId} (lawful : d.Lawful) :
    (d.takeCut c).Lawful := by
  unfold Device.takeCut; (repeat' split) <;> simp (maxDischargeDepth := 12) [*]

@[simp] theorem Device.takeEnd_lawful {d : Device} {c : StreamId} (lawful : d.Lawful) :
    (d.takeEnd c).Lawful := by
  unfold Device.takeEnd; (repeat' split) <;> simp (maxDischargeDepth := 12) [*]

@[simp] theorem Device.openStream_lawful {d : Device} {tag : Tag} {c : StreamId} {jobTag : Nat} {p : PoolId} {size : Nat} {policy : Policy} (lawful : d.Lawful) :
    (d.openStream tag c jobTag p size policy).Lawful := by
  unfold Device.openStream; dsimp only; (repeat' split) <;> simp (maxDischargeDepth := 12) [*]

@[simp] theorem Device.poolEffects_lawful {d : Device} {p : PoolId} {old new : Pool} (lawful : d.Lawful)  :
    (Device.poolEffects d p old new).Lawful := by
  unfold Device.poolEffects; dsimp only; (repeat' split) <;> simp (maxDischargeDepth := 12) [*]

@[simp] theorem Device.loadPool_lawful {d : Device} {tag : Tag} {p : PoolId} {a : PoolArgs} (lawful : d.Lawful)  :
    (Device.loadPool d tag p a).Lawful := by simp (maxDischargeDepth := 12) [Device.loadPool, *]

@[simp] theorem Device.adoptInDrive_lawful {d : Device} {e : ElemId} {c : CartId} (lawful : d.Lawful)  :
    (Device.adoptInDrive d e c).Lawful := by
  unfold Device.adoptInDrive; dsimp only; (repeat' split) <;> simp (maxDischargeDepth := 12) [*]

theorem Device.foreignAt_content {d : Device} {x : Bytes} {e : ElemId} (h : d.foreignAt x = some e) :
    (d.elem e).content = .foreign x := by
  simpa using List.find?_some h

theorem Device.createCart_lawful {d : Device} {tag : Tag} {c : CartId} {x : Bytes} {a : CartArgs} (lawful : d.Lawful)
    (hc : d.cart c = none) : (d.createCart tag c x a).Lawful := by
  have hno : ∀ y, (d.elem y).content ≠ .occupied c := fun y hy => by
    have := (Device.located lawful c y).mpr hy
    simp [hc, entryLocation] at this
  unfold Device.createCart
  extract_lets entry
  split
  · refine Device.respond_lawful (Device.writeCart_lawful lawful (fun y => ?_) fun _ z n hz => ?_)
    · simp [hc, entryLocation, entry, Cart.created]
    · rw [hc] at hz; cases hz
  · rename_i e he
    have hf := Device.foreignAt_content he
    extract_lets home d1
    refine Device.adoptInDrive_lawful (Device.respond_lawful (Device.lawful_whole lawful
      (.trans (Device.setContent_media ..) (Device.writeCart_media ..)) (fun z hz => ?_) fun z y => ?_))
    · unfold Device.eodOf at *
      rw [Device.cart_writeCart, Device.cart_setContent]
      split
      · rename_i hzc; subst hzc; simp [hc] at hz
      · rfl
    · rw [Device.cart_writeCart, Device.elem_writeCart, Device.elem_setContent, Device.cart_setContent]
      have hl := Device.located lawful z y
      by_cases hz : z = c
      · subst hz; rw [if_pos rfl]; simp only [entryLocation, Option.map_some]; grind
      · rw [if_neg hz]; grind

theorem Device.editEntry_lawful {d : Device} {tag : Tag} {c : CartId} {e : Cart} {a : CartArgs} {read : Bool}
    (lawful : d.Lawful) (he : d.cart c = some e) (ha : (a.eod.any fun n => e.eod.any fun m => n < m) = false) :
    (d.editEntry tag c e a read).Lawful := by
  unfold Device.editEntry
  extract_lets new d1 d2 d3 d4
  have hk : ∀ k, (e.toKind k).location = e.location ∧ (e.toKind k).eod = e.eod := fun k => by
    unfold Cart.toKind; (repeat' split) <;> exact ⟨rfl, rfl⟩
  have h1 : d1.Lawful := Device.writeCart_lawful lawful
    (fun y => by rw [he]; simp [entryLocation, new, Cart.edited, hk]) fun _ x n hx hn => by
      rw [he] at hx; cases hx
      have hnew : new.eod = if a.eod.isSome then a.eod else e.eod := by simp [new, Cart.edited, hk]
      cases hae : a.eod with
      | none => exact ⟨new, n, rfl, by simp [hnew, hae, hn], Nat.le_refl n⟩
      | some m =>
        simp [hae, hn] at ha
        exact ⟨new, m, rfl, by simp [hnew, hae], ha⟩
  have h2 : d2.Lawful := Device.respond_lawful h1
  have h3 : d3.Lawful := by unfold d3; split <;> simp [h2]
  have h4 : d4.Lawful := by unfold d4; split <;> simp [h3]
  clear_value d4
  split <;> simp [h4]

theorem Device.changeEntry_lawful {d : Device} {tag : Tag} {index : Nat} {g : Cart → Cart} (lawful : d.Lawful)
    (hl : ∀ x, (g x).location = x.location)
    (he : ∀ c, finOf? 128 index = some c → (∃ p ∈ d.map.parts, p.cart = c) → ∀ x, (g x).eod = x.eod) :
    (d.changeEntry tag index g).Lawful := by
  unfold Device.changeEntry
  split
  · rename_i c hc
    exact Device.respond_lawful (Device.editCart_lawful lawful hl fun hp x n _ hn =>
      ⟨n, by rw [he c hc hp, hn], Nat.le_refl n⟩)
  · exact lawful

theorem Device.removeCart_lawful {d : Device} {tag : Tag} {c : CartId} (lawful : d.Lawful) (hn : d.named c = false) :
    (d.removeCart tag c).Lawful := by
  have hl := Device.located lawful
  have hp : ∀ p ∈ d.map.parts, p.cart ≠ c := by simpa [Device.named] using hn
  unfold Device.removeCart
  split
  · exact lawful
  · rename_i e he
    extract_lets d1 d2
    refine Device.respond_lawful ?_
    have hd1 : d.MediaOnly d1 ∧ (∀ z, d1.cart z = d.cart z) ∧
        ∀ y, (d1.elem y).content = if (d.elem y).content = .occupied c then .foreign e.barcode else (d.elem y).content := by
      have hc := hl c
      rw [he] at hc
      simp only [entryLocation, Option.map_some] at hc
      unfold d1
      split
      · rename_i x hx
        refine ⟨Device.setContent_media .., fun _ => Device.cart_setContent, fun y => ?_⟩
        rw [Device.elem_setContent]; grind
      · exact ⟨.refl d, fun _ => rfl, fun y => by grind⟩
    obtain ⟨m1, c1, k1⟩ := hd1
    clear_value d1
    have hm := m1.trans (Device.writeCart_media d1 c none)
    refine Device.lawful_media lawful hm.feeds hm.map hm.drives (fun p hq x n h1 h2 _ => ?_)
      (Device.located_iff.mpr fun z y => ?_)
    · refine ⟨x, n, ?_, h2, Nat.le_refl n⟩
      unfold d2
      rw [Device.cart_writeCart, if_neg (hp p hq), c1, h1]
    · unfold d2
      rw [Device.cart_writeCart, Device.elem_writeCart, k1]
      by_cases hz : z = c
      · subst hz; rw [if_pos rfl]; simp only [entryLocation, Option.map_none]; grind
      · rw [if_neg hz, c1]; grind

@[simp] theorem Device.beginInventory_lawful {d : Device} {tag : Tag} {first last : Nat} (lawful : d.Lawful)  :
    (Device.beginInventory d tag first last).Lawful := by simp (maxDischargeDepth := 12) [Device.beginInventory, *]

@[simp] theorem Device.claimHost_lawful {d : Device} {move : Nat} {e : ElemId} (lawful : d.Lawful)  :
    (Device.claimHost d move e).Lawful := by
  unfold Device.claimHost; (repeat' split) <;> simp (maxDischargeDepth := 12) [*]

@[simp] theorem Device.hostMove_lawful {d : Device} {tag : Tag} {a b : ElemId} {load : Load} (lawful : d.Lawful)  :
    (Device.hostMove d tag a b load).Lawful := by
  unfold Device.hostMove; dsimp only; (repeat' split) <;> simp (maxDischargeDepth := 12) [*]

@[simp] theorem Device.transferDone_lawful {d : Device} {n : BitVec 16} {r : TransferResult} (lawful : d.Lawful)  :
    (Device.transferDone d n r).Lawful := by
  unfold Device.transferDone; (repeat' split) <;> simp (maxDischargeDepth := 12) [*]

@[simp] theorem Device.scanDone_lawful {d : Device} {n : BitVec 16} {r : ScanResult} (lawful : d.Lawful)  :
    (Device.scanDone d n r).Lawful := by
  unfold Device.scanDone; (repeat' split) <;> simp (maxDischargeDepth := 12) [*]

@[simp] theorem Device.rehomeDone_lawful {d : Device} {n : BitVec 16} {r : ScanResult} (lawful : d.Lawful)  :
    (Device.rehomeDone d n r).Lawful := by
  unfold Device.rehomeDone; (repeat' split) <;> simp (maxDischargeDepth := 12) [*]

@[simp] theorem Device.takeGrant_lawful {d : Device} {r : RestoreId} {count : Nat} (lawful : d.Lawful) :
    (d.takeGrant r count).Lawful := by
  unfold Device.takeGrant; dsimp only; (repeat' split) <;> simp (maxDischargeDepth := 12) [*]

@[simp] theorem Device.acceptRestore_lawful {d : Device} {tag : Tag} {r : RestoreId} {priority : Priority} {p : Part} {first count : Option Nat} {follow : Bool} (lawful : d.Lawful)  :
    (Device.acceptRestore d tag r priority p first count follow).Lawful := by simp (maxDischargeDepth := 12) [Device.acceptRestore, *]

@[simp] theorem Device.expansionEnd_lawful {d : Device} (lawful : d.Lawful)  :
    (Device.expansionEnd d).Lawful := by
  unfold Device.expansionEnd; (repeat' split) <;> simp (maxDischargeDepth := 12) [*]

@[simp] theorem Device.verifyNow_lawful {d : Device} {tag : Tag} {c : CartId} (lawful : d.Lawful)  :
    (Device.verifyNow d tag c).Lawful := by
  unfold Device.verifyNow; (repeat' split) <;> simp (maxDischargeDepth := 12) [*]

theorem Device.loadSegment_lawful {d : Device} {tag : Tag} {a : SegmentArgs} {c : CartId} (lawful : d.Lawful)
    (hid : d.part? a.part = none) (hroom : d.mapHasRoom 1 = true) (hb : a.firstBlock ≤ a.lastBlock)
    (hs : a.firstSeq ≤ a.lastSeq) (hc : d.Beyond c a.lastBlock) : (d.loadSegment tag a c).Lawful := by
  unfold Device.loadSegment
  extract_lets p d1
  have h1 : d1.Lawful := by
    have := Device.mapHasRoom_iff.mp hroom
    refine Device.respond_lawful (Device.addPart_lawful lawful (by omega) (fun q hq he => ?_) hb hs hc)
    simp only [Device.part?, List.find?_eq_none] at hid
    exact absurd (by simpa [p, Part.loaded] using he) (by simpa using hid q hq)
  split
  · exact Device.post_lawful h1
  · exact h1

@[simp] theorem Device.forgetPart_lawful {d : Device} {id : Nat} (lawful : d.Lawful) : (d.forgetPart id).Lawful :=
  have hr : ∀ (f : Fin 4), reservationsOf (d.forgetPart id).feeds[f] = reservationsOf d.feeds[f] := fun f => by
    simp only [Device.forgetPart, Fin.getElem_fin, Vector.getElem_map]
    cases d.feeds[f.val] <;> rfl
  { lawful with
    feedCapacity := fun f x hx => by
      obtain ⟨y, hy, rfl⟩ : ∃ y, d.feeds[f] = some y ∧ _ = x := by simpa [Device.forgetPart] using hx
      exact lawful.feedCapacity f y hy
    mapCapacity :=
      { lawful.mapCapacity with
        reserved := by
          have := lawful.mapCapacity.reserved
          have h0 := hr 0
          have h1 := hr 1
          have h2 := hr 2
          have h3 := hr 3
          simp only [Fin.getElem_fin] at h0 h1 h2 h3
          simp at h0 h1 h2 h3
          rw [h0, h1, h2, h3]
          exact this } }

@[simp] theorem Device.releaseSegment_lawful {d : Device} {tag : Tag} {p : Part} (lawful : d.Lawful)  :
    (Device.releaseSegment d tag p).Lawful := by simp (maxDischargeDepth := 12) [Device.releaseSegment, *]

@[simp] theorem Device.periodEnd_lawful {d : Device} {f : FeedId} (lawful : d.Lawful) : (d.periodEnd f).Lawful := by
  unfold Device.periodEnd
  split
  · exact lawful
  · rename_i x hx
    have hs := Feed.governor_law (n := d.mu.params.startLevel) (Device.feed_law lawful hx)
    have hr := Feed.governor_reservations x d.mu.params.startLevel
    split
    rename_i y changed hy
    rw [hy] at hs hr
    have h1 : (d.setFeed f (some y)).Lawful := Device.setFeedOf_lawful lawful hx hs (by rw [← hr])
    split
    · exact Device.issueSpeed_lawful h1
    · exact h1

@[simp] theorem Device.decideWaiting_lawful {d : Device} (lawful : d.Lawful)  :
    (Device.decideWaiting d).Lawful := by simp (maxDischargeDepth := 12) [Device.decideWaiting, *]

@[simp] theorem Device.closeOld_lawful {d : Device} (lawful : d.Lawful)  :
    (Device.closeOld d).Lawful := by
  unfold Device.closeOld
  refine Device.lawful_foldl (fun d a h => ?_) _ (by simp (maxDischargeDepth := 12) [*])
  (repeat' split) <;> simp (maxDischargeDepth := 12) [*]

@[simp] theorem Device.unmountIdle_lawful {d : Device} (lawful : d.Lawful)  :
    (Device.unmountIdle d).Lawful := by
  unfold Device.unmountIdle
  refine Device.lawful_foldl (fun d a h => ?_) _ (by simp (maxDischargeDepth := 12) [*])
  (repeat' split) <;> simp (maxDischargeDepth := 12) [*]

@[simp] theorem Device.endStalled_lawful {d : Device} (lawful : d.Lawful)  :
    (Device.endStalled d).Lawful := by
  unfold Device.endStalled
  refine Device.lawful_foldl (fun d a h => ?_) _ (by simp (maxDischargeDepth := 12) [*])
  (repeat' split) <;> simp (maxDischargeDepth := 12) [*]

@[simp] theorem Device.paramEffects_lawful {d : Device} {p : Param} (lawful : d.Lawful)  :
    (d.paramEffects p).Lawful := by
  cases p <;> simp (maxDischargeDepth := 12) [Device.paramEffects, lawful]

@[simp] theorem Device.setParam_lawful {d : Device} {tag : Tag} {k : Param} {v : Nat} (lawful : d.Lawful)  :
    (Device.setParam d tag k v).Lawful := by
  unfold Device.setParam; dsimp only; (repeat' split) <;> simp (maxDischargeDepth := 12) [*]

@[simp] theorem Device.setTime_lawful {d : Device} {tag : Tag} {t : Nat} (lawful : d.Lawful)  :
    (Device.setTime d tag t).Lawful := by simp (maxDischargeDepth := 12) [Device.setTime, *]

@[simp] theorem Device.second_lawful {d : Device} (lawful : d.Lawful)  :
    (Device.second d).Lawful := by simp (maxDischargeDepth := 12) [Device.second, *]

@[simp] theorem Device.poll_lawful {d : Device} {tag : Tag} (lawful : d.Lawful) : (d.poll tag).Lawful := by
  unfold Device.poll
  split
  · simp [lawful]
  · simp [lawful]

@[simp] theorem Device.removeEmptied_lawful {d : Device} (lawful : d.Lawful) : d.removeEmptied.Lawful :=
  Device.lawful_foldl (fun d f h => by split; exacts [Device.feedProgress_lawful h, h]) _ lawful

@[simp] theorem Device.linkReset_lawful {d : Device} (lawful : d.Lawful) : d.linkReset.Lawful := by
  unfold Device.linkReset
  extract_lets d1 d2
  have h1 : d1.Lawful := Device.lawful_foldl (fun d c h => by split; exacts [h, Device.abort_lawful h]) _ lawful
  have h2 : d2.Lawful := Device.cancelRestores_lawful (Device.removeEmptied_lawful h1)
  clear_value d2
  exact { h2 with }

@[simp] theorem Device.freeMarked_lawful {d : Device} {fs : List OutFrame} (lawful : d.Lawful)  :
    (Device.freeMarked d fs).Lawful := by
  unfold Device.freeMarked
  refine Device.lawful_foldl (fun d a h => ?_) _ (by simp (maxDischargeDepth := 12) [*])
  (repeat' split) <;> simp (maxDischargeDepth := 12) [*]

@[simp] theorem Device.discardUnsent_lawful {d : Device} {stays : OutFrame → Bool} (lawful : d.Lawful)  :
    (Device.discardUnsent d stays).Lawful := by simp (maxDischargeDepth := 12) [Device.discardUnsent, *]

@[simp] theorem Device.sendFrame_lawful {d : Device} {f : OutFrame} {rest : List OutFrame} (lawful : d.Lawful)  :
    (Device.sendFrame d f rest).Lawful := by simp (maxDischargeDepth := 12) [Device.sendFrame, *]

end Sys2Proof.Machine
end

