-- ==== Sys2Proof/Laws/Links.lean ====
section
/-!
SUPPORT. What a link reset does to the restores (R159, R185): the streams' closing leaves them alone, and every one in use
gives up its entry, claim, record at the expansion engine, contexts, pin and drive.
-/
namespace Sys2Proof.Machine

/-! ### What the streams' closing leaves alone -/

/-- The restore queue, the pins, the expansion engine, and every drive's stack and active work are the same in two
devices, and the second's claims are some of the first's, in their order. -/
structure Device.SameRestores (d d' : Device) : Prop where
  ru : d'.ru = d.ru
  pins : d'.map.parts.map (fun p => (p.id, p.restorePins)) = d.map.parts.map fun p => (p.id, p.restorePins)
  xe : d'.xe = d.xe
  stack : ∀ i, (d'.drive i).stack = (d.drive i).stack
  active : ∀ i, (d'.drive i).active = (d.drive i).active
  claims : ∃ q, d'.arb.claims = d.arb.claims.filter q

/-- Claims kept as they are. -/
theorem claims_same {l l' : List Claim} (h : l' = l) : ∃ q, l' = l.filter q :=
  ⟨fun _ => true, by rw [h]; exact (List.filter_eq_self.mpr fun _ _ => rfl).symm⟩

/-- Claims left out twice. -/
theorem claims_trans {a b c : List Claim} : (∃ q, b = a.filter q) → (∃ q, c = b.filter q) → ∃ q, c = a.filter q := by
  rintro ⟨p, rfl⟩ ⟨q, rfl⟩
  exact ⟨fun x => q x && p x, by rw [List.filter_filter]⟩

namespace Device.SameRestores

theorem refl (d : Device) : d.SameRestores d := ⟨rfl, rfl, rfl, fun _ => rfl, fun _ => rfl, claims_same rfl⟩

theorem trans {a b c : Device} (h : a.SameRestores b) (g : b.SameRestores c) : a.SameRestores c :=
  ⟨g.ru.trans h.ru, g.pins.trans h.pins, g.xe.trans h.xe, fun i => (g.stack i).trans (h.stack i),
   fun i => (g.active i).trans (h.active i), claims_trans h.claims g.claims⟩

/-- An operation on other blocks. -/
theorem of_eq {d d' : Device} (hr : d'.ru = d.ru) (hm : d'.map.parts = d.map.parts) (hx : d'.xe = d.xe)
    (hd : d'.drives = d.drives) (ha : d'.arb = d.arb) : d.SameRestores d' :=
  ⟨hr, by rw [hm], hx, fun i => by simp only [Device.drive, hd], fun i => by simp only [Device.drive, hd],
   claims_same (by rw [ha])⟩

theorem foldl {α : Type} {g : Device → α → Device} (hg : ∀ (d : Device) a, d.SameRestores (g d a)) (l : List α) (d : Device) :
    d.SameRestores (l.foldl g d) := by
  induction l generalizing d with
  | nil => exact refl d
  | cons a l ih => exact (hg d a).trans (ih _)

theorem post (d : Device) (t : Task) : d.SameRestores (d.post t) := by
  unfold Device.post; split <;> exact of_eq rfl rfl rfl rfl rfl

theorem postTarget (d : Device) (t : Target) : d.SameRestores (d.postTarget t) := by
  cases t <;> first | exact post _ _ | exact refl d

theorem modStream (d : Device) (c : StreamId) (g : Stream → Stream) : d.SameRestores (d.modStream c g) :=
  of_eq rfl rfl rfl rfl rfl
theorem setFeed (d : Device) (f : FeedId) (x : Option Feed) : d.SameRestores (d.setFeed f x) := of_eq rfl rfl rfl rfl rfl
theorem modFeed (d : Device) (f : FeedId) (g : Feed → Feed) : d.SameRestores (d.modFeed f g) := of_eq rfl rfl rfl rfl rfl

theorem modDrive (d : Device) (i : DriveId) {g : Drive → Drive} (hs : ∀ x, (g x).stack = x.stack)
    (ha : ∀ x, (g x).active = x.active) : d.SameRestores (d.modDrive i g) := by
  refine ⟨rfl, rfl, rfl, fun j => ?_, fun j => ?_, claims_same rfl⟩ <;>
    simp only [Device.modDrive, Device.drive, Fin.getElem_fin, Vector.getElem_set] <;> split <;>
    simp_all [Fin.val_inj]

theorem modPart (d : Device) (id : Nat) {g : Part → Part} (h : ∀ p, (g p).id = p.id ∧ (g p).restorePins = p.restorePins) :
    d.SameRestores (d.modPart id g) := by
  refine ⟨rfl, ?_, rfl, fun _ => rfl, fun _ => rfl, claims_same rfl⟩
  simp only [Device.modPart, List.map_map]
  refine List.map_congr_left fun p _ => ?_
  simp only [Function.comp]
  split <;> simp [h]

theorem closePart (d : Device) (id : Nat) (a b c : Bool) : d.SameRestores (d.closePart id a b c) := by
  unfold Device.closePart
  split
  · exact refl d
  · split
    · refine trans (modPart d id (g := fun p => { p.flagged a b c with state := .closed, closeTime := some d.time })
        fun p => ⟨rfl, rfl⟩) (post _ _)
    · exact modPart d id (g := fun p => p.flagged a b c) fun p => ⟨rfl, rfl⟩

theorem closeRef (d : Device) (r : Option PartRef) (a b : Bool) : d.SameRestores (d.closeRef r a b) := by
  unfold Device.closeRef; split <;> [exact closePart _ _ _ _ _; exact refl d]

theorem handOver (d : Device) (c : StreamId) (f : FeedId) (s t : Stream) : d.SameRestores (d.handOver c f s t) := by
  unfold Device.handOver; split <;> [exact closeRef _ _ _ _; exact modFeed _ _ _]

theorem leaveFeed (d : Device) (c : StreamId) : d.SameRestores (d.leaveFeed c) := by
  unfold Device.leaveFeed
  split
  · exact of_eq rfl rfl rfl rfl rfl
  · exact (modFeed _ _ _).trans (post _ _)

/-- A stream's close at once (R20, R21) leaves the restores alone. -/
theorem abort (d : Device) (c : StreamId) : d.SameRestores (d.abort c) := by
  unfold Device.abort
  dsimp only
  split
  · exact (handOver _ _ _ _ _).trans ((leaveFeed _ c).trans (of_eq rfl rfl rfl rfl rfl))
  · exact (leaveFeed _ c).trans (of_eq rfl rfl rfl rfl rfl)

theorem dropReservations (d : Device) (f : FeedId) : d.SameRestores (d.dropReservations f) := by
  unfold Device.dropReservations
  split
  · exact refl d
  · rename_i x _
    refine (setFeed d f (some { x with reservations := [] })).trans ?_
    unfold Device.releaseReservations
    split
    · exact refl _
    · refine trans ?_ (post _ _)
      exact of_eq rfl rfl rfl rfl rfl

theorem removeClaim (d : Device) (order : Nat) : d.SameRestores (d.removeClaim order) :=
  ⟨rfl, rfl, rfl, fun _ => rfl, fun _ => rfl, ⟨_, rfl⟩⟩

theorem cancelSuspension (d : Device) (order : Nat) : d.SameRestores (d.cancelSuspension order) := by
  refine foldl (fun d i => ?_) _ _
  split
  · exact trans (modDrive d i (g := fun x => { x with suspendFor := none }) (fun _ => rfl) fun _ => rfl) (post _ _)
  · exact refl d

theorem withdrawMoves (d : Device) (i : DriveId) : d.SameRestores (d.withdrawMoves i) :=
  foldl (g := fun d m => d.dropMove (Move.id m)) (fun _ _ => of_eq rfl rfl rfl rfl rfl) _ _

/-- A claim's withdrawal (R126, R134) leaves the restores alone. -/
theorem withdrawClaim (d : Device) (order : Nat) : d.SameRestores (d.withdrawClaim order) := by
  unfold Device.withdrawClaim
  split
  · exact refl d
  · dsimp only
    have h := (removeClaim d order).trans (cancelSuspension (d.removeClaim order) order)
    split
    · exact h
    · rename_i i _
      refine h.trans (.trans (modDrive _ i (g := fun x => { x with claim := none }) (fun _ => rfl) fun _ => rfl)
        (.trans ?_ (post _ _)))
      split
      · exact (withdrawMoves _ _).trans (modDrive _ i (g := fun x => { x with phase := .rest }) (fun _ => rfl) fun _ => rfl)
      · exact refl _

theorem withdrawOf (d : Device) (o : Owner) : d.SameRestores (d.withdrawOf o) := by
  unfold Device.withdrawOf; split <;> [exact withdrawClaim _ _; exact refl d]

theorem removeFeed (d : Device) (f : FeedId) : d.SameRestores (d.removeFeed f) :=
  (((dropReservations d f).trans (withdrawOf _ _)).trans (setFeed _ _ _)).trans (post _ _)

/-- The removal of the emptied feeds leaves the restores alone. -/
theorem removeEmptied (d : Device) : d.SameRestores d.removeEmptied := by
  refine foldl (fun d f => ?_) _ _
  split
  · rename_i h
    unfold Device.feedProgress
    split
    · exact refl d
    · rename_i x hx
      have hu : x.state = .unbound := by simpa [hx] using (by simpa [hx] using h : _ ∧ _).2
      simp only [hu]
      split <;> [exact removeFeed _ _; exact refl d]
  · exact refl d

end Device.SameRestores

/-! ### What the restores give up (R157, R159) -/

/-- Nothing of a restore is left on a suspend stack or among the requests to the expansion engine. -/
structure Device.Without (d : Device) (r : RestoreId) : Prop where
  stack : ∀ i, ∀ k ∈ (d.drive i).stack, k.work ≠ .restore r
  xe : ∀ q ∈ d.xe.requests, q.client ≠ .restore r

/-- The second device has no context, request or claim that the first has not. -/
structure Device.Shrinks (d d' : Device) : Prop where
  stack : ∀ i, ∀ k ∈ (d'.drive i).stack, k ∈ (d.drive i).stack
  xe : ∀ q ∈ d'.xe.requests, q ∈ d.xe.requests
  claims : ∃ q, d'.arb.claims = d.arb.claims.filter q

namespace Device.Shrinks

theorem refl (d : Device) : d.Shrinks d := ⟨fun _ _ h => h, fun _ h => h, claims_same rfl⟩

theorem trans {a b c : Device} (h : a.Shrinks b) (g : b.Shrinks c) : a.Shrinks c :=
  ⟨fun i k hk => h.stack i k (g.stack i k hk), fun q hq => h.xe q (g.xe q hq), claims_trans h.claims g.claims⟩

theorem of_same {d d' : Device} (h : d.SameRestores d') : d.Shrinks d' :=
  ⟨fun i _ hk => h.stack i ▸ hk, fun _ hq => h.xe ▸ hq, h.claims⟩

/-- An operation on other blocks. -/
theorem of_eq {d d' : Device} (hx : d'.xe = d.xe) (hd : d'.drives = d.drives) (ha : d'.arb = d.arb) : d.Shrinks d' :=
  ⟨fun i k hk => by simpa only [Device.drive, hd] using hk, fun q hq => by simpa only [hx] using hq,
   claims_same (by rw [ha])⟩

theorem foldl {α : Type} {g : Device → α → Device} (hg : ∀ (d : Device) a, d.Shrinks (g d a)) (l : List α) (d : Device) :
    d.Shrinks (l.foldl g d) := by
  induction l generalizing d with
  | nil => exact refl d
  | cons a l ih => exact (hg d a).trans (ih _)

theorem without {d d' : Device} {r : RestoreId} (h : d.Shrinks d') (w : d.Without r) : d'.Without r :=
  ⟨fun i k hk => w.stack i k (h.stack i k hk), fun q hq => w.xe q (h.xe q hq)⟩

theorem mem {d d' : Device} (h : d.Shrinks d') {k : Claim} (hk : k ∈ d'.arb.claims) : k ∈ d.arb.claims := by
  obtain ⟨q, hq⟩ := h.claims
  rw [hq] at hk
  exact (List.mem_filter.mp hk).1

/-- A claim that is still there is still its owner's first. -/
theorem claimOf {d d' : Device} (h : d.Shrinks d') {o : Owner} {k : Claim} (hk : d.claimOf o = some k)
    (hm : k ∈ d'.arb.claims) : d'.claimOf o = some k := by
  obtain ⟨q, hq⟩ := h.claims
  rw [hq] at hm
  have hqk := (List.mem_filter.mp hm).2
  unfold Device.claimOf at hk ⊢
  rw [hq, List.find?_filter]
  obtain ⟨hp, as, bs, hl, hb⟩ := List.find?_eq_some_iff_append.mp hk
  refine List.find?_eq_some_iff_append.mpr ⟨by simp [hqk, hp], as, bs, hl, fun z hz => ?_⟩
  have := hb z hz
  simp_all

end Device.Shrinks

/-- A drive of a device with one drive changed. -/
theorem Device.drive_modDrive_cases (d : Device) (i j : DriveId) (g : Drive → Drive) :
    (d.modDrive i g).drive j = if j = i then g (d.drive i) else d.drive j := by
  split
  · rename_i h; rw [h, Device.drive_modDrive]
  · rename_i h; exact Device.drive_modDrive_ne g h

/-- What a drive's change leaves out of its stack. -/
theorem Device.Shrinks.modDrive (d : Device) (i : DriveId) {g : Drive → Drive}
    (hs : ∀ k ∈ (g (d.drive i)).stack, k ∈ (d.drive i).stack) : d.Shrinks (d.modDrive i g) := by
  refine ⟨fun j k hk => ?_, fun _ h => h, claims_same rfl⟩
  rw [Device.drive_modDrive_cases] at hk
  split at hk
  · rename_i h; exact h ▸ hs k hk
  · exact hk

/-- A context dropped is on no stack, and every other keeps its place. -/
theorem Device.dropContext_stack (d : Device) (w : Work) (j : DriveId) :
    ((d.dropContext w).drive j).stack = (d.drive j).stack.filter fun k => k.work != w := by
  have step : ∀ (l : List DriveId) (d : Device), l.Nodup →
      ((l.foldl (fun d i =>
        if (d.drive i).stack.any fun k => k.work == w then
          d.modDrive i fun x => { x with stack := x.stack.filter fun k => k.work != w }
        else d) d).drive j).stack =
      if j ∈ l then (d.drive j).stack.filter fun k => k.work != w else (d.drive j).stack := by
    intro l
    induction l with
    | nil => intro d _; simp
    | cons i l ih =>
      intro d hn
      rw [List.foldl_cons, ih _ (List.nodup_cons.mp hn).2]
      have hi := (List.nodup_cons.mp hn).1
      by_cases hj : j = i
      · subst hj
        rw [if_neg hi, if_pos List.mem_cons_self]
        split
        · rw [Device.drive_modDrive_cases, if_pos rfl]
        · rename_i h
          refine (List.filter_eq_self.mpr fun k hk => ?_).symm
          simp only [List.any_eq_true, not_exists, not_and] at h
          simpa using h k hk
      · have hd : ((if (d.drive i).stack.any fun k => k.work == w then
            d.modDrive i fun x => { x with stack := x.stack.filter fun k => k.work != w }
          else d).drive j) = d.drive j := by
          split
          · rw [Device.drive_modDrive_cases, if_neg hj]
          · rfl
        rw [hd]
        simp [hj]
  unfold Device.dropContext
  rw [step _ _ (by decide)]
  simp [allDrives]

theorem Device.dropContext_active (d : Device) (w : Work) (j : DriveId) :
    ((d.dropContext w).drive j).active = (d.drive j).active := by
  have step : ∀ (l : List DriveId) (d : Device),
      ((l.foldl (fun d i =>
        if (d.drive i).stack.any fun k => k.work == w then
          d.modDrive i fun x => { x with stack := x.stack.filter fun k => k.work != w }
        else d) d).drive j).active = (d.drive j).active := by
    intro l
    induction l with
    | nil => intro d; rfl
    | cons i l ih =>
      intro d
      rw [List.foldl_cons, ih]
      split
      · rw [Device.drive_modDrive_cases]; split
        · rename_i h; rw [h]
        · rfl
      · rfl
  exact step _ _

theorem Device.dropContext_rest (d : Device) (w : Work) :
    (d.dropContext w).xe = d.xe ∧ (d.dropContext w).arb = d.arb ∧ (d.dropContext w).map = d.map := by
  unfold Device.dropContext
  generalize allDrives = l
  induction l generalizing d with
  | nil => exact ⟨rfl, rfl, rfl⟩
  | cons i l ih =>
    rw [List.foldl_cons]
    obtain ⟨hx, ha, hm⟩ := ih (if (d.drive i).stack.any fun k => k.work == w then
      d.modDrive i fun x => { x with stack := x.stack.filter fun k => k.work != w } else d)
    refine ⟨hx.trans ?_, ha.trans ?_, hm.trans ?_⟩ <;> split <;> rfl

theorem Device.Shrinks.dropContext (d : Device) (w : Work) : d.Shrinks (d.dropContext w) := by
  obtain ⟨hx, ha, _⟩ := d.dropContext_rest w
  refine ⟨fun i k hk => ?_, fun q hq => by rwa [hx] at hq, claims_same (by rw [ha])⟩
  rw [Device.dropContext_stack] at hk
  exact (List.mem_filter.mp hk).1

theorem Device.Shrinks.dropXe (d : Device) (c : XeClient) : d.Shrinks (d.dropXe c) :=
  ⟨fun _ _ h => h, fun _ h => (List.mem_filter.mp h).1, claims_same rfl⟩

theorem Device.Shrinks.modRestore (d : Device) (r : RestoreId) (g : Restore → Restore) : d.Shrinks (d.modRestore r g) :=
  of_eq rfl rfl rfl

theorem Device.unpinRestore_pins (d : Device) (id : Nat) :
    (d.unpinRestore id).map.parts.map (fun p => (p.id, p.restorePins)) =
      d.map.parts.map fun p => (p.id, p.restorePins - if p.id = id then 1 else 0) := by
  simp only [Device.unpinRestore, Device.modPart, List.map_map]
  refine List.map_congr_left fun p _ => ?_
  simp only [Function.comp]
  split <;> simp_all

theorem Device.withdrawClaim_gone (d : Device) (order : Nat) :
    ∀ k ∈ (d.withdrawClaim order).arb.claims, k.order ≠ order := by
  unfold Device.withdrawClaim
  split
  · rename_i h
    intro k hk
    have := List.find?_eq_none.mp h k hk
    simpa using this
  · have h : ∀ k ∈ ((d.removeClaim order).cancelSuspension order).arb.claims, k.order ≠ order := by
      intro k hk
      have := (Shrinks.of_same (SameRestores.cancelSuspension (d.removeClaim order) order)).mem hk
      simpa using (List.mem_filter.mp this).2
    dsimp only
    split
    · exact h
    · rename_i i _
      refine fun k hk => h k (Shrinks.mem (Shrinks.of_same ?_) hk)
      refine .trans (.modDrive _ i (g := fun x => { x with claim := none }) (fun _ => rfl) fun _ => rfl)
        (.trans ?_ (.post _ _))
      split
      · exact (SameRestores.withdrawMoves _ _).trans
          (.modDrive _ i (g := fun x => { x with phase := .rest }) (fun _ => rfl) fun _ => rfl)
      · exact .refl _

/-- A restore's claim, record at the expansion engine and context given up (R157, step 2). -/
def Device.givesUp (d : Device) (r : RestoreId) : Device :=
  ((d.withdrawOf (.restore r)).dropXe (.restore r)).dropContext (.restore r)

theorem Device.givesUp_gives (d : Device) (r : RestoreId) :
    d.Shrinks (d.givesUp r) ∧ (d.givesUp r).Without r ∧
    (∀ i, ((d.givesUp r).drive i).active = (d.drive i).active) ∧
    (∀ k, d.claimOf (.restore r) = some k → k ∉ (d.givesUp r).arb.claims) ∧
    (d.givesUp r).map.parts.map (fun p => (p.id, p.restorePins)) =
      d.map.parts.map fun p => (p.id, p.restorePins) := by
  unfold Device.givesUp
  have hb := SameRestores.withdrawOf d (.restore r)
  have hg : ∀ k, d.claimOf (.restore r) = some k → k ∉ (d.withdrawOf (.restore r)).arb.claims := by
    intro k hk hm
    simp only [Device.withdrawOf, hk] at hm
    exact d.withdrawClaim_gone k.order k hm rfl
  generalize d.withdrawOf (.restore r) = b at hb hg
  have hc := Shrinks.dropXe b (.restore r)
  have hx : ∀ q ∈ (b.dropXe (.restore r)).xe.requests, q.client ≠ .restore r := by
    intro q hq
    simpa using (List.mem_filter.mp hq).2
  have hm : (b.dropXe (.restore r)).map = b.map := rfl
  have ha : ∀ i, ((b.dropXe (.restore r)).drive i).active = (b.drive i).active := fun _ => rfl
  generalize b.dropXe (.restore r) = c at hc hx hm ha
  have hf := Shrinks.dropContext c (.restore r)
  obtain ⟨h1, h2, h3⟩ := c.dropContext_rest (.restore r)
  refine ⟨(Shrinks.of_same hb).trans (hc.trans hf), ⟨fun i k hk => ?_, fun q hq => ?_⟩, fun i => ?_,
    fun k hk h => hg k hk (hc.mem (hf.mem h)), ?_⟩
  · rw [Device.dropContext_stack] at hk
    simpa using (List.mem_filter.mp hk).2
  · exact hx q (h1 ▸ hq)
  · rw [Device.dropContext_active, ha, hb.active]
  · rw [h3, hm, hb.pins]

/-- Steps 1 to 3 of a restore's end (R157): what is given up, and that drives keep their active work. -/
theorem Device.leaveRestore_gives (d : Device) (r : RestoreId) (e : Restore) :
    d.Shrinks (d.leaveRestore r e) ∧ (d.leaveRestore r e).Without r ∧
    (∀ i, ((d.leaveRestore r e).drive i).active = (d.drive i).active) ∧
    (∀ k, d.claimOf (.restore r) = some k → k ∉ (d.leaveRestore r e).arb.claims) ∧
    (d.leaveRestore r e).map.parts.map (fun p => (p.id, p.restorePins)) =
      d.map.parts.map fun p => (p.id, p.restorePins - if p.id = e.part then 1 else 0) := by
  have hf : d.leaveRestore r e = ((d.modRestore r fun _ => e.over).givesUp r).unpinRestore e.part := rfl
  rw [hf]
  have h0 := Shrinks.modRestore d r fun _ => e.over
  have ha : ∀ i, ((d.modRestore r fun _ => e.over).drive i).active = (d.drive i).active := fun _ => rfl
  have hk : (d.modRestore r fun _ => e.over).claimOf (.restore r) = d.claimOf (.restore r) := rfl
  have hm : (d.modRestore r fun _ => e.over).map = d.map := rfl
  generalize d.modRestore r (fun _ => e.over) = a at h0 ha hk hm
  obtain ⟨g1, g2, g3, g4, g5⟩ := a.givesUp_gives r
  generalize a.givesUp r = b at g1 g2 g3 g4 g5
  refine ⟨h0.trans (g1.trans (.of_eq rfl rfl rfl)), ⟨g2.stack, g2.xe⟩, fun i => (g3 i).trans (ha i),
    fun k h => g4 k (hk ▸ h), ?_⟩
  rw [Device.unpinRestore_pins]
  have := congrArg (List.map fun p : Nat × Nat => (p.1, p.2 - if p.1 = e.part then 1 else 0)) g5
  rw [← hm]
  simpa only [List.map_map, Function.comp_def] using this

/-! ### The drives' work that ends (R139, R157) -/

/-- Every context of every stack, claim and drive of the second device leaves restore r alone: no drive has taken it up. -/
structure Device.Frees (d d' : Device) (r : RestoreId) : Prop extends d.Shrinks d' where
  active : ∀ i, (d'.drive i).active = some (.restore r) → (d.drive i).active = some (.restore r)

/-- Nothing can give a drive to restore r again: it has no context and no claim. -/
structure Device.Left (d : Device) (r : RestoreId) : Prop extends d.Without r where
  claims : ∀ k ∈ d.arb.claims, k.owner ≠ .restore r

theorem Device.Frees.trans {a b c : Device} {r : RestoreId} (h : a.Frees b r) (g : b.Frees c r) : a.Frees c r :=
  ⟨h.toShrinks.trans g.toShrinks, fun i k => h.active i (g.active i k)⟩

theorem Device.Shrinks.left {d d' : Device} {r : RestoreId} (h : d.Shrinks d') (w : d.Left r) : d'.Left r :=
  ⟨h.without w.toWithout, fun k hk => w.claims k (h.mem hk)⟩

/-- A drive's change that leaves its stack no longer and gives it no work of restore r. -/
theorem Device.Frees.modDrive (d : Device) (i : DriveId) (r : RestoreId) {g : Drive → Drive}
    (hs : ∀ k ∈ (g (d.drive i)).stack, k ∈ (d.drive i).stack)
    (ha : (g (d.drive i)).active ≠ some (.restore r)) : d.Frees (d.modDrive i g) r := by
  refine ⟨.modDrive d i hs, fun j hj => ?_⟩
  rw [Device.drive_modDrive_cases] at hj
  split at hj
  · exact absurd hj ha
  · exact hj

/-- A drive's change of neither its stack nor its active work. -/
theorem Device.Frees.keep (d : Device) (i : DriveId) (r : RestoreId) {g : Drive → Drive}
    (hs : (g (d.drive i)).stack = (d.drive i).stack) (ha : (g (d.drive i)).active = (d.drive i).active) :
    d.Frees (d.modDrive i g) r := by
  refine ⟨.modDrive d i fun k hk => hs ▸ hk, fun j hj => ?_⟩
  rw [Device.drive_modDrive_cases] at hj
  split at hj
  · rename_i h; rw [h]; exact ha ▸ hj
  · exact hj

/-- An operation on other blocks. -/
theorem Device.Frees.of_eq {d d' : Device} (r : RestoreId) (hx : d'.xe = d.xe) (hd : d'.drives = d.drives)
    (ha : d'.arb = d.arb) : d.Frees d' r :=
  ⟨.of_eq hx hd ha, fun i h => by simpa only [Device.drive, hd] using h⟩

theorem Device.Frees.refl (d : Device) (r : RestoreId) : d.Frees d r := ⟨.refl d, fun _ h => h⟩

theorem Device.post_other (d : Device) (t : Task) :
    (d.post t).xe = d.xe ∧ (d.post t).drives = d.drives ∧ (d.post t).arb = d.arb ∧ (d.post t).map = d.map := by
  unfold Device.post; split <;> exact ⟨rfl, rfl, rfl, rfl⟩

theorem Device.Frees.post (d : Device) (t : Task) (r : RestoreId) : d.Frees (d.post t) r :=
  have ⟨hx, hd, ha, _⟩ := d.post_other t
  .of_eq r hx hd ha

theorem Device.toIdle_frees (d : Device) (i : DriveId) (r : RestoreId) : d.Frees (d.toIdle i) r :=
  (Frees.modDrive d i r (fun _ h => h) (by simp)).trans (.post _ _ r)

theorem Device.idleOrUnmount_frees (d : Device) (i : DriveId) (r : RestoreId) : d.Frees (d.idleOrUnmount i) r := by
  unfold Device.idleOrUnmount
  dsimp only
  split
  · exact d.toIdle_frees i r
  · refine (d.toIdle_frees i r).trans ?_
    unfold Device.startUnmount Device.startUnload
    exact (Frees.keep _ i r rfl rfl).trans (.keep _ i r rfl rfl)

theorem Device.popContext_frees (d : Device) (i : DriveId) (k : Context) (rest : List Context) (r : RestoreId)
    (hr : ∀ c ∈ rest, c ∈ (d.drive i).stack) (hk : k.work ≠ .restore r) : d.Frees (d.popContext i k rest) r := by
  have h := Frees.modDrive d i r (g := fun x => { x with stack := rest, active := some k.work }) hr (by simpa using hk)
  unfold Device.popContext
  dsimp only
  generalize d.modDrive i (fun x => { x with stack := rest, active := some k.work }) = a at h
  split
  · rename_i q _
    refine h.trans (.trans (.of_eq (d' := a.modRestore q fun e => { e with state := .positioning }) r rfl rfl rfl) ?_)
    exact (Frees.keep _ i r rfl rfl).trans (.keep _ i r rfl rfl)
  · rename_i c _
    refine h.trans (.trans (.of_eq (d' := a.modPass c fun p => { p with state := .positioning }) r rfl rfl rfl) ?_)
    exact (Frees.keep _ i r rfl rfl).trans (.keep _ i r rfl rfl)
  · exact h.trans ((Frees.keep _ i r rfl rfl).trans (.keep _ i r rfl rfl))

theorem Device.suspender_mem {d : Device} {c : CartId} {w : Work} {t : Claim} (h : d.suspender c w = some t) :
    t ∈ d.arb.claims := by
  have ins : ∀ (k z : Claim) (l : List Claim), z ∈ insertClaim 0 k l → z = k ∨ z ∈ l := by
    intro k z l
    induction l with
    | nil => simp [insertClaim]
    | cons x l ih =>
      unfold insertClaim
      split
      · simp
      · intro hz
        rcases List.mem_cons.mp hz with rfl | hz
        · simp
        · rcases ih hz with h | h <;> simp [h]
  have hi : ∀ (l : List Claim) (z : Claim), z ∈ l.foldr (insertClaim 0) [] → z ∈ l := by
    intro l
    induction l with
    | nil => intro z hz; exact hz
    | cons a l ih => intro z hz; rcases ins _ _ _ hz with h | h <;> simp [h, ih z]
  unfold Device.suspender at h
  exact (List.mem_filter.mp (hi _ _ (List.mem_of_head? h))).1

theorem Device.popContext_shrinks (d : Device) (i : DriveId) (k : Context) (rest : List Context)
    (hr : ∀ c ∈ rest, c ∈ (d.drive i).stack) : d.Shrinks (d.popContext i k rest) := by
  by_cases h : k.work = .restore 0
  · exact (d.popContext_frees i k rest 1 hr (by simp [h])).toShrinks
  · exact (d.popContext_frees i k rest 0 hr h).toShrinks

theorem Device.popContext_map (d : Device) (i : DriveId) (k : Context) (rest : List Context) :
    (d.popContext i k rest).map = d.map := by
  unfold Device.popContext; dsimp only; split <;> rfl

theorem Device.idleOrUnmount_map (d : Device) (i : DriveId) : (d.idleOrUnmount i).map = d.map := by
  have h : (d.toIdle i).map = d.map := (Device.post_other _ _).2.2.2
  unfold Device.idleOrUnmount; dsimp only; split <;> exact h

/-- The end of a drive's work (R136, R139): it brings no context, request or claim, it leaves the segment map alone, and
no drive takes up restore r. -/
theorem Device.workEnded_gives (d : Device) (i : DriveId) :
    d.Shrinks (d.workEnded i) ∧ (d.workEnded i).map = d.map ∧ ∀ r, d.Left r →
      d.Frees (d.workEnded i) r ∧ ((d.workEnded i).drive i).active ≠ some (.restore r) := by
  have h0 := fun r => Frees.modDrive d i r (g := fun x => { x with active := none, phase := .rest, suspendFor := none })
    (fun _ h => h) (by simp)
  have hn : ((d.modDrive i fun x => { x with active := none, phase := .rest, suspendFor := none }).drive i).active =
    none := by rw [Device.drive_modDrive_cases, if_pos rfl]
  suffices hs : ∀ a e : Device, e = (match (a.drive i).stack.reverse with
        | [] => a.idleOrUnmount i
        | k :: rest =>
          match if (a.drive i).cleaningDue then none else (a.drive i).cart.bind fun c => a.suspender c k.work with
          | some t =>
            match t.owner with
            | .restore r =>
              ((a.removeClaim t.order).modDrive i fun x => { x with active := some (.restore r) }).post
                (.serve i (.restore r))
            | _ => a.popContext i k rest.reverse
          | none => a.popContext i k rest.reverse) →
        a.Shrinks e ∧ e.map = a.map ∧ ∀ r, a.Left r → a.Frees e r by
    obtain ⟨f, m, g⟩ := hs _ (d.workEnded i) rfl
    refine ⟨(h0 0).toShrinks.trans f, m, fun r h => ?_⟩
    have g := g r ((h0 r).toShrinks.left h)
    exact ⟨(h0 r).trans g, fun hc => by simpa [hn] using g.active i hc⟩
  rintro a e rfl
  split
  · exact ⟨(a.idleOrUnmount_frees i 0).toShrinks, a.idleOrUnmount_map i, fun r _ => a.idleOrUnmount_frees i r⟩
  · rename_i k rest hst
    have hmem : ∀ c, c = k ∨ c ∈ rest → c ∈ (a.drive i).stack := by
      intro c hc
      rw [← List.mem_reverse, hst]
      exact List.mem_cons.mpr hc
    have hrest := fun c (hc : c ∈ rest.reverse) => hmem c (.inr (List.mem_reverse.mp hc))
    have pop : a.Shrinks (a.popContext i k rest.reverse) ∧ (a.popContext i k rest.reverse).map = a.map ∧
        ∀ r, a.Left r → a.Frees (a.popContext i k rest.reverse) r :=
      ⟨a.popContext_shrinks i k _ hrest, a.popContext_map i k _,
       fun r ha => a.popContext_frees i k rest.reverse r hrest (ha.stack i k (hmem k (.inl rfl)))⟩
    split
    · rename_i t ht
      split
      · rename_i q hq
        have h1 : a.Shrinks (a.removeClaim t.order) := ⟨fun _ _ h => h, fun _ h => h, _, rfl⟩
        have h2 := Shrinks.modDrive (a.removeClaim t.order) i (g := fun x => { x with active := some (.restore q) })
          fun _ h => h
        refine ⟨h1.trans (h2.trans (Frees.post _ _ 0).toShrinks), (Device.post_other _ _).2.2.2, fun r ha => ?_⟩
        have hq' : q ≠ r := by
          rintro rfl
          split at ht
          · exact absurd ht (by simp)
          · obtain ⟨c, _, hc⟩ := Option.bind_eq_some_iff.mp ht
            exact ha.claims t (Device.suspender_mem hc) hq
        refine .trans ?_ (.post _ _ r)
        refine .trans (b := a.removeClaim t.order) ⟨h1, fun _ h => h⟩ ?_
        exact .modDrive _ i r (fun _ h => h) (by simpa using hq')
      · exact pop
    · exact pop

/-- The end of a drive's work by its owner (R139): the same. -/
theorem Device.endWork_gives (d : Device) (i : DriveId) :
    d.Shrinks (d.endWork i) ∧ (d.endWork i).map = d.map ∧ ∀ r, d.Left r →
      d.Frees (d.endWork i) r ∧ ((d.endWork i).drive i).active ≠ some (.restore r) := by
  unfold Device.endWork
  split
  · exact d.workEnded_gives i
  · exact ⟨.modDrive d i fun _ h => h, rfl, fun r _ =>
      ⟨.modDrive d i r (fun _ h => h) (by simp), by rw [Device.drive_modDrive_cases, if_pos rfl]; simp⟩⟩

theorem Device.endWorkOf_gives (d : Device) (w : Work) :
    d.Shrinks (d.endWorkOf w) ∧ (d.endWorkOf w).map = d.map ∧ ∀ r, d.Left r → d.Frees (d.endWorkOf w) r := by
  unfold Device.endWorkOf
  split
  · exact ⟨(d.endWork_gives _).1, (d.endWork_gives _).2.1, fun r h => ((d.endWork_gives _).2.2 r h).1⟩
  · exact ⟨.refl d, rfl, fun r _ => .refl d r⟩

/-- The first drive at work for restore r stays the first while it is at work. -/
theorem Device.Frees.driveOf {d d' : Device} {r : RestoreId} (h : d.Frees d' r) {i : DriveId}
    (hi : d.driveOf (.restore r) = some i ∨ (d.drive i).active ≠ some (.restore r)) :
    d'.driveOf (.restore r) = some i ∨ (d'.drive i).active ≠ some (.restore r) := by
  rw [or_iff_not_imp_right, not_not]
  intro ha
  have hd : d.driveOf (.restore r) = some i := hi.resolve_right fun hn => hn (h.active i ha)
  obtain ⟨_, as, bs, hl, hb⟩ := List.find?_eq_some_iff_append.mp hd
  refine List.find?_eq_some_iff_append.mpr ⟨by simpa using ha, as, bs, hl, fun j hj => ?_⟩
  have := hb j hj
  simp only [Bool.not_eq_true', beq_eq_false_iff_ne, ne_eq] at this ⊢
  exact fun hc => this (h.active j hc)

/-- The first drive that works for restore r no longer does. -/
theorem Device.endWorkOf_ends (d : Device) {r : RestoreId} (h : d.Left r) {i : DriveId}
    (hi : d.driveOf (.restore r) = some i ∨ (d.drive i).active ≠ some (.restore r)) :
    ((d.endWorkOf (.restore r)).drive i).active ≠ some (.restore r) := by
  rcases hi with hi | hi
  · simp only [Device.endWorkOf, hi]
    exact ((d.endWork_gives i).2.2 r h).2
  · exact fun hc => hi (((d.endWorkOf_gives _).2.2 r h).active i hc)

/-! ### All restores at a link reset (R159, R185) -/

/-- After the first part of a link reset's work on the restores, all those that are named have given up what they
held. -/
theorem Device.leaveAll_gives (es : List Restore) (d : Device) :
    let d' := es.foldl (fun d e => d.leaveRestore e.chan e) d
    d.Shrinks d' ∧ (∀ i, (d'.drive i).active = (d.drive i).active) ∧
    (∀ e ∈ es, d'.Without e.chan ∧ ∀ k, d.claimOf (.restore e.chan) = some k → k ∉ d'.arb.claims) ∧
    d'.map.parts.map (fun p => (p.id, p.restorePins)) =
      d.map.parts.map fun p => (p.id, p.restorePins - (es.filter fun e => decide (e.part = p.id)).length) := by
  induction es generalizing d with
  | nil => exact ⟨.refl d, fun _ => rfl, by simp, by simp⟩
  | cons e es ih =>
    dsimp only [List.foldl_cons]
    obtain ⟨g1, g2, g3, g4, g5⟩ := d.leaveRestore_gives e.chan e
    obtain ⟨h1, h2, h3, h4⟩ := ih (d.leaveRestore e.chan e)
    generalize d.leaveRestore e.chan e = a at g1 g2 g3 g4 g5 h1 h2 h3 h4
    generalize es.foldl (fun d e => d.leaveRestore e.chan e) a = b at h1 h2 h3 h4
    refine ⟨g1.trans h1, fun i => (h2 i).trans (g3 i), fun x hx => ?_, ?_⟩
    · rcases List.mem_cons.mp hx with rfl | hx
      · exact ⟨h1.without g2, fun k hk hm => g4 k hk (h1.mem hm)⟩
      · refine ⟨(h3 x hx).1, fun k hk hm => ?_⟩
        refine (h3 x hx).2 k ?_ hm
        exact g1.claimOf hk (h1.mem hm)
    · rw [h4]
      have := congrArg (List.map fun p : Nat × Nat =>
        (p.1, p.2 - (es.filter fun e => decide (e.part = p.1)).length)) g5
      simp only [List.map_map, Function.comp_def] at this
      rw [this]
      refine List.map_congr_left fun p _ => ?_
      by_cases hp : p.id = e.part
      · simp [hp, Nat.sub_sub, Nat.add_comm]
      · simp [hp, Ne.symm hp]

/-- After the second part, no drive that was the first at work for one of them is at work for it, if it has no claim. -/
theorem Device.endAll_gives (es : List Restore) (d : Device) :
    let d' := es.foldl (fun d e => d.endWorkOf (.restore e.chan)) d
    d.Shrinks d' ∧ d'.map = d.map ∧
    (∀ r, d.Left r → d.Frees d' r) ∧
    ∀ e ∈ es, d.Left e.chan → ∀ i, d.driveOf (.restore e.chan) = some i →
      (d'.drive i).active ≠ some (.restore e.chan) := by
  suffices h : ∀ (es : List Restore) (d : Device),
      let d' := es.foldl (fun d e => d.endWorkOf (.restore e.chan)) d
      d.Shrinks d' ∧ d'.map = d.map ∧
      (∀ r, d.Left r → d.Frees d' r) ∧
      ∀ e ∈ es, d.Left e.chan → ∀ i,
        (d.driveOf (.restore e.chan) = some i ∨ (d.drive i).active ≠ some (.restore e.chan)) →
        (d'.drive i).active ≠ some (.restore e.chan) by
    obtain ⟨h1, h2, h3, h4⟩ := h es d
    exact ⟨h1, h2, h3, fun e he hl i hi => h4 e he hl i (.inl hi)⟩
  intro es
  induction es with
  | nil => exact fun d => ⟨.refl d, rfl, fun r _ => .refl d r, by simp⟩
  | cons x es ih =>
    intro d
    dsimp only [List.foldl_cons]
    obtain ⟨g1, g2, g3⟩ := d.endWorkOf_gives (.restore x.chan)
    have gx := fun h i => d.endWorkOf_ends (r := x.chan) h (i := i)
    obtain ⟨h1, h2, h3, h4⟩ := ih (d.endWorkOf (.restore x.chan))
    generalize d.endWorkOf (.restore x.chan) = a at g1 g2 g3 gx h1 h2 h3 h4
    refine ⟨g1.trans h1, h2.trans g2, fun r h => (g3 r h).trans (h3 r (g1.left h)), fun e he hl i hi => ?_⟩
    rcases List.mem_cons.mp he with rfl | he
    · exact fun hc => gx hl i hi ((h3 _ (g1.left hl)).active i hc)
    · exact h4 e he (g1.left hl) i ((g3 _ hl).driveOf hi)

/-- After the third, none of them is in the queue. -/
theorem Device.freeAll_gives (es : List Restore) (d : Device) :
    let d' := es.foldl (fun d e => (d.freeRestore e.chan).setGrants e.chan 0) d
    d'.xe = d.xe ∧ d'.drives = d.drives ∧ d'.arb = d.arb ∧ d'.map = d.map ∧
    ∃ q : Restore → Bool, d'.ru.queue = d.ru.queue.filter q ∧ ∀ e ∈ es, ∀ x, x.chan = e.chan → q x = false := by
  induction es generalizing d with
  | nil => exact ⟨rfl, rfl, rfl, rfl, fun _ => true, (List.filter_eq_self.mpr fun _ _ => rfl).symm, by simp⟩
  | cons e es ih =>
    obtain ⟨hx, hd, ha, hm, q, hq, h⟩ := ih ((d.freeRestore e.chan).setGrants e.chan 0)
    refine ⟨hx, hd, ha, hm, fun x => q x && x.chan != e.chan, ?_, ?_⟩
    · rw [List.foldl_cons, hq]
      simp only [Device.setGrants, Device.freeRestore, List.filter_filter]
    · intro z hz x hxz
      rcases List.mem_cons.mp hz with rfl | hz
      · simp [hxz]
      · simp [h z hz x hxz]

/-- What a link reset does to a restore in use (R159, R185): its entry is freed; its claim, record at the expansion
engine and contexts are gone; the drive at work for it, had it no claim, works for it no longer. And every part has lost
the pins of the restores that were reading it. -/
theorem Device.linkReset_gives (d : Device) :
    let d' := d.linkReset
    (∀ r e, d.restore? r = some e → e.state ≠ .ended →
      d'.restore? r = none ∧ d'.Without r ∧
      (∀ k, d.claimOf (.restore r) = some k → k ∉ d'.arb.claims) ∧
      ∀ i, d.driveOf (.restore r) = some i → (∀ k ∈ d.arb.claims, k.owner ≠ .restore r) →
        (d'.drive i).active ≠ some (.restore r)) ∧
    d'.map.parts.map (fun p => (p.id, p.restorePins)) =
      d.map.parts.map fun p =>
        (p.id, p.restorePins - (d.ru.queue.filter fun e => decide (e.state ≠ .ended ∧ e.part = p.id)).length) := by
  have hb : d.SameRestores
      (allStreams.foldl (fun d c => if (d.stream c).state = .closed then d else d.abort c) d).removeEmptied := by
    refine .trans (.foldl (fun d c => ?_) _ _) (.removeEmptied _)
    split <;> [exact .refl d; exact .abort d c]
  have hu : d.linkReset = { (allStreams.foldl (fun d c => if (d.stream c).state = .closed then d else d.abort c)
      d).removeEmptied.cancelRestores with
    link := { (allStreams.foldl (fun d c => if (d.stream c).state = .closed then d else d.abort c)
      d).removeEmptied.cancelRestores.link with grants := Vector.replicate 8 0, errors := 0 } } := rfl
  rw [hu]
  generalize (allStreams.foldl (fun d c => if (d.stream c).state = .closed then d else d.abort c) d).removeEmptied = b at hb
  have hc : b.cancelRestores =
    (b.liveRestores.foldl (fun d e => (d.freeRestore e.chan).setGrants e.chan 0)
      (b.liveRestores.foldl (fun d e => d.endWorkOf (.restore e.chan))
        (b.liveRestores.foldl (fun d e => d.leaveRestore e.chan e) b))).post .promote := rfl
  have hes : b.liveRestores = d.ru.queue.filter fun e => e.state != .ended := by rw [Device.liveRestores, hb.ru]
  rw [hc, hes]
  clear hc hes hu
  obtain ⟨g1, g2, g3, g4⟩ := Device.leaveAll_gives (d.ru.queue.filter fun e => e.state != .ended) b
  generalize List.foldl (fun d e => d.leaveRestore (Restore.chan e) e) b _ = a at g1 g2 g3 g4
  obtain ⟨h1, h2, h3, h4⟩ := Device.endAll_gives (d.ru.queue.filter fun e => e.state != .ended) a
  generalize List.foldl (fun d e => d.endWorkOf (.restore (Restore.chan e))) a _ = u at h1 h2 h3 h4
  obtain ⟨f1, f2, f3, f4, q, f5, f6⟩ := Device.freeAll_gives (d.ru.queue.filter fun e => e.state != .ended) u
  generalize List.foldl (fun d e => (d.freeRestore (Restore.chan e)).setGrants e.chan 0) u _ = v at f1 f2 f3 f4 f5
  obtain ⟨p1, p2, p3, p4⟩ := v.post_other .promote
  have hs : (d.Shrinks a) := (Shrinks.of_same hb).trans g1
  have hv : u.Shrinks (v.post .promote) := .of_eq (p1.trans f1) (p2.trans f2) (p3.trans f3)
  have hq : (v.post .promote).ru = v.ru := by unfold Device.post; split <;> rfl
  generalize v.post .promote = w at p1 p2 p3 p4 hv hq
  refine ⟨fun r e he hl => ?_, ?_⟩
  · have hin : e ∈ d.ru.queue.filter fun e => e.state != .ended :=
      List.mem_filter.mpr ⟨List.mem_of_find?_eq_some he, by simpa using hl⟩
    have hr : e.chan = r := by simpa using List.find?_some he
    subst hr
    obtain ⟨k1, k2⟩ := g3 e hin
    refine ⟨?_, ⟨fun i c hc => ?_, fun x hx => ?_⟩, fun k hk hm => ?_, fun i hi hno => ?_⟩
    · refine List.find?_eq_none.mpr fun x hx hxc => ?_
      have hx : x ∈ u.ru.queue.filter q := by rw [← f5, ← hq]; exact hx
      have := (List.mem_filter.mp hx).2
      rw [f6 e hin x (by simpa using hxc)] at this
      exact absurd this (by simp)
    · exact ((h1.trans hv).without k1).stack i c hc
    · exact ((h1.trans hv).without k1).xe x hx
    · have hka : k ∈ a.arb.claims := (h1.trans hv).mem hm
      exact k2 k ((Shrinks.of_same hb).claimOf hk (g1.mem hka)) hka
    · have hact : ∀ j, (a.drive j).active = (d.drive j).active := fun j => (g2 j).trans (hb.active j)
      have hd : a.driveOf (.restore e.chan) = some i := by
        simpa only [Device.driveOf, hact] using hi
      have := h4 e hin ⟨k1, fun k hk => hno k (hs.mem hk)⟩ i hd
      have hw : w.drive i = u.drive i := by simp only [Device.drive, p2, f2]
      exact fun hc => this (hw ▸ hc)
  · show w.map.parts.map _ = _
    rw [p4, f4, h2, g4]
    have := congrArg (List.map fun p : Nat × Nat => (p.1, p.2 -
      ((d.ru.queue.filter fun e => e.state != .ended).filter fun e => decide (e.part = p.1)).length)) hb.pins
    simp only [List.map_map, Function.comp_def] at this
    rw [this]
    refine List.map_congr_left fun p _ => ?_
    rw [List.filter_filter]
    congr 4
    funext e
    by_cases h : e.state = .ended <;> simp [h]

end Sys2Proof.Machine
end

