-- ==== Sys2Proof/WellFormed.lean ====
section
/-!
DEFINITION. Which commands can be sent at all: the operands each row's rule gives it. What a request may ask is not
checked here: its own rule refuses it with a status.
-/
namespace Sys2Proof

/-- A stream channel (R1). -/
def isStreamChannel (ch : Nat) : Bool := 1 ≤ ch && ch ≤ 32
/-- A restore channel (R144). -/
def isRestoreChannel (ch : Nat) : Bool := 33 ≤ ch && ch ≤ 40
/-- A number of at most 8 bytes, as a REQ carries it (R189). -/
def fitsNumber (n : Nat) : Bool := n < 2 ^ 64
/-- An optional number of at most 8 bytes. -/
def fitsOpt (n : Option Nat) : Bool := n.all fitsNumber

/-- An expected generation as a REQ carries it. -/
def Expected.fits : Expected → Bool
  | .any => true
  | .exactly g => fitsNumber g

/-- The fields of LOAD_CARTRIDGE as a REQ carries them. -/
def CartArgs.fits (a : CartArgs) : Bool :=
  fitsOpt a.pool && fitsOpt a.eod && fitsOpt a.capacity && fitsOpt a.serial && fitsOpt a.home && fitsOpt a.uses

/-- The fields of LOAD_POOL as a REQ carries them. -/
def PoolArgs.fits (a : PoolArgs) : Bool :=
  fitsOpt a.multiplex && fitsOpt a.interval && fitsOpt a.retries && fitsOpt a.defaultCapacity

/-- The fields of LOAD_SEGMENT as a REQ carries them. -/
def SegmentArgs.fits (a : SegmentArgs) : Bool :=
  [a.part, a.jobTag, a.number, a.cart, a.firstBlock, a.lastBlock, a.firstSeq, a.lastSeq, a.rawBytes, a.storedBytes,
   a.check, a.closeTime].all fitsNumber

/-- What the scanner reads (R107): nothing, or 8 characters. -/
def ScanResult.wf : ScanResult → Bool
  | .empty => true
  | .barcode x => x.length == 8

/-- A command that can be sent (R107, R123, R175, R188, R189). -/
def Instr.wf : Instr → Bool
  | .data ch payload => isStreamChannel ch && payload.length ≤ 4108
  | .markCut ch | .markEnd ch => isStreamChannel ch
  | .grant ch count => isRestoreChannel ch && count ≤ 65535
  | .frameRefused f => Decode.frameCommand f == .frameRefused f
  | .unknownRequest tag items => items.length ≤ 4106 && (Decode.requestOf tag items).isNone
  | .openStream _ ch jobTag pool size _ => [ch, jobTag, pool].all fitsNumber && fitsOpt size
  | .abortStream _ ch => fitsNumber ch
  | .loadPool _ pool e a => fitsNumber pool && e.fits && a.fits
  | .loadCartridgeCreate _ i e barcode a => fitsNumber i && e.fits && barcode.length ≤ 4096 && a.fits
  | .loadCartridgeEdit _ i e a => fitsNumber i && e.fits && a.fits
  | .loadCartridgeRemove _ i e | .lock _ i e | .unlock _ i e | .hold _ i e | .finalize _ i e | .recycle _ i e =>
    fitsNumber i && e.fits
  | .inventory _ a b => fitsOpt a && fitsOpt b
  | .move _ a b => fitsNumber a && fitsNumber b
  | .restore _ ch part _ first count _ => fitsNumber ch && fitsNumber part && fitsOpt first && fitsOpt count
  | .cancelRestore _ n | .verifyNow _ n | .releaseSegment _ n | .readSegment _ n | .readCartridge _ n
  | .readElement _ n | .readDrive _ n | .readFeed _ n | .readStream _ n => fitsNumber n
  | .loadSegment _ a => a.fits
  | .listSegments _ c t n => fitsOpt c && fitsOpt t && fitsNumber n
  | .setParam _ _ v | .setTime _ v | .resetLink _ v | .resetDrive _ v | .resetChanger _ v => fitsOpt v
  | .poll _ | .linkDown | .linkUp | .powerOn .. | .retentionHoldChange _ | .mailDoorOpen | .mailDoorClosed => true
  | .compressionCompletion | .placement | .expansionCompletion => true
  | .assemblyTimeout _ | .oldestBlockTimeout _ | .governorPeriod _ => true
  | .loadCompletion .. | .unloadCompletion .. | .locateCompletion .. | .writeCompletion .. => true
  | .speedCompletion .. | .cleanCompletion .. => true
  | .locateEndCompletion _ _ _ n => n ≤ 2 ^ 24
  | .readCompletion _ _ r block => r != .ok || block.length == Config.blockBytes
  | .cleanRequest _ | .commandTimeout _ | .minimumDwell _ | .idleUnmount _ => true
  | .transferCompletion .. | .orderTimeout | .libraryTimeAdvance => true
  | .scanCompletion _ r | .rehomeCompletion _ r => r.wf
  | .restoreStall ch => isRestoreChannel ch
  | .entryOverdue i => i < 128
  | .outboundFrameLeaves ch => ch ≤ 40

end Sys2Proof
end

