-- ==== Sys2Proof/Tests/Slice0.lean ====
section
/-!
SUPPORT. The row's own tests: the smoke test of WellFormed, words written out from the spec's formats, one step of each
family of commands on a small device with what the spec says comes of it, and for every statement of Obligations.lean
a named witness of its hypotheses, clause by clause, at their bounds.
-/
open Sys2Proof Sys2Proof.Machine

namespace Sys2Proof.Tests

set_option Elab.async false

/-! ### Small devices -/

/-- The device after its start sequence: the picker and every drive at rest, every element EMPTY, no event pending. -/
def quiet : Device :=
  let d := State.reset.dev
  { d with
    media := { d.media with elems := Vector.replicate 105 ⟨.empty, none, none⟩ }
    changer := { d.changer with picker := .idle, order := none, reset := none }
    drives := Vector.replicate 4 { state := .empty, outstanding := [], cmdNo := 1, phase := .rest }
    mu := { d.mu with events := Vector.replicate 14 none } }

/-- A state with no command waiting. -/
def st (d : Device) : State := ⟨d, []⟩

/-- The device after one command; every command answers a next state. -/
def after (i : Instr) (d : Device) : Device := match exec i (st d) with | .next t => t.dev | _ => d

def putStream (c : StreamId) (x : Stream) (d : Device) : Device := d.modStream c fun _ => x
def putFeed (f : FeedId) (x : Feed) (d : Device) : Device := d.setFeed f (some x)
def putDrive (i : DriveId) (x : Drive) (d : Device) : Device := d.modDrive i fun _ => x
def putElem (e : ElemId) (x : Content) (d : Device) : Device := d.modElem e fun _ => ⟨x, none, none⟩
def putCart (c : CartId) (x : Cart) (d : Device) : Device := d.setRow c ⟨0, some x⟩
def putPart (x : Part) (d : Device) : Device := { d with map := { d.map with parts := [x] } }
def putRestore (x : Restore) (d : Device) : Device := { d with ru := { d.ru with queue := [x] } }
def putEntry (x : VerifyEntry) (d : Device) : Device := { d with vu := { d.vu with list := [x] } }
def putOrder (o : Order) (m : List Move) (d : Device) : Device :=
  { d with changer := { d.changer with picker := .moving, order := some o, moves := m } }
def atSecond (n : Nat) (d : Device) : Device := { d with mu := { d.mu with elapsed := n, time := n } }

/-- A data cartridge of pool 1 in storage slot 9. -/
def cart : Cart :=
  { barcode := ascii "AAA001L9", kind := .data, pool := some 1, protection := some .writable, full := some false,
    eod := some 1, capacity := 16777215, serial := 7, location := .at 9, home := some 9, uses := 0,
    finalizing := false, reason := .none }

/-- A CLOSED part of four records on cartridge 0. -/
def part : Part :=
  { id := 1, jobTag := 5, number := 0, cart := 0, firstBlock := 1, lastBlock := 1, firstSeq := 0, lastSeq := 3,
    rawBytes := 400, storedBytes := 300, check := 0, state := .closed, gap := false, truncated := false,
    continued := false, hostLoaded := false, closeTime := some 1, suspectTime := none, restorePins := 0,
    verifyPin := false }

/-- An opening that holds 1 slot of 3 bytes. -/
def waiting : Stream :=
  { state := .waiting, jobTag := 5, pool := 1, recordSize := 4096, slots := [⟨[1, 2, 3], false⟩], credits := 255,
    writeSlot := 1, accepted := 3, opening := 1 }

/-- A feed on drive 0 with cartridge 0 mounted. -/
def feed : Feed := { state := .filling, pool := 1, members := [⟨0, 1⟩], drive := some 0, cart := some 0 }

def record (bytes : Bytes) : Record :=
  { opening := ⟨0, 1⟩, jobTag := 5, seq := 0, rawLen := bytes.length, storedLen := bytes.length, method := .stored,
    rawCrc := crc32 bytes, gap := false, stored := bytes }

def block : Block := ⟨0, 0, [record [1, 2, 3]], 27⟩

def restore : Restore :=
  { chan := 0, priority := .normal, arrival := 0, state := .queued, follow := false, start := 0, stop := some 3,
    part := 1, cart := 0, next := 0 }

def entry : VerifyEntry :=
  { cart := 0, deadline := 100, order := 0, forced := none, raised := false, block := .none, activity := .none }

def move : Move :=
  { id := 0, src := 9, dst := some 10, load := .cart 0, cls := some 6, requester := .host, order := 0, running := true,
    ready := true, atPicker := false, grips := 0 }

/-- A mounted drive with nothing under way. -/
def mounted : Drive :=
  { state := .mountedIdle, cart := some 0, position := some 1, outstanding := [], cmdNo := 1, mountTime := some 0,
    idleSince := some 0, phase := .rest }

/-! ### WellFormed refuses what cannot be sent -/

/-- A command with a number wider than 8 bytes is ill-formed (R189). -/
theorem test_wf_refuses_wide_numbers :
    let w := 2 ^ 64
    let one : SegmentArgs := ⟨1, 1, 1, 1, 1, 1, 1, 1, 1, 1, 1, .unknown, .unknown, .unknown, .unknown, 1⟩
    ([.openStream 0 w 1 1 none none, .openStream 0 1 w 1 none none, .openStream 0 1 1 w none none,
      .openStream 0 1 1 1 (some w) none, .abortStream 0 w, .loadPool 0 w .any {}, .loadPool 0 1 (.exactly w) {},
      .loadPool 0 1 .any { multiplex := some w }, .loadPool 0 1 .any { interval := some w },
      .loadPool 0 1 .any { retries := some w }, .loadPool 0 1 .any { defaultCapacity := some w },
      .loadCartridgeCreate 0 w .any [] {}, .loadCartridgeCreate 0 0 (.exactly w) [] {},
      .loadCartridgeCreate 0 0 .any [] { pool := some w }, .loadCartridgeEdit 0 w .any {},
      .loadCartridgeEdit 0 0 .any { eod := some w }, .loadCartridgeEdit 0 0 .any { capacity := some w },
      .loadCartridgeEdit 0 0 .any { serial := some w }, .loadCartridgeEdit 0 0 .any { home := some w },
      .loadCartridgeEdit 0 0 .any { uses := some w }, .loadCartridgeRemove 0 w .any, .lock 0 w .any, .unlock 0 w .any,
      .hold 0 w .any, .finalize 0 w .any, .recycle 0 0 (.exactly w), .inventory 0 (some w) none,
      .inventory 0 none (some w), .move 0 w 1, .move 0 1 w, .restore 0 w 1 .unknown none none .unknown,
      .restore 0 33 w .unknown none none .unknown, .restore 0 33 1 .unknown (some w) none .unknown,
      .restore 0 33 1 .unknown none (some w) .unknown, .cancelRestore 0 w, .verifyNow 0 w, .releaseSegment 0 w,
      .readSegment 0 w, .readCartridge 0 w, .readElement 0 w, .readDrive 0 w, .readFeed 0 w, .readStream 0 w,
      .loadSegment 0 { one with part := w }, .loadSegment 0 { one with closeTime := w },
      .listSegments 0 (some w) none 0, .listSegments 0 none (some w) 0, .listSegments 0 none none w,
      .setParam 0 .unknown (some w), .setTime 0 (some w), .resetLink 0 (some w), .resetDrive 0 (some w),
      .resetChanger 0 (some w)] : List Instr).all (fun i => !i.wf) = true := by decide +kernel

/-- A command on a channel that is none of its own, or with a body, a block, a barcode, an index or an end of data its
rule does not have, is ill-formed (R107, R123, R144, R160, R175, R188). -/
theorem test_wf_refuses_wrong_operands :
    ([.data 0 [1], .data 33 [1], .data 1 (List.replicate 4109 0), .markCut 0, .markEnd 33, .grant 32 1, .grant 41 1,
      .grant 33 65536, .unknownRequest 0 (itemsBytes [⟨ascii "NAME", ascii "POLL"⟩]),
      .unknownRequest 0 (List.replicate 4107 0), .loadCartridgeCreate 0 0 .any (List.replicate 4097 0) {},
      .locateEndCompletion 0 0 .ok (2 ^ 24 + 1), .readCompletion 0 0 .ok [1], .scanCompletion 0 (.barcode [1]),
      .rehomeCompletion 0 (.barcode []), .restoreStall 41, .restoreStall 32, .entryOverdue 128,
      .outboundFrameLeaves 41] : List Instr).all (fun i => !i.wf) = true := by decide +kernel

/-- FRAME_REFUSED stands for refused frames alone. -/
theorem test_wf_refuses_a_good_frame_as_refused :
    (Instr.frameRefused [0x0A, 0x00, 0x20, 0x02, 0x00, 0x01, 0x03, 0xC9, 0xE8, 0xC4]).wf = false := by decide +kernel

/-- Commands that can be sent are well-formed. -/
theorem test_wf_takes_good_commands :
    ([.data 32 [1], .grant 40 65535, .frameRefused [], .unknownRequest 0 [], .poll 7, .move 0 (2 ^ 64 - 1) 0,
      .scanCompletion 0 .empty, .readCompletion 0 0 .blank [], .entryOverdue 127] : List Instr).all Instr.wf = true := by
  decide +kernel

/-! ### Frames written out from Tables 11-1 and 11-2, R188 and R189 -/

/-- DATA on channel 5 with the bytes A B. -/
theorem test_frame_data :
    Decode.frameCommand [0x0B, 0x00, 0x05, 0x01, 0x00, 0x41, 0x42, 0x69, 0x3D, 0x87, 0x9E] = .data 5 [0x41, 0x42] := by
  decide +kernel

/-- MARK CUT on channel 32, MARK END on channel 1 with the attention bit set, GRANT of 16 on channel 33. -/
theorem test_frame_marks_and_grant :
    Decode.frameCommand [0x0A, 0x00, 0x20, 0x02, 0x00, 0x01, 0x03, 0xC9, 0xE8, 0xC4] = .markCut 32 ∧
    Decode.frameCommand [0x0A, 0x00, 0x01, 0x02, 0x01, 0x02, 0xA3, 0x61, 0x74, 0x5C] = .markEnd 1 ∧
    Decode.frameCommand [0x0B, 0x00, 0x21, 0x04, 0x00, 0x10, 0x00, 0x36, 0x08, 0x6A, 0xA6] = .grant 33 16 := by
  decide +kernel

/-- REQ POLL with tag 1234h. -/
theorem test_frame_poll :
    Decode.frameCommand [0x16, 0x00, 0x00, 0x05, 0x00, 0x34, 0x12, 0x04, 0x4E, 0x41, 0x4D, 0x45, 0x04, 0x00, 0x50, 0x4F,
      0x4C, 0x4C, 0x4D, 0x31, 0xB4, 0x06] = .poll 0x1234 := by decide +kernel

/-- REQ LOCK of cartridge 7 with ANY generation, tag 1. -/
theorem test_frame_lock :
    Decode.frameCommand [0x38, 0x00, 0x00, 0x05, 0x00, 0x01, 0x00, 0x04, 0x4E, 0x41, 0x4D, 0x45, 0x04, 0x00, 0x4C, 0x4F, 0x43, 0x4B, 0x05, 0x49, 0x4E, 0x44, 0x45, 0x58, 0x01, 0x00, 0x07, 0x13, 0x45, 0x58, 0x50, 0x45, 0x43, 0x54, 0x45, 0x44, 0x5F, 0x47, 0x45, 0x4E, 0x45, 0x52, 0x41, 0x54, 0x49, 0x4F, 0x4E, 0x03, 0x00, 0x41, 0x4E, 0x59, 0x40, 0xF5, 0x0D, 0x30] = .lock 1 7 .any := by decide +kernel

/-- A byte changed, a channel above 40, and a DATA on channel 0 are refused. -/
theorem test_frames_refused :
    ([[0x0B, 0x00, 0x05, 0x01, 0x00, 0x40, 0x42, 0x69, 0x3D, 0x87, 0x9E],
      [0x0A, 0x00, 0x29, 0x01, 0x00, 0x41, 0x40, 0x79, 0x7A, 0xCD],
      [0x0A, 0x00, 0x00, 0x01, 0x00, 0x41, 0xF4, 0x99, 0x40, 0x10]] : List Bytes).all
        (fun f => Decode.frameCommand f == .frameRefused f) = true := by decide +kernel

/-- The check value of R187. -/
theorem test_crc_check_value : crc32 (ascii "123456789") = 0xCBF43926 := by decide +kernel

/-! ### Worked examples of the spec -/

/-- Chapter 2's record of 13 bytes: its tokens and its head table. -/
theorem test_thirteen_byte_record :
    tokensBytes (findMatches (ascii "ABCABCABCABCX")).out = [0x02, 0x41, 0x42, 0x43, 0x86, 0x03, 0x00, 0x00, 0x58] ∧
    (findMatches (ascii "ABCABCABCABCX")).head = [(0x55B, 3), (0x56D, 1), (0x576, 2)] := by decide +kernel

/-- Chapter 3's governor: the target step of the estimates of its four periods. -/
theorem test_governor_targets : [8480, 6360, 7570, 8477, 8770, 10577].map targetStep = [2, 1, 2, 2, 3, 4] := by
  decide +kernel

/-- Chapter 3's first period: e 8000, 620 closes, step 3. -/
theorem test_governor_period :
    let d := after (.governorPeriod 0)
      (atSecond 1 (putDrive 0 mounted (putFeed 0 { feed with state := .streaming, estimate := 8000, periodCount := 620,
                                                             step := 3 } quiet)))
    (d.feed 0).map (fun x => (x.estimate, x.step, x.speedOut)) = some (8480, 2, true) := by decide +kernel

/-- Chapter 11's record header. -/
theorem test_record_header :
    recordBytes 1 { opening := ⟨4, 1⟩, jobTag := 0x505, seq := 7, rawLen := 13, storedLen := 9, method := .compressed,
                    rawCrc := 0xC0D4A1F3, gap := false, stored := [] } =
      [0x05, 0x05, 0x00, 0x00, 0x07, 0x00, 0x00, 0x00, 0x0D, 0x00, 0x00, 0x00, 0x09, 0x00, 0x00, 0x00,
       0xF3, 0xA1, 0xD4, 0xC0, 0x43, 0x00, 0x01, 0x00] := by decide +kernel

/-! ### One step of each command -/

def resp (d : Device) : Option (Status × List Item) :=
  match d.link.outbound.getLast? with | some (.resp _ st is _) => some (st, is) | _ => none

/-- R8: a taken payload spends a credit and moves the write slot from 255 to 0. -/
theorem test_data_wraps_the_write_slot :
    let d := after (.data 1 [9]) (putStream 0 { waiting with writeSlot := 255 } quiet)
    (d.stream 0).credits = 254 ∧ (d.stream 0).writeSlot = 0 ∧ (d.stream 0).accepted = 4 := by decide +kernel
/-- R9: without credit the payload is discarded and the overrun counted. -/
theorem test_data_overrun :
    let d := after (.data 1 [9]) (putStream 0 { waiting with credits := 0 } quiet)
    (d.stream 0).slots.length = 1 ∧ (d.stream 0).overruns = 1 ∧ d.event .streamOverrun = some ⟨1, .number 1⟩ := by
  decide +kernel
/-- R14: the CUT mark makes the three waiting bytes a record. -/
theorem test_mark_cut :
    ((after (.markCut 1) (putStream 0 waiting quiet)).stream 0).offered = some ⟨3, false, 0, false⟩ := by decide +kernel
/-- R13: an END mark on an empty ring closes the stream. -/
theorem test_mark_end :
    ((after (.markEnd 1) (putStream 0 { waiting with slots := [], credits := 256 } quiet)).stream 0).state = .closed := by
  decide +kernel
/-- R153: a grant count saturates at 65535. -/
theorem test_grant_saturates :
    (after (.grant 40 65535) (after (.grant 40 1) quiet)).grants 7 = 65535 := by decide +kernel
/-- R176: a refused frame is counted. -/
theorem test_frame_refused : (after (.frameRefused [1]) quiet).link.errors = 1 := by decide +kernel
/-- R174: an unknown request. -/
theorem test_unknown_request : resp (after (.unknownRequest 9 []) quiet) = some (.badArgument, []) := by decide +kernel
/-- R3, R4: the context's values; with no feed in use the stream gets one (R45). -/
theorem test_open_stream :
    let d := after (.openStream 1 3 5 1 (some 4096) (some (.known .never))) quiet
    (d.stream 2).credits = 256 ∧ (d.stream 2).recordSize = 4096 ∧ (d.stream 2).policy = .never := by decide +kernel
/-- R3: a record size that is not one of the five. -/
theorem test_open_stream_bad_size :
    resp (after (.openStream 1 3 5 1 (some 5000) none) quiet) = some (.badArgument, []) := by decide +kernel
/-- R20. -/
theorem test_abort_stream : ((after (.abortStream 1 1) (putStream 0 waiting quiet)).stream 0).state = .closed := by
  decide +kernel
/-- R88, R98: a changed pool counts one generation; an unchanged one does not. -/
theorem test_load_pool :
    (after (.loadPool 1 1 (.exactly 0) { multiplex := some 8, retries := some 2 }) quiet).pool 1 =
      { Pool.data with multiplex := 8, gen := 1 } ∧
    (after (.loadPool 1 1 (.exactly 0) { multiplex := some 4 }) quiet).pool 1 = Pool.data := by decide +kernel
/-- R98: pool 0 and a stale generation are refused. -/
theorem test_load_pool_refused :
    (resp (after (.loadPool 1 0 .any {}) quiet)).map (·.1) = some .badArgument ∧
    (resp (after (.loadPool 1 1 (.exactly 1) {}) quiet)).map (·.1) = some .stale := by decide +kernel
/-- R84: a FOREIGN element with the barcode takes the cartridge. -/
theorem test_create_at_a_foreign_slot :
    let d := after (.loadCartridgeCreate 1 0 .any (ascii "AAA001L9") {}) (putElem 9 (.foreign (ascii "AAA001L9")) quiet)
    (d.cart 0).map (·.location) = some (.at 9) ∧ (d.elem 9).content = .occupied 0 ∧ (d.row 0).gen = 1 := by
  decide +kernel
/-- R85. -/
theorem test_edit : ((after (.loadCartridgeEdit 1 0 .any { eod := some 9 }) (putCart 0 cart quiet)).cart 0).map (·.eod) =
    some (some 9) := by decide +kernel
/-- R86. -/
theorem test_remove :
    let d := after (.loadCartridgeRemove 1 0 .any) (putElem 9 (.occupied 0) (putCart 0 cart quiet))
    d.cart 0 = none ∧ (d.elem 9).content = .foreign (ascii "AAA001L9") := by decide +kernel
/-- R91, Table 5-2. -/
theorem test_lock : ((after (.lock 1 0 .any) (putCart 0 cart quiet)).cart 0).map (·.protection) = some (some .locked) := by
  decide +kernel
/-- R91: UNLOCK of a HELD cartridge while the hold line is asserted. -/
theorem test_unlock_held :
    resp (after (.unlock 1 0 .any) (after (.retentionHoldChange true)
      (putCart 0 { cart with protection := some .held } quiet))) = some (.protected_, []) := by decide +kernel
/-- R91. -/
theorem test_hold : ((after (.hold 1 0 .any) (putCart 0 cart quiet)).cart 0).map (·.protection) = some (some .held) := by
  decide +kernel
/-- R93: finalize pending is set and a HOST claim goes to a drive. -/
theorem test_finalize :
    let d := after (.finalize 1 0 .any) (putElem 9 (.occupied 0) (putCart 0 cart quiet))
    (d.cart 0).map (·.finalizing) = some true ∧ d.arb.claims.map (·.kind) = [.host] := by decide +kernel
/-- R94: RECYCLE of a cartridge a part names, and of one none names. -/
theorem test_recycle :
    resp (after (.recycle 1 0 .any) (putPart part (putCart 0 cart quiet))) = some (.busy, []) ∧
    ((after (.recycle 1 0 .any) (putCart 0 { cart with eod := some 9 } quiet)).cart 0).map (fun c => (c.pool, c.eod)) =
      some (some 0, some 1) := by decide +kernel
/-- R110, R115: the first SCAN of an inventory is of its first element. -/
theorem test_inventory :
    (after (.inventory 1 (some 9) none) quiet).changer.order.map (·.kind) = some (.scan 9 .inventory false) := by
  decide +kernel
/-- R109, R110: a host move is ordered at once on an idle picker. -/
theorem test_move :
    (after (.move 1 9 10) (putElem 9 (.occupied 0) (putCart 0 cart quiet))).changer.order.map (·.kind) =
      some (.transfer 0 9 10) := by decide +kernel
/-- R109: an EMPTY source. -/
theorem test_move_empty_source : (resp (after (.move 1 9 10) quiet)).map (·.1) = some .state := by decide +kernel
/-- R146: a restore pins its part. -/
theorem test_restore :
    let d := after (.restore 1 33 1 (.known .urgent) none none (.known false)) (putPart part (putCart 0 cart quiet))
    d.map.parts.map (·.restorePins) = [1] ∧ d.ru.queue.map (fun e => (e.start, e.stop)) = [(0, some 3)] := by
  decide +kernel
/-- R157, R158: a cancelled restore's RMARK counts its four records as missing. -/
theorem test_cancel_restore :
    (after (.cancelRestore 1 33) (putRestore restore (putPart { part with restorePins := 1 } (putCart 0 cart
      quiet)))).link.outbound.getLast? = some (.rmark 0 1 4 .cancelled none) := by decide +kernel
/-- R163. -/
theorem test_verify_now :
    ((after (.verifyNow 1 0) (atSecond 50 (putEntry entry (putPart part (putCart 0 cart quiet))))).entry? 0).map
      (fun e => (e.deadline, e.forced)) = some (50, some 50) := by decide +kernel
/-- R79: a pinned part is BUSY; one that is not is released. -/
theorem test_release_segment :
    (after (.releaseSegment 1 1) (putPart part quiet)).map.parts = [] ∧
    (resp (after (.releaseSegment 1 1) (putPart { part with verifyPin := true } quiet))).map (·.1) = some .busy := by
  decide +kernel
/-- R80: a loaded part is HOST_LOADED. -/
theorem test_load_segment :
    let a : SegmentArgs := ⟨9, 5, 0, 0, 1, 1, 0, 3, 400, 300, 0, .known .closed, .known false, .known false, .known false, 1⟩
    (after (.loadSegment 1 a) (putCart 0 { cart with eod := some 2 } quiet)).map.parts.map (fun p => (p.id, p.hostLoaded)) = [(9, true)] := by
  decide +kernel
/-- R82. -/
theorem test_list_segments :
    resp (after (.listSegments 1 (some 0) none 0) (putPart part quiet)) =
      some (.ok, [⟨ascii "COUNT", [1, 0]⟩, ⟨ascii "PART_IDS", [1, 0, 0, 0]⟩]) := by decide +kernel
/-- R81, R87, R103, R143, R63, R22: readings of what is not there. -/
theorem test_readings_refused :
    [(.readSegment 1 7 : Instr), .readCartridge 1 128, .readElement 1 105, .readDrive 1 4, .readFeed 1 4,
      .readStream 1 33].map (fun i => (resp (after i quiet)).map (·.1)) =
    [some .noEntry, some .badArgument, some .badArgument, some .badArgument, some .badArgument, some .badArgument] := by
  decide +kernel
/-- R177: a value above its range is clamped. -/
theorem test_set_param_clamps : (after (.setParam 1 (.known .startLevel) (some 1000)) quiet).mu.params.startLevel = 64 := by
  decide +kernel
/-- R179. -/
theorem test_set_time : (after (.setTime 1 (some 77)) quiet).mu.time = 77 := by decide +kernel
/-- R181: POLL takes PICKER_FAULT before CLEAN_DUE. -/
theorem test_poll :
    let d := after (.poll 1) ((quiet.raise .cleanDue (.due 1)).raise .pickerFault (.number 5))
    d.event .pickerFault = none ∧ (d.event .cleanDue).isSome = true := by decide +kernel
/-- R184, R185. -/
theorem test_reset_link :
    let d := after (.resetLink 1 none) (putStream 0 waiting quiet)
    (d.stream 0).state = .closed ∧ d.link.up = true ∧ resp d = some (.ok, []) := by decide +kernel
/-- R141: an EMPTY drive element. -/
theorem test_reset_drive : ((after (.resetDrive 1 (some 0)) (putDrive 0 { mounted with state := .fault } quiet)).drive
    0).state = .empty := by decide +kernel
/-- R119. -/
theorem test_reset_changer : (after (.resetChanger 1 none) quiet).changer.order.map (·.kind) = some .rehome := by
  decide +kernel
/-- R185. -/
theorem test_link_down_and_up :
    (after .linkDown quiet).link.up = false ∧ (after .linkUp (after .linkDown quiet)).link.up = true := by
  decide +kernel
/-- R186. -/
theorem test_power_on : (after (.powerOn true true) quiet).changer.doorOpen = true ∧
    (after (.powerOn true true) quiet).event .powerOn = some ⟨1, .number 0⟩ := by decide +kernel
/-- R117. -/
theorem test_mail_door_open :
    ((after .mailDoorOpen (putElem 5 (.occupied 0) (putCart 0 { cart with location := .at 5 } quiet))).elem 5).content =
      .unknown (some 0) := by decide +kernel
/-- R118: the mail scan begins at element 5. -/
theorem test_mail_door_closed :
    (after .mailDoorClosed { quiet with changer := { quiet.changer with doorOpen := true } }).changer.order.map (·.kind) =
      some (.scan 5 .mail false) := by decide +kernel

/-- The engine at work on the three bytes of stream 0. -/
def compressing : Device :=
  { putFeed 0 feed (putStream 0 { waiting with state := .bound, offered := some ⟨3, true, 0, false⟩, nextSeq := 1,
                                               unconfirmed := 1, feed := some 0 } quiet) with
    ce := { quiet.ce with
      state := .compressing, lastServed := 0,
      current := some { opening := ⟨0, 1⟩, feed := 0, jobTag := 5, seq := 0, rawLen := 3, gap := false,
                        policy := .never, storedRun := 0, bypass := 0 } } }

/-- The engine holding those bytes, STORED. -/
def holding : Device :=
  { compressing with
    ce := { compressing.ce with state := .holding, hold := some ⟨record [1, 2, 3], false⟩ } }

/-- R29 to R33, R47: the finished record opens its feed's assembly block at once. -/
theorem test_compression_completion :
    ((after .compressionCompletion compressing).feed 0).map (fun x => x.assembly.map (·.used)) = some (some 27) := by
  decide +kernel
/-- R11, R33: at placement its slot is freed and its credit returned. -/
theorem test_placement :
    let d := after .placement holding
    d.ce.state = .idle ∧ (d.stream 0).credits = 256 ∧ d.link.outbound = [.credit 0 1] := by decide +kernel
/-- R38, R39: a record of a method the XE does not know. -/
theorem test_expansion_completion :
    (after .expansionCompletion { quiet with xe := { quiet.xe with
      current := some ⟨.restore 0, ⟨5, 0, 3, 3, 0, 0x54, 0, [1, 2, 3]⟩, 0, 0, true⟩ } }).xe.current = none := by
  decide +kernel
/-- R48: the assembly block of second 0 is closed at second 5. -/
theorem test_assembly_timeout :
    let d := putFeed 0 { feed with assembly := some ⟨[record [1, 2, 3]], 27, 0, false⟩ } quiet
    ((after (.assemblyTimeout 0) (atSecond 5 d)).feed 0).map (fun x => (x.assembly.isSome, x.nextDseq)) =
      some (false, 1) ∧ after (.assemblyTimeout 0) (atSecond 4 d) = atSecond 4 d := by decide +kernel
/-- R50: a staged block of second 0 is no older than 5 seconds at second 5. -/
theorem test_oldest_block_timeout :
    let d := atSecond 5 (putFeed 0 { feed with staging := [block], nextDseq := 1 } quiet)
    after (.oldestBlockTimeout 0) d = d := by decide +kernel
/-- A command outstanding at drive 0, in a phase. -/
def busy (x : Drive) (s : DriveState) (p : Phase) (c : DriveCmd) : Device :=
  putDrive 0 { x with state := s, phase := p, outstanding := [⟨0, 0, c⟩] } (putElem 1 (.occupied 0)
    (putCart 0 { cart with location := .at 1 } quiet))

/-- R130, R131: after LOAD OK the label is read. -/
theorem test_load_completion :
    let d := after (.loadCompletion 0 0 .ok) (busy mounted .loading .load .load)
    (d.drive 0).state = .labelCheck ∧ (d.drive 0).outstanding.map (·.cmd) = [.read 0] := by decide +kernel
/-- R142, R123: an UNLOAD with nothing in the drive at power-on. -/
theorem test_unload_completion :
    let d := after (.unloadCompletion 3 0 .notReady) State.reset.dev
    (d.drive 3).state = .empty ∧ (d.elem 4).content = .empty := by decide +kernel
/-- R124: a LOCATE answered with END_OF_MEDIUM is a drive fault, and the drive is reset once (R140). -/
theorem test_locate_completion_fault :
    let d := after (.locateCompletion 0 0 .endOfMedium) (busy mounted .positioning .startLocate (.locate 9))
    (d.drive 0).autoReset = true ∧ (d.drive 0).state = .unloading ∧ d.event .driveFault = some ⟨1, .number 0⟩ := by
  decide +kernel
/-- R132: the end of data found sets the entry's EOD, and the block before it is read. -/
theorem test_locate_end_completion :
    let d := after (.locateEndCompletion 0 0 .ok 5) (putCart 0 { cart with location := .at 1, eod := none }
      (busy mounted .appendCheck .appendEnd .locateEnd))
    (d.cart 0).map (·.eod) = some (some 5) ∧ (d.drive 0).outstanding.map (·.cmd) = [.read 4] := by decide +kernel
/-- R142: a block that is no label leaves an UNREADABLE barcode. -/
theorem test_read_completion :
    ((after (.readCompletion 0 0 .ok [1, 2]) (busy mounted .unloading .powerRead (.read 0))).drive 0).found =
      some .unreadable := by decide +kernel
/-- R123: a completion with another number than the oldest command's is discarded. -/
theorem test_write_completion_discarded :
    let d := busy mounted .writing .working (.write ⟨0x44, 0, 0, 1, 7, 0, [], 0⟩)
    (after (.writeCompletion 0 9 .ok) d).drive 0 = d.drive 0 := by decide +kernel
/-- R134, R93: the FINAL block written. -/
theorem test_write_completion_final :
    ((after (.writeCompletion 0 0 .endOfMedium) (busy mounted .writing .finalWrite (.write ⟨0x44, 1, 0, 5, 7, 0, [],
      0⟩))).cart 0).map (fun c => (c.protection, c.eod)) = some (some .finalized, some 6) := by decide +kernel
/-- R56: SPEED completed clears the feed's indication. -/
theorem test_speed_completion :
    ((after (.speedCompletion 0 0 .ok) (putFeed 0 { feed with speedOut := true }
      (busy { mounted with active := some (.feed 0) } .writing .working (.speed 2)))).feed 0).map (·.speedOut) =
      some false := by decide +kernel
/-- R137: a cleaning spends a use. -/
theorem test_clean_completion :
    let d := putCart 0 { cart with kind := .cleaning, uses := 1, location := .at 1 }
      (busy { mounted with cleaningDue := true } .cleaning .clean .clean)
    ((after (.cleanCompletion 0 0 .ok) d).cart 0).map (·.uses) = some 0 ∧
    (after (.cleanCompletion 0 0 .ok) d).event .cleanDue = some ⟨1, .expiredCart 0⟩ := by decide +kernel
/-- R137. -/
theorem test_clean_request : (after (.cleanRequest 2) quiet).arb.claims.map (·.target) = [.drive 2] := by decide +kernel
/-- R124: LOAD's timeout is 180 seconds. -/
theorem test_command_timeout :
    let d := busy mounted .loading .load .load
    ((after (.commandTimeout 0) (atSecond 179 d)).drive 0).state = .loading ∧
    ((after (.commandTimeout 0) (atSecond 180 d)).drive 0).autoReset = true := by decide +kernel
/-- R128. -/
theorem test_minimum_dwell :
    after (.minimumDwell 0) (atSecond 59 (putDrive 0 mounted quiet)) = atSecond 59 (putDrive 0 mounted quiet) := by
  decide +kernel
/-- R136. -/
theorem test_idle_unmount :
    let d := putDrive 0 mounted (putElem 1 (.occupied 0) (putCart 0 { cart with location := .at 1 } quiet))
    ((after (.idleUnmount 0) (atSecond 299 d)).drive 0).state = .mountedIdle ∧
    ((after (.idleUnmount 0) (atSecond 300 d)).drive 0).state = .unloading := by decide +kernel

/-- A host move from slot 9 to slot 10 under way, as order 0. -/
def moving : Device :=
  putOrder ⟨0, 0, .transfer 0 9 10⟩ [Sys2Proof.Tests.move] ((putElem 9 (.occupied 0) (putCart 0 cart quiet)).modElem 10
    fun e => { e with incoming := some 0 })

/-- R102: a host move into a storage slot gives the cartridge its home there. -/
theorem test_transfer_completion :
    ((after (.transferCompletion 0 .done) moving).cart 0).map (fun c => (c.location, c.home)) =
      some (.at 10, some 10) := by decide +kernel
/-- R112: the first grip failure at the destination is repeated from the picker. -/
theorem test_transfer_grip :
    (after (.transferCompletion 0 .gripDestination) moving).changer.order.map (·.kind) = some (.transfer 0 0 10) := by
  decide +kernel
/-- R101: an inventory creates an entry for an unknown barcode, a CLEANING one for CLN. -/
theorem test_scan_completion :
    let d := putOrder ⟨0, 0, .scan 9 .inventory false⟩ [] { quiet with changer := { quiet.changer with
      inventory := some ⟨9, 9, 0, 0, 0, 0, 0⟩ } }
    ((after (.scanCompletion 0 (.barcode (ascii "CLN001L9"))) d).cart 0).map (fun c => (c.kind, c.location)) =
      some (.cleaning, .at 9) := by decide +kernel
/-- R104, R119: the start sequence with an empty picker. -/
theorem test_rehome_completion :
    let d := after (.rehomeCompletion 0 .empty) State.reset.dev
    d.changer.picker = .idle ∧ (d.elem 0).content = .empty := by decide +kernel
/-- R113. -/
theorem test_order_timeout :
    (after .orderTimeout (atSecond 119 moving)).changer.picker = .moving ∧
    (after .orderTimeout (atSecond 120 moving)).changer.faultElems = [9, 10] := by decide +kernel
/-- R154: 300 seconds without a grant. -/
theorem test_restore_stall :
    let d := putRestore { restore with state := .sending, frames := [(0, [1])], stall := some 0 }
      (putPart { part with restorePins := 1 } (putCart 0 cart quiet))
    (after (.restoreStall 33) (atSecond 299 d)).ru.queue.map (·.state) = [.sending] ∧
    (after (.restoreStall 33) (atSecond 300 d)).ru.queue.map (·.state) = [.ended] := by decide +kernel
/-- R179: library time stays at FFFFFFFFh. -/
theorem test_library_time :
    (after .libraryTimeAdvance (atSecond 0xFFFFFFFF quiet)).mu.time = 0xFFFFFFFF ∧
    (after .libraryTimeAdvance quiet).mu.time = 1 := by decide +kernel
/-- R164. -/
theorem test_entry_overdue :
    let d := putEntry entry (putPart part (putCart 0 cart quiet))
    (after (.entryOverdue 0) (atSecond 99 d)).event .verifyOverdue = none ∧
    (after (.entryOverdue 0) (atSecond 100 d)).event .verifyOverdue = some ⟨1, .number 0⟩ := by decide +kernel
/-- R183, R188: a CREDIT of 1 on channel 1 with an event pending has the attention bit. -/
theorem test_outbound_frame :
    ((after (.outboundFrameLeaves 1) ((quiet.emit (.credit 0 1)).raise .noMedia (.number 1))).link.wire).map
      (·.take 7) = some [0x0B, 0x00, 0x01, 0x03, 0x01, 0x01, 0x00] := by decide +kernel

/-! ### Witnesses: each statement's hypotheses met by a concrete device and operands, clause by clause -/

/-- Every state field of a device in range. -/
theorem quiet_legal : quiet.fixed.Legal :=
  ⟨fun k => by cases k <;> decide, by decide, by decide, by decide, fun p => by
    have h : ∀ p : PoolId, quiet.fixed.pools[p] = Pool.scratch ∨ quiet.fixed.pools[p] = Pool.data := by decide
    obtain h | h := h p <;> rw [h] <;> exact ⟨by decide, by decide, by decide, by decide⟩⟩

theorem quiet_sound : quiet.Sound :=
  ⟨fun c => by
    have h : ∀ c : StreamId, quiet.intake.streams[c] = {} := by decide
    rw [h c]; exact ⟨by decide, by decide, by decide, by decide, by decide⟩,
   fun f x h => by
    have h' : ∀ f : FeedId, quiet.feeds[f] = none := by decide
    rw [h' f] at h; exact (nomatch h),
   by decide, by decide,
   fun k e h => by
    have h' : ∀ k : Fin 14, quiet.mu.events[k] = none := by decide
    rw [h' k] at h; exact (nomatch h),
   by decide, by decide⟩

theorem witness_StepCarriesOutTheFrontCommand :
    (⟨quiet, [.poll 1, .linkUp]⟩ : State).pending = .poll 1 :: [.linkUp] ∧ (st quiet).pending = [] := ⟨rfl, rfl⟩

theorem witness_EveryCommandCompletesAndSettles :
    quiet.Quiet ∧ ({ quiet with agenda := [.mouth] } : Device).agenda = [.mouth] ∧
    (({ quiet with agenda := [] } : Device).perform .mouth).Quiet := ⟨rfl, rfl, rfl⟩

theorem witness_EveryStepKeepsTheRanges :
    quiet.fixed.Legal ∧ ∃ t, step ⟨quiet, [.setTime 1 (some 0xFFFFFFFF)]⟩ = .next t := ⟨quiet_legal, _, rfl⟩

theorem witness_EveryStepKeepsTheTablesSound :
    quiet.Sound ∧ ∃ t, step ⟨quiet, [.grant 33 65535]⟩ = .next t := ⟨quiet_sound, _, rfl⟩

/-- Cartridge 0 FINALIZED. -/
def finalized : Device := putCart 0 { cart with protection := some .finalized } quiet

theorem witness_FinalizedIsNeverLeft :
    (∀ a b, Instr.loadCartridgeRemove 1 0 .any ≠ .powerOn a b) ∧ finalized.FinalizedAt 0 ∧
    ∃ t, exec (.loadCartridgeRemove 1 0 .any) (st finalized) = .next t :=
  ⟨nofun, ⟨_, rfl, rfl, nofun⟩, _, rfl⟩

theorem witness_OnlyTheirOwnersChangeTheSettings :
    let c := Instr.data 33 [1]
    (∃ t, exec c (st quiet) = .next t) ∧ (∀ a b, c ≠ .powerOn a b) ∧ (∀ g k v, c ≠ .setParam g k v) ∧
    (∀ g v, c ≠ .setTime g v) ∧ c ≠ .libraryTimeAdvance ∧ (∀ g p e a, c ≠ .loadPool g p e a) ∧
    (∀ b, c ≠ .retentionHoldChange b) ∧ c ≠ .mailDoorOpen ∧ c ≠ .mailDoorClosed ∧ c ≠ .linkDown ∧ c ≠ .linkUp ∧
    ∀ g v, c ≠ .resetLink g v :=
  ⟨⟨_, rfl⟩, nofun, nofun, nofun, nofun, nofun, nofun, nofun, nofun, nofun, nofun, nofun⟩

theorem witness_FramesNotTakenAndLinkResets :
    (onLink (.outboundFrameLeaves 0) = true ∧ ({ quiet with link := { quiet.link with up := false } } : Device).link.up = false) ∧
    (st quiet).dev.link.up = true ∧ (0 < 1 ∨ 32 < 0) ∧ (33 < 1 ∨ 32 < 33) ∧ (32 < 33 ∨ 40 < 32 ∨ 1 = 0) ∧
    (41 < 33 ∨ 40 < 41 ∨ 1 = 0) ∧ (33 < 33 ∨ 40 < 33 ∨ 0 = 0) ∧ (quiet.stream 0).state = .closed ∧
    ((putStream 0 { waiting with state := .ending, credits := 0 } quiet).stream 0).state = .ending ∧
    4096 < (List.replicate 4097 (0 : Byte)).length ∧ ((putStream 0 waiting quiet).stream 0).state = .waiting := by
  decide +kernel

theorem witness_FramesNotTakenAndLinkResets_resets : (st (putStream 0 waiting quiet)).dev.link.up = true := by decide

/-- Frames of three channels, the RMARK of a restore among them. -/
def sending : Device :=
  { putRestore { restore with state := .ended } quiet with
    link := { quiet.link with outbound := [.credit 0 1, .resp 1 .ok [] (some 1), .rmark 0 1 4 .cancelled none, .credit 0 2] } }

theorem witness_TheOldestFrameOfAChannelLeaves :
    sending.link.up = true ∧
    (sending.link.outbound = [] ++ .credit 0 1 :: sending.link.outbound.tail ∧ (OutFrame.credit 0 1).channel = 1 ∧
      (∀ g ∈ ([] : List OutFrame), g.channel ≠ 1) ∧
      (∀ c n, OutFrame.credit 0 1 = .credit c n → ∀ tag s is, OutFrame.resp tag s is (some c) ∉ []) ∧
      ∀ r p m s e, OutFrame.credit 0 1 ≠ .rmark r p m s e) ∧
    sending.link.outbound = [.credit 0 1, .resp 1 .ok [] (some 1)] ++ .rmark 0 1 4 .cancelled none :: [.credit 0 2] ∧
    (OutFrame.rmark 0 1 4 .cancelled none).channel = 33 ∧
    (∀ g ∈ ([.credit 0 1, .resp 1 .ok [] (some 1)] : List OutFrame), g.channel ≠ 33) ∧
    ∀ c n, OutFrame.rmark 0 1 4 .cancelled none = .credit c n → ∀ tag s is,
      OutFrame.resp tag s is (some c) ∉ ([.credit 0 1, .resp 1 .ok [] (some 1)] : List OutFrame) :=
  ⟨rfl, ⟨rfl, rfl, nofun, by simp, nofun⟩, rfl, rfl, by decide, nofun⟩

/-- Every refusal that the statement names, with a cause of each. -/
theorem witness_RefusedRequestsChangeNothing :
    let d := putEntry { entry with activity := .pass } (putRestore { restore with state := .ended } (putPart
      { part with verifyPin := true } (putCart 0 { cart with protection := some .finalized } quiet)))
    d.link.up = true ∧
    d.openRefusal 33 5 1 none none = some ⟨.badArgument, []⟩ ∧ d.abortRefusal 1 = some ⟨.state, []⟩ ∧
    d.poolRefusal 0 .any {} = some ⟨.badArgument, []⟩ ∧ d.createRefusal 128 .any [] {} = some ⟨.badArgument, []⟩ ∧
    (d.editRefusal 0 (.exactly 1) {}).map (·.status) = some .stale ∧
    (d.removeRefusal 1 .any).map (·.status) = some .noEntry ∧
    (d.protectRefusal .lock 0 .any).map (·.status) = some .protected_ ∧
    (d.protectRefusal .unlock 0 .any).map (·.status) = some .protected_ ∧
    (d.protectRefusal .hold 0 .any).map (·.status) = some .protected_ ∧
    (d.finalizeRefusal 0 .any).map (·.status) = some .state ∧
    (d.recycleRefusal 0 .any).map (·.status) = some .protected_ ∧
    d.inventoryRefusal (some 4) none = some ⟨.badArgument, []⟩ ∧ d.moveRefusal 9 9 = some ⟨.badArgument, []⟩ ∧
    (d.restoreRefusal 33 1 (.known .normal) none none (.known false)).map (·.status) = some .busy ∧
    d.cancelRefusal 33 = some ⟨.noEntry, []⟩ ∧ (d.verifyRefusal 0).map (·.status) = some .busy ∧
    (d.loadSegmentRefusal ⟨1, 5, 0, 0, 1, 1, 0, 3, 4, 3, 0, .known .closed, .known false, .known false, .known false, 1⟩).isSome = true ∧
    (d.releaseRefusal 1).map (·.status) = some .busy ∧
    (⟨.badArgument, []⟩ : RefusalOf).status = .badArgument ∧ 0xFFFFFFFF < 0x100000000 ∧ 4 ≤ 4 := by
  decide +kernel

theorem witness_ReadsOnlyAnswer :
    quiet.link.up = true ∧ (putFeed 3 feed quiet).feed 3 = some feed ∧ (104 : ElemId) ≠ pickerElem ∧
    0xFFFFFFFF ≤ 0xFFFFFFFF ∧ 1 ≤ 1 ∧ 1 ≤ 0xFFFFFFFF ∧
    (putPart part quiet).map.parts.Pairwise fun a b => a.id < b.id := by decide +kernel

theorem witness_SegmentAndCartridgeReadsAnswerEveryField :
    let d := putPart { part with id := 0xFFFFFFFF } quiet
    d.link.up = true ∧ (1 ≤ 1 ∧ 1 ≤ 0xFFFFFFFF ∧ ∀ p ∈ d.map.parts, p.id ≠ 1) ∧
    d.map.parts = [] ++ { part with id := 0xFFFFFFFF } :: [] ∧ (∀ q ∈ ([] : List Part), q.id ≠ 0xFFFFFFFF) := by
  decide +kernel

theorem witness_SegmentAndCartridgeReadsAnswerEveryField_cartridge :
    quiet.link.up = true ∧ 127 < 128 ∧ quiet.cart 127 = none ∧ (putCart 127 cart quiet).cart 127 = some cart := by
  decide +kernel

theorem witness_SetParamAndTimeApplyTheirValues :
    quiet.link.up = true ∧ (paramRange .startLevel).2 = quiet.mu.params.get .startLevel + 32 ∧
    (if 32 < (paramRange .startLevel).1 then 1 else 32) = quiet.mu.params.get .startLevel := by decide +kernel

theorem witness_SetParamAndTimeApplyTheirValues_time :
    quiet.link.up = true ∧ 0xFFFFFFFF ≤ 0xFFFFFFFF ∧ (∃ t, exec .libraryTimeAdvance (st quiet) = .next t) ∧
    (∃ t, exec (.setTime 1 (some 0xFFFFFFFF)) (st quiet) = .next t) ∧ entry ∈ (putEntry entry quiet).vu.list :=
  ⟨rfl, by decide, ⟨_, rfl⟩, ⟨_, rfl⟩, by decide⟩

theorem witness_EventsCountAndArePolled :
    quiet.event .operationEnd = none ∧ (quiet.setEvent .noMedia (some ⟨255, .number 1⟩)).event .noMedia = some ⟨255, .number 1⟩ ∧
    EventKind.powerOn ≠ .operationEnd := by decide +kernel

theorem witness_EventsCountAndArePolled_poll :
    quiet.link.up = true ∧ (quiet.raise .operationEnd .mailScanned).event .operationEnd = some ⟨1, .mailScanned⟩ ∧
    (∀ j : EventKind, j.index < EventKind.operationEnd.index → (quiet.raise .operationEnd .mailScanned).event j = none) ∧
    ∀ k, quiet.event k = none :=
  ⟨rfl, rfl, fun j => by cases j <;> decide, fun k => by cases k <;> rfl⟩

theorem witness_TakenDataIsStoredAndSpendsACredit :
    let d := putStream 31 { waiting with state := .stalled, credits := 1 } quiet
    d.link.up = true ∧ 1 ≤ [(7 : Byte)].length ∧ (List.replicate 4096 (7 : Byte)).length ≤ 4096 ∧
    (d.stream 31).state = .stalled ∧ 0 < (d.stream 31).credits ∧
    ((putStream 0 waiting quiet).stream 0).state = .waiting ∧
    ((putStream 0 { waiting with state := .bound } quiet).stream 0).state = .bound ∧ quiet.Sound :=
  ⟨rfl, by decide, by decide +kernel, rfl, by decide, rfl, rfl, quiet_sound⟩

theorem witness_OverrunsAndClosings :
    let d := putStream 0 { waiting with credits := 0, overruns := 65535 } quiet
    let e := putStream 31 { waiting with slots := [] } quiet
    d.link.up = true ∧ 1 ≤ [(7 : Byte)].length ∧ [(7 : Byte)].length ≤ 4096 ∧ (d.stream 0).state = .waiting ∧
    (d.stream 0).credits = 0 ∧ (e.stream 31).state = .waiting ∧ (e.stream 31).slots = [] ∧
    (e.stream 31).offered = none ∧ (e.stream 31).unconfirmed = 0 ∧ (e.stream 31).feed = none ∧
    (e.stream 31).part = none ∧ 0 < (e.stream 31).recordSize := by decide +kernel

theorem witness_MarkCutFlagsTheLastSlotOnce :
    (putStream 0 waiting quiet).link.up = true ∧ ((putStream 0 waiting quiet).stream 0).state = .waiting ∧
    ({} : Stream).unconsumed = 0 ∧ waiting.slots = [] ++ [⟨[1, 2, 3], false⟩] ∧ 0 < waiting.unconsumed := by
  decide +kernel

theorem witness_OpenStreamOpensTheStream :
    quiet.link.up = true ∧ 1 ≤ 0xFFFFFFFF ∧ 0xFFFFFFFF ≤ 0xFFFFFFFF ∧ (7 : PoolId) ≠ 0 ∧
    (65536 = 4096 ∨ 65536 = 8192 ∨ 65536 = 16384 ∨ 65536 = 32768 ∨ 65536 = 65536) ∧ (quiet.stream 31).state = .closed ∧
    quiet.lingering 31 = false ∧ (∀ y, (quiet.stream y).state ≠ .closed → (quiet.stream y).jobTag ≠ 0xFFFFFFFF) ∧
    (quiet.pool 7).writeEnabled = true := by decide +kernel

/-- Stream 0 of feed 0 with a record offered, untaken. -/
def offering : Device :=
  putFeed 0 feed (putStream 0 { waiting with state := .bound, offered := some ⟨3, false, 0, false⟩, nextSeq := 1,
                                             unconfirmed := 1, feed := some 0 } quiet)

theorem witness_AbortStreamClosesTheStream :
    offering.link.up = true ∧ (offering.stream 0).state ≠ .closed ∧
    ((putStream 0 waiting quiet).stream 0).feed = none ∧
    ((putStream 0 waiting quiet).stream 0).offered = none ∧ (offering.stream 0).feed = some 0 ∧
    offering.feed 0 = some feed ∧ (offering.stream 0).offered = some ⟨3, false, 0, false⟩ ∧
    (compressing.stream 0).offered = some ⟨3, true, 0, false⟩ := by decide +kernel

theorem witness_CutsAreBoundedAndKeepEveryByte :
    (offering.stream 0).offered ≠ none ∧ (waiting.offered = none ∧ waiting.cutCase = none) ∧
    { waiting with recordSize := 3 }.cutCase = some (.plain 3) ∧
    { waiting with slots := [⟨[1, 2, 3], true⟩], nextSeq := 0xFFFFFFFE }.cutCase = some (.mark 3) ∧
    0xFFFFFFFE < 0xFFFFFFFF ∧ firstCut [⟨[1, 2, 3], true⟩] = some 3 := by decide +kernel

theorem witness_AFinishFreesExactlyTheRecord :
    (compressing.stream 0).offered = some ⟨3, true, 0, false⟩ ∧
    ((compressing.stream 0).state = .bound ∧ 0 < (compressing.stream 0).finish.2) ∧
    ((putStream 0 { compressing.stream 0 with state := .ending } quiet).stream 0).state = .ending ∧
    ({ compressing.stream 0 with offered := some ⟨2, true, 0, false⟩ } : Stream).finish.2 = 0 ∧
    (quiet.stream 0).state = .closed := by decide +kernel

theorem witness_TheSearchTakesTheNextEligibleStream :
    compressing.ce.state ≠ .idle ∧ (∀ c, quiet.eligible c = none) ∧ offering.ce.state = .idle ∧
    offering.eligible 0 = some (0, ⟨3, false, 0, false⟩) ∧
    ∀ y, offering.eligible y ≠ none →
      (0 + 31 - offering.ce.lastServed.val) % 32 ≤ (y.val + 31 - offering.ce.lastServed.val) % 32 := by decide +kernel

/-- The held record with another assembly block. -/
def holdingWith (a : Option Assembly) (staged : Nat) (s : FeedState) : Feed :=
  { feed with state := s, assembly := a, staging := List.replicate staged block }

theorem witness_TheHeldRecordIsPlacedInItsFeed :
    quiet.ce.state ≠ .compressing ∧ compressing.ce.state = .compressing ∧ compressing.ce.current ≠ none ∧
    (¬(Policy.never = .always ∨ (Policy.never = .adaptive ∧ 0 = 0)) ∧ (Policy.always = .always ∨ False)) ∧
    (tokensBytes (findMatches (ascii "ABCABCABCABCX")).out).length < (ascii "ABCABCABCABCX").length ∧
    ([1, 2, 3] : Bytes).length ≤ (tokensBytes (findMatches [1, 2, 3]).out).length ∧
    quiet.ce.state ≠ .holding ∧ holding.ce.state = .holding ∧ holding.ce.current ≠ none ∧
    holding.ce.hold = some ⟨record [1, 2, 3], false⟩ ∧ holding.feed 0 = some feed ∧
    (feed.assembly = none ∧ feed.state ≠ .spanning ∧ feed.state ≠ .suspended ∧ feed.suspending = false) ∧
    (let x := holdingWith (some ⟨[], 262081, 0, false⟩) 64 .filling
     (holding.setFeed 0 (some x)).feed 0 = some x ∧ 24 + (record [1, 2, 3]).storedLen ≤ 262108 - 262081) ∧
    (let x := holdingWith (some ⟨[], 262082, 0, false⟩) 63 .filling
     262108 - 262082 < 24 + (record [1, 2, 3]).storedLen ∧ x.staging.length < 64) ∧
    (let x := holdingWith (some ⟨[], 262082, 0, false⟩) 64 .filling
     262108 - 262082 < 24 + (record [1, 2, 3]).storedLen ∧ 64 ≤ x.staging.length) ∧
    (let x := holdingWith (some ⟨[], 100, 0, true⟩) 64 .filling
     x.assembly = some ⟨[], 100, 0, true⟩ ∧ 64 ≤ x.staging.length) ∧
    (let x := holdingWith (some ⟨[], 100, 0, true⟩) 63 .filling
     x.assembly = some ⟨[], 100, 0, true⟩ ∧ x.staging.length < 64 ∧ x.state ≠ .spanning ∧ x.state ≠ .suspended ∧
       x.suspending = false) ∧
    (holdingWith none 0 .spanning).state = .spanning := by decide +kernel

theorem witness_ExpansionCompletionReturnsTheResult :
    let q : XeRequest := ⟨.restore 0, ⟨5, 0, 3, 3, 0, 0x53, 0, [1, 2, 3]⟩, 0, 0, true⟩
    let p : XeRequest := { q with client := .pass 0, dropped := false }
    quiet.xe.current = none ∧ ({ quiet with xe := { quiet.xe with current := some q } } : Device).xe.current = some q ∧
    q.dropped = true ∧ { q with dropped := false }.client = .restore 0 ∧ p.client = .pass 0 ∧ p.dropped = false ∧
    (q.record.method = 0x53 ∧ 1 ≤ q.record.rawLen ∧ q.record.rawLen ≤ 65536 ∧ q.record.storedLen = q.record.rawLen ∧
      q.record.stored.length = q.record.rawLen) ∧
    ({ q.record with rawLen := 0 }.rawLen = 0 ∧ 65536 < { q.record with rawLen := 65537 }.rawLen ∧
      { q.record with method := 0x54 }.method ≠ 0x53 ∧ { q.record with storedLen := 2 }.storedLen ≠ 3 ∧
      { q.record with method := 0x43 }.rawLen ≤ q.record.storedLen) := by decide +kernel

theorem witness_ExpansionUndoesCompression :
    let raw := ascii "ABCABCABCABCX"
    let r : TapeRecord := ⟨0, 0, 13, 9, crc32 raw, 0x43, 0, [0x02, 0x41, 0x42, 0x43, 0x86, 0x03, 0x00, 0x00, 0x58]⟩
    1 ≤ raw.length ∧ raw.length ≤ 65536 ∧ (compressRecord raw).1 = .compressed ∧ (compressRecord [1, 2, 3]).1 = .stored ∧
    r.rawLen = raw.length ∧ r.storedLen = (compressRecord raw).2.1.length ∧ r.stored = (compressRecord raw).2.1 ∧
    r.method = (compressRecord raw).1.code ∧ r.rawCrc = crc32 raw := by decide +kernel

theorem witness_FeedTimersAndTheGovernor :
    let a : Assembly := ⟨[record [1, 2, 3]], 27, 0, false⟩
    let x := holdingWith (some a) 63 .filling
    (putFeed 0 x quiet).feed 0 = some x ∧ x.assembly = some a ∧ quiet.mu.params.assemblyTimeout = 5 ∧
    a.firstTime + 5 ≤ (atSecond 5 quiet).mu.elapsed ∧ x.staging.length < 64 ∧
    64 ≤ (holdingWith (some a) 64 .filling).staging.length ∧ (atSecond 4 quiet).mu.elapsed < a.firstTime + 5 ∧
    feed.assembly = none ∧ x.staging = block :: x.staging.tail ∧
    block.closeTime + 5 < (atSecond 6 quiet).mu.elapsed ∧ (atSecond 5 quiet).mu.elapsed ≤ block.closeTime + 5 ∧
    feed.staging = [] := by decide +kernel

theorem witness_FeedTimersAndTheGovernor_period :
    let x : Feed := { feed with state := .streaming, estimate := 8000, periodCount := 620, step := 3 }
    (putFeed 0 x quiet).feed 0 = some x ∧ x.state = .streaming ∧ x.periodStart + 1 ≤ (atSecond 1 quiet).mu.elapsed ∧
    (targetStep 8480 < x.step ∧ x.speedOut = false) ∧ { x with speedOut := true }.speedOut = true ∧
    (2 < targetStep 10577 ∧ min 2 (1 + 1) = 2 ∧ quiet.mu.params.startLevel ≤ (holdingWith none 32 .streaming).staging.length) ∧
    (2 < targetStep 8770 ∧ min 2 (0 + 1) ≠ 2) ∧ (holdingWith none 31 .streaming).staging.length < quiet.mu.params.startLevel ∧
    targetStep 8477 = 2 ∧ (feed.state ≠ .streaming ∧ feed.state ≠ .paused) ∧ quiet.mu.elapsed < x.periodStart + 1 ∧
    (1 ≤ 8 ∧ 8 ≤ 8 ∧ 16 * (300 + 100 * 8) ≤ 15645 + 15645 / 8) ∧ ({ feed with drive := none } : Feed).drive = none ∧
    feed.drive = some 0 := by decide +kernel

theorem witness_DispatchStampsAndGuards :
    let x : Feed := { feed with staging := [block] }
    let d := putFeed 0 x (putCart 0 cart quiet)
    let flights := List.replicate 4 (⟨block, ⟨0x44, 0, 1, 1, 7, 27, [], 0⟩⟩ : Flight)
    d.feed 0 = some x ∧ x.staging = block :: [] ∧ x.drive = some 0 ∧ x.cart = some 0 ∧ d.cart 0 = some cart ∧
    { cart with protection := some .locked }.protection ≠ some .writable ∧ { cart with full := some true }.full ≠ some false ∧
    (65 : Nat) < cart.eod.getD 0 + x.flights.length + 1 + 64 ∧
    (cart.protection = some .writable ∧ cart.full = some false ∧
      cart.eod.getD 0 + x.flights.length + 1 + 64 ≤ 66) ∧ 4 ≤ flights.length ∧ x.flights.length < 4 ∧
    x.stall.mapFull = false ∧ (d.askReservations 0 x 0 block).2 = true := by decide +kernel

theorem witness_PartIdsAndTheRequestsOnParts : quiet.Sound ∧ quiet.map.parts.length ≤ 4096 ∧
    (1 : Nat) ≤ 1 ∧ (List.replicate 4096 part).length ≤ 4096 := ⟨quiet_sound, by decide +kernel, by decide, by decide +kernel⟩

theorem witness_PartIdsAndTheRequestsOnParts_requests :
    let e := { cart with eod := some 2 }
    let d := putCart 0 e quiet
    let p := { part with hostLoaded := true }
    let r := putPart part quiet
    d.link.up = true ∧ d.cart 0 = some e ∧ e.kind = .data ∧ e.eod = some 2 ∧ p.state = .closed ∧
    d.map.parts.length + d.map.reserved + 1 ≤ 4096 ∧ (∀ q ∈ d.map.parts, q.id ≠ p.id) ∧ 1 ≤ p.id ∧ p.id ≤ 0xFFFFFFFF ∧
    1 ≤ p.jobTag ∧ p.jobTag ≤ 0xFFFFFFFF ∧ p.number ≤ 0xFFFFFFFF ∧ 1 ≤ p.firstBlock ∧ p.firstBlock ≤ p.lastBlock ∧
    p.lastBlock < 2 ^ 24 ∧ p.lastBlock < 2 ∧ p.firstSeq ≤ p.lastSeq ∧ p.lastSeq ≤ 0xFFFFFFFF ∧
    p.storedBytes ≤ p.rawBytes ∧ p.rawBytes < 2 ^ 64 ∧ 1 ≤ 0xFFFFFFFF ∧
    p = { id := p.id, jobTag := p.jobTag, number := p.number, cart := 0, firstBlock := p.firstBlock,
          lastBlock := p.lastBlock, firstSeq := p.firstSeq, lastSeq := p.lastSeq, rawBytes := p.rawBytes,
          storedBytes := p.storedBytes, check := p.check, state := .closed, gap := false, truncated := false,
          continued := false, hostLoaded := true, closeTime := some 1, suspectTime := none, restorePins := 0,
          verifyPin := false } ∧
    (r.map.parts.Pairwise fun a b => a.id < b.id) ∧ (2 ≤ 0xFFFFFFFF ∧ ∀ q ∈ r.map.parts, q.id ≠ 2) ∧
    r.map.parts = [] ++ part :: [] ∧ (∀ q ∈ ([] : List Part), q.id ≠ part.id) ∧
    ({ part with state := .open } : Part).state = .open ∧ part.state ≠ .open ∧ 0 < { part with restorePins := 4 }.restorePins ∧
    { part with verifyPin := true }.verifyPin = true ∧ part.restorePins = 0 ∧ part.verifyPin = false := by
  decide +kernel

theorem witness_LoadPoolWritesWhatIsGiven :
    quiet.link.up = true ∧ (7 : PoolId) ≠ 0 ∧ Expected.exactly 0 = .exactly (quiet.pool 7).gen.toNat ∧
    (∀ n, some 8 = some n → 1 ≤ n ∧ n ≤ 8) ∧ (∀ n, some 8760 = some n → n ≤ 8760) ∧ (∀ n, some 3 = some n → n ≤ 3) ∧
    (∀ n, some 128 = some n → 128 ≤ n ∧ n ≤ 16777215) ∧ (quiet.pool 7).multiplex < 8 ∧ (quiet.pool 7).interval ≠ 8760 ∧
    (putCart 0 cart quiet).cart 0 = some cart ∧ cart.pool = some 1 :=
  ⟨rfl, by decide, rfl, by simp, by simp, by simp, by simp, by decide, by decide, by decide +kernel, rfl⟩

theorem witness_CreateEditAndRemoveChangeOneRow :
    let b := ascii "AAA001L9"
    let d := putElem 5 (.foreign b) (putElem 9 (.foreign b) quiet)
    quiet.link.up = true ∧ quiet.createRefusal 127 .any b { kind := some (.known .cleaning), uses := some 50 } = none ∧
    (∀ e, (quiet.elem e).content ≠ .foreign b) ∧
    d.createRefusal 0 (.exactly 0) b { pool := some 7, protection := some (.known .held), eod := some 16777215 } = none ∧
    (d.elem 5).content = .foreign b ∧ (∀ y, y < 5 → (d.elem y).content ≠ .foreign b) ∧ isDriveElem 5 = false := by
  decide +kernel

theorem witness_CreateEditAndRemoveChangeOneRow_edit :
    let d := putCart 0 cart quiet
    let k := { cart with kind := .cleaning, pool := none, protection := none, full := none, eod := none, uses := 3 }
    let m := putElem 9 (.occupied 0) d
    d.link.up = true ∧ d.cart 0 = some cart ∧ d.editRefusal 0 .any { pool := some 7, full := some (.known true) } = none ∧
    ({ pool := some 7 } : CartArgs) ≠ {} ∧ d.editRefusal 0 .any {} = none ∧ cart.kind = .data ∧
    (putCart 0 { cart with eod := none } quiet).editRefusal 0 .any
      { kind := some (.known .cleaning), uses := some 1 } = none ∧ k.kind = .cleaning ∧
    (putCart 0 k quiet).cart 0 = some k ∧
    (putCart 0 k quiet).editRefusal 0 .any { kind := some (.known .data) } = none ∧
    m.removeRefusal 0 (.exactly 0) = none ∧ m.cart 0 = some cart ∧ cart.location = .at 9 ∧
    (putCart 0 { cart with location := .outside } quiet).removeRefusal 0 .any = none ∧
    ∀ y, { cart with location := .outside }.location ≠ .at y := by decide +kernel

theorem witness_ProtectionFinalizeAndRecycle :
    (putCart 0 cart quiet).link.up = true ∧ (putCart 0 cart quiet).cart 0 = some cart ∧ cart.kind = .data ∧
    cart.protection = some .writable ∧ { cart with protection := some .locked }.protection = some .locked ∧
    { cart with protection := some .held }.protection = some .held ∧
    { cart with protection := some .finalized }.protection = some .finalized ∧
    Expected.exactly 0 = .exactly ((putCart 0 cart quiet).row 0).gen.toNat ∧ quiet.media.holdLine = false ∧
    ({ quiet with media := { quiet.media with holdLine := true } } : Device).media.holdLine = true := by decide +kernel

theorem witness_ProtectionFinalizeAndRecycle_finalize :
    let d := putElem 9 (.occupied 0) (putCart 0 cart quiet)
    d.link.up = true ∧ d.cart 0 = some cart ∧ d.finalizeRefusal 0 .any = none ∧ d.recycleRefusal 0 (.exactly 0) = none := by
  decide +kernel

theorem witness_InventoryAndMoveEnterTheirWork :
    let d := putElem 9 (.occupied 0) (putCart 0 cart quiet)
    let out := putDrive 0 mounted (putElem 1 (.occupied 0) (putCart 0 { cart with location := .at 1 } quiet))
    (d.link.up = true ∧ 5 ≤ 5 ∧ 5 ≤ 104 ∧ 104 ≤ 104 ∧ d.changer.inventory = none) ∧
    ((9 : ElemId) ≠ 0 ∧ (104 : ElemId) ≠ 0 ∧ (9 : ElemId) ≠ 104 ∧ isDriveElem 9 = false ∧ isDriveElem 104 = false ∧
      d.loadAt 9 = some (.cart 0) ∧ (d.elem 104).content = .empty ∧ d.moveNames 9 = false ∧ d.moveNames 104 = false ∧
      d.loadBusy 9 = false ∧ d.hostMoves < 4) ∧
    ((1 : ElemId) = driveElem 0 ∧ isDriveElem 9 = false ∧ (out.drive 0).state = .mountedIdle ∧ (out.drive 0).stack = [] ∧
      out.loadAt 1 = some (.cart 0) ∧ (out.elem 9).content = .empty ∧ out.moveNames 1 = false ∧ out.moveNames 9 = false ∧
      out.loadBusy 1 = false ∧ out.hostMoves < 4) ∧
    ((4 : ElemId) = driveElem 3 ∧ (d.elem 4).content = .empty ∧ d.moveNames 4 = false) := by decide +kernel

theorem witness_ResetChangerAndTheMailDoor :
    moving.link.up = true ∧ (moving.changer.moves.map (·.id)).Nodup ∧
    moving.changer.moves = [] ++ Tests.move :: [] ∧ Tests.move.running = true ∧ Tests.move.requester ≠ .changer ∧
    (∀ x ∈ ([] : List Move), x.running = false ∨ x.requester = .changer) ∧
    ∀ m ∈ quiet.changer.moves, m.running = false := by decide +kernel

theorem witness_ResetChangerAndTheMailDoor_door :
    let d := putOrder ⟨0, 0, .scan 5 .mail false⟩ [] (putElem 8 (.occupied 0) (putCart 0 { cart with location := .at 8 } quiet))
    (d.changer.doorOpen = false ∧ (d.elem 8).content = .occupied 0 ∧ isMail 8 = true ∧ isMail 9 = false ∧
      d.changer.order = some ⟨0, 0, .scan 5 .mail false⟩ ∧ isMail 5 = true) ∧
    (let o := after .mailDoorOpen d
     o.changer.doorOpen = true ∧ (o.elem 8).content = .unknown (some 0)) := by decide +kernel

theorem witness_OrdersAndTransfersComplete :
    let scan := putOrder ⟨7, 0, .scan 104 .inventory false⟩ [] quiet
    let home := putOrder ⟨7, 0, .rehome⟩ [] quiet
    quiet.changer.order = none ∧ (∀ a b c, OrderKind.rehome ≠ .transfer a b c) ∧
    (home.changer.order = some ⟨7, 0, .rehome⟩ ∧ (7 : BitVec 16) ≠ 8) ∧
    (moving.changer.order = some ⟨0, 0, .transfer Tests.move.id 9 10⟩ ∧ moving.move? 0 = some Tests.move) ∧
    scan.changer.order = some ⟨7, 0, .scan 104 .inventory false⟩ ∧ 0 + 120 ≤ (atSecond 120 moving).mu.elapsed ∧
    (atSecond 119 moving).mu.elapsed < 0 + 120 :=
  ⟨rfl, nofun, ⟨rfl, by decide⟩, ⟨rfl, rfl⟩, rfl, by decide, by decide⟩

theorem witness_OrdersAndTransfersComplete_transfer :
    moving.changer.order = some ⟨0, 0, .transfer Tests.move.id 9 10⟩ ∧ moving.move? Tests.move.id = some Tests.move ∧
    Tests.move.atPicker = false ∧ Tests.move.grips = 0 ∧ (9 : ElemId) ≠ 10 ∧ moving.cart 0 = some cart := by decide +kernel

theorem witness_ScansAndRehomesAreApplied :
    let v : Inventory := ⟨104, 104, 0, 0, 0, 0, 0⟩
    let d := putOrder ⟨0, 0, .scan 104 .inventory true⟩ [] { quiet with changer := { quiet.changer with inventory := some v } }
    let m := putElem 8 (.occupied 0) (putCart 0 { cart with location := .at 8 } quiet)
    let full := { quiet with
      media := { quiet.media with carts := Vector.replicate 128 ⟨0, some { cart with location := .outside }⟩ } }
    let r := State.reset.dev
    (d.changer.order = some ⟨0, 0, .scan 104 .inventory true⟩ ∧ d.changer.inventory = some v) ∧
    ((m.elem 8).content = .occupied 0 ∧ m.cart 0 = some { cart with location := .at 8 } ∧
      m.byBarcode (ascii "AAA001L9") = some 0 ∧ m.byBarcode (ascii "BBB001L9") = none ∧ m.emptyRow = some 1) ∧
    (full.byBarcode (ascii "BBB001L9") = none ∧ full.emptyRow = none) ∧
    (r.changer.order = some ⟨0, 0, .rehome⟩ ∧ r.changer.reset = some ⟨.rehome, [], [], []⟩ ∧
      (r.elem 0).content = .unknown none ∧ r.changer.faultElems = [] ∧ r.changer.moves = []) := by decide +kernel

theorem witness_DriveCompletionsAreTakenInOrder :
    let o : CmdName → DriveCmd := fun
      | .load => .load | .unload => .unload | .locate => .locate 5 | .locateEnd => .locateEnd | .read => .read 5
      | .write => .write ⟨0x44, 0, 0, 1, 7, 0, [], 0⟩ | .speed => .speed 2 | .clean => .clean
    (quiet.drive 0).outstanding = [] ∧
    (∀ n, ((busy mounted .loading .load (o n)).drive 0).outstanding = ⟨0, 0, o n⟩ :: [] ∧ (o n).name = n) ∧
    (DriveResult.hardwareError ≠ .ok ∧ DriveResult.hardwareError ≠ .notReady) ∧ DriveCmd.read 0 = .read 0 :=
  ⟨rfl, fun n => by cases n <;> exact ⟨rfl, rfl⟩, by decide, rfl⟩

/-- Drive 0 assigned to feed 0's claim, in a phase with a command outstanding. -/
def assigned (p : Phase) (c : DriveCmd) : Device :=
  { busy { mounted with claim := some 0 } .labelCheck p c with
    arb := ⟨[{ order := 0, kind := .feed, owner := .feed 0, target := .pool 1, drive := some 0, chosen := some 0 }], 1⟩ }

theorem witness_MountCompletionsCheckLabelAndFinalize :
    let e := { cart with location := .at 1 }
    let w : TapeBlock := ⟨0x4C, 0, 0, 0, 7, 8, [], 0⟩
    ((assigned .load .load).drive 0).cart = some 0 ∧ (assigned .load .load).cart 0 = some e ∧ e.kind = .data ∧
    ((assigned .load .load).drive 0).outstanding = [⟨0, 0, .load⟩] ∧ ((assigned .load .load).drive 0).phase = .load ∧
    (2 ≤ 2 ∧ ((assigned .appendEnd .locateEnd).drive 0).outstanding = [⟨0, 0, .locateEnd⟩] ∧
      ((assigned .appendEnd .locateEnd).drive 0).phase = .appendEnd) ∧
    (((assigned (.labelLocate ⟨9, 1⟩) (.locate 0)).drive 0).outstanding = [⟨0, 0, .locate 0⟩] ∧
      ((assigned (.labelLocate ⟨9, 1⟩) (.locate 0)).drive 0).phase = .labelLocate ⟨9, 1⟩ ∧
      (assigned (.labelLocate ⟨9, 1⟩) (.locate 0)).assigned 0 ≠ none ∧ e.protection = some .writable ∧ e.full = some false) ∧
    (((assigned (.labelWrite ⟨9, 1⟩) (.write w)).drive 0).phase = .labelWrite ⟨9, 1⟩ ∧
      ((assigned (.labelWrite ⟨9, 1⟩) (.write w)).assigned 0).map (·.owner) = some (.feed 0)) ∧
    ((busy mounted .writing .finalWrite (.write w)).drive 0).phase = .finalWrite := by decide +kernel

theorem witness_PowerOnResetsAndFaultsOfADrive :
    let d := State.reset.dev
    let p := fun (ph : Phase) (c : DriveCmd) => busy { mounted with cart := none } .unloading ph c
    ((d.drive 3).outstanding = [⟨0, 0, .unload⟩] ∧ (d.drive 3).phase = .powerUnload ∧ (d.drive 3).cart = none ∧
      (d.drive 3).found = none ∧ (d.elem (driveElem 3)).content = .unknown none) ∧
    (((p .powerLoad .load).drive 0).outstanding = [⟨0, 0, .load⟩] ∧ ((p .powerLoad .load).drive 0).phase = .powerLoad) ∧
    (((p .powerRead (.read 0)).drive 0).outstanding = [⟨0, 0, .read 0⟩] ∧
      ((p .powerRead (.read 0)).drive 0).phase = .powerRead) ∧
    (((p .powerUnloadAgain .unload).drive 0).phase = .powerUnloadAgain ∧
      ∀ m ∈ (p .powerUnloadAgain .unload).changer.moves, m.requester ≠ .host ∨ m.src ≠ driveElem 0) := by decide +kernel

theorem witness_FeedCompletionsConfirmAndReturn :
    let b : TapeBlock := ⟨0x44, 0, 1, 1, 7, 27, [], 0⟩
    let x : Feed := { feed with flights := [⟨block, b⟩] }
    let d := putFeed 0 x (busy { mounted with active := some (.feed 0) } .writing .working (.write b))
    (d.drive 0).outstanding = ⟨0, 0, .write b⟩ :: [] ∧ (d.drive 0).active = some (.feed 0) ∧
    (d.drive 0).phase = .working ∧ d.feed 0 = some x ∧ x.returned = 0 ∧ x.flights = ⟨block, b⟩ :: [] ∧ x.cart = some 0 ∧
    0 < { x with returned := 1 }.returned ∧ (⟨0, 0, .speed 2⟩ : Outstanding).cmd = .speed 2 ∧
    d.cart 0 = some { cart with location := .at 1 } := by decide +kernel

theorem witness_DriveTimersAndCleaning_clean :
    let e := { cart with kind := .cleaning, uses := 1, location := .at 1 }
    let d := putCart 0 e (busy { mounted with cleaningDue := true } .cleaning .clean .clean)
    let k : Claim := { order := 0, kind := .cleaning, owner := .cleaning 0, target := .drive 0 }
    (d.drive 0).cleaningDue = true ∧ (quiet.drive 0).cleaningDue = false ∧ (d.drive 0).outstanding = [⟨0, 0, .clean⟩] ∧
    (d.drive 0).cart = some 0 ∧ d.cart 0 = some e ∧ e.uses = 1 ∧ { e with uses := 50 }.uses ≠ 1 ∧
    ({ d with arb := ⟨[k], 1⟩ } : Device).claimOf (.cleaning 0) = some k := by decide +kernel

theorem witness_DriveTimersAndCleaning :
    let d := busy mounted .loading .load .load
    let m := putDrive 0 mounted quiet
    (d.drive 0).outstanding = ⟨0, 0, .load⟩ :: [] ∧ 0 + 180 ≤ (atSecond 180 d).mu.elapsed ∧
    (atSecond 179 d).mu.elapsed < 0 + 180 ∧ (m.drive 0).outstanding = [] ∧ (m.drive 0).state = .mountedIdle ∧
    (m.drive 0).mountTime = some 0 ∧ 0 + m.mu.params.minimumDwell ≤ (atSecond 60 m).mu.elapsed ∧
    (atSecond 59 m).mu.elapsed < 0 + m.mu.params.minimumDwell ∧ (m.drive 0).phase = .rest ∧ (m.drive 0).active = none ∧
    (m.drive 0).idleSince = some 0 ∧ 0 + m.mu.params.idleUnmount ≤ (atSecond 300 m).mu.elapsed ∧
    (atSecond 299 m).mu.elapsed < 0 + m.mu.params.idleUnmount ∧ (quiet.drive 0).state ≠ .mountedIdle := by decide +kernel

theorem witness_PowerOnResetsAndFaultsOfADrive_reset :
    let d := busy mounted .loading .load .load
    d.link.up = true ∧ (d.drive 0).active = none ∧ (d.drive 0).stack = [] ∧ (d.drive 0).claim = none ∧
    d.changer.moves = [] ∧ (d.elem (driveElem 0)).content ≠ .empty ∧ (quiet.elem (driveElem 0)).content = .empty ∧
    (d.drive 0).autoReset = false ∧ (d.drive 0).phase ≠ .resetUnload ∧
    ((busy { mounted with autoReset := true } .loading .load .load).drive 0).autoReset = true ∧
    ((busy mounted .unloading .resetUnload .unload).drive 0).phase = .resetUnload := by decide +kernel

/-- A label block as the device writes it is label-shaped with its barcode and serial; a data block and a FINAL block
are read with their number, serial and flag. -/
theorem witness_TheChecksOfAMountEnd :
    (∀ (x : Bytes) (n : Word32), x.length = 8 →
      ∃ b, labelShaped (labelBlock x n).image = some b ∧ b.barcode = x ∧ b.serial = n) ∧
    (cart.serial ≠ 0 ∧ { cart with serial := 0 }.serial = 0 ∧ cart.barcode.length = 8 ∧ (8 : Word32) ≠ cart.serial ∧
      ascii "BBB001L9" ≠ cart.barcode) ∧
    labelShaped [] = none ∧ (DriveResult.mediumError ≠ .ok ∧ DriveResult.mediumError ≠ .blank) ∧
    (∃ b, readBlock (finalBlock 5 7).image = some b ∧ b.number = 5 ∧ b.serial = 7 ∧ b.flags.getLsbD 0 = true) ∧
    ∃ b, readBlock (dataBlock ⟨0, 0, [], 0⟩ 5 7).image = some b ∧ b.number = 5 ∧ b.serial = 7 ∧
      b.flags.getLsbD 0 = false := by
  refine ⟨fun x n h => ?_, by decide, by decide +kernel, by decide, ?_, ?_⟩
  · have hp : x.length ≤ Config.blockPayload := by rw [h]; decide
    have hr := readBlock_image ⟨labelKind, 0, 0, 0, n, 8, x, 0⟩ hp (by show 0 < _; decide) (by show 0 < _; decide) (by show 8 < _; decide)
    refine ⟨_, by rw [labelShaped, labelBlock, hr]; rfl, ?_, rfl⟩
    show (x ++ _).take 8 = x
    exact List.take_left' h
  · exact ⟨_, readBlock_image _ (Nat.zero_le _) (by show 0 < _; decide) (by show 5 < _; decide) (by show 0 < _; decide),
      rfl, rfl, rfl⟩
  · exact ⟨_, readBlock_image _ (Nat.zero_le _) (by show 0 < _; decide) (by show 5 < _; decide) (by show 0 < _; decide),
      rfl, rfl, rfl⟩

theorem witness_RestoreCommandsStartFeedAndEnd :
    let d := putPart part (putCart 0 cart quiet)
    let p := { part with id := 0xFFFFFFFF, lastSeq := 0xFFFFFFFF, restorePins := 3, state := .suspect }
    d.link.up = true ∧
    (d.map.parts = [] ++ part :: [] ∧ (∀ q ∈ ([] : List Part), q.id ≠ part.id) ∧ 1 ≤ part.id ∧ part.id ≤ 0xFFFFFFFF ∧
      part.lastSeq ≤ 0xFFFFFFFF ∧ part.state ≠ .open ∧ part.state ≠ .bad ∧ part.restorePins < 4 ∧
      d.ru.queue.length < 16 ∧ (∀ e ∈ d.ru.queue, e.chan ≠ 7) ∧ part.firstSeq ≤ 3 ∧ 3 ≤ part.lastSeq ∧
      1 ≤ 1 ∧ 1 ≤ 2 ^ 32 ∧ 3 + 1 - 1 ≤ 0xFFFFFFFF ∧ 3 + 1 - 1 ≤ part.lastSeq) ∧
    (1 ≤ p.id ∧ p.id ≤ 0xFFFFFFFF ∧ p.lastSeq ≤ 0xFFFFFFFF ∧ p.state ≠ .open ∧ p.state ≠ .bad ∧ p.restorePins < 4) ∧
    (1 ≤ 65535 ∧ d.restore? 7 = none) := by decide +kernel

theorem witness_RestoreCommandsStartFeedAndEnd_end :
    let s := { restore with chan := 7, state := .sending, frames := [(0, [1])], stall := some 0 }
    (putRestore s quiet).restore? 7 = some s ∧ s.state = .sending ∧ s.state ≠ .ended ∧ s.stall = some 0 ∧
    0 + quiet.mu.params.restoreStallLimit ≤ (atSecond 300 quiet).mu.elapsed ∧
    (atSecond 299 quiet).mu.elapsed < 0 + quiet.mu.params.restoreStallLimit := by decide +kernel

theorem witness_ARestoreSendsItsRecordsAndEnds :
    (putRestore restore quiet).restore? 0 = some restore ∧ restore.state ≠ .ended ∧ EndStatus.complete = .complete ∧
    (putRestore restore (putPart part quiet)).part? restore.part = some part ∧ (1 : RestoreId) ≠ 0 := by decide +kernel

theorem witness_ARestoreSendsItsRecordsAndEnds_frames :
    let e := { restore with frames := [(0, [1]), (4096, [2])] }
    1 ≤ [(1 : Byte)].length ∧ (List.replicate 65536 (1 : Byte)).length ≤ 65536 ∧
    (recordFrames (List.replicate 4097 1))[1]? = some (4096, [1]) ∧ 0 + 1 < (recordFrames (List.replicate 4097 1)).length ∧
    (putRestore e quiet).restore? 0 = some e ∧ (putRestore e quiet).grants 0 < e.frames.length := by decide +kernel

theorem witness_VerifyCommandsForceAndRaise :
    let d := putPart part (putCart 0 cart quiet)
    let k : Claim := { order := 0, kind := .verify, owner := .verify 0, target := .cart 0 }
    let v := { putEntry { entry with activity := .claim 0 } (atSecond 100 d) with arb := ⟨[k], 1⟩ }
    d.link.up = true ∧ d.cart 0 ≠ none ∧ (part ∈ d.map.parts ∧ part.cart = 0 ∧ part.state = .closed) ∧
    d.entry? 0 = none ∧
    (v.entry? 0 = some { entry with activity := .claim 0 } ∧ { entry with activity := .claim 0 }.activity ≠ .pass ∧
      entry.deadline ≤ v.mu.time ∧ entry.forced = none ∧ entry.raised = false ∧ v.claimOf (.verify 0) = some k ∧
      k.kind = .verify ∧ k.drive = none) ∧
    (atSecond 99 d).mu.time < entry.deadline := by decide +kernel

theorem witness_TapeBlocksReadBack :
    block.used = (block.records.map fun r => 24 + r.storedLen).sum ∧ block.used ≤ 262108 ∧ 2 ^ 32 - 1 < 2 ^ 32 ∧
    (∀ r ∈ block.records, r.storedLen = r.stored.length ∧ r.jobTag < 2 ^ 32 ∧ r.seq < 2 ^ 32 ∧ r.rawLen < 2 ^ 32) ∧
    (ascii "AAA001L9").length = 8 := by decide +kernel

theorem witness_InboundFramesAreReadAsLaidOut :
    (1 ≤ 32 ∧ 32 ≤ 32 ∧ 1 ≤ (List.replicate 4108 (0 : Byte)).length ∧ (List.replicate 4108 (0 : Byte)).length ≤ 4108) ∧
    (33 ≤ 40 ∧ 40 ≤ 40 ∧ 65535 ≤ 65535) ∧ 0xFFFFFFFF ≤ 0xFFFFFFFF ∧
    ((List.replicate 9 (0 : Byte)).length < 10 ∨ 4117 < 9) ∧ 4117 < (List.replicate 4118 (0 : Byte)).length := by
  decide +kernel

theorem quiet_lawful : quiet.Lawful := by
  have hf : ∀ f : FeedId, quiet.feeds[f] = none := by decide +kernel
  have hc : ∀ c : CartId, quiet.media.carts[c].entry = none := by decide +kernel
  have he : ∀ e : ElemId, quiet.media.elems[e].content = .empty := by decide +kernel
  have hs : ∀ i : DriveId, (quiet.drives[i]).stack = [] := by decide +kernel
  refine ⟨fun f x h => ?_, ⟨by decide +kernel, by decide +kernel, by decide +kernel, by decide +kernel⟩, ?_, ?_, fun i => ?_⟩
  · rw [hf f] at h; exact nomatch h
  · intro p hp; exact nomatch hp
  · intro c e
    rw [hc c, he e]
    constructor
    · rintro ⟨_, h, _⟩; exact nomatch h
    · intro h; exact nomatch h
  · rw [hs i]; exact ⟨by decide, nofun⟩

theorem witness_EveryStepKeepsTheLaws :
    quiet.Lawful ∧ ∃ t, step ⟨quiet, [.mailDoorOpen]⟩ = .next t := ⟨quiet_lawful, _, rfl⟩

/-- The CREDIT of an opening whose OK is unsent, and a channel without a frame. -/
theorem witness_TheOldestFrameOfAChannelLeaves_waits :
    let out : List OutFrame := [.resp 1 .ok [] (some 0)] ++ .credit 0 1 :: []
    ({ quiet with link := { quiet.link with outbound := out } } : Device).link.outbound = out ∧
    (∀ g ∈ ([.resp 1 .ok [] (some 0)] : List OutFrame), g.channel ≠ (0 : StreamId).val + 1) ∧
    OutFrame.resp 1 .ok [] (some 0) ∈ ([.resp 1 .ok [] (some 0)] : List OutFrame) ∧
    ∀ g ∈ out, g.channel ≠ 40 := by decide +kernel

/-- For each request a device and operands at which its last check is the one that fails. -/
theorem witness_RefusalsComeInTheirOrder :
    let e := { cart with location := .at 9, finalizing := true }
    let d := putEntry { entry with activity := .pass } (putRestore restore (putPart part (putElem 10 (.occupied 0)
      (putCart 0 e quiet))))
    d.link.up = true ∧ ¬(32 < 32 ∨ 7 < 7) ∧ 32 < 33 ∧ 7 < 8 ∧ 127 < 128 ∧ 104 < 105 ∧ (32 < 33 ∨ 40 < 32) ∧
    (({ d with media := { d.media with pools := d.media.pools.set 7 { Pool.data with writeEnabled := false } } } :
      Device).openRefusal 1 5 7 none none).map (·.status) = some .state ∧
    (d.editRefusal 0 .any { full := some (.known true) }).map (·.status) = some .busy ∧
    (d.removeRefusal 0 .any).map (·.status) = some .busy ∧ (d.finalizeRefusal 0 .any).map (·.status) = some .busy ∧
    (d.recycleRefusal 0 .any).map (·.status) = some .busy ∧ (d.moveRefusal 10 11).map (·.status) = some .busy ∧
    (d.restoreRefusal 33 1 (.known .urgent) (some 3) (some 1) (.known false)).map (·.status) = some .busy ∧
    (d.restoreRefusal 33 1 (.known .urgent) (some 3) (some 2) (.known false)).map (·.status) = some .badArgument ∧
    (d.verifyRefusal 0).map (·.status) = some .busy ∧ (d.poolRefusal 7 (.exactly 1) {}).map (·.status) = some .stale ∧
    d.poolRefusal 7 (.exactly 0) {
      multiplex := some 8, interval := some 8760, retries := some 3, defaultCapacity := some 16777215 } = none ∧
    (d.createRefusal 1 (.exactly 0) (ascii "BBB001L9") { eod := some 2 }).map (·.status) = some .state ∧
    d.createRefusal 1 (.exactly 0) (ascii "BBB001L9") { eod := some 1 } = none ∧
    (d.loadSegmentRefusal ⟨2, 5, 0, 0, 1, 1, 0, 3, 4, 3, 0, .known .closed, .known false, .known false, .known false, 1⟩).map
      (·.status) = some .state := by decide +kernel

/-- Stream 0 ENDING with nothing left, in feed 0, its part open; a departed opening whose last record is confirmed. -/
theorem witness_OverrunsAndClosings_closings :
    let x : Stream := { waiting with state := .ending, slots := [], feed := some 0, part := some ⟨some 1, 0, 0⟩ }
    let d := putPart { part with state := .open } (putFeed 0 feed (putStream 0 x quiet))
    let gone : Departed := ⟨⟨1, 1⟩, 5, some ⟨some 1, 0, 0⟩, 0⟩
    let y : Feed := { feed with departed := [gone] }
    let r : Record := { record [1] with opening := ⟨1, 1⟩ }
    ((d.stream 0).state = .ending ∧ (d.stream 0).slots = [] ∧ (d.stream 0).offered = none ∧
      (d.stream 0).unconfirmed = 0 ∧ (d.stream 0).feed = some 0 ∧ d.feed 0 = some feed ∧
      (d.stream 0).part.bind (·.part) = some 1 ∧ d.part? 1 = some { part with state := .open }) ∧
    ((putStream 0 { x with feed := none, part := none } quiet).stream 0).feed = none ∧
    (record [1]).opening ∈ feed.members ∧ (putFeed 0 y d).feed 0 = some y ∧ r.opening ∉ y.members ∧
    y.departed = [] ++ gone :: [] ∧ gone.opening = r.opening ∧ gone.lastSeq = r.seq ∧
    (∀ z ∈ y.departed, z.opening = r.opening → z.lastSeq ≠ { r with seq := 1 }.seq) := by decide +kernel

theorem witness_AWaitingStreamFindsAFeed :
    let d := putFeed 2 feed (putStream 0 waiting quiet)
    let full := putStream 0 waiting (allFeeds.foldl (fun d f => putFeed f { feed with pool := 2 } d) quiet)
    (d.feed 2 = some feed ∧ feed.pool = (d.stream 0).pool ∧ feed.state = .filling ∧
      feed.members.length < (d.pool 1).multiplex ∧ ∀ g, g < 2 → d.feed g = none) ∧
    ((putStream 0 waiting quiet).feed 0 = none ∧ ∀ g, (putStream 0 waiting quiet).feed g = none) ∧
    (∀ g, full.feed g = some { feed with pool := 2 }) ∧ (2 : PoolId) ≠ (full.stream 0).pool := by decide +kernel

theorem witness_StartsUnderrunsSpansAndStalls :
    let x : Feed := { feed with staging := List.replicate 32 block }
    let d := putFeed 0 x (putCart 0 cart quiet)
    (d.feed 0 = some x ∧ x.cart = some 0 ∧ d.cart 0 = some cart ∧ x.assembly = none ∧ x.suspending = false ∧
      d.mu.params.startLevel ≤ x.staging.length ∧ feed.staging.length < d.mu.params.startLevel) ∧
    (cart.protection = some .writable ∧ cart.full = some false ∧
      ¬cart.capacity < cart.eod.getD 0 + x.flights.length + 1 + 64 ∧
      { cart with capacity := 65 }.capacity < cart.eod.getD 0 + x.flights.length + 1 + 64) ∧
    (let y : Feed := { feed with state := .streaming }
     y.flights = [] ∧ y.staging = [] ∧ (⟨0, 1⟩ : Opening) ∈ y.members ∧ (d.stream 0).state ≠ .ending) ∧
    (let y : Feed := holdingWith (some ⟨[], 100, 0, false⟩) 63 .filling
     y.staging.length < 64 ∧ 64 ≤ (holdingWith (some ⟨[], 100, 0, false⟩) 64 .filling).staging.length) ∧
    feed.stall = ⟨false, false, false, false⟩ ∧ ({ feed.stall with span := true } : Stall) ≠ ⟨false, false, false, false⟩ ∧
    (compressing.stream 0).state = .bound ∧
    ((putStream 0 { waiting with state := .stalled } quiet).stream 0).state = .stalled := by decide +kernel

/-- A feed that spans with its drain done, on drive 0 with cartridge 0; with its member's part open; and at its end. -/
theorem witness_DeparturesServicesAndRetirements :
    let x : Feed := { feed with state := .spanning, spanFull := true }
    let z : Feed := { feed with state := .retiring, members := [] }
    let m : Stream := { waiting with feed := some 0, part := some ⟨some 1, 0, 0⟩ }
    let d := putPart { part with state := .open } (putFeed 0 x (putStream 0 m (putCart 0 cart quiet)))
    let k : Claim := { order := 0, kind := .feed, owner := .feed 0, target := .pool 1 }
    (d.feed 0 = some x ∧ x.state = .spanning ∧ x.flights = [] ∧ x.returned = 0 ∧ x.speedOut = false ∧ x.drive = some 0 ∧
      x.cart = some 0 ∧ d.cart 0 = some cart ∧ ¬x.members = []) ∧
    (d.part? 1 = some { part with state := .open } ∧ (⟨0, 1⟩ : Opening) ∈ x.members ∧
      (d.stream 0).part = some ⟨some 1, 0, 0⟩) ∧
    (z.members = [] ∧ z.assembly = none ∧ z.staging = [] ∧ z.departed = [] ∧ z.held = false ∧ z.flights = [] ∧
      z.returned = 0 ∧ z.speedOut = false ∧ z.drive = some 0 ∧ z.cart = some 0 ∧
      ∀ k ∈ d.arb.claims, k.owner ≠ .feed 0) ∧
    (let e : Device := { d with arb := ⟨[] ++ k :: [], 1⟩ }
     e.arb.claims = [] ++ k :: [] ∧ k.owner = .feed 0 ∧ k.drive = none ∧ ({ z with state := .unbound } : Feed).state = .unbound) ∧
    { x with speedOut := true }.speedOut = true := by decide +kernel

theorem witness_ThePartsOfTheMapChangeState :
    let d := putPart part (putFeed 0 { feed with staging := [block] } (putStream 0 { waiting with feed := some 0 } quiet))
    let o := putPart { part with state := .open } (putStream 0 { waiting with part := some ⟨some 1, 0, 0⟩ } d)
    let full : Device := { d with map := { d.map with reserved := 4095 } }
    (d.part? 1 = some part ∧ part.state = .closed ∧ (o.part? 1).map (·.state) = some .open ∧
      ({ part with state := .bad }).state = .bad ∧ ({ part with state := .suspect }).state = .suspect ∧
      ({ part with state := .verified }).state = .verified) ∧
    (d.feed 0 = some { feed with staging := [block] } ∧ d.needed { feed with staging := [block] } 0 block = [⟨0, 1⟩] ∧
      d.map.parts.length + d.map.reserved + 1 ≤ 4096 ∧ 4096 < full.map.parts.length + full.map.reserved + 1 ∧
      d.needed { feed with reservations := [⟨0, 1⟩] } 0 block = []) ∧
    ((record [1]).opening ∈ feed.members ∧ (o.stream 0).part = some ⟨some 1, 0, 0⟩ ∧
      o.part? 1 = some { part with state := .open }) ∧
    ((d.stream 0).part = none ∧ (⟨0, 1⟩ : Opening) ∈ { feed with reservations := [⟨0, 1⟩] }.reservations ∧
      ∀ q ∈ quiet.map.parts, q.id ≠ quiet.newPartId) ∧
    ({ feed with stall := { feed.stall with mapFull := true } } : Feed).stall.mapFull = true ∧
    feed.stall.mapFull = false := by decide +kernel

/-- The take-scratch signal's hypotheses, and the drive element of a CREATE. -/
theorem witness_LoadPoolWritesWhatIsGiven_media :
    let e := { cart with pool := some 0, eod := none }
    let d := putCart 0 e { quiet with
      media := { quiet.media with pools := quiet.media.pools.set 7 { Pool.data with takeScratch := false } } }
    (d.pool 7).takeScratch = false ∧ d.cart 0 = some e ∧ e.kind = .data ∧ e.pool = some 0 ∧
    e.protection = some .writable ∧ e.full = some false ∧ e.finalizing = false ∧ (e.eod = none ∨ e.eod = some 1) ∧
    e.location = .at 9 ∧ isStorage 9 = true ∧ (∀ q ∈ d.map.parts, q.cart ≠ 0) ∧
    d.poolRefusal 7 .any { takeScratch := some (.known true) } = none := by decide +kernel

theorem witness_CreateEditAndRemoveChangeOneRow_drive :
    let b := ascii "BBB001L9"
    let d := putElem 4 (.foreign b) quiet
    d.createRefusal 127 .any b {} = none ∧ (d.elem 4).content = .foreign b ∧ (4 : ElemId) = driveElem 3 ∧
    (∀ y, y < 4 → (d.elem y).content ≠ .foreign b) ∧
    (putCart 0 { cart with kind := .cleaning, pool := none, protection := none, full := none, eod := none } d).editRefusal 0
      .any { kind := some (.known .data) } = none ∧
    (putCart 0 { cart with eod := none } d).editRefusal 0 .any { kind := some (.known .cleaning) } = none := by
  decide +kernel

theorem witness_ProtectionFinalizeAndRecycle_cleaning :
    let e := { cart with kind := .cleaning, pool := none, protection := none, full := none, eod := none }
    quiet.link.up = true ∧ (putCart 0 e quiet).cart 0 = some e ∧ e.kind = .cleaning ∧
    (cart.kind = .data ∧ { cart with protection := none }.protection = none) ∧
    Expected.exactly 0 = .exactly ((putCart 0 e quiet).row 0).gen.toNat := by decide +kernel

/-- Moves for the idle picker: a ready one, one whose source is not as it says; inventories and a mail scan. -/
theorem witness_ThePickerChoosesAndScansGoOn :
    let m := { Tests.move with running := false }
    let d := putElem 9 (.occupied 0) (putCart 0 cart { quiet with changer := { quiet.changer with moves := [m] } })
    let v : Inventory := ⟨5, 104, 3, 0, 0, 0, 0⟩
    let inv : Device := { quiet with changer := { quiet.changer with inventory := some v } }
    let mail : Device := { quiet with changer := { quiet.changer with mailScan := some ⟨8, 3⟩ } }
    let r : ResetSeq := ⟨.rescan [104], [], [], []⟩
    moving.changer.picker ≠ .idle ∧ quiet.changer.picker = .idle ∧ quiet.changer.moves = [] ∧
    (m ∈ d.changer.moves ∧ m.running = false ∧ m.ready = true ∧ isMail m.src = false ∧ m.dst = some 10 ∧
      isMail 10 = false ∧ (d.elem 0).content = .empty ∧ m.requester ≠ .changer ∧ d.move? m.id = some m ∧
      (d.elem m.src).content = .occupied 0 ∧ (d.elem 10).content = .empty ∧ (quiet.elem m.src).content ≠ .occupied 0) ∧
    (inv.changer.inventory = some v ∧ v.next = (5 : ElemId).val ∧ isMail 5 = true ∧ inv.changer.doorOpen = false ∧
      ({ inv with changer := { inv.changer with doorOpen := true } } : Device).changer.doorOpen = true ∧
      v.next < v.last ∧ ({ v with next := 104 } : Inventory).last ≤ 104) ∧
    (mail.changer.mailScan = some ⟨8, 3⟩ ∧ (8 : ElemId).val = 8 ∧ mail.changer.inventory = none) ∧
    ((putOrder ⟨7, 0, .scan 8 .mail true⟩ [] quiet).changer.order = some ⟨7, 0, .scan 8 .mail true⟩ ∧
      (putOrder ⟨7, 0, .scan 8 .mail false⟩ [] mail).changer.order = some ⟨7, 0, .scan 8 .mail false⟩ ∧ 8 ≤ 8 ∧ 7 < 8 ∧
      (putOrder ⟨7, 0, .scan 10 (.destination 0) false⟩ [Tests.move] quiet).move? 0 = some Tests.move ∧
      (putOrder ⟨7, 0, .scan 1 .reset false⟩ [] { quiet with changer := { quiet.changer with reset := some r } }).changer.reset
        = some r ∧ r.phase = .rescan [104]) := by decide +kernel

/-- A move of cartridge 0 with its load in element 9, at its destination, at the picker, elsewhere, or nowhere. -/
theorem witness_FailuresAndResetsResolveMoves :
    let at_ := fun (e : ElemId) (d : Device) => putElem e (.occupied 0) (putCart 0 { cart with location := .at e } d)
    let m := Tests.move
    (moving.changer.order = some ⟨0, 0, .transfer m.id 9 10⟩ ∧ moving.move? m.id = some m ∧ m.atPicker = false ∧
      { m with grips := 1 }.grips ≠ 0 ∧ { m with atPicker := true }.atPicker = true) ∧
    (m.requester ≠ .changer ∧ m.requester = .host ∧ m.dst = some 10) ∧
    ((at_ 9 quiet).whereIs m.load = some 9 ∧ (9 : ElemId) ≠ 10 ∧ (9 : ElemId) ≠ 0 ∧ ((at_ 9 quiet).elem 10).content = .empty ∧
      ((putElem 10 (.foreign []) (at_ 9 quiet)).elem 10).content ≠ .empty ∧ (at_ 10 quiet).whereIs m.load = some 10 ∧
      (at_ 0 quiet).whereIs m.load = some 0 ∧ quiet.whereIs m.load = none) ∧
    ((quiet.elem 9).content = .empty ∧
      (putElem 9 (.foreign [1]) quiet).whereIs (.foreign [1]) = some 9) := by decide +kernel

/-- Drive 0 with feed 0 writing over nothing, a claim assigned, a queued move of its own and a running one. -/
theorem witness_ADriveResetEndsItsWork :
    let m := { Tests.move with running := false, requester := .drive 0, dst := some 1 }
    let k : Claim := { order := 0, kind := .overdue, owner := .verify 0, target := .cart 0, drive := some 0 }
    let d := putEntry { entry with deadline := 5 } (atSecond 5 { putDrive 0 { mounted with
      claim := some 0, active := some (.restore 0), stack := [⟨.feed 0, 1⟩] } quiet with
        arb := ⟨[k], 1⟩, changer := { quiet.changer with moves := [m] } })
    let running : Device := { d with changer := { d.changer with moves := [{ m with running := true }] } }
    d.link.up = true ∧ (m.running = false ∧ m.requester = .drive 0 ∧ ¬m.order < 0 ∧
      (d.changer.moves.map fun m => m.id).Nodup) ∧
    (∃ m ∈ running.changer.moves, m.running = true ∧ m.dst = some (driveElem 0)) ∧
    (d.assigned 0 = some k ∧ k.owner = .verify 0 ∧ d.entry? 0 = some { entry with deadline := 5 } ∧ 5 ≤ d.mu.time) ∧
    ((d.elem (driveElem 0)).content = .empty ∧ (quiet.drive 0).claim = none ∧ quiet.changer.moves = [] ∧
      (putElem 1 (.occupied 0) d).elem (driveElem 0) = ⟨.occupied 0, none, none⟩) ∧
    ((d.elem (driveElem 0)).content ≠ .occupied 0 ∧ (d.drive 0).cart = some 0) ∧
    ((putDrive 0 { mounted with phase := .resetWait } quiet).drive 0).phase = .resetWait ∧
    (∀ j : DriveId, m.dst = some (driveElem j) → j = 0) := by decide +kernel

theorem witness_MountCompletionsCheckLabelAndFinalize_ends :
    let e := { cart with location := .at 1 }
    let d := assigned .appendEnd .locateEnd
    let f : Device := { d with arb :=
      ⟨[{ order := 0, kind := .host, owner := .finalize 0, target := .cart 0, drive := some 0, chosen := some 0 }], 1⟩ }
    (1 ≤ 1 ∧ { e with eod := none }.eod.getD 1 ≤ 1 ∧ 2 ≤ { e with eod := none }.eod.getD 2) ∧
    (DriveResult.ok = .ok ∧ 0 = 0) ∧
    ((d.assigned 0).map (·.owner) = some (.feed 0) ∧ (d.assigned 0).map (·.target) = some (.pool 1) ∧
      (d.drive 0).hostIn = false ∧ (f.assigned 0).map (·.owner) = some (.finalize 0)) ∧
    (e.protection = some .writable ∧ e.full = some false ∧ { e with pool := some 0 }.pool = some 0 ∧ e.kind = .data ∧
      e.eod = some 1 ∧ e.pool ≠ some 0) ∧
    ((putFeed 0 feed d).appendable 1 0 = false ∧
      (putCart 0 { e with location := .at 1 } d).appendable 1 0 = true ∧ e.protection ≠ some .locked) := by decide +kernel

theorem witness_PowerOnResetsAndFaultsOfADrive_more :
    let x := busy mounted .unloading .powerUnloadAgain .unload
    let k : Claim := { order := 0, kind := .host, owner := .finalize 0, target := .cart 0, drive := some 0 }
    let d := { busy { mounted with claim := some 0 } .loading .load .load with arb := ⟨[k], 1⟩ }
    ((x.drive 0).outstanding = [⟨0, 0, .unload⟩] ∧ (x.drive 0).phase = .powerUnloadAgain ∧ (x.drive 0).cart = some 0) ∧
    (d.assignedOwner 0 = some (.finalize 0) ∧ (d.drive 0).active ≠ some (.finalize 0) ∧ (d.drive 0).autoReset = false ∧
      (d.drive 0).phase ≠ .resetUnload) ∧
    ∀ c, (busy mounted .loading .load .load).assignedOwner 0 ≠ some (.finalize c) := by decide +kernel

theorem witness_DriveTimersAndCleaning_again :
    let k : Claim := { order := 0, kind := .cleaning, owner := .cleaning 0, target := .drive 0, drive := some 0 }
    let d := { busy { mounted with claim := some 0, cleaningDue := true } .cleaning .clean .clean with arb := ⟨[k], 1⟩ }
    (d.drive 0).outstanding = [⟨0, 0, .clean⟩] ∧ d.assigned 0 = some k ∧ k.owner = .cleaning 0 ∧
    (d.cart 0).isSome = true := by decide +kernel

/-- Cartridge 0 of pool 1 in drive 0 MOUNTED_IDLE, cartridges 1 to 3 in slots 10 to 12. -/
def shelf : Device :=
  putDrive 0 mounted (putElem 1 (.occupied 0) (putCart 0 { cart with location := .at 1 }
    (putElem 10 (.occupied 1) (putCart 1 { cart with location := .at 10, eod := some 900 }
    (putElem 11 (.occupied 2) (putCart 2 { cart with location := .at 11, pool := some 0, eod := none }
    (putElem 12 (.occupied 3) (putCart 3 { cart with
      location := .at 12, kind := .cleaning, uses := 50, pool := none, protection := none, full := none,
      eod := none } quiet))))))))

theorem witness_TheArbiterGivesDrivesToClaims :
    let feed_ : Claim := { order := 3, kind := .feed, owner := .feed 0, target := .pool 1 }
    let named : Claim := { order := 4, kind := .verify, owner := .verify 1, target := .cart 1 }
    let urgent : Claim := { order := 5, kind := .urgent, owner := .restore 0, target := .cart 0 }
    let d : Device := { shelf with arb := ⟨[feed_, named], 5⟩ }
    let one : Device := { putDrive 0 (quiet.drive 0) shelf with arb := ⟨[named], 5⟩ }
    let none_ : Device := { putFeed 0 feed quiet with arb := ⟨[{ feed_ with reported := true }], 5⟩ }
    (d.contenders 0 = [feed_] ∧ d.choice 0 feed_ = some ⟨0, some 0, false⟩ ∧ d.wantsMounted 0 feed_ = true ∧
      d.available 0 named = false ∧ (atSecond 60 d).available 0 named = true ∧ d.available 0 urgent = true) ∧
    (one.contenders 0 = [named] ∧ one.choice 0 named = some ⟨0, some 1, false⟩ ∧ one.wantsMounted 0 named = false ∧
      (one.drive 0).state = .empty ∧ one.moveSource 1 (driveElem 0) = some 10) ∧
    (d.choice 1 feed_ = some ⟨0, some 0, false⟩ ∧
      (putDrive 0 (quiet.drive 0) d).choice 1 feed_ = some ⟨1, some 1, false⟩ ∧
      (putCart 1 { cart with location := .at 10, protection := some .locked } (putDrive 0 (quiet.drive 0) d)).choice 1
        feed_ = some ⟨1, some 2, true⟩ ∧ quiet.choice 1 feed_ = none ∧ quiet.contenders 1 = []) ∧
    (d.choice 1 { feed_ with owner := .cleaning 1, target := .drive 1 } = some ⟨1, some 3, false⟩ ∧
      quiet.choice 1 { feed_ with owner := .cleaning 1, target := .drive 1 } = none ∧
      d.choice 1 { feed_ with owner := .hostMove 7, target := .drive 1 } = some ⟨1, none, false⟩ ∧
      quiet.choice 1 named = none) ∧
    ({ d with mu := { d.mu with params := { d.mu.params with verifyDriveLimit := 0 } } } : Device).passedOver named = true ∧
    d.passedOver named = false ∧
    ((shelf.drive 0).state ≠ .empty ∧ (shelf.drive 0).cart = some 0 ∧ (shelf.cart 0).map (·.eod) = some (some 1) ∧
      (putDrive 0 { mounted with released := true } shelf).drive 0 = { mounted with released := true }) ∧
    ((none_.arb.claims.map fun k => k.order).Nodup ∧ { feed_ with reported := true } ∈ none_.arb.claims ∧
      none_.feed 0 = some feed) ∧ (putDrive 0 { mounted with claim := some 0 } quiet).drive 0 ≠ mounted := by decide +kernel

/-- A normal restore reading from cartridge 0 in drive 0, and an urgent claim for it. -/
def suspendedFor (w : Work) (s : DriveState) (stack : List Context) : Device :=
  { putFeed 0 { feed with suspending := true } (putRestore { restore with state := .reading } (putDrive 0 { mounted with
      state := s, active := some w, phase := .working, stack, suspendFor := some 0, idleSince := none } shelf)) with
    arb := ⟨[{ order := 0, kind := .urgent, owner := .restore 1, target := .cart 0 }], 1⟩
    vu := { quiet.vu with passes := [⟨0, 0, .reading, [], 1, 1, 1, 0, none, none, none⟩] } }

theorem witness_WorkIsSuspendedPushedAndPopped :
    let k : Claim := { order := 0, kind := .urgent, owner := .restore 1, target := .cart 0 }
    let r := suspendedFor (.restore 0) .reading []
    let open_ := r.modDrive 0 fun x => { x with suspendFor := none }
    let f := suspendedFor (.feed 0) .writing []
    let v := suspendedFor (.verify 0) .verifying [⟨.feed 0, 1⟩]
    ((open_.drive 0).active = some (.restore 0) ∧ (open_.drive 0).cart = some 0 ∧ (open_.drive 0).cleaningDue = false ∧
      (open_.drive 0).stack.length < 2 ∧ (open_.drive 0).suspendFor = none ∧ (open_.drive 0).phase = .working ∧
      (open_.drive 0).state = .reading ∧ k ∈ open_.arb.claims ∧ k.drive = none ∧ k.target = .cart 0 ∧
      k.preferred = none ∧ (open_.restore? 0).map (·.priority) = some .normal ∧ (∀ z ∈ open_.arb.claims, z = k)) ∧
    ((r.drive 0).suspendFor = some k.order ∧ r.claim? k.order = some k ∧ k.owner = .restore 1 ∧
      (r.drive 0).outstanding = [] ∧ (r.restore? 0).isSome = true) ∧
    ((f.drive 0).active = some (.feed 0) ∧ f.feed 0 = some { feed with suspending := true } ∧ feed.flights = [] ∧
      feed.returned = 0 ∧ feed.speedOut = false ∧ (f.drive 0).stack = [] ∧ (f.cart 0).isSome = true ∧
      feed.assembly = none ∧ feed.drive = some 0) ∧
    ((v.drive 0).active = some (.verify 0) ∧ (v.pass? 0).isSome = true ∧ (v.drive 0).stack = [] ++ [⟨.feed 0, 1⟩] ∧
      (v.drive 0).stack.length < 2 ∧ v.maySuspend .urgent (.feed 0) = true) ∧
    (shelf.drive 0).stack = [] ∧
    ((busy { mounted with active := some (.restore 0) } .positioning (.popLocate true) (.locate 5)).drive 0).phase =
      .popLocate true ∧
    (let d := busy { mounted with active := some (.feed 0) } .appendCheck (.appendRead 0 true) (.read 4)
     (d.drive 0).active = some (.feed 0) ∧ (d.drive 0).cart = some 0 ∧ (d.cart 0).isSome = true ∧
     (d.drive 0).outstanding = [⟨0, 0, .read 4⟩] ∧ d.readRetries 0 = 2 ∧ ¬(2 : Nat) < d.readRetries 0) := by decide +kernel

theorem witness_TheChecksOfAMountEnd_reads :
    let e := { cart with location := .at 1 }
    let d := assigned (.label 2) (.read 0)
    let a := assigned (.appendRead 2 false) (.read 0)
    let none_ := busy { mounted with hostIn := true } .labelCheck (.label 0) (.read 0)
    ((d.drive 0).cart = some 0 ∧ d.cart 0 = some e ∧ (d.drive 0).outstanding = [⟨0, 0, .read 0⟩] ∧
      (d.drive 0).phase = .label 2 ∧ ¬2 < d.readRetries 0 ∧ 1 < d.readRetries 0 ∧ (d.drive 0).hostIn = false) ∧
    ((d.assigned 0).map (·.owner) = some (.feed 0) ∧ labelCheck e false .blank [] = .mismatch ∧
      labelCheck e true .blank [] = .good) ∧
    ((none_.assigned 0) = none ∧ (none_.drive 0).hostIn = true) ∧
    ((a.drive 0).phase = .appendRead 2 false ∧ tailCheck [] 0 e.serial = .mismatch) ∧
    ((d.drive 0).position ≠ some 0 ∧
      (putEntry entry quiet).entry? 0 = some entry) := by decide +kernel

theorem witness_ARestoreSendsItsRecordsAndEnds_claim :
    let k : Claim := { order := 0, kind := .normal, owner := .restore 0, target := .cart 0 }
    ({ putRestore restore quiet with arb := ⟨[k], 1⟩ } : Device).claimOf (.restore 0) = some k := by decide +kernel

/-- A restore of part 1 in READING, with the records of its block, and the parts that may follow it. -/
theorem witness_ARestoreReadsItsPartsInOrder :
    let q := fun (job seq : Nat) => (⟨job, seq, 1, 1, 0, 0, 0, [0]⟩ : TapeRecord)
    let e := { restore with state := .reading, readPos := some 2, stop := none, follow := true }
    let d := putRestore e (putPart part (busy { mounted with active := some (.restore 0) } .reading .working (.read 1)))
    let p := { part with id := 2, number := 1, firstSeq := 4, lastSeq := 9 }
    ((d.drive 0).outstanding = [⟨0, 0, .read 1⟩] ∧ (d.drive 0).phase = .working ∧ (d.drive 0).active = some (.restore 0) ∧
      d.restore? 0 = some e ∧ e.retries < d.readRetries e.cart ∧ d.readRetries e.cart ≤ { e with retries := 3 }.retries ∧
      goodBlock [] 2 7 = none ∧ d.driveOf (.restore 0) = some 0 ∧ (d.drive 0).suspendFor = none) ∧
    (d.part? e.part = some part ∧ e.state = .reading ∧ e.atXe = none ∧ e.next ≤ part.lastSeq ∧ part.lastBlock < 2 ∧
      part.lastSeq < { e with next := 4 }.next ∧ ¬(∀ n, some 2 = some n → 3 ≤ n)) ∧
    ([q 9 0, q 5 3] = [q 9 0] ++ q 5 3 :: [] ∧ (q 9 0).jobTag ≠ part.jobTag ∧ (q 5 3).jobTag = part.jobTag ∧
      e.next ≤ (q 5 3).seq ∧ (q 5 3).seq ≤ part.lastSeq) ∧
    ((∀ x ∈ d.ru.queue, x.chan = 0 → x = e) ∧ e.follow = true ∧ (∀ n, e.stop = some n → ¬n ≤ part.lastSeq) ∧
      (∃ n, restore.stop = some n ∧ n ≤ part.lastSeq)) ∧
    ({ d with map := { d.map with parts := [part] ++ p :: [] } } : Device).map.parts = [part] ++ p :: [] ∧
    (p.jobTag = part.jobTag ∧ p.number = part.number + 1 ∧ p.firstSeq = part.lastSeq + 1 ∧
      part.number ≠ part.number + 1 ∧ p.restorePins < 4 ∧ 4 ≤ { p with restorePins := 4 }.restorePins ∧ p.cart = e.cart ∧
      { p with cart := 1 }.cart ≠ e.cart) := by decide +kernel

theorem witness_APassReadsComparesAndEnds :
    let x : PassPart := { id := 1, jobTag := 5, firstBlock := 1, lastBlock := 1, firstSeq := 0, lastSeq := 3, next := 3,
                          acc := 0, failed := false }
    let q : TapeRecord := ⟨5, 3, 1, 1, 0, 0, 0, [0]⟩
    let p : Pass := ⟨0, 0, .reading, [x], 1, 1, 1, 0, none, none, none⟩
    let d := putPart part { busy { mounted with active := some (.verify 0) } .verifying .working (.read 1) with
      vu := { quiet.vu with passes := [p] } }
    ((d.drive 0).outstanding = [⟨0, 0, .read 1⟩] ∧ (d.drive 0).phase = .working ∧ (d.drive 0).active = some (.verify 0) ∧
      d.pass? 0 = some p ∧ p.retries < d.readRetries 0 ∧ d.readRetries 0 ≤ { p with retries := 3 }.retries ∧
      goodBlock [] 1 7 = none ∧ d.driveOf (.verify 0) = some 0) ∧
    (p.state = .reading ∧ p.atXe = none ∧ p.buffer = none ∧ p.readPos ≤ p.last ∧ p.last < { p with readPos := 2 }.readPos) ∧
    ((p.parts.map fun x => x.id).Nodup ∧ x ∈ p.parts ∧ x.jobTag = q.jobTag ∧ x.firstSeq ≤ q.seq ∧ q.seq ≤ x.lastSeq ∧
      x.firstBlock ≤ 1 ∧ 1 ≤ x.lastBlock ∧ q.seq = x.next ∧ { q with seq := 2 }.seq ≠ x.next ∧ x.failed = false ∧
      { q with jobTag := 6 }.jobTag ≠ x.jobTag ∧ d.part? x.id = some part ∧ part.state ≠ .bad) ∧
    ({ x with next := 4 }.next = x.lastSeq + 1 ∧ part.check = x.acc ∧ x.next ≠ x.lastSeq + 1) ∧
    (p.cart = 0 ∧ (putEntry { entry with activity := .pass } d).entry? 0 = some { entry with activity := .pass }) := by
  decide +kernel

theorem witness_VerifyCommandsForceAndRaise_done :
    let v := putEntry { entry with raised := true } quiet
    v.entry? 0 = some { entry with raised := true } ∧ { entry with raised := true }.raised = true ∧
    (∀ k, v.claimOf (.verify 0) = some k → k.kind ≠ .verify ∨ k.drive ≠ none) ∧
    (v.vu.list.Pairwise fun a b => a.deadline < b.deadline ∨ (a.deadline = b.deadline ∧ a.order ≤ b.order)) := by
  refine ⟨by decide +kernel, rfl, fun k h => ?_, by decide +kernel⟩
  have : ((putEntry { entry with raised := true } quiet).claimOf (.verify 0)) = none := by decide +kernel
  rw [this] at h; exact nomatch h

theorem witness_InboundFramesAreReadAsLaidOut_refusals :
    leNat (([11, 0] : Bytes).take 2) ≠ 12 ∧ 255 ≤ 255 ∧ ¬(41 = 0 ∧ (5 : Byte) = 0x05) ∧
    (List.replicate 4106 (0 : Byte)).length ≤ 4106 ∧ (0 : Byte).toNat = 0 ∧ 32 < (33 : Byte).toNat ∧
    (itemsBytes [⟨ascii "NAME", ascii "POLLS"⟩]).length ≤ 4106 ∧ ascii "POLLS" ≠ ascii "POLL" ∧
    ¬(([⟨ascii "NAME", []⟩, ⟨ascii "NAME", []⟩] : List Item).map fun x => x.name).Nodup := by decide +kernel

/-! ### Points of the spec that are easily missed -/

/-- R88, R134: a failed FINAL WRITE is one change of its entry. -/
theorem test_failed_final_write_is_one_change :
    let w : TapeBlock := ⟨0x46, 1, 0, 1, 7, 0, [], 0⟩
    let d := busy { mounted with active := some (.finalize 0) } .writing .finalWrite (.write w)
    let d := putCart 0 { cart with location := .at 1, finalizing := true } d
    let e := after (.writeCompletion 0 0 .mediumError) d
    (e.row 0).gen = 1 ∧ (e.cart 0).map (fun x => (x.full, x.finalizing)) = some (some true, false) := by decide +kernel
/-- R67, R79: a released part is no longer the current part of an opening, whose number stays. -/
theorem test_release_ends_the_reference :
    ((after (.releaseSegment 1 1) (putPart part (putStream 0 { waiting with part := some ⟨some 1, 3, 0⟩ } quiet))).stream
      0).part = some ⟨none, 3, 0⟩ := by decide +kernel
/-- R82: a start index past the count is answered OK, however large. -/
theorem test_list_start_index_beyond_32_bits :
    (resp (after (.listSegments 1 (some 0) none (2 ^ 40)) (putPart part quiet))).map (·.1) = some .ok := by decide +kernel
/-- R25: a dispatch that takes staging from 64 to 63 blocks wakes the compression engine. -/
theorem test_dispatch_wakes_the_engine :
    let b : TapeBlock := ⟨0x44, 0, 1, 1, 7, 27, [], 0⟩
    let x : Feed := { feed with state := .streaming, staging := List.replicate 64 block, flights := [⟨block, b⟩] }
    let d := putFeed 0 x (putStream 0 { waiting with
      state := .bound, feed := some 0, nextSeq := 1, unconfirmed := 9, offered := some ⟨3, false, 0, false⟩,
      part := some ⟨some 1, 0, 0⟩ } (busy { mounted with active := some (.feed 0) } .writing .working (.write b)))
    (after (.writeCompletion 0 0 .ok) (putPart { part with state := .open } d)).ce.state ≠ .idle := by decide +kernel
/-- R101: a scan that creates an entry takes its former occupant off every element. -/
theorem test_created_entry_is_no_former_occupant :
    let d := putElem 5 (.unknown (some 0)) { quiet with changer := { quiet.changer with inventory := some ⟨104, 104, 0, 0, 0, 0, 0⟩ } }
    let e := after (.scanCompletion 0 (.barcode (ascii "BBB001L9"))) (putOrder ⟨0, 0, .scan 104 .inventory false⟩ [] d)
    (e.elem 104).content = .occupied 0 ∧ (e.elem 5).content = .unknown none := by decide +kernel

/-! ### Witnesses of the later clauses, one theorem a statement -/

theorem witness_RefusedRequestsChangeNothing_order :
    let d := putCart 0 cart quiet
    let at_ := fun p : Protection => putCart 0 { cart with protection := some p } quiet
    d.link.up = true ∧ (127 < 128 ∧ 0 < 1 ∧ 32 < 33 ∧ 40 < 41) ∧
    d.protectRefusal .lock 0 (.exactly 0) = none ∧
    ((at_ .finalized).protectRefusal .lock 0 (.exactly 0)).map (·.status) = some .protected_ ∧
    ((at_ .held).protectRefusal .hold 0 (.exactly 0)).map (·.status) = some .state ∧
    ((at_ .writable).protectRefusal .unlock 0 (.exactly 0)).map (·.status) = some .state ∧
    (d.protectRefusal .lock 0 (.exactly 255)).map (·.status) = some .stale ∧
    (quiet.protectRefusal .lock 0 (.exactly 0)).map (·.status) = some .noEntry ∧
    (quiet.inventoryRefusal (some 104) (some 5)).map (·.status) = some .badArgument ∧
    quiet.inventoryRefusal (some 104) none = none ∧
    (quiet.abortRefusal 1).map (·.status) = some .state ∧ (putStream 31 waiting quiet).abortRefusal 32 = none ∧
    (quiet.cancelRefusal 33).map (·.status) = some .noEntry ∧ (putRestore restore quiet).cancelRefusal 33 = none := by
  decide +kernel

theorem witness_ReadsOnlyAnswer_refusals :
    (0 < 1 ∨ 32 < 0) ∧ 3 < 4 ∧ quiet.feed 0 = none ∧ 104 < 105 ∧ ((none : Option Nat) = none ↔ (none : Option Nat) = none) ∧
    127 < 128 ∧ 0xFFFFFFFF < 2 ^ 32 := by decide +kernel

theorem witness_CutsAreBoundedAndKeepEveryByte_cases :
    let slots : List Slot := [⟨[1], false⟩] ++ ⟨[2, 3], true⟩ :: [⟨[4], false⟩]
    let mark := { waiting with slots, byteOffset := 1 }
    let full := { waiting with slots := List.replicate 256 ⟨[1], false⟩ }
    (mark.cutCase = some (.mark 2) ∧ ([[1], [2, 3]].map List.length).sum - mark.byteOffset = 2 ∧ 2 ≤ mark.recordSize) ∧
    { mark with recordSize := 1 }.cutCase = some (.plain 1) ∧ { waiting with recordSize := 3 }.cutCase = some (.plain 3) ∧
    { waiting with state := .ending }.cutCase = some (.plain 3) ∧ full.cutCase = some (.plain 256) ∧
    (256 < full.recordSize ∧ ∀ z ∈ full.slots, z.cut = false) ∧ waiting.cutCase = none ∧
    { waiting with slots, recordSize := 65536, nextSeq := 0xFFFFFFFF }.cutCase = some (.mark 3) := by
  decide +kernel

theorem witness_TheHeldRecordIsPlacedInItsFeed_adaptive :
    let r : CeRecord := { opening := ⟨0, 1⟩, feed := 0, jobTag := 5, seq := 0, rawLen := 3, gap := false,
                          policy := .adaptive, storedRun := 7, bypass := 0 }
    let gone := putStream 0 { waiting with opening := 2 } quiet
    ((holding.stream 0).opening = r.opening.no ∧ (holding.stream 0).state ≠ .closed ∧ r.policy = .adaptive ∧
      r.storedRun = 7 ∧ { r with storedRun := 6 }.storedRun ≠ 7 ∧ 2 ≤ { r with bypass := 2 }.bypass ∧
      { r with bypass := 1 }.bypass ≤ 1) ∧
    (record [1]).method = .stored ∧ { record [1] with method := .compressed }.method = .compressed ∧
    (gone.stream 0).opening ≠ r.opening.no ∧ (quiet.stream 0).state = .closed := by decide +kernel

theorem witness_StartsUnderrunsSpansAndStalls_drained :
    let x := holdingWith (some ⟨[], 100, 0, false⟩)
    let d := putStream 0 { waiting with state := .ending, slots := [], feed := some 0 } quiet
    ((putFeed 0 (x 63 .filling) d).feed 0 = some (x 63 .filling) ∧ (x 63 .filling).held = false ∧
      (∀ o ∈ (x 63 .filling).members,
        (d.stream o.chan).state = .ending ∧ (d.stream o.chan).slots = [] ∧ (d.stream o.chan).offered = none)) ∧
    ((x 63 .streaming).staging.length < 64 ∧ 64 ≤ (x 64 .filling).staging.length) ∧
    (quiet.stream 0).state ≠ .ending ∧ (⟨[], 100, 0, true⟩ : Assembly).closePending = true := by decide +kernel

theorem witness_ResetChangerAndTheMailDoor_interrupts :
    (moving.changer.moves.filter fun m => m.running).map (fun m => m.id) = [0] := by decide +kernel

/-- A cartridge displaced, a former occupant lost or found elsewhere; a placement entered, waiting, or running, with a
destination and without one. -/
theorem witness_ScansAndRehomesAreApplied_occupants :
    let d := fun l : Location => putCart 1 { cart with barcode := ascii "BBB001L9", location := .at 10 }
      (putCart 0 { cart with location := l } quiet)
    let held := putElem 8 (.occupied 0) (d (.at 8))
    let former := fun l : Location => putElem 8 (.unknown (some 0)) (d l)
    ((held.elem 8).content = .occupied 0 ∧ held.byBarcode (ascii "BBB001L9") = some 1 ∧ (1 : CartId) ≠ 0 ∧
      held.byBarcode (ascii "CCC001L9") = none ∧ held.byBarcode (ascii "AAA001L9") = some 0) ∧
    (((former .unknown).elem 8).content = .unknown (some 0) ∧ ((former .unknown).cart 0).map (·.location) = some .unknown ∧
      ((former (.at 9)).cart 0).map (·.location) = some (.at 9) ∧ (9 : ElemId) ≠ 8) := by decide +kernel

theorem witness_ScansAndRehomesAreApplied_placement :
    let l : Load := .cart 0
    let m := { Tests.move with src := 0, dst := none, cls := none, requester := .changer, running := false }
    let d := putElem 0 (.occupied 0) (putCart 0 { cart with location := .at 0 } quiet)
    let full := putElem 0 (.occupied 0) { d with media := { d.media with elems := Vector.replicate 105 ⟨.unknown none, none, none⟩ } }
    let with_ := fun m : Move => ({ d with changer := { d.changer with moves := [m], nextMove := 1 } } : Device)
    let run := { m with dst := some 9, running := true }
    let r : ResetSeq := ⟨.rehome, [0], [], []⟩
    (d.holds 0 l = true ∧ d.destination l = some 9 ∧ full.holds 0 l = true ∧ full.destination l = none) ∧
    ((∀ y ∈ d.changer.moves, ¬(y.requester = .changer ∧ y.src = 0)) ∧ (∀ y ∈ moving.changer.moves, y.id < 1)) ∧
    ((with_ m).move? 0 = some m ∧ (∀ y ∈ (with_ m).changer.moves, y = m) ∧ m.load = l ∧ m.running = false) ∧
    ((with_ run).move? 0 = some run ∧ run.running = true ∧ (with_ run).holds 0 l = true) ∧
    (with_ run).rescanList r = [9] := by decide +kernel

theorem witness_ThePickerChoosesAndScansGoOn_placement :
    let m := { Tests.move with src := 0, dst := none, cls := none, requester := .changer, running := false }
    let d := { putCart 0 { cart with location := .at 0 } quiet with changer := { quiet.changer with moves := [m] } }
    let held := putElem 0 (.occupied 0) d
    m ∈ d.changer.moves ∧ m.ready = true ∧ isMail m.src = false ∧ d.destination m.load = some 9 ∧
    held.destination m.load = some 9 ∧ d.move? m.id = some m ∧ held.holds 0 m.load = true ∧ d.holds 0 m.load = false ∧
    (∀ y ∈ d.changer.moves, y = m) ∧ (m.cls.getD 0 < 6) := by decide +kernel

theorem witness_FailuresAndResetsResolveMoves_interrupted :
    let r : ResetSeq := ⟨.rescan [], [0], [], []⟩
    r.interrupted = [Tests.move.id] ∧ moving.move? 0 = some Tests.move ∧ Tests.move.running = true ∧
    ({ r with interrupted := [] } : ResetSeq).interrupted = [] := by decide +kernel

/-- An EMPTY drive with a claim that finds nothing, one whose move would be BUSY, and one that can be served; a FEED
claim served in another drive; a host's claim on a drive; an EOD of 1. -/
theorem witness_TheArbiterGivesDrivesToClaims_served :
    let none_ : Claim := { order := 0, kind := .urgent, owner := .restore 0, target := .cart 9 }
    let feed_ : Claim := { order := 3, kind := .feed, owner := .feed 0, target := .pool 1 }
    let named : Claim := { order := 4, kind := .verify, owner := .verify 1, target := .cart 1 }
    let d : Device := { shelf with arb := ⟨[none_, named], 5⟩ }
    let f : Device := { shelf with arb := ⟨[feed_], 5⟩ }
    let blocked : Device := d.modElem 2 fun e => { e with incoming := some 7 }
    let alone : Device := { quiet with arb := ⟨[none_], 1⟩ }
    (d.freeDrive 1 = true ∧ d.contenders 1 = [none_] ++ named :: [] ∧ d.choice 1 none_ = none ∧
      d.choice 1 named = some ⟨1, some 1, false⟩ ∧ (d.drive 1).state = .empty ∧
      (d.elem (driveElem 1)).incoming = none ∧ (d.elem (driveElem 1)).outgoing = none ∧
      (∀ z ∈ d.arb.claims, d.wantsMounted 1 z = false)) ∧
    (blocked.contenders 1 = [none_, named] ∧ blocked.choice 1 named = some ⟨1, some 1, false⟩ ∧
      (blocked.elem (driveElem 1)).incoming ≠ none) ∧
    (f.contenders 1 = [] ++ feed_ :: [] ∧ f.choice 1 feed_ = some ⟨0, some 0, false⟩ ∧ (f.drive 0).state ≠ .empty ∧
      (0 : DriveId) ≠ 1 ∧ f.wantsMounted 1 feed_ = false) ∧
    (alone.freeDrive 0 = true ∧ alone.contenders 0 = [none_] ∧ alone.choice 0 none_ = none) := by decide +kernel

theorem witness_TheArbiterGivesDrivesToClaims_host :
    let k : Claim := { order := 0, kind := .host, owner := .hostMove 0, target := .drive 1, drive := some 1 }
    let other : Claim := { order := 1, kind := .host, owner := .hostMove 0, target := .drive 0 }
    let d := fun ks => ({ putDrive 1 { quiet.drive 1 with claim := some 0 } shelf with arb := ⟨ks, 2⟩ } : Device)
    ((d [k]).assigned 1 = some k ∧ k.owner = .hostMove 0 ∧ (∀ y ∈ [k], y.order = k.order)) ∧
    ((d [k, other]).assigned 1 = some k ∧ other.owner = .hostMove 0 ∧ other.order ≠ k.order ∧ other.prepared = false) ∧
    (shelf.drive 0).cart = some 0 ∧ (shelf.cart 0).map (·.eod) = some (some 1) ∧ 1 ≤ 1 := by decide +kernel

theorem witness_MountCompletionsCheckLabelAndFinalize_cleaning :
    let e := { cart with kind := .cleaning, pool := none, protection := none, full := none, eod := none, uses := 50,
                         location := .at 1 }
    let k : Claim := { order := 0, kind := .host, owner := .finalize 0, target := .cart 0, drive := some 0, chosen := some 0 }
    let d := putCart 0 e (busy { mounted with claim := some 0 } .loading .load .load)
    (e.kind = .cleaning ∧ (d.drive 0).outstanding = [⟨0, 0, .load⟩] ∧ (d.drive 0).phase = .load ∧
      d.assignedOwner 0 = none) ∧
    (let f : Device := { d with arb := ⟨[k], 1⟩ }
     f.assignedOwner 0 = some (.finalize 0) ∧ f.claimOf (.finalize 0) = some k) := by decide +kernel

/-- READ 0 of an identification with no block; a second fault with a FEED's and a FINALIZE's work, and with a FINALIZE's
claim assigned. -/
theorem witness_PowerOnResetsAndFaultsOfADrive_halts :
    let x := busy { mounted with cart := none } .unloading .powerRead (.read 0)
    let k : Claim := { order := 0, kind := .host, owner := .finalize 0, target := .cart 0, drive := some 0 }
    let d := busy { mounted with autoReset := true, active := some (.feed 0), stack := [⟨.restore 0, 1⟩] } .writing .working
      (.write (labelBlock [] 0))
    let f := { busy { mounted with autoReset := true, claim := some 0 } .loading .load .load with arb := ⟨[k], 1⟩ }
    ((x.drive 0).outstanding = [⟨0, 0, .read 0⟩] ∧ (x.drive 0).phase = .powerRead) ∧
    ((d.drive 0).autoReset = true ∧ ∀ c, d.assignedOwner 0 ≠ some (.finalize c)) ∧
    (f.drive 0).autoReset = true ∧ f.assignedOwner 0 = some (.finalize 0) ∧ (f.drive 0).active ≠ some (.finalize 0) := by
  decide +kernel

theorem witness_RestoreCommandsStartFeedAndEnd_promotes :
    let q := fun (n : RestoreId) (p : Priority) (s : RestoreState) =>
      { restore with chan := n, priority := p, arrival := n.val, state := s }
    let d := fun l => ({ quiet with ru := ⟨l, 8⟩ } : Device)
    let active := fun l : List Restore => l.filter fun e => e.state != .queued && e.state != .ended
    let three := [q 0 .normal .reading, q 1 .normal .sending, q 2 .urgent .claiming]
    let l := three ++ [q 3 .normal .queued, q 4 .urgent .queued, q 5 .urgent .queued]
    ((active (d l).ru.queue).length < 4 ∧ q 4 .urgent .queued ∈ (d l).ru.queue ∧
      ∀ y ∈ (d l).ru.queue, y.state = .queued → y ≠ q 4 .urgent .queued →
        (y.priority = .normal ∨ (y.priority = .urgent ∧ 4 < y.arrival))) ∧
    4 ≤ (active (three ++ [q 6 .normal .positioning])).length ∧ (∀ e ∈ three, e.state ≠ .queued) := by decide +kernel

/-- Frames with a grant for each; a restore whose drive is at rest, and one whose drive has a command outstanding. -/
theorem witness_ARestoreSendsItsRecordsAndEnds_all :
    let e := { restore with state := .sending, frames := [(0, [1]), (4096, [2])] }
    let d := putRestore e { quiet with link := { quiet.link with grants := quiet.link.grants.set 0 2 } }
    let b := busy { mounted with active := some (.restore 0) } .reading .working (.read 1)
    (d.restore? 0 = some e ∧ e.frames.length ≤ d.grants 0) ∧
    (b.driveOf (.restore 0) = some 0 ∧ (b.drive 0).outstanding ≠ []) ∧
    (let r := b.modDrive 0 fun x => { x with outstanding := [] }
     r.driveOf (.restore 0) = some 0 ∧ (r.drive 0).outstanding = []) := by decide +kernel

theorem witness_ARestoreReadsItsPartsInOrder_starts :
    let e := { restore with state := .claiming }
    let d := putPart part (putRestore e (putDrive 0 { mounted with active := some (.restore 0) } shelf))
    let l := busy { mounted with active := some (.restore 0) } .positioning .startLocate (.locate 1)
    ((d.drive 0).active = some (.restore 0) ∧ d.restore? 0 = some e ∧ d.part? e.part = some part ∧
      restore.state ≠ .claiming) ∧
    ((l.drive 0).outstanding = [⟨0, 0, .locate 1⟩] ∧ (l.drive 0).phase = .startLocate ∧
      (l.drive 0).active = some (.restore 0)) := by decide +kernel

/-- The deadline and the list: an entry to insert, to recompute, to remove, and one whose pass runs. -/
theorem witness_VerifyCommandsForceAndRaise_list :
    let d := putPart part { putCart 0 cart quiet with
      media := { (putCart 0 cart quiet).media with pools := quiet.media.pools.set 1 { Pool.data with interval := 1 } } }
    let v := putEntry entry d
    let s := putPart { part with state := .suspect, suspectTime := some 9 } d
    let bare := putCart 0 cart quiet
    (d.interval 0 = 1 ∧ d.deadline 0 none = 3601 ∧ d.deadline 0 (some 5) = 5 ∧ s.deadline 0 none = 9 ∧
      bare.deadline 0 none = 0xFFFFFFFF) ∧
    (d.belongs 0 none = true ∧ bare.belongs 0 none = false ∧ (putPart part bare).belongs 0 (some 7) = true ∧
      bare.belongs 0 (some 7) = false) ∧
    (d.entry? 0 = none ∧ v.entry? 0 = some entry ∧ v.belongs 0 entry.forced = true) ∧
    ((putEntry entry bare).entry? 0 = some entry ∧ (putEntry entry bare).belongs 0 entry.forced = false ∧
      entry.activity ≠ .pass ∧ { entry with activity := .pass }.activity = .pass) := by decide +kernel

/-- The scheduling rounds: the first overdue entry free to claim, with fewer than 4 activities and with 4, with a class-7
claim waiting and with none; no overdue entry, with a free entry and without. -/
theorem witness_VerifyCommandsForceAndRaise_schedule :
    let e := fun (c : CartId) (n : Nat) (a : Activity) => { entry with cart := c, deadline := n, order := n, activity := a }
    let k : Claim := { order := 7, kind := .verify, owner := .verify 1, target := .cart 1 }
    let d := fun l ks => ({ atSecond 50 quiet with vu := { quiet.vu with list := l }, arb := ⟨ks, 8⟩ } : Device)
    let busy4 := [e 1 10 (.claim 7), e 2 11 .pass, e 3 12 .pass, e 4 13 .pass]
    let active := fun l : List VerifyEntry => (l.filter fun e => e.activity != .none).length
    let l := busy4.tail ++ e 5 50 .none :: [e 6 51 .none]
    ((d l []).vu.list = busy4.tail ++ e 5 50 .none :: [e 6 51 .none] ∧ (∀ z ∈ busy4.tail, z.activity ≠ .none) ∧
      (e 5 50 .none).block = .none ∧ (e 5 50 .none).deadline ≤ (d l []).mu.time ∧ active l < 4) ∧
    (4 ≤ active (busy4 ++ e 5 50 .none :: []) ∧ (d l [k]).arb.claims = [] ++ k :: [] ∧ k.kind = .verify ∧ k.drive = none) ∧
    (∀ z ∈ [e 6 51 .none], ¬z.deadline ≤ (d l []).mu.time) ∧ active [e 6 51 .none] < 4 ∧
    (∀ z ∈ busy4.tail, ¬(z.activity = .none ∧ z.block = .none)) := by decide +kernel

/-- An entry whose cartridge is OUTSIDE, its one claim waiting; one blocked MEDIA, in a slot and in the picker. -/
theorem witness_VerifyCommandsForceAndRaise_media :
    let k : Claim := { order := 0, kind := .verify, owner := .verify 0, target := .cart 0 }
    let e := { entry with activity := .claim 0 }
    let d := putEntry e { putCart 0 { cart with location := .outside } quiet with arb := ⟨[k], 1⟩ }
    (d.entry? 0 = some e ∧ d.cart 0 = some { cart with location := .outside } ∧
      (d.arb.claims.filter fun k => k.drive.isNone && k.target == .cart 0) = [k] ∧ d.claimOf (.verify 0) = some k ∧
      d.claimOf (.finalize 0) = none ∧ d.driveOf (.finalize 0) = none) ∧
    ({ entry with block := .media }.block = .media ∧ cart.location = .at 9 ∧ (9 : ElemId) ≠ 0 ∧
      { cart with location := .at 0 }.location = .at 0) := by decide +kernel

/-- A pass with a part to take, one whose only part is pinned, and the completion of its LOCATE. -/
theorem witness_APassReadsComparesAndEnds_starts :
    let e := { entry with forced := some 1 }
    let d := fun p => putPart p (putEntry e (putDrive 0 { mounted with active := some (.verify 0) } shelf))
    let l := busy { mounted with active := some (.verify 0) } .positioning .startLocate (.locate 1)
    let locates := fun d : Device => ((d.perform (.serve 0 (.verify 0))).drive 0).outstanding.map (·.cmd)
    (((d part).drive 0).active = some (.verify 0) ∧ (d part).entry? 0 = some e ∧
      (∀ p ∈ (d part).map.parts, p.firstBlock ≤ 0xFFFFFFFF) ∧ locates (d part) = [.locate 1] ∧
      locates (d { part with verifyPin := true }) ≠ [.locate 1]) ∧
    ((l.drive 0).outstanding = [⟨0, 0, .locate 1⟩] ∧ (l.drive 0).phase = .startLocate ∧
      (l.drive 0).active = some (.verify 0)) := by decide +kernel

/-! ### Points that only appear where two units meet -/

/-- R129: while a host's move names the EMPTY drive the feed's claim waits, and no false NO_MEDIA is reported. -/
theorem test_busy_element_is_no_lack_of_media :
    let k : Claim := { order := 3, kind := .feed, owner := .feed 0, target := .pool 1 }
    let d := allDrives.foldl (fun d i => d.modElem (driveElem i) fun e => { e with incoming := some 7 })
      (putElem 9 (.occupied 0) (putCart 0 cart (putFeed 0 { feed with drive := none, cart := none, state := .unbound } quiet)))
    let d := ({ d with arb := ⟨[k], 4⟩ } : Device).arbitrate
    d.arb.claims = [k] ∧ d.event .noMedia = none := by decide +kernel
/-- R119, R120: a placement interrupted after its load has reached its destination is DONE, and no move is left. -/
theorem test_interrupted_placement_is_resolved :
    let m := { Tests.move with src := 0, dst := some 9, cls := none, requester := .changer }
    let d := putElem 9 (.occupied 0) (putCart 0 cart (putOrder ⟨0, 0, .scan 9 .reset false⟩ [m] quiet))
    let d := { d with changer := { d.changer with reset := some ⟨.rescan [], [0], [], []⟩ } }
    (after (.scanCompletion 0 (.barcode (ascii "AAA001L9"))) d).changer.moves = [] := by decide +kernel
/-- R93, R137: a FINALIZE whose cartridge has been made a cleaning one ends with MEDIA at the LOAD, finalize pending no
longer set. -/
theorem test_finalize_of_a_cleaning_cartridge_ends :
    let e := { cart with kind := .cleaning, pool := none, protection := none, full := none, eod := none, uses := 50,
                         location := .at 1, finalizing := true }
    let k : Claim := { order := 0, kind := .host, owner := .finalize 0, target := .cart 0, drive := some 0, chosen := some 0 }
    let d := { putCart 0 e (busy { mounted with claim := some 0 } .loading .load .load) with arb := ⟨[k], 1⟩ }
    let t := after (.loadCompletion 0 0 .ok) d
    t.arb.claims = [] ∧ (t.cart 0).map (·.finalizing) = some false ∧
      t.event .operationEnd = some ⟨1, .finalizeEnd 0 .media⟩ ∧ (t.drive 0).state = .cleaning := by decide +kernel

/-- Restores in use at a link reset: one whose claim waits, its record at the expansion engine and its context on a
stack; one at work on a drive, without a claim. -/
theorem witness_FramesNotTakenAndLinkResets_restores :
    let k : Claim := { order := 0, kind := .normal, owner := .restore 0, target := .cart 0 }
    let q : XeRequest := ⟨.restore 0, ⟨5, 0, 3, 3, 0, 0x53, 0, [1, 2, 3]⟩, 0, 0, false⟩
    let r := { Tests.restore with state := .reading }
    let p := { Tests.part with restorePins := 1 }
    let d : Device := { putPart p (putRestore r (putDrive 0 { mounted with stack := [⟨.restore 0, 1⟩] } quiet)) with
      arb := ⟨[k], 1⟩, xe := { quiet.xe with requests := [q] } }
    let a := putPart p (putRestore r (putDrive 0 { mounted with active := some (.restore 0) } quiet))
    (d.link.up = true ∧ d.restore? 0 = some r ∧ r.state ≠ .ended ∧ d.claimOf (.restore 0) = some k) ∧
    (a.restore? 0 = some r ∧ a.driveOf (.restore 0) = some 0 ∧ a.arb.claims = []) := by decide +kernel

/-- A mounted cartridge that another assigned claim has chosen is passed over by a FEED claim; a cleaning cartridge so
chosen is not. -/
theorem witness_TheArbiterGivesDrivesToClaims_passed :
    let feed_ : Claim := { order := 3, kind := .feed, owner := .feed 0, target := .pool 1 }
    let has := fun n c => ({ order := n, kind := .host, owner := .finalize c, target := .cart c, drive := some 2,
                             chosen := some c } : Claim)
    let x := { feed with drive := none, cart := none, state := .unbound }
    let d : Device := { putFeed 0 x shelf with arb := ⟨[has 1 0, has 2 3, feed_], 5⟩ }
    (d.appendable 1 0 = true ∧ d.wantsMounted 0 feed_ = false ∧ d.choice 0 feed_ = some ⟨0, some 1, false⟩ ∧
      d.choice 1 { feed_ with owner := .cleaning 1, target := .drive 1 } = some ⟨1, some 3, false⟩) ∧
    ((d.arb.claims.map fun k => k.order).Nodup ∧ feed_ ∈ d.arb.claims ∧ d.feed 0 = some x) := by decide +kernel

/-- R127, R129: the FEED claim that takes the drive of a mounted cartridge it passes over unmounts it. -/
theorem test_passed_over_cartridge_is_unmounted :
    let k : Claim := { order := 3, kind := .feed, owner := .feed 0, target := .pool 1 }
    let y : Claim := { order := 1, kind := .host, owner := .finalize 0, target := .cart 0, drive := some 2, chosen := some 0 }
    let d : Device := { putFeed 0 { feed with drive := none, cart := none } (atSecond 60 shelf) with arb := ⟨[y, k], 4⟩ }
    ((d.assign k ⟨0, some 1, false⟩).drive 0).state = .unloading := by decide +kernel

/-- R137: two drives want the only cleaning cartridge, no move names it yet, and no CLEANING_EXPIRED is raised. -/
theorem test_no_false_cleaning_expired :
    let k : Claim := { order := 0, kind := .cleaning, owner := .cleaning 0, target := .drive 0 }
    let y := { k with drive := some 0, chosen := some 3 }
    let z := { k with order := 1, owner := .cleaning 1, target := .drive 1 }
    let due := { quiet.drive 1 with cleaningDue := true }
    let d : Device := { putDrive 0 { mounted with state := .unloading, phase := .unload, claim := some 0, cleaningDue := true }
      (putDrive 1 due shelf) with arb := ⟨[y, z], 2⟩ }
    d.arbitrate.event .cleanDue = none ∧ (d.arbitrate.drive 1).claim = some 1 := by decide +kernel

/-- R44, R96: media that a feed's release returns are told to the claim that the arbiter has just given the drive. -/
theorem test_media_returned_to_an_assigned_claim :
    let k : Claim := { order := 3, kind := .feed, owner := .feed 0, target := .pool 1, drive := some 0, chosen := some 0 }
    let d : Device := { putFeed 0 { feed with stall := { feed.stall with noMedia := true } } quiet with arb := ⟨[k], 4⟩ }
    ((d.mediaReturned 1).feed 0).map (·.stall.noMedia) = some false := by decide +kernel

/-- R33, R48: the dispatch decision that a placement makes due comes before the engine's search. -/
theorem test_dispatch_before_search :
    (holding.offerHeld).agenda = [.feedDecide 0, .ceSearch] := by decide +kernel

/-- A full assembly block of a feed whose sole member is ENDING, and a held record that does not fit. -/
def renewing (pending : Bool) (c : Cart) : Device :=
  putCart 0 { c with location := .at 1 } (putFeed 0 (holdingWith (some ⟨[record [1]], 262082, 0, pending⟩) 0 .filling)
    (putStream 0 { holding.stream 0 with state := .ending } holding))

/-- R33, R48, R55: the close of the full block starts the feed before the record opens the next one, so that the close of
that next block, drained at once, is the first of the period. -/
theorem test_close_decides_before_the_record_is_placed :
    ((after .placement (renewing false cart)).feed 0).map (fun x => (x.state, x.periodCount)) =
      some (.streaming, 1) := by decide +kernel

/-- The close-pending block closed, with a feed that goes on and one that leaves its cartridge. -/
theorem witness_TheHeldRecordIsPlacedInItsFeed_pending :
    let locked := { cart with protection := some .locked }
    (((renewing true cart).begun.closeBefore 0).feed 0).map (fun y => (y.assembly, y.state, y.suspending)) =
      some (none, .streaming, false) ∧
    (((renewing true locked).modFeed 0 fun y => { y with speedOut := true }).begun.closeBefore 0 |>.feed 0).map
      (fun y => (y.assembly, y.state)) = some (none, .spanning) ∧
    (renewing true cart).feed 0 = some (holdingWith (some ⟨[record [1]], 262082, 0, true⟩) 0 .filling) := by decide +kernel

/-- R128: of two FEED claims that prefer the drive the older goes first. -/
theorem test_the_older_preferring_claim_goes_first :
    let k : Claim := { order := 3, kind := .feed, owner := .feed 0, target := .pool 1, preferred := some 0 }
    ({ shelf with arb := ⟨[k, { k with order := 5, owner := .feed 1 }], 6⟩ } : Device).contenders 0 =
      [k, { k with order := 5, owner := .feed 1 }] := by decide +kernel

/-- R88, R93: a cartridge found gone while its FINALIZE waits is changed once. -/
theorem test_a_lost_finalize_changes_the_entry_once :
    let d := putElem 8 (.occupied 0) (putCart 0 { cart with location := .at 8, finalizing := true } quiet)
    let k : Claim := { order := 0, kind := .host, owner := .finalize 0, target := .cart 0 }
    let d' := (({ d with arb := ⟨[k], 1⟩ } : Device).scan 8 .empty).1.settle
    d'.row 0 = ⟨1, some { cart with location := .outside, home := none }⟩ ∧
    d'.event .operationEnd = some ⟨1, .finalizeEnd 0 .media⟩ := by decide +kernel

/-- R102, R135: the slot found at the asking becomes the home also when the changer answers BUSY. -/
theorem test_a_busy_return_keeps_its_home :
    let d := putDrive 0 { mounted with state := .unloading, phase := .unload }
      (putElem 1 (.occupied 0) (putCart 0 { cart with location := .at 1, home := none } quiet))
    let d' := (d.modElem 9 fun x => { x with outgoing := some 7 }).askReturn 0
    (d'.drive 0).phase = .mouth ∧ (d'.cart 0).map (·.home) = some (some 9) ∧ d'.changer.moves = [] := by decide +kernel

/-- The move of drive 0 into drive 1, whose reset waits for it; and drive 1 after a rescan has found it EMPTY. -/
theorem witness_ADriveResetEndsItsWork_passed :
    let m := { Tests.move with src := 1, dst := some 2, requester := .drive 0 }
    let d := putDrive 1 { mounted with state := .unloading, phase := .resetWait, cart := none }
      (putDrive 0 { mounted with state := .unloading, phase := .returning } (putElem 2 (.occupied 0)
        (putCart 0 { cart with location := .at 2 } quiet)))
    (m.requester = .drive 0 ∧ (1 : DriveId) ≠ 0 ∧ m.dst = some (driveElem 1) ∧ (d.drive 0).phase = .returning ∧
      ((d.returnEnded 0 m .done).drive 1).phase = .resetWait) ∧
    (let e := putElem 2 .empty d
     (e.elem (driveElem 1)).content = .empty ∧ (e.drive 1).cart = none ∧ (e.drive 1).phase = .resetWait ∧
       e.changer.moves = [] ∧ (e.drive 0).phase ≠ .resetWait) ∧
    (∃ y ∈ (putOrder ⟨0, 0, .rehome⟩ [m] d).changer.moves, y.running = true ∧ y.dst = some (driveElem 1)) := by
  decide +kernel

/-- R141: the reset of a drive that waited for another drive's move unloads what the move has brought. -/
theorem test_a_waiting_reset_unloads_a_passed_load :
    let m := { Tests.move with src := 1, dst := some 2, requester := .drive 0 }
    let d := putDrive 1 { mounted with state := .unloading, phase := .resetWait, cart := none }
      (putDrive 0 { mounted with state := .unloading, phase := .returning } (putElem 2 (.occupied 0)
        (putCart 0 { cart with location := .at 2 } quiet)))
    let d' := d.moveEnded m .done
    (d'.drive 1).phase = .resetUnload ∧ (d'.drive 1).cart = some 0 ∧ (d'.drive 1).outstanding.map (·.cmd) = [.unload] := by
  decide +kernel

/-- A claim withdrawn during either check; a LOCATE 0 and a READ 0 after a pop. -/
theorem witness_TheChecksOfAMountEnd_withdrawn :
    let d := fun p => busy mounted .labelCheck p (.read 0)
    (((d (.label 0)).assigned 0 = none ∧ ((d (.label 0)).drive 0).hostIn = false ∧ ((d (.label 0)).drive 0).cart = some 0 ∧
      ((d (.label 0)).cart 0).isSome = true) ∧ ((d (.appendRead 0 false)).drive 0).phase = .appendRead 0 false) ∧
    DriveResult.notReady ≠ .mediumError := by decide +kernel

theorem witness_WorkIsSuspendedPushedAndPopped_blank :
    let r := busy { mounted with active := some (.restore 0) } .positioning (.popLocate false) (.locate 0)
    let v := busy { mounted with active := some (.verify 0) } .positioning (.popLocate true) (.locate 0)
    let f := busy { mounted with active := some (.feed 0) } .appendCheck .popAppendLocate (.locate 0)
    ((r.drive 0).outstanding = [⟨0, 0, .locate 0⟩] ∧ (r.drive 0).phase = .popLocate false) ∧
    ((v.drive 0).active = some (.verify 0) ∧ (v.drive 0).phase = .popLocate true) ∧
    ((f.drive 0).active = some (.feed 0) ∧ (f.drive 0).cart = some 0 ∧ (f.cart 0).isSome = true ∧
      (f.drive 0).phase = .popAppendLocate) ∧
    (DriveResult.blank = .blank ∧ (0 : Nat) = 0) := by decide +kernel

end Sys2Proof.Tests
end

/-! ### What every step keeps of the tables (O6) -/

namespace Sys2Proof.Machine

/-- A RESP, the count of a command and every decision keep the tables sound. -/
theorem Device.sound_kept : Kept Device.Sound :=
  ⟨fun _ _ _ _ h => Device.respond_sound h, fun _ h => h, fun _ h => Device.settle_sound h⟩

/-- The power-on values are sound. -/
theorem Device.powerOn_sound (door hold : Bool) : (Device.powerOn door hold).Sound where
  streams c := by
    have : (Vector.replicate 32 ({} : Stream))[c] = {} := by simp
    show Stream.Sound _
    rw [show (Device.powerOn door hold).intake.streams[c] = {} from this]
    exact ⟨fun h => (nomatch h), fun h => (nomatch h), Nat.zero_le _, Nat.zero_le _, Nat.zero_le _⟩
  feeds f x hx := by simp [Device.powerOn] at hx
  parts p hp := (nomatch hp)
  counter := ⟨Nat.le_refl 1, Nat.le_of_ble_eq_true rfl⟩
  events k e he := by
    simp only [Device.powerOn, Fin.getElem_fin, Vector.getElem_set, Vector.getElem_replicate] at he
    split at he <;> cases he
    decide
  grants r := by simp [Device.powerOn]
  list := .nil

/-- A LOAD_SEGMENT that is not refused brings a part id in its range (R80, check 1). -/
theorem Device.loadSegment_id_range {d : Device} {a : SegmentArgs} (h : d.loadSegmentRefusal a = none) :
    1 ≤ a.part ∧ a.part ≤ Config.max32 := by
  have good : segmentArgsBad a = false → 1 ≤ a.part ∧ a.part ≤ Config.max32 := fun hb => by
    simp only [segmentArgsBad, Bool.or_eq_false_iff, beq_eq_false_iff_ne, decide_eq_false_iff_not] at hb
    omega
  unfold Device.loadSegmentRefusal at h
  cases hb : segmentArgsBad a with
  | false => exact good hb
  | true => split at h <;> [cases h; (split at h <;> simp [hb, firstFailing] at h)]

/-- Every command keeps the tables sound, with every decision it makes: each form of a command keeps what its own change
and `settle` keep. -/
theorem exec_sound {s t : State} {c : Instr} (hs : s.dev.Sound) (h : exec c s = .next t) : t.dev.Sound := by
  have run {g : Device → Device} (hg : ∀ d : Device, d.Sound → (g d).Sound) (h : s.run g = .next t) : t.dev.Sound :=
    Device.sound_kept.run hs hg h
  have runIf {due : Bool} {g : Device → Device} (hg : ∀ d : Device, d.Sound → (g d).Sound)
      (h : s.runIf due g = .next t) : t.dev.Sound := Device.sound_kept.runIf hs hg h
  have answer {tag : Tag} {r : Option RefusalOf} {items : Device → List Item} (h : s.answer tag r items = .next t) :
      t.dev.Sound := Device.sound_kept.answer hs h
  have request {tag : Tag} {r : Option RefusalOf} {g : Device → Device} (hg : ∀ d : Device, d.Sound → (g d).Sound)
      (h : s.request tag r g = .next t) : t.dev.Sound := Device.sound_kept.request hs (fun _ => hg _) h
  have discarded (h : s.just Device.linkError = .next t) : t.dev.Sound := Kept.just hs Device.linkError_sound h
  have frame {ch : Nat} {g : StreamId → Device → Device} (hg : ∀ c (d : Device), d.Sound → (g c d).Sound)
      (h : s.inbound (match streamOf? ch with | some c => s.run (g c) | none => s.just Device.linkError) = .next t) :
      t.dev.Sound :=
    Kept.inbound hs (fun h => by split at h <;> [exact run (hg _) h; exact discarded h]) h
  have completed {i : DriveId} {n : BitVec 16} {name : CmdName} {r : DriveResult} {found : Nat}
      {k : Device → DriveCmd → DriveResult → Device} (hk : ∀ (d : Device) c r, d.Sound → (k d c r).Sound)
      (h : s.run (fun d => d.completion i n name r found k) = .next t) : t.dev.Sound :=
    run (fun _ hd => Device.completion_sound hd hk) h
  cases c with
  | data ch p => exact frame (fun _ _ => Device.takeData_sound) h
  | markCut ch => exact frame (fun _ _ => Device.takeCut_sound) h
  | markEnd ch => exact frame (fun _ _ => Device.takeEnd_sound) h
  | grant ch n =>
    refine Kept.inbound hs (fun h => ?_) h
    split at h
    · split at h <;> [exact discarded h; exact run (fun _ => Device.takeGrant_sound) h]
    · exact discarded h
  | frameRefused f => exact Kept.inbound hs discarded h
  | unknownRequest tag is => exact answer (r := some { status := .badArgument }) (items := fun _ => []) h
  | openStream tag ch job p size pol =>
    exact request (fun _ hd => by split <;> [exact Device.openStream_sound hd; exact hd]) h
  | abortStream tag ch =>
    exact request (fun _ hd => by split <;> [exact Device.abort_sound (Device.respond_sound hd); exact hd]) h
  | loadPool tag p x a => exact request (fun _ hd => by split <;> [exact Device.loadPool_sound hd; exact hd]) h
  | loadCartridgeCreate tag i x b a =>
    exact request (fun _ hd => by split <;> [exact Device.createCart_sound hd; exact hd]) h
  | loadCartridgeEdit tag i x a =>
    refine request (fun _ hd => ?_) h
    split <;> [(split <;> [exact Device.editEntry_sound hd; exact hd]); exact hd]
  | loadCartridgeRemove tag i x =>
    exact request (fun _ hd => by split <;> [exact Device.removeCart_sound hd; exact hd]) h
  | lock tag i x => exact request (fun _ => Device.changeEntry_sound) h
  | unlock tag i x => exact request (fun _ => Device.changeEntry_sound) h
  | hold tag i x => exact request (fun _ => Device.changeEntry_sound) h
  | finalize tag i x =>
    refine request (fun _ hd => ?_) h
    split <;> [exact Device.placeClaim_sound (Device.changeEntry_sound hd); exact Device.changeEntry_sound hd]
  | recycle tag i x => exact request (fun _ => Device.changeEntry_sound) h
  | inventory tag a b => exact request (fun _ => Device.beginInventory_sound) h
  | move tag a b =>
    refine request (fun _ hd => ?_) h
    split <;> [(split <;> [exact Device.hostMove_sound hd; exact hd]); exact hd]
  | restore tag ch p pr first n follow =>
    exact request (fun _ hd => by split <;> [exact Device.acceptRestore_sound hd; exact hd]) h
  | cancelRestore tag ch =>
    exact request (fun _ hd => by split <;> [exact Device.endRestore_sound (Device.respond_sound hd); exact hd]) h
  | verifyNow tag i => exact request (fun _ hd => by split <;> [exact Device.verifyNow_sound hd; exact hd]) h
  | loadSegment tag a =>
    refine Device.sound_kept.request hs (fun hr hd => ?_) h
    split <;> [exact Device.loadSegment_sound hd (Device.loadSegment_id_range hr); exact hd]
  | releaseSegment tag p => exact request (fun _ hd => by split <;> [exact Device.releaseSegment_sound hd; exact hd]) h
  | readSegment tag p =>
    simp only [exec, execReadSegment] at h
    split at h <;> [exact answer h; (split at h <;> exact answer h)]
  | listSegments tag c j n => exact answer h
  | readCartridge tag i =>
    simp only [exec, execReadCartridge] at h
    split at h <;> [exact answer h; (split at h <;> exact answer h)]
  | readElement tag e => simp only [exec, execReadElement] at h; split at h <;> exact answer h
  | readDrive tag i => simp only [exec, execReadDrive] at h; split at h <;> exact answer h
  | readFeed tag f =>
    simp only [exec, execReadFeed] at h
    split at h <;> [exact answer h; (split at h <;> exact answer h)]
  | readStream tag ch => simp only [exec, execReadStream] at h; split at h <;> exact answer h
  | setParam tag k v =>
    simp only [exec, execSetParam] at h
    split at h <;> [exact answer h; exact answer h; exact request (fun _ => Device.setParam_sound) h]
  | setTime tag v => exact request (fun _ => Device.setTime_sound) h
  | poll tag => exact Kept.inbound hs (Kept.just hs Device.poll_sound) h
  | resetLink tag v =>
    exact request (fun _ hd => Device.discardUnsent_sound (Device.linkReset_sound (Device.respond_sound hd))) h
  | resetDrive tag v =>
    simp only [exec, execResetDrive] at h
    split at h <;> [exact request (fun _ hd => Device.driveReset_sound (Device.respond_sound hd)) h;
      exact request (fun _ hd => hd) h]
  | resetChanger tag v => exact request (fun _ hd => Device.changerReset_sound (Device.respond_sound hd)) h
  | linkDown =>
    rw [exec, execLinkDown] at h
    refine run (fun d hd => ?_) h
    have hk : (d.linkReset.discardUnsent fun _ => false).Sound :=
      Device.discardUnsent_sound (Device.linkReset_sound hd)
    generalize d.linkReset.discardUnsent _ = e at hk
    exact hk
  | linkUp => exact Kept.just (g := fun d => { d with link := { d.link with up := true } }) hs (fun hd => hd) h
  | powerOn a b =>
    rw [exec, execPowerOn, State.just_next] at h
    exact h ▸ Device.powerOn_sound a b
  | retentionHoldChange b =>
    exact Kept.just (g := fun d => { d with media := { d.media with holdLine := b } }) hs (fun hd => hd) h
  | mailDoorOpen => exact runIf (fun _ => Device.doorOpens_sound) h
  | mailDoorClosed => exact runIf (fun _ => Device.doorCloses_sound) h
  | compressionCompletion => exact runIf (fun _ hd => Device.offerHeld_sound (Device.compress_sound hd)) h
  | placement => exact runIf (fun _ => Device.offerHeld_sound) h
  | expansionCompletion => exact runIf (fun _ => Device.expansionEnd_sound) h
  | assemblyTimeout f => exact runIf (fun _ => Device.closePending_sound) h
  | oldestBlockTimeout f => exact runIf (fun _ => Device.post_sound) h
  | governorPeriod f => exact runIf (fun _ => Device.periodEnd_sound) h
  | loadCompletion i n r => exact completed (fun _ _ _ => Device.loadEnd_sound) h
  | unloadCompletion i n r => exact completed (fun _ _ _ => Device.unloadEnd_sound) h
  | locateCompletion i n r => exact completed (fun _ _ _ => Device.locateDone_sound) h
  | locateEndCompletion i n r b => exact completed (fun _ _ _ => Device.appendEndFound_sound) h
  | readCompletion i n r b => exact completed (fun _ _ _ => Device.readDone_sound) h
  | writeCompletion i n r => exact completed (fun _ _ _ => Device.writeDone_sound) h
  | speedCompletion i n r => exact completed (fun _ _ _ => Device.speedDone_sound) h
  | cleanCompletion i n r => exact completed (fun _ _ _ => Device.cleanEnd_sound) h
  | cleanRequest i => exact run (fun _ => Device.cleanRequested_sound) h
  | commandTimeout i => exact runIf (fun _ => Device.commandTimedOut_sound) h
  | minimumDwell i => exact runIf (fun _ => Device.post_sound) h
  | idleUnmount i => exact runIf (fun _ => Device.startUnmount_sound) h
  | transferCompletion n r => exact run (fun _ => Device.transferDone_sound) h
  | scanCompletion n r => exact run (fun _ => Device.scanDone_sound) h
  | rehomeCompletion n r => exact run (fun _ => Device.rehomeDone_sound) h
  | orderTimeout =>
    simp only [exec, execOrderTimeout] at h
    split at h <;> [exact run (fun _ => Device.orderTimedOut_sound) h; (cases h; exact hs)]
  | restoreStall ch =>
    simp only [exec, execRestoreStall] at h
    split at h <;> [exact runIf (fun _ => Device.endRestore_sound) h; (cases h; exact hs)]
  | libraryTimeAdvance => exact run (fun _ => Device.second_sound) h
  | entryOverdue i =>
    simp only [exec, execEntryOverdue] at h
    split at h <;> [exact runIf (fun _ hd => Device.post_sound (Device.overdueTest_sound hd)) h; (cases h; exact hs)]
  | outboundFrameLeaves ch =>
    simp only [exec, execOutboundFrameLeaves] at h
    split at h
    · split at h <;> [exact Kept.just hs Device.sendFrame_sound h; (cases h; exact hs)]
    · cases h; exact hs

/-- Settles O6: a step is the front command's, and every command keeps the tables sound. -/
theorem everyStepKeepsTheTablesSound : Obligations.EveryStepKeepsTheTablesSound := by
  intro s t hs h
  unfold step at h
  split at h
  · cases h; exact hs
  · exact exec_sound (by exact hs) h

end Sys2Proof.Machine

/-! ### The forms of a command that is taken, and of one that is not (R174, R185) -/

namespace Sys2Proof.Machine

section
variable {s : State} {tag : Tag} {r : Option RefusalOf} {g : Device → Device} {items : Device → List Item}

theorem State.just_eq (s : State) (g : Device → Device) : s.just g = .next { s with dev := g s.dev } := rfl

/-- A refused request answers its status and changes nothing else (R174). -/
theorem State.request_refused {x : RefusalOf} (up : s.dev.link.up = true) (h : r = some x) :
    s.request tag r g = .next { s with dev := s.dev.respond tag x.status x.items } := by
  subst h; simp [State.request, up, State.just_eq]

/-- A reading request that is not refused answers its results and changes nothing else (R174). -/
theorem State.answer_ok (up : s.dev.link.up = true) (h : r = none) :
    s.answer tag r items = .next { s with dev := s.dev.respond tag .ok (items s.dev) } := by
  subst h; simp [State.answer, up, State.just_eq]

theorem State.answer_refused {x : RefusalOf} (up : s.dev.link.up = true) (h : r = some x) :
    s.answer tag r items = .next { s with dev := s.dev.respond tag x.status x.items } := by
  subst h; simp [State.answer, up, State.just_eq]

theorem State.request_down (down : s.dev.link.up = false) : s.request tag r g = .next s := by
  simp [State.request, down]

theorem State.answer_down (down : s.dev.link.up = false) : s.answer tag r items = .next s := by
  simp [State.answer, down]

theorem State.inbound_down {o : Host.Outcome State Fault Refusal} (down : s.dev.link.up = false) :
    s.inbound o = .next s := by simp [State.inbound, down]

end

/-- The channels outside 1..32 name no stream. -/
theorem streamOf_none {ch : Nat} (h : ch < 1 ∨ 32 < ch) : streamOf? ch = none := by
  unfold streamOf?; rw [dif_neg (by omega)]

/-- The channels outside 33..40 name no restore. -/
theorem restoreOf_none {ch : Nat} (h : ch < 33 ∨ 40 < ch) : restoreOf? ch = none := by
  unfold restoreOf?; rw [dif_neg (by omega)]

theorem finOf_none {n v : Nat} (h : n ≤ v) : finOf? n v = none := by
  unfold finOf?; rw [dif_neg (by omega)]

theorem StreamState.takes_iff {x : StreamState} : x.takes = true ↔ x = .waiting ∨ x = .bound ∨ x = .stalled := by
  cases x <;> simp [StreamState.takes]

theorem StreamState.not_takes_iff {x : StreamState} : x.takes = false ↔ x = .closed ∨ x = .ending := by
  cases x <;> simp [StreamState.takes]

end Sys2Proof.Machine

/-! ### DATA, CUT and END on a stream (R8, R9, R13, R14) -/

namespace Sys2Proof.Machine

/-- While the link is up a DATA frame on a stream channel goes to its stream. -/
theorem exec_data {s : State} (up : s.dev.link.up = true) (c : StreamId) (p : Bytes) :
    exec (.data (streamChannel c) p) s = .next { s with dev := (s.dev.begun.takeData c p).settle } := by
  simp only [exec, execData, State.inbound_up up, streamOf_streamChannel, State.run_eq]

theorem exec_markCut {s : State} (up : s.dev.link.up = true) (c : StreamId) :
    exec (.markCut (streamChannel c)) s = .next { s with dev := (s.dev.begun.takeCut c).settle } := by
  simp only [exec, execMarkCut, State.inbound_up up, streamOf_streamChannel, State.run_eq]

theorem exec_markEnd {s : State} (up : s.dev.link.up = true) (c : StreamId) :
    exec (.markEnd (streamChannel c)) s = .next { s with dev := (s.dev.begun.takeEnd c).settle } := by
  simp only [exec, execMarkEnd, State.inbound_up up, streamOf_streamChannel, State.run_eq]

/-- What a DATA frame does on a stream that takes it: stored with a credit (R8), and an overrun without one (R9). -/
theorem Device.takeData_taken {d : Device} {c : StreamId} {p : Bytes} (ht : (d.stream c).state.takes = true)
    (h1 : 1 ≤ p.length) (h2 : p.length ≤ 4096) :
    d.takeData c p =
      if (d.stream c).credits = 0 then
        (d.modStream c fun s => { s with overruns := min 65535 (s.overruns + 1), gap := true }).raise .streamOverrun
          (.number (streamChannel c))
      else (d.modStream c fun s => s.store p).cutDecision c := by
  have he : p.isEmpty = false := by cases p <;> simp_all
  have hl : ¬ Config.maxPayload < p.length := Nat.not_lt.mpr h2
  simp [Device.takeData, ht, he, hl]

/-- Settles O18: the branch of R8 with credit, and the credit law leaves a slot free. -/
theorem takenDataIsStoredAndSpendsACredit : Obligations.TakenDataIsStoredAndSpendsACredit := by
  intro s c p up h1 h2 hst hcr
  have ht := StreamState.takes_iff.mpr hst
  constructor
  · rw [exec_data up, Device.takeData_taken (d := s.dev.begun) ht h1 h2, if_neg (by exact Nat.ne_of_gt hcr)]
    rfl
  · intro hs
    have law : (s.dev.stream c).credits + (s.dev.stream c).slots.length = 256 :=
      (Device.stream_sound hs c).taking ht
    omega

theorem flagLast_append (before : List Slot) (last : Slot) :
    flagLast (before ++ [last]) = before ++ [{ last with cut := true }] := by
  induction before with
  | nil => rfl
  | cons x xs ih => cases xs <;> simp_all [flagLast]

theorem flagLast_flagLast (l : List Slot) : flagLast (flagLast l) = flagLast l := by
  rcases List.eq_nil_or_concat l with rfl | ⟨before, last, rfl⟩
  · rfl
  · simp [flagLast_append]

/-- The slots' payloads are those of another run of slots. -/
theorem slotsLen_flagLast (l : List Slot) : slotsLen (flagLast l) = slotsLen l := by
  rcases List.eq_nil_or_concat l with rfl | ⟨before, last, rfl⟩
  · rfl
  · simp [flagLast_append, slotsLen]

/-- A CUT mark moves no byte: as many are unconsumed as before. -/
theorem Stream.mark_unconsumed (x : Stream) : x.mark.unconsumed = x.unconsumed := by
  unfold Stream.mark
  split
  · rfl
  · simp [Stream.unconsumed, Stream.unfinished, Stream.offeredLen, slotsLen_flagLast]

theorem Stream.mark_boundary {x : Stream} (h : x.unconsumed = 0) : x.mark = x := by simp [Stream.mark, h]

theorem Stream.mark_inside {x : Stream} (h : 0 < x.unconsumed) : x.mark = { x with slots := flagLast x.slots } := by
  simp [Stream.mark, Nat.ne_of_gt h]

theorem Stream.mark_mark (x : Stream) : x.mark.mark = x.mark := by
  rcases Nat.eq_zero_or_pos x.unconsumed with h | h
  · rw [Stream.mark_boundary h, Stream.mark_boundary h]
  · rw [Stream.mark_inside (x := x.mark) (by rwa [Stream.mark_unconsumed]), Stream.mark_inside h, flagLast_flagLast]

/-- Settles O20: the mark goes to a stream that takes it, and flags the last slot of a ring inside a record. -/
theorem markCutFlagsTheLastSlotOnce : Obligations.MarkCutFlagsTheLastSlotOnce := by
  refine ⟨fun s c up hst => ?_, fun x => ⟨Stream.mark_boundary, fun before last hx h => ?_, x.mark_mark⟩⟩
  · rw [exec_markCut up, Device.takeCut, if_pos (by exact StreamState.takes_iff.mpr hst)]
  · rw [Stream.mark_inside h, hx, flagLast_append]

/-! ### Record cutting (R15, R17) -/

/-- The first cut point: the end of the first slot with a cut flag (Table 1-4). -/
theorem firstCut_eq_some {l : List Slot} {m : Nat} :
    firstCut l = some m ↔ ∃ before y after, l = before ++ y :: after ∧ (∀ z ∈ before, z.cut = false) ∧ y.cut = true ∧
      m = slotsLen (before ++ [y]) := by
  induction l generalizing m with
  | nil => simp [firstCut]
  | cons x xs ih =>
    cases hx : x.cut with
    | true =>
      simp only [firstCut, hx, if_true, Option.some.injEq]
      constructor
      · rintro rfl
        exact ⟨[], x, xs, rfl, by simp, hx, by simp [slotsLen]⟩
      · rintro ⟨before, y, after, hl, hb, hy, rfl⟩
        cases before with
        | nil => simp at hl; simp [slotsLen, hl.1]
        | cons b bs => simp at hl; simp [← hl.1, hx] at hb
    | false =>
      simp only [firstCut, hx, Bool.false_eq_true, if_false, Option.map_eq_some_iff, ih]
      constructor
      · rintro ⟨_, ⟨before, y, after, rfl, hb, hy, rfl⟩, rfl⟩
        exact ⟨x :: before, y, after, rfl, by simpa [hx] using hb, hy, by simp [slotsLen, Nat.add_comm]⟩
      · rintro ⟨before, y, after, hl, hb, hy, rfl⟩
        cases before with
        | nil => simp at hl; simp [← hl.1, hx] at hy
        | cons b bs =>
          simp only [List.cons_append, List.cons.injEq] at hl
          obtain ⟨rfl, rfl⟩ := hl
          exact ⟨_, ⟨bs, y, after, rfl, fun z hz => hb z (by simp [hz]), hy, rfl⟩, by simp [slotsLen, Nat.add_comm]⟩

theorem firstCut_eq_none {l : List Slot} : firstCut l = none ↔ ∀ z ∈ l, z.cut = false := by
  induction l with
  | nil => simp [firstCut]
  | cons x xs ih => cases hx : x.cut <;> simp [firstCut, hx, ih]

theorem clearCut_append {before after : List Slot} {y : Slot} (hb : ∀ z ∈ before, z.cut = false) (hy : y.cut = true) :
    clearCut (before ++ y :: after) = before ++ { y with cut := false } :: after := by
  induction before with
  | nil => simp [clearCut, hy]
  | cons b bs ih =>
    have h : b.cut = false := hb b (by simp)
    simp [clearCut, h, ih fun z hz => hb z (by simp [hz])]

/-- Clearing a cut flag moves no byte. -/
theorem clearCut_payloads (l : List Slot) : (clearCut l).map (·.payload) = l.map (·.payload) := by
  induction l with
  | nil => rfl
  | cons x xs ih => simp only [clearCut]; split <;> simp [ih]

/-- The bytes of a run of slots are those of its payloads. -/
theorem flatMap_payload_congr {l l' : List Slot} (h : l.map (·.payload) = l'.map (·.payload)) :
    l.flatMap (·.payload) = l'.flatMap (·.payload) := by
  rw [List.flatMap_def, List.flatMap_def, h]

theorem slotsLen_congr {l l' : List Slot} (h : l.map (·.payload) = l'.map (·.payload)) : slotsLen l = slotsLen l' := by
  have := congrArg (fun ps : List Bytes => (ps.map List.length).sum) h
  simpa [slotsLen, Function.comp_def] using this

/-- The number of bytes a cut takes. -/
def CutCase.len : CutCase → Nat
  | .mark n => n
  | .plain n => n

/-- Table 1-4, first case: a cut point within the record size. -/
theorem Stream.cutCase_mark {x : Stream} {m : Nat} (hm : firstCut x.slots = some m)
    (h : m - x.byteOffset ≤ x.recordSize) : x.cutCase = some (.mark (m - x.byteOffset)) := by
  simp [Stream.cutCase, hm, Option.filter_some, h]

/-- Table 1-4, the other cases, when no cut point lies within the record size. -/
theorem Stream.cutCase_noMark {x : Stream}
    (h : ∀ m, firstCut x.slots = some m → x.recordSize < m - x.byteOffset) :
    x.cutCase =
      if x.recordSize ≤ x.unconsumed then some (.plain x.recordSize)
      else if (x.state = .ending ∧ 1 ≤ x.unconsumed) ∨ (x.slots.length = 256 ∧ firstCut x.slots = none) then
        some (.plain x.unconsumed)
      else none := by
  have hf : ((firstCut x.slots).map (· - x.byteOffset)).filter (fun n => n ≤ x.recordSize) = none := by
    cases hm : firstCut x.slots with
    | none => rfl
    | some m => simpa using h m hm
  have hn : ((firstCut x.slots).map (· - x.byteOffset)).isNone = (firstCut x.slots).isNone := by simp
  simp only [Stream.cutCase, hf, hn, Stream.occupied, Config.ringSlots, Option.isNone_iff_eq_none]
  split
  · rfl
  · by_cases he : x.state = .ending ∧ 1 ≤ x.unconsumed
    · simp [he]
    · simp [he]

/-- A cut is never longer than the record size and never runs past the first cut point (R15). -/
theorem Stream.cutCase_bounds {x : Stream} {k : CutCase} (h : x.cutCase = some k) :
    k.len ≤ x.recordSize ∧ ∀ m, firstCut x.slots = some m → k.len ≤ m - x.byteOffset := by
  by_cases hm : ∃ m, firstCut x.slots = some m ∧ m - x.byteOffset ≤ x.recordSize
  · obtain ⟨m, hm, hr⟩ := hm
    obtain rfl : CutCase.mark (m - x.byteOffset) = k := by simpa [Stream.cutCase_mark hm hr] using h
    exact ⟨hr, fun m' hm' => by rw [hm] at hm'; cases hm'; exact Nat.le_refl _⟩
  · have hno : ∀ m, firstCut x.slots = some m → x.recordSize < m - x.byteOffset := fun m h1 =>
      Nat.lt_of_not_le fun h2 => hm ⟨m, h1, h2⟩
    have hk : k.len ≤ x.recordSize := by
      rw [Stream.cutCase_noMark hno] at h
      split at h
      · cases h; exact Nat.le_refl _
      · split at h <;> cases h
        simp only [CutCase.len]; omega
    exact ⟨hk, fun m h1 => Nat.le_of_lt (Nat.lt_of_le_of_lt hk (hno m h1))⟩

/-- What a cut writes: the offered record, its count and the next sequence; of the slots at most a cut flag (R15). -/
theorem Stream.cut_eq (x : Stream) (k : CutCase) :
    x.cut k = { x with
      slots := (x.cut k).slots, offered := some ⟨k.len, false, x.nextSeq, x.gap⟩, unconfirmed := x.unconfirmed + 1,
      nextSeq := min Config.max32 (x.nextSeq + 1) } := by
  cases k <;> rfl

theorem Stream.cut_payloads (x : Stream) (k : CutCase) : (x.cut k).slots.map (·.payload) = x.slots.map (·.payload) := by
  cases k with
  | mark n => exact clearCut_payloads x.slots
  | plain n => rfl

/-- A cut leaves every byte in the ring (R15). -/
theorem Stream.cut_bytes (x : Stream) (k : CutCase) : (x.cut k).bytes = x.bytes := by
  have ho : (x.cut k).byteOffset = x.byteOffset := by rw [Stream.cut_eq]
  rw [Stream.bytes, Stream.bytes, ho, flatMap_payload_congr (x.cut_payloads k)]

/-- After a cut its record's bytes are no longer unconsumed. -/
theorem Stream.cut_unconsumed {x : Stream} (k : CutCase) (h : x.offered = none) :
    (x.cut k).unconsumed = x.unconsumed - k.len := by
  have ho : (x.cut k).offeredLen = k.len := by rw [Stream.cut_eq]; rfl
  have hb : (x.cut k).byteOffset = x.byteOffset := by rw [Stream.cut_eq]
  have hu : x.unconsumed = slotsLen x.slots - x.byteOffset := by
    simp [Stream.unconsumed, Stream.unfinished, Stream.offeredLen, h]
  rw [hu, Stream.unconsumed, Stream.unfinished, ho, hb, slotsLen_congr (x.cut_payloads k)]

/-- The first run of slots that holds n bytes holds the first n bytes. -/
theorem takeSlots_bytes (n : Nat) (l : List Slot) :
    (takeSlots n l).flatMap (·.payload) = (l.flatMap (·.payload)).take n := by
  induction l generalizing n with
  | nil => simp [takeSlots]
  | cons x xs ih =>
    simp only [takeSlots]
    split
    · simp_all
    · split
      · rename_i h
        simp [ih, List.take_append, List.take_of_length_le h]
      · rename_i h
        simp [List.take_append, Nat.sub_eq_zero_of_le (Nat.le_of_lt (Nat.lt_of_not_le h))]

/-- Of the bytes in the ring the discard keeps the offered record's, which come first (R17, R20). -/
theorem Stream.dropUnconsumed_bytes {x : Stream} (h : x.offered.isSome = true) :
    x.dropUnconsumed.bytes = x.bytes.take x.offeredLen := by
  have ht := takeSlots_bytes (x.byteOffset + x.offeredLen) x.slots
  have hb : x.bytes.take x.offeredLen = ((takeSlots (x.byteOffset + x.offeredLen) x.slots).flatMap (·.payload)).drop
      x.byteOffset := by rw [ht, List.drop_take, Nat.add_sub_cancel_left, Stream.bytes]
  rw [hb]
  simp only [Stream.dropUnconsumed, h, if_true, Stream.bytes]
  split
  · rename_i he
    simp [he]
  · rfl

/-! ### The record-cutting decision -/

theorem Device.cutDecision_offered {d : Device} {c : StreamId} (h : (d.stream c).offered ≠ none) :
    d.cutDecision c = d := by
  simp [Device.cutDecision, Option.isSome_iff_ne_none.mpr h]

theorem Device.cutDecision_none {d : Device} {c : StreamId} (h : (d.stream c).cutCase = none) :
    d.cutDecision c = d := by
  simp [Device.cutDecision, h]

theorem Device.cutDecision_cut {d : Device} {c : StreamId} {k : CutCase} (ho : (d.stream c).offered = none)
    (h : (d.stream c).cutCase = some k) (hn : (d.stream c).nextSeq ≠ Config.max32) :
    d.cutDecision c = (d.modStream c fun x => x.cut k).post .ceSearch := by
  simp [Device.cutDecision, ho, h, hn, Device.modStream]

/-- The cut of the last sequence (R17). -/
theorem Device.cutDecision_last {d : Device} {c : StreamId} {k : CutCase} (ho : (d.stream c).offered = none)
    (h : (d.stream c).cutCase = some k) (hn : (d.stream c).nextSeq = Config.max32) :
    d.cutDecision c =
      (((if 0 < (d.stream c).unconsumed - k.len then
          (d.modStream c fun x => (x.cut k).atLimit).raise .streamOverrun (.number (streamChannel c))
        else d.modStream c fun x => (x.cut k).atLimit).post .ceSearch).postFeed (d.stream c).feed .feedDecide) := by
  simp [Device.cutDecision, ho, h, hn, Device.modStream, Stream.cut_unconsumed k ho]

/-- The context after the last cut (R17): its record's bytes stay, and what lay beyond them is lost. -/
theorem Stream.cut_atLimit {x : Stream} {k : CutCase} (h : x.offered = none) :
    let y := (x.cut k).atLimit
    let lost := x.unconsumed - k.len
    y.offered = some ⟨k.len, false, x.nextSeq, x.gap⟩ ∧ y.unconfirmed = x.unconfirmed + 1 ∧
      y.bytes = x.bytes.take k.len ∧ y.accepted = x.accepted - lost ∧ y.gap = (x.gap || decide (0 < lost)) := by
  have hb := Stream.dropUnconsumed_bytes (x := x.cut k) (by rw [Stream.cut_eq]; rfl)
  have ho : (x.cut k).offeredLen = k.len := by rw [Stream.cut_eq]; rfl
  rw [ho, Stream.cut_bytes] at hb
  refine ⟨by cases k <;> rfl, by cases k <;> rfl, hb, ?_, ?_⟩
  · show (x.cut k).accepted - (x.cut k).unconsumed = _
    rw [Stream.cut_unconsumed k h, Stream.cut_eq]
  · show ((x.cut k).gap || decide (0 < (x.cut k).unconsumed)) = _
    rw [Stream.cut_unconsumed k h, Stream.cut_eq]

@[simp] theorem Device.event_post (d : Device) (t : Task) (k : EventKind) : (d.post t).event k = d.event k := by
  rw [Device.post_eq]; rfl

@[simp] theorem Device.event_raise (d : Device) (k : EventKind) (a : EventArg) :
    (d.raise k a).event k = some (raiseEvent (d.event k) a) := by
  simp [Device.raise, Device.setEvent, Device.event]

@[simp] theorem Device.stream_raise (d : Device) (k : EventKind) (a : EventArg) (c : StreamId) :
    (d.raise k a).stream c = d.stream c := rfl

@[simp] theorem Device.stream_postFeed (d : Device) (f : Option FeedId) (t : FeedId → Task) (c : StreamId) :
    (d.postFeed f t).stream c = d.stream c := by cases f <;> simp [Device.postFeed]

@[simp] theorem Device.event_postFeed (d : Device) (f : Option FeedId) (t : FeedId → Task) (k : EventKind) :
    (d.postFeed f t).event k = d.event k := by cases f <;> simp [Device.postFeed]

theorem Device.cutDecision_last_stream {d : Device} {c : StreamId} {k : CutCase} (ho : (d.stream c).offered = none)
    (h : (d.stream c).cutCase = some k) (hn : (d.stream c).nextSeq = Config.max32) (y : StreamId) :
    (d.cutDecision c).stream y = if y = c then ((d.stream c).cut k).atLimit else d.stream y := by
  rw [Device.cutDecision_last ho h hn]
  by_cases hy : y = c
  · subst hy; simp; split <;> simp
  · rw [if_neg hy]; simp only [Device.stream_postFeed, Device.stream_post]
    split <;> simp [Device.stream_modStream_ne _ hy]

theorem Device.cutDecision_cut_stream {d : Device} {c : StreamId} {k : CutCase} (ho : (d.stream c).offered = none)
    (h : (d.stream c).cutCase = some k) (hn : (d.stream c).nextSeq ≠ Config.max32) (y : StreamId) :
    (d.cutDecision c).stream y = if y = c then (d.stream c).cut k else d.stream y := by
  rw [Device.cutDecision_cut ho h hn]
  by_cases hy : y = c
  · subst hy; simp
  · simp [hy, Device.stream_modStream_ne _ hy]

/-- STREAM_OVERRUN is raised at the last cut where it loses bytes (R17). -/
theorem Device.cutDecision_last_event {d : Device} {c : StreamId} {k : CutCase} (ho : (d.stream c).offered = none)
    (h : (d.stream c).cutCase = some k) (hn : (d.stream c).nextSeq = Config.max32) :
    (d.cutDecision c).event .streamOverrun =
      if 0 < (d.stream c).unconsumed - k.len then
        some (raiseEvent (d.event .streamOverrun) (.number (streamChannel c)))
      else d.event .streamOverrun := by
  rw [Device.cutDecision_last ho h hn, Device.event_postFeed, Device.event_post]
  split
  · rw [Device.event_raise]; rfl
  · rfl

/-- A decision made due on two devices with one agenda. -/
theorem Device.post_agenda_congr {a b : Device} (h : a.agenda = b.agenda) (t : Task) :
    (a.post t).agenda = (b.post t).agenda := by
  unfold Device.post; rw [h]; split <;> simp_all

/-- Settles O23: the decision by the cut case that Table 1-4 gives, and the table case by case. -/
theorem cutsAreBoundedAndKeepEveryByte : Obligations.CutsAreBoundedAndKeepEveryByte := by
  refine ⟨fun d c => ⟨Device.cutDecision_offered, fun _ => Device.cutDecision_none, ?last, ?cut⟩, fun x => ?table⟩
  case last =>
    intro k ho hk hn n lost y
    have hlen : n = k.len := by cases k <;> rfl
    obtain ⟨h1, h2, h3, h4, h5⟩ := Stream.cut_atLimit (k := k) ho
    have hy : y = ((d.stream c).cut k).atLimit := by
      simp only [y, Device.cutDecision_last_stream ho hk hn, if_true]
    simp only [lost, hy, hlen]
    refine ⟨rfl, rfl, rfl, by rw [h1, hn], h2, h3, h4, h5, Device.cutDecision_last_event ho hk hn, fun z hz => ?_⟩
    rw [Device.cutDecision_last_stream ho hk hn, if_neg hz]
  case cut =>
    intro k ho hk hn n
    have hlen : n = k.len := by cases k <;> rfl
    have hs := Device.cutDecision_cut_stream ho hk (Nat.ne_of_lt hn)
    have hc : (d.cutDecision c).stream c = (d.stream c).cut k := by rw [hs, if_pos rfl]
    obtain ⟨hb, hm⟩ := Stream.cutCase_bounds hk
    rw [hc, hlen]
    refine ⟨?_, by rw [Stream.cut_eq], ?_, by rw [Stream.cut_eq], Stream.cut_bytes _ _, hb, hm, ?_, ?_, fun y hy => ?_⟩
    · rw [Device.cutDecision_cut ho hk (Nat.ne_of_lt hn)]
      exact Device.post_agenda_congr (d.modStream_agenda c _) _
    · rw [Stream.cut_eq]; exact Nat.min_eq_right hn
    · intro hp; rw [hp]; rfl
    · intro before y after hp hl hz hy
      rw [hp]; show clearCut _ = _
      rw [hl, clearCut_append hz hy]
    · rw [hs, if_neg hy]
  case table =>
    intro unread cutAt noMark ends fills
    have hu : unread = x.unconsumed := by
      cases ho : x.offered <;> simp [unread, Stream.unconsumed, Stream.unfinished, Stream.offeredLen, slotsLen, ho]
    have hat : ∀ m, cutAt m ↔ ∃ a, firstCut x.slots = some a ∧ m = a - x.byteOffset := by
      intro m
      constructor
      · rintro ⟨before, y, after, hl, hb, hy, rfl⟩
        exact ⟨_, firstCut_eq_some.mpr ⟨before, y, after, hl, hb, hy, rfl⟩, rfl⟩
      · rintro ⟨a, ha, rfl⟩
        obtain ⟨before, y, after, hl, hb, hy, rfl⟩ := firstCut_eq_some.mp ha
        exact ⟨before, y, after, hl, hb, hy, rfl⟩
    have hcond : ends ∨ fills ↔
        (x.state = .ending ∧ 1 ≤ x.unconsumed) ∨ (x.slots.length = 256 ∧ firstCut x.slots = none) := by
      rw [firstCut_eq_none, ← hu]
    have hno : noMark → ∀ m, firstCut x.slots = some m → x.recordSize < m - x.byteOffset := fun h m hm =>
      h _ ((hat _).mpr ⟨m, hm, rfl⟩)
    rw [hu]
    refine ⟨fun m hm hr => ?_, fun h hr => ?_, fun h hr hc => ?_, fun h hr h1 h2 => ?_⟩
    · obtain ⟨a, ha, rfl⟩ := (hat m).mp hm
      exact Stream.cutCase_mark ha hr
    · rw [Stream.cutCase_noMark (hno h), if_pos hr]
    · rw [Stream.cutCase_noMark (hno h), if_neg (Nat.not_le.mpr hr), if_pos (hcond.mp hc)]
    · rw [Stream.cutCase_noMark (hno h), if_neg (Nat.not_le.mpr hr), if_neg]
      rw [← hcond]
      exact not_or.mpr ⟨h1, h2⟩

end Sys2Proof.Machine

/-! ### The finish of a record (R11) -/

namespace Sys2Proof.Machine

/-- The slots left are the last ones. -/
theorem freeSlots_suffix (n : Nat) (l : List Slot) : (freeSlots n l).1 <:+ l := by
  induction l generalizing n with
  | nil => simp [freeSlots]
  | cons x xs ih =>
    simp only [freeSlots]
    split
    · exact (ih _).trans (List.suffix_cons x xs)
    · exact List.suffix_refl _

/-- Exactly the first n bytes are freed. -/
theorem freeSlots_bytes (n : Nat) (l : List Slot) :
    ((freeSlots n l).1.flatMap (·.payload)).drop (freeSlots n l).2 = (l.flatMap (·.payload)).drop n := by
  induction l generalizing n with
  | nil => simp [freeSlots]
  | cons x xs ih =>
    simp only [freeSlots]
    split
    · rename_i h
      simp [ih, List.drop_append, List.drop_eq_nil_of_le h]
    · rfl

/-- The finished bytes in the first slot left do not fill it: whole slots only are freed. -/
theorem freeSlots_partial {n : Nat} {l : List Slot} {z : Slot} {zs : List Slot} (h : (freeSlots n l).1 = z :: zs) :
    (freeSlots n l).2 < z.payload.length := by
  induction l generalizing n with
  | nil => simp [freeSlots] at h
  | cons x xs ih =>
    simp only [freeSlots] at h ⊢
    split at h
    · rename_i hx
      rw [if_pos hx]; exact ih h
    · rename_i hx
      rw [if_neg hx]
      cases h
      exact Nat.lt_of_not_le hx

theorem freeSlots_empty {n : Nat} {l : List Slot} (h : (freeSlots n l).1 = []) : (freeSlots n l).2 = 0 := by
  induction l generalizing n with
  | nil => rfl
  | cons x xs ih =>
    simp only [freeSlots] at h ⊢
    split at h
    · rename_i hx
      rw [if_pos hx]; exact ih h
    · exact absurd h (by simp)

theorem Device.finishRecord_eq (d : Device) (c : StreamId) :
    d.finishRecord c =
      if (d.stream c).state.takes = true ∧ 0 < (d.stream c).finish.2 then
        ((d.modStream c fun x => { x.finish.1 with credits := x.finish.1.credits + x.finish.2 }).emit
          (.credit c (d.stream c).finish.2)).cutDecision c
      else if (d.stream c).state = .closed then d.modStream c fun x => x.finish.1
      else (d.modStream c fun x => x.finish.1).cutDecision c := rfl

/-- Settles O24: what is freed of the ring, and which of the three ends a finish has. -/
theorem aFinishFreesExactlyTheRecord : Obligations.AFinishFreesExactlyTheRecord := by
  refine ⟨fun x o ho => ?_, fun d c => ⟨fun hst hf => ?_, fun h hc => ?_, fun h => ?_⟩⟩
  · intro y freed
    have hsum : y.slots.length + freed = x.slots.length := Stream.finish_freed x
    have hslots : y.slots = (freeSlots (x.byteOffset + o.rawLen) x.slots).1 := by
      simp [y, Stream.finish, Stream.offeredLen, ho]
    have hoff : y.byteOffset = (freeSlots (x.byteOffset + o.rawLen) x.slots).2 := by
      simp [y, Stream.finish, Stream.offeredLen, ho]
    refine ⟨?_, by omega, ?_, fun z zs hz => ?_, fun hz => ?_, rfl, rfl⟩
    · rw [Stream.bytes, Stream.bytes, hslots, hoff, freeSlots_bytes, List.drop_drop]
    · have hfreed : freed = x.slots.length - y.slots.length := by omega
      rw [hfreed, hslots]
      exact (List.suffix_iff_eq_drop.mp (freeSlots_suffix _ _))
    · rw [hoff]; exact freeSlots_partial (hslots ▸ hz)
    · rw [hoff]; exact freeSlots_empty (hslots ▸ hz)
  · rw [Device.finishRecord_eq, if_pos ⟨StreamState.takes_iff.mpr hst, hf⟩]
  · have hn : ¬((d.stream c).state.takes = true ∧ 0 < (d.stream c).finish.2) := by
      rintro ⟨ht, hf⟩
      rcases h with h | h
      · rw [h] at ht; exact absurd ht (by decide)
      · omega
    rw [Device.finishRecord_eq, if_neg hn, if_neg hc]
  · rw [Device.finishRecord_eq, if_neg (by rw [h]; exact fun ht => absurd ht.1 (by decide)), if_pos h]

/-! ### OPEN_STREAM (R3, R4) -/

/-- A channel that may be opened is not refused (R3). -/
theorem Device.openRefusal_none {d : Device} {c : StreamId} {p : PoolId} {job : Nat} {size : Option Nat}
    {pol : Option (Named Policy)} (h1 : 1 ≤ job) (h2 : job ≤ 0xFFFFFFFF) (hp : p ≠ 0)
    (hsize : ∀ n, size = some n → n ∈ recordSizes) (hpol : pol ≠ some .unknown) (hst : (d.stream c).state = .closed)
    (hl : d.lingering c = false) (htag : ∀ y, (d.stream y).state ≠ .closed → (d.stream y).jobTag ≠ job)
    (hw : (d.pool p).writeEnabled = true) : d.openRefusal (streamChannel c) job p size pol = none := by
  have a1 : (job == 0 || Config.max32 < job || p == 0 || (size.any fun n => !recordSizes.contains n)
      || pol.any namedUnknown) = false := by
    have s : (size.any fun n => !recordSizes.contains n) = false := by
      cases size with
      | none => rfl
      | some n => simpa using hsize n rfl
    have q : pol.any namedUnknown = false := by
      rcases pol with _ | _ | _
      · rfl
      · rfl
      · exact absurd rfl hpol
    have m : ¬ Config.max32 < job := Nat.not_lt.mpr h2
    rw [s, q]; simp [m, hp, Nat.ne_of_gt h1]
  have a2 : (allStreams.any fun x => (d.stream x).state != .closed && (d.stream x).jobTag == job) = false := by
    refine List.any_eq_false.mpr fun y _ => ?_
    by_cases hy : (d.stream y).state = .closed
    · simp [hy]
    · simp [htag y hy]
  simp only [Device.openRefusal, streamOf_streamChannel, finOf_val, a1, a2, hst, hl, hw]
  rfl

/-- What an opening writes (R4): the context, the OK and then the CREDIT, and the wait order. -/
theorem Device.openStream_eq (d : Device) (tag : Tag) (c : StreamId) (job : Nat) (p : PoolId) (size : Nat)
    (pol : Policy) :
    d.openStream tag c job p size pol = ({ d with
      intake := { streams := d.intake.streams.set c ((d.stream c).opened job p size pol),
                  waitOrder := d.intake.waitOrder ++ [c] }
      link := { d.link with
        outbound := d.link.outbound ++
          [.resp tag .ok [numItem "CHANNEL" 1 (streamChannel c)] (some c), .credit c Config.ringSlots] } } :
        Device).post .bind := by
  simp only [Device.openStream, Device.emit, Device.modStream, List.append_assoc, List.cons_append, List.nil_append]

/-- Settles O21: no check refuses the request, and its effect is the opening. -/
theorem openStreamOpensTheStream : Obligations.OpenStreamOpensTheStream := by
  intro s tag c job p size pol up h1 h2 hp hsize hst hl htag hw opened
  have hmem : size ∈ recordSizes := by rcases hsize with rfl | rfl | rfl | rfl | rfl <;> decide
  have run : ∀ sz po, (∀ n, sz = some n → n ∈ recordSizes) → po ≠ some .unknown → sz.getD 65536 = size →
      (namedValue po).getD .adaptive = pol → exec (.openStream tag (c.val + 1) job p sz po) s = opened := by
    rintro sz po hsz hpo rfl rfl
    have hr := Device.openRefusal_none (d := s.dev) h1 h2 hp hsz hpo hst hl htag hw
    show execOpenStream tag (streamChannel c) job p sz po s = _
    rw [execOpenStream, State.request_accepted up hr]
    simp only [streamOf_streamChannel, finOf_val, Device.openStream_eq]
    rfl
  exact ⟨run _ _ (by rintro n ⟨⟩; exact hmem) (by simp) rfl rfl,
    fun hs hpol => run _ _ (by simp) (by simp) (by simp [hs]) (by simp [hpol, namedValue])⟩

end Sys2Proof.Machine

/-! ### Parts closed, and what a close leaves (R71 to R73) -/

namespace Sys2Proof.Machine

theorem Device.mem_post_of_mem {d : Device} {t u : Task} (h : t ∈ d.agenda) : t ∈ (d.post u).agenda := by
  unfold Device.post; split
  · exact h
  · exact List.mem_append_left _ h

@[simp] theorem Device.part?_post (d : Device) (t : Task) (id : Nat) : (d.post t).part? id = d.part? id := by
  rw [Device.post_eq]; rfl

/-- The part a change of one part record leaves under its id. -/
theorem Device.part?_modPart {d : Device} {id : Nat} {g : Part → Part} (hg : ∀ p, (g p).id = p.id) (y : Nat) :
    (d.modPart id g).part? y = if y = id then (d.part? y).map g else d.part? y := by
  have hid : ((fun p : Part => p.id == y) ∘ fun p => if p.id = id then g p else p) = fun p => p.id == y := by
    funext p
    simp only [Function.comp]
    split <;> simp [hg]
  simp only [Device.part?, Device.modPart, List.find?_map, hid]
  cases h : d.map.parts.find? fun p => p.id == y with
  | none => simp
  | some p =>
    obtain rfl : p.id = y := by simpa using List.find?_some h
    split <;> simp_all

/-- A part as its closing leaves it, with the flags of the cause (R71). -/
def Part.closedBy (p : Part) (gap truncated continued : Bool) (time : Nat) : Part :=
  { p.flagged gap truncated continued with state := .closed, closeTime := some time }

/-- The close of an OPEN part (R71). -/
theorem Device.closePart_open {d : Device} {id : Nat} {p : Part} {gap truncated continued : Bool}
    (hp : d.part? id = some p) (ho : p.state = .open) :
    let e := d.closePart id gap truncated continued
    e.part? id = some (p.closedBy gap truncated continued d.mu.time) ∧
    (∀ y, y ≠ id → e.part? y = d.part? y) ∧ Task.verifyNotify p.cart ∈ e.agenda := by
  have he : d.closePart id gap truncated continued =
      (d.modPart id fun p => p.closedBy gap truncated continued d.mu.time).post (.verifyNotify p.cart) := by
    simp only [Device.closePart, hp, ho, if_true]; rfl
  have hm := Device.part?_modPart (d := d) (id := id) (g := fun p => p.closedBy gap truncated continued d.mu.time)
    fun _ => rfl
  simp only [he, Device.part?_post, hm]
  exact ⟨by simp [hp], fun y hy => if_neg hy, Device.mem_post _ _⟩

/-- A close of a part changes the segment map and the agenda alone. -/
theorem Device.closePart_eq (d : Device) (id : Nat) (gap truncated continued : Bool) :
    d.closePart id gap truncated continued = { d with
      map := (d.closePart id gap truncated continued).map
      agenda := (d.closePart id gap truncated continued).agenda } := by
  unfold Device.closePart
  split
  · rfl
  · split
    · rw [Device.post_eq]; rfl
    · rfl

/-- The close of the part a reference names changes the segment map and the agenda alone. -/
theorem Device.closeRef_eq (d : Device) (r : Option PartRef) (gap truncated : Bool) :
    d.closeRef r gap truncated = { d with
      map := (d.closeRef r gap truncated).map, agenda := (d.closeRef r gap truncated).agenda } := by
  unfold Device.closeRef
  split
  · exact d.closePart_eq _ _ _ _
  · rfl

section
variable (d : Device) (r : Option PartRef) (gap truncated : Bool)

@[simp] theorem Device.closeRef_intake : (d.closeRef r gap truncated).intake = d.intake := by rw [Device.closeRef_eq]
@[simp] theorem Device.closeRef_feeds : (d.closeRef r gap truncated).feeds = d.feeds := by rw [Device.closeRef_eq]
@[simp] theorem Device.closeRef_link : (d.closeRef r gap truncated).link = d.link := by rw [Device.closeRef_eq]
@[simp] theorem Device.closeRef_mu : (d.closeRef r gap truncated).mu = d.mu := by rw [Device.closeRef_eq]
@[simp] theorem Device.stream_closeRef (c : StreamId) : (d.closeRef r gap truncated).stream c = d.stream c := by
  simp only [Device.stream, Device.closeRef_intake]
@[simp] theorem Device.feed_closeRef (f : FeedId) : (d.closeRef r gap truncated).feed f = d.feed f := by
  simp only [Device.feed, Device.closeRef_feeds]

end

/-- A reference that names no part closes nothing (R72, R73). -/
theorem Device.closeRef_none {d : Device} {r : Option PartRef} {gap truncated : Bool} (h : r.bind (·.part) = none) :
    d.closeRef r gap truncated = d := by
  simp only [Device.closeRef, refPart, h]

theorem Device.closeRef_some {d : Device} {r : Option PartRef} {id : Nat} {gap truncated : Bool}
    (h : r.bind (·.part) = some id) : d.closeRef r gap truncated = d.closePart id gap truncated false := by
  simp only [Device.closeRef, refPart, h]

/-! ### A stream leaves its feed or the wait order (R18, R20) -/

theorem Device.leaveFeed_none {d : Device} {c : StreamId} (h : (d.stream c).feed = none) :
    d.leaveFeed c = { d with intake := { d.intake with waitOrder := d.intake.waitOrder.filter (· != c) } } := by
  simp only [Device.leaveFeed, h]

theorem Device.leaveFeed_some {d : Device} {c : StreamId} {f : FeedId} (h : (d.stream c).feed = some f) :
    d.leaveFeed c =
      (d.modFeed f fun x => { x with members := x.members.filter (· != ⟨c, (d.stream c).opening⟩) }).post
        (.memberLeft f) := by
  simp only [Device.leaveFeed, h]; rfl

theorem Device.feed_modFeed (d : Device) (f : FeedId) (g : Feed → Feed) :
    (d.modFeed f g).feed f = (d.feed f).map g := Device.feed_setFeed _ _

theorem Device.feed_modFeed_ne {d : Device} {f h : FeedId} (g : Feed → Feed) (hf : h ≠ f) :
    (d.modFeed f g).feed h = d.feed h := Device.feed_setFeed_ne _ hf

@[simp] theorem Device.stream_leaveFeed (d : Device) (c y : StreamId) : (d.leaveFeed c).stream y = d.stream y := by
  unfold Device.leaveFeed; split
  · rfl
  · rw [Device.stream_post]; rfl

@[simp] theorem Device.leaveFeed_map (d : Device) (c : StreamId) : (d.leaveFeed c).map = d.map := by
  unfold Device.leaveFeed; split <;> simp

@[simp] theorem Device.leaveFeed_link (d : Device) (c : StreamId) : (d.leaveFeed c).link = d.link := by
  unfold Device.leaveFeed; split <;> simp

theorem Device.mem_leaveFeed_of_mem {d : Device} {c : StreamId} {t : Task} (h : t ∈ d.agenda) :
    t ∈ (d.leaveFeed c).agenda := by
  unfold Device.leaveFeed; split
  · exact h
  · exact Device.mem_post_of_mem h

/-! ### The closing of a stream (R18, R72) -/

theorem Device.closeIfDone_stays {d : Device} {c : StreamId}
    (h : ¬((d.stream c).state = .ending ∧ (d.stream c).slots = [] ∧ (d.stream c).offered = none ∧
      (d.stream c).unconfirmed = 0)) : d.closeIfDone c = d := by
  simp only [Device.closeIfDone, if_neg h]

theorem Device.closeIfDone_done {d : Device} {c : StreamId}
    (h : (d.stream c).state = .ending ∧ (d.stream c).slots = [] ∧ (d.stream c).offered = none ∧
      (d.stream c).unconfirmed = 0) :
    d.closeIfDone c =
      ((d.closeRef (d.stream c).part (d.stream c).gap false).leaveFeed c).modStream c Stream.closedUp := by
  simp only [Device.closeIfDone, if_pos h]

/-- No cut case holds of an empty ring with a record size. -/
theorem Stream.cutCase_empty {x : Stream} (hs : x.slots = []) (hr : 0 < x.recordSize) : x.cutCase = none := by
  have hu : x.unconsumed = 0 := by simp [Stream.unconsumed, Stream.unfinished, slotsLen, hs]
  rw [Stream.cutCase_noMark (by simp [hs, firstCut]), hu, if_neg (by omega), if_neg (by simp [hs])]

/-- An END mark on a stream with no feed and nothing left closes it at once (R13, R18). -/
theorem Device.takeEnd_done {d : Device} {c : StreamId} (ht : (d.stream c).state.takes = true)
    (hs : (d.stream c).slots = []) (ho : (d.stream c).offered = none) (hu : (d.stream c).unconfirmed = 0)
    (hf : (d.stream c).feed = none) (hp : (d.stream c).part = none) (hr : 0 < (d.stream c).recordSize) :
    d.takeEnd c = { d with
      intake :=
        { streams := d.intake.streams.set c { d.stream c with state := .closed, credits := 0 },
          waitOrder := d.intake.waitOrder.filter (· != c) } } := by
  let e := d.modStream c fun s => { s with state := .ending, credits := 0 }
  have he : e.stream c = { d.stream c with state := .ending, credits := 0 } := Device.stream_modStream c _
  have hcut : e.cutDecision c = e :=
    Device.cutDecision_none (Stream.cutCase_empty (by rw [he]; exact hs) (by rw [he]; exact hr))
  have hdone : e.closeIfDone c = (e.leaveFeed c).modStream c Stream.closedUp := by
    rw [Device.closeIfDone_done (by rw [he]; exact ⟨rfl, hs, ho, hu⟩), Device.closeRef_none (by rw [he]; simp [hp])]
  have hclosed : ({ d.stream c with state := .ending, credits := 0 } : Stream).closedUp =
      { d.stream c with state := .closed, credits := 0 } := by simp only [Stream.closedUp, hf, hp]
  have hend : d.takeEnd c = e.closeIfDone c := by
    simp only [Device.takeEnd, ht, if_true, hf, Device.postFeed]
    exact congrArg (fun x => Device.closeIfDone x c) hcut
  rw [hend, hdone, Device.leaveFeed_none (by rw [he]; exact hf)]
  show ({ d with intake := { streams := e.intake.streams.set c (e.stream c).closedUp,
                             waitOrder := d.intake.waitOrder.filter (· != c) } } : Device) = _
  rw [he, hclosed]
  simp only [e, Device.modStream, Vector.set_set]

/-- What the closing of a stream leaves (R18, R71, R72): the stream CLOSED and out of its feed or the wait order, and its
OPEN part CLOSED with the stream's GAP. -/
theorem Device.closeIfDone_gives (d : Device) (c : StreamId)
    (h : (d.stream c).state = .ending ∧ (d.stream c).slots = [] ∧ (d.stream c).offered = none ∧
      (d.stream c).unconfirmed = 0) :
    let x := d.stream c
    let d' := d.closeIfDone c
    (∀ y, d'.stream y = if y = c then x.closedUp else d.stream y) ∧
    (x.feed = none → d'.intake.waitOrder = d.intake.waitOrder.filter (· != c) ∧ d'.feeds = d.feeds) ∧
    (∀ f y, x.feed = some f → d.feed f = some y →
      d'.feed f = some { y with members := y.members.filter (· != ⟨c, x.opening⟩) } ∧
      (∀ g, g ≠ f → d'.feed g = d.feed g) ∧ Task.memberLeft f ∈ d'.agenda) ∧
    d'.map = (d.closeRef x.part x.gap false).map ∧
    ∀ t, t ∈ (d.closeRef x.part x.gap false).agenda → t ∈ d'.agenda := by
  intro x d'
  let a := d.closeRef x.part x.gap false
  have hd : d' = (a.leaveFeed c).modStream c Stream.closedUp := Device.closeIfDone_done h
  have hx : a.stream c = x := Device.stream_closeRef d x.part x.gap false c
  refine ⟨fun y => ?_, fun hf => ?_, fun f y hf hy => ?_, ?_, fun t ht => ?_⟩
  · rw [hd]
    split
    · rename_i hy
      rw [hy, Device.stream_modStream, Device.stream_leaveFeed, hx]
    · rename_i hy
      rw [Device.stream_modStream_ne _ hy, Device.stream_leaveFeed, Device.stream_closeRef]
  · rw [hd, Device.leaveFeed_none (hx ▸ hf)]
    simp [a, Device.modStream]
  · have hl := Device.leaveFeed_some (d := a) (c := c) (f := f) (hx ▸ hf)
    have hfeed : ∀ g, d'.feed g = (a.leaveFeed c).feed g := fun g => by rw [hd]; rfl
    refine ⟨?_, fun g hg => ?_, ?_⟩
    · rw [hfeed, hl, Device.feed_post, Device.feed_modFeed, Device.feed_closeRef, hy, hx]; rfl
    · rw [hfeed, hl, Device.feed_post, Device.feed_modFeed_ne _ hg, Device.feed_closeRef]
    · rw [hd, Device.modStream_agenda, hl]; exact Device.mem_post _ _
  · rw [hd, Device.modStream_map, Device.leaveFeed_map]
  · rw [hd, Device.modStream_agenda]; exact Device.mem_leaveFeed_of_mem ht

/-! ### A confirmed record counted off (R18, R46, R73) -/

theorem Device.countOff_member {d : Device} {f : FeedId} {y : Feed} {r : Record} (hy : d.feed f = some y)
    (h : r.opening ∈ y.members) :
    d.countOff f r =
      (d.modStream r.opening.chan fun s => { s with unconfirmed := s.unconfirmed - 1 }).closeIfDone r.opening.chan := by
  simp only [Device.countOff, hy, if_pos h]

/-- A record of no member and of no departed entry that waits for it counts for nothing. -/
theorem Device.countOff_stranger {d : Device} {f : FeedId} {y : Feed} {r : Record} (hy : d.feed f = some y)
    (hm : r.opening ∉ y.members) (h : ∀ z ∈ y.departed, z.opening = r.opening → z.lastSeq ≠ r.seq) :
    d.countOff f r = d := by
  have hn : (y.departed.find? fun e => e.opening == r.opening && e.lastSeq == r.seq) = none :=
    List.find?_eq_none.mpr fun z hz hc => by
      simp only [Bool.and_eq_true, beq_iff_eq] at hc
      exact h z hz hc.1 hc.2
  simp only [Device.countOff, hy, if_neg hm, hn]

/-- The last record of a departed entry removes the entry and closes its part with TRUNCATED (R46, R73). -/
theorem Device.countOff_departed {d : Device} {f : FeedId} {y : Feed} {r : Record} {e : Departed}
    {before after : List Departed} (hy : d.feed f = some y) (hm : r.opening ∉ y.members)
    (hl : y.departed = before ++ e :: after) (ho : e.opening = r.opening) (hs : e.lastSeq = r.seq)
    (hne : ∀ z ∈ before ++ after, z.opening ≠ r.opening) :
    d.countOff f r = (d.closeRef e.part false true).setFeed f (some { y with departed := before ++ after }) := by
  have hfind : (y.departed.find? fun e => e.opening == r.opening && e.lastSeq == r.seq) = some e := by
    rw [hl]
    refine List.find?_eq_some_iff_append.mpr ⟨by simp [ho, hs], before, after, rfl, fun z hz => ?_⟩
    simp [hne z (List.mem_append_left _ hz)]
  have hkeep : y.departed.filter (fun e => e.opening != r.opening) = before ++ after := by
    rw [hl, List.filter_append, List.filter_cons, if_neg (by simp [ho]), ← List.filter_append]
    exact List.filter_eq_self.mpr fun z hz => by simpa using hne z hz
  simp only [Device.countOff, hy, if_neg hm, hfind, Device.modFeed, Device.feed_closeRef, Option.map_some, hkeep]

/-- Settles O19: the overrun of R9, the END mark, the closing of a stream, and the confirmed record. -/
theorem overrunsAndClosings : Obligations.OverrunsAndClosings := by
  refine ⟨⟨fun s c p up h1 h2 hst hcr => ?_, fun s c up hst => ⟨?_, fun hs ho hu hf hp hr => ?_⟩⟩, fun d c => ?_,
    fun d f y r hy => ⟨Device.countOff_member hy, Device.countOff_stranger hy, ?_⟩⟩
  · rw [exec_data up, Device.takeData_taken (d := s.dev.begun) (StreamState.takes_iff.mpr hst) h1 h2,
      if_pos (by exact hcr)]
    rfl
  · rw [exec_markEnd up, Device.takeEnd, if_pos (by exact StreamState.takes_iff.mpr hst)]; rfl
  · rw [exec_markEnd up, Device.takeEnd_done (d := s.dev.begun) (StreamState.takes_iff.mpr hst) hs ho hu hf hp hr]
    rfl
  · refine ⟨Device.closeIfDone_stays, fun hst hs ho hu => ?_⟩
    obtain ⟨hstream, hnone, hsome, hmap, hag⟩ := d.closeIfDone_gives c ⟨hst, hs, ho, hu⟩
    refine ⟨by rw [hstream, if_pos rfl]; rfl, fun y hy => by rw [hstream, if_neg hy], hnone, hsome, fun hp => ?_,
      fun id p hid hp hop => ?_⟩
    · rw [hmap, Device.closeRef_none hp]
    · have hclose := Device.closePart_open (gap := (d.stream c).gap) (truncated := false) (continued := false) hp hop
      obtain ⟨hsame, hother, htask⟩ := hclose
      rw [Device.closeRef_some hid] at hmap hag
      have hpart : ∀ y, (d.closeIfDone c).part? y =
          (d.closePart id (d.stream c).gap false false).part? y := fun y => by simp only [Device.part?, hmap]
      refine ⟨?_, fun y hy => (hpart y).trans (hother y hy), hag _ htask⟩
      rw [hpart, hsame]
      simp [Part.closedBy, Part.flagged]
  · intro e before after hm hl ho hs hne
    rw [Device.countOff_departed hy hm hl ho hs hne]
    refine ⟨Device.feed_setFeed _ _, by simp, fun id p hid hp hop => ?_⟩
    rw [Device.closeRef_some hid]
    refine (Device.closePart_open hp hop).1.trans ?_
    simp [Part.closedBy, Part.flagged]

end Sys2Proof.Machine

/-! ### A stream closed at once (R20, R73) -/

namespace Sys2Proof.Machine

/-- The records of the opening that are still to be written after an abort: the untaken record is not (R20, step 1). -/
def Stream.toWrite (x : Stream) : Nat :=
  x.unconfirmed - (match x.offered with
    | some o => if o.taken then 0 else 1
    | none => 0)

theorem Stream.abandon_unconfirmed (x : Stream) : x.abandon.unconfirmed = x.toWrite := by
  unfold Stream.abandon Stream.toWrite Stream.dropUnconsumed
  cases x.offered with
  | none => rfl
  | some o => cases ht : o.taken <;> simp [ht]

/-- Without a taken record the ring is empty afterwards (R20). -/
theorem Stream.abandon_untaken {x : Stream}
    (h : x.offered = none ∨ ∃ o, x.offered = some o ∧ o.taken = false) :
    x.abandon.offered = none ∧ x.abandon.slots = [] := by
  rcases h with h | ⟨o, h, ht⟩
  · simp [Stream.abandon, Stream.dropUnconsumed, h]
  · simp [Stream.abandon, Stream.dropUnconsumed, h, ht]

/-- A taken record's bytes stay (R20). -/
theorem Stream.abandon_taken {x : Stream} {o : Offered} (h : x.offered = some o) (ht : o.taken = true) :
    x.abandon.offered = some o ∧ x.abandon.byteOffset ≤ x.byteOffset ∧
      x.abandon.slots.flatMap (·.payload) = (x.slots.flatMap (·.payload)).take (x.byteOffset + o.rawLen) := by
  have he : x.abandon = x.dropUnconsumed := by simp [Stream.abandon, h, ht]
  have hl : x.offeredLen = o.rawLen := by simp [Stream.offeredLen, h]
  rw [he, ← takeSlots_bytes, ← hl]
  refine ⟨h, ?_, ?_⟩
  · show (if x.dropUnconsumed.slots = [] then 0 else x.byteOffset) ≤ x.byteOffset
    split
    · exact Nat.zero_le _
    · exact Nat.le_refl _
  · simp [Stream.dropUnconsumed, h]

/-- What an abort does before the stream leaves: the records still to be written are handed over (R20, step 6). -/
def Device.handed (d : Device) (c : StreamId) : Device :=
  match (d.stream c).feed with
  | some f => d.handOver c f (d.stream c) (d.stream c).abandon
  | none => d

theorem Device.abort_eq (d : Device) (c : StreamId) :
    d.abort c =
      let e := ((d.handed c).leaveFeed c).modStream c fun _ => (d.stream c).abandon.closedUp
      { e with link := { e.link with outbound := e.link.outbound.filter fun x => !x.isCreditOf c } } := rfl

/-- Records are left to write: the feed gets a departed entry (R46). -/
theorem Device.handed_left {d : Device} {c : StreamId} {f : FeedId} (hf : (d.stream c).feed = some f)
    (h : 0 < (d.stream c).toWrite) :
    d.handed c = d.modFeed f fun x => { x with departed := x.departed ++
      [⟨⟨c, (d.stream c).opening⟩, (d.stream c).jobTag, (d.stream c).part, (d.stream c).lastWritten⟩] } := by
  have hne : ¬ (d.stream c).abandon.unconfirmed = 0 := by rw [Stream.abandon_unconfirmed]; omega
  simp only [Device.handed, hf, Device.handOver, if_neg hne]

/-- No record is left to write: the OPEN part is closed (R73). -/
theorem Device.handed_none {d : Device} {c : StreamId} {f : FeedId} (hf : (d.stream c).feed = some f)
    (h : (d.stream c).toWrite = 0) : d.handed c = d.closeRef (d.stream c).part false true := by
  have hne : (d.stream c).abandon.unconfirmed = 0 := by rw [Stream.abandon_unconfirmed, h]
  simp only [Device.handed, hf, Device.handOver, if_pos hne]

theorem Device.handed_cases (d : Device) (c : StreamId) :
    ((d.stream c).feed = none ∧ d.handed c = d) ∨
    ∃ f, (d.stream c).feed = some f ∧
      ((d.stream c).toWrite = 0 ∧ d.handed c = d.closeRef (d.stream c).part false true ∨
       0 < (d.stream c).toWrite ∧ d.handed c = d.modFeed f fun x => { x with departed := x.departed ++
         [⟨⟨c, (d.stream c).opening⟩, (d.stream c).jobTag, (d.stream c).part, (d.stream c).lastWritten⟩] }) := by
  cases hf : (d.stream c).feed with
  | none => exact .inl ⟨rfl, by simp only [Device.handed, hf]⟩
  | some f =>
    rcases Nat.eq_zero_or_pos (d.stream c).toWrite with h | h
    · exact .inr ⟨f, rfl, .inl ⟨h, Device.handed_none hf h⟩⟩
    · exact .inr ⟨f, rfl, .inr ⟨h, Device.handed_left hf h⟩⟩

@[simp] theorem Device.stream_handed (d : Device) (c y : StreamId) : (d.handed c).stream y = d.stream y := by
  rcases d.handed_cases c with ⟨-, h⟩ | ⟨f, -, ⟨-, h⟩ | ⟨-, h⟩⟩ <;> rw [h]
  · exact Device.stream_closeRef ..
  · rfl

@[simp] theorem Device.handed_link (d : Device) (c : StreamId) : (d.handed c).link = d.link := by
  rcases d.handed_cases c with ⟨-, h⟩ | ⟨f, -, ⟨-, h⟩ | ⟨-, h⟩⟩ <;> rw [h]
  · exact Device.closeRef_link ..
  · rfl

/-- The stream is closed with what its ring keeps, and no other stream is touched (R20). -/
theorem Device.stream_abort (d : Device) (c y : StreamId) :
    (d.abort c).stream y = if y = c then (d.stream c).abandon.closedUp else d.stream y := by
  have h : (d.abort c).stream y =
      (((d.handed c).leaveFeed c).modStream c fun _ => (d.stream c).abandon.closedUp).stream y := rfl
  rw [h]
  split
  · rename_i hy; rw [hy, Device.stream_modStream]
  · rename_i hy; rw [Device.stream_modStream_ne _ hy, Device.stream_leaveFeed, Device.stream_handed]

/-- The unsent frames but the stream's CREDITs stay (log entry 8). -/
theorem Device.abort_outbound (d : Device) (c : StreamId) :
    (d.abort c).link.outbound = d.link.outbound.filter fun x => !x.isCreditOf c := by
  simp [Device.abort_eq]

theorem Device.feed_abort (d : Device) (c : StreamId) (f : FeedId) :
    (d.abort c).feed f = ((d.handed c).leaveFeed c).feed f := rfl

/-- A stream without a feed leaves the wait order (R20). -/
theorem Device.abort_waitOrder {d : Device} {c : StreamId} (h : (d.stream c).feed = none) :
    (d.abort c).intake.waitOrder = ((d.handed c).intake.waitOrder).filter (· != c) := by
  have hl := Device.leaveFeed_none (d := d.handed c) (c := c) (by rw [Device.stream_handed, h])
  simp only [Device.abort_eq, hl]; rfl

/-- A member stream leaves its feed, with a departed entry where records are left to write (R20, R46). -/
theorem Device.abort_feed {d : Device} {c : StreamId} {f : FeedId} {x : Feed} (h : (d.stream c).feed = some f)
    (hx : d.feed f = some x) :
    (d.abort c).feed f = some { x with
      members := x.members.filter (· != ⟨c, (d.stream c).opening⟩)
      departed :=
        if (d.stream c).toWrite = 0 then x.departed
        else x.departed ++
          [⟨⟨c, (d.stream c).opening⟩, (d.stream c).jobTag, (d.stream c).part, (d.stream c).lastWritten⟩] } := by
  have hl : (d.abort c).feed f = ((d.handed c).feed f).map fun x =>
      { x with members := x.members.filter (· != ⟨c, (d.stream c).opening⟩) } := by
    rw [Device.feed_abort, Device.leaveFeed_some (by rw [Device.stream_handed, h]), Device.feed_post,
      Device.feed_modFeed, Device.stream_handed]
  rw [hl]
  split
  · rename_i h0; rw [Device.handed_none h h0, Device.feed_closeRef, hx]; rfl
  · rename_i h0; rw [Device.handed_left h (Nat.pos_of_ne_zero h0), Device.feed_modFeed, hx]; rfl

theorem Device.abort_map (d : Device) (c : StreamId) : (d.abort c).map = (d.handed c).map := by
  simp [Device.abort_eq]

/-- Settles O22: the effect is the abort of the stream behind the OK. -/
theorem abortStreamClosesTheStream : Obligations.AbortStreamClosesTheStream := by
  intro s tag c up hst
  let d := s.dev.begun.respond tag .ok
  have hr : s.dev.abortRefusal (streamChannel c) = none := by
    simp [Device.abortRefusal, firstFailing, hst]
  have hx : d.stream c = s.dev.stream c := rfl
  have hc : (d.abort c).stream c = (s.dev.stream c).abandon.closedUp := by rw [Device.stream_abort, if_pos rfl, hx]
  have hout := d.abort_outbound c
  refine ⟨d.abort c, ?_, ?_⟩
  · show execAbortStream tag (streamChannel c) s = _
    rw [execAbortStream, State.request_accepted up hr]
    simp only [streamOf_streamChannel]
    rfl
  rw [hc, hout]
  refine ⟨rfl, rfl, rfl, rfl, ?_, fun n hn => ?_, fun y hy => ?_, fun hf => ?_, fun f x hf hfx => ?_,
    fun f x hf hfx => ?_, fun h => Stream.abandon_untaken h, fun o ho ht => Stream.abandon_taken ho ht⟩
  · exact List.mem_filter.mpr ⟨List.mem_append_right _ (List.mem_singleton_self _), rfl⟩
  · simpa [OutFrame.isCreditOf] using (List.mem_filter.mp hn).2
  · rw [Device.stream_abort, if_neg hy]; rfl
  · rw [Device.abort_waitOrder (d := d) hf]; simp
  · exact ⟨_, Device.abort_feed (d := d) hf hfx, by simp [hx]⟩
  · have hfeed := Device.abort_feed (d := d) hf hfx
    refine ⟨fun h => ⟨_, hfeed, if_neg (Nat.ne_of_gt h)⟩, fun h => ⟨⟨_, hfeed, if_pos h⟩, fun id p hid hp hop => ?_⟩⟩
    have hmap : (d.abort c).part? id = (d.closePart id false true false).part? id := by
      rw [Device.part?, Device.abort_map, Device.handed_none (d := d) hf h, hx, Device.closeRef_some hid, Device.part?]
    rw [hmap]
    refine (Device.closePart_open (d := d) hp hop).1.trans ?_
    simp [Part.closedBy, Part.flagged, d]

end Sys2Proof.Machine

/-! ### Binding (R5, R45) -/

namespace Sys2Proof.Machine

theorem Stall.any_eq_false {x : Stall} : x.any = false ↔ x = ⟨false, false, false, false⟩ := by
  rcases x with ⟨_, _, _, _⟩
  simp [Stall.any, and_assoc]

theorem Stall.any_eq_true {x : Stall} : x.any = true ↔ x ≠ ⟨false, false, false, false⟩ := by
  rw [ne_eq, ← Stall.any_eq_false]; simp

theorem Device.mem_postAll_of_mem {d : Device} {t : Task} {ts : List Task} (h : t ∈ d.agenda) :
    t ∈ (d.postAll ts).agenda := by
  induction ts generalizing d with
  | nil => exact h
  | cons u us ih => exact ih (d := d.post u) (Device.mem_post_of_mem h)

/-- The lowest-numbered feed with a property. -/
theorem allFeeds_find_eq_some {p : FeedId → Bool} {f : FeedId} :
    allFeeds.find? p = some f ↔ p f = true ∧ ∀ g, g < f → p g = false := by
  rw [allFeeds, ← Fin.find?_eq_find?_finRange, Fin.find?_eq_some_iff]

theorem allFeeds_find_eq_none {p : FeedId → Bool} : allFeeds.find? p = none ↔ ∀ f, p f = false := by
  rw [allFeeds, ← Fin.find?_eq_find?_finRange, Fin.find?_eq_none_iff]

/-- What joining a feed does (R42, R45). -/
theorem Device.join_gives {d : Device} {c : StreamId} {f : FeedId} {y : Feed} (hy : d.feed f = some y) :
    let x := d.stream c
    let e := d.join c f
    e.feed f = some { y with members := y.members ++ [⟨c, x.opening⟩] } ∧ (∀ g, g ≠ f → e.feed g = d.feed g) ∧
    e.stream c = { x with
      feed := some f
      state :=
        if x.state = .waiting then (if y.stall = ⟨false, false, false, false⟩ then .bound else .stalled)
        else x.state } ∧
    (∀ z, z ≠ c → e.stream z = d.stream z) ∧ e.intake.waitOrder = d.intake.waitOrder.filter (· != c) ∧
    e.arb = d.arb ∧ Task.ceSearch ∈ e.agenda := by
  intro x e
  let a := d.setFeed f (some { y with members := y.members ++ [d.opening c] })
  let b := a.modStream c fun s =>
    { s with
      feed := some f,
      state := if s.state = .waiting then (if y.stall.any then .stalled else .bound) else s.state }
  have he : e = ({ b with intake := { b.intake with waitOrder := b.intake.waitOrder.filter (· != c) } } :
      Device).post .ceSearch := by
    simp only [e, Device.join, hy]; rfl
  have hstream : ∀ z, e.stream z = b.stream z := fun z => by rw [he, Device.stream_post]; rfl
  have hfeed : ∀ g, e.feed g = a.feed g := fun g => by rw [he, Device.feed_post]; rfl
  refine ⟨?_, fun g hg => ?_, ?_, fun z hz => ?_, ?_, ?_, ?_⟩
  · rw [hfeed, Device.feed_setFeed]; rfl
  · rw [hfeed, Device.feed_setFeed_ne _ hg]
  · have hb : b.stream c = { x with
        feed := some f
        state := if x.state = .waiting then (if y.stall.any then .stalled else .bound) else x.state } :=
      Device.stream_modStream c _
    have hs : (if y.stall.any then StreamState.stalled else .bound) =
        if y.stall = ⟨false, false, false, false⟩ then .bound else .stalled := by
      simp only [Stall.any_eq_true, ne_eq, ite_not]
    rw [hstream, hb, hs]
  · rw [hstream, Device.stream_modStream_ne _ hz]; rfl
  · rw [he, Device.post_intake]; rfl
  · rw [he, Device.post_arb]; rfl
  · rw [he]; exact Device.mem_post _ _

/-- What placing a feed's claim does (R126): the list is one longer, and the arbiter decides. -/
theorem Device.placeFeedClaim_gives (d : Device) (f : FeedId) (p : PoolId) :
    let e := d.placeClaim .feed (.feed f) (.pool p)
    e.feeds = d.feeds ∧ e.intake = d.intake ∧
    e.arb.claims = d.arb.claims ++
      [{ order := d.arb.nextOrder, kind := .feed, owner := .feed f, target := .pool p }] ∧
    e.arb.nextOrder = d.arb.nextOrder + 1 ∧ Task.arbiter ∈ e.agenda := by
  simp only [Device.placeClaim, Device.postTarget, Device.postAll_feeds, Device.postAll_intake, Device.postAll_arb,
    Device.post_feeds, Device.post_intake, Device.post_arb, true_and]
  exact Device.mem_postAll_of_mem (Device.mem_post _ _)

/-- A feed has room for a stream of the pool (R45). -/
def Device.HasRoom (d : Device) (p : PoolId) (f : FeedId) : Prop :=
  ∃ y, d.feed f = some y ∧ y.pool = p ∧ (y.state = .filling ∨ y.state = .streaming ∨ y.state = .paused) ∧
    y.members.length < (d.pool p).multiplex

/-- The check of R45 on one feed says whether it has room. -/
theorem Device.hasRoom_iff (d : Device) (p : PoolId) (f : FeedId) :
    ((d.feed f).any fun x => x.pool == p && (x.state == .filling || x.state == .streaming || x.state == .paused)
      && x.members.length < (d.pool p).multiplex) = true ↔ d.HasRoom p f := by
  cases hf : d.feed f with
  | none => simp [Device.HasRoom, hf]
  | some y => simp [Device.HasRoom, hf, and_assoc, or_assoc]

theorem Device.joinable_some {d : Device} {p : PoolId} {f : FeedId} (h : d.HasRoom p f)
    (hl : ∀ g, g < f → ¬d.HasRoom p g) : d.joinable p = some f := by
  refine allFeeds_find_eq_some.mpr ⟨(d.hasRoom_iff p f).mpr h, fun g hg => ?_⟩
  exact Bool.eq_false_iff.mpr fun hc => hl g hg ((d.hasRoom_iff p g).mp hc)

theorem Device.joinable_none {d : Device} {p : PoolId} (h : ∀ g, ¬d.HasRoom p g) : d.joinable p = none :=
  allFeeds_find_eq_none.mpr fun g => Bool.eq_false_iff.mpr fun hc => h g ((d.hasRoom_iff p g).mp hc)

theorem Device.freeFeed_some {d : Device} {f : FeedId} (h : d.feed f = none) (hl : ∀ g, g < f → d.feed g ≠ none) :
    d.freeFeed = some f :=
  allFeeds_find_eq_some.mpr ⟨by simp [h], fun g hg => by simpa [Option.isSome_iff_ne_none] using hl g hg⟩

theorem Device.freeFeed_none {d : Device} (h : ∀ g, d.feed g ≠ none) : d.freeFeed = none :=
  allFeeds_find_eq_none.mpr fun g => by simpa [Option.isSome_iff_ne_none] using h g

/-- Settles O31: the three branches of R45, and what joining and placing the claim do. -/
theorem aWaitingStreamFindsAFeed : Obligations.AWaitingStreamFindsAFeed := by
  refine ⟨fun _ => rfl, fun d c => ?_⟩
  intro x e room
  have hroom : ∀ g, room g ↔ d.HasRoom x.pool g := fun g => Iff.rfl
  refine ⟨fun f y hr hl hy => ?_, fun f hno hf hl => ?_, fun hno hall => ?_⟩
  · have he : e = d.join c f := by
      simp only [e, Device.bindOne, Device.joinable_some (p := (d.stream c).pool) hr hl]
    rw [he]
    exact Device.join_gives hy
  · let a := d.setFeed f (some { pool := x.pool, members := [] })
    have he : e = (a.join c f).placeClaim .feed (.feed f) (.pool x.pool) := by
      simp only [e, Device.bindOne, Device.joinable_none (p := (d.stream c).pool) hno, Device.freeFeed_some hf hl]; rfl
    obtain ⟨h1, h2, h3, h4, h5, h6, -⟩ := Device.join_gives (d := a) (c := c) (f := f) (Device.feed_setFeed _ _)
    obtain ⟨p1, p2, p3, p4, p5⟩ := (a.join c f).placeFeedClaim_gives f x.pool
    have hfeed : ∀ g, e.feed g = (a.join c f).feed g := fun g => by rw [he]; simp only [Device.feed, p1]
    have hstream : ∀ z, e.stream z = (a.join c f).stream z := fun z => by rw [he]; simp only [Device.stream, p2]
    refine ⟨(hfeed f).trans h1, fun g hg => ?_, (hstream c).trans h3, fun z hz => (hstream z).trans (h4 z hz), ?_, ?_, ?_,
      by rw [he]; exact p5⟩
    · rw [hfeed, h2 g hg, Device.feed_setFeed_ne _ hg]
    · rw [he, p2, h5]; rfl
    · rw [he, p3, h6]; rfl
    · rw [he, p4, h6]; rfl
  · simp only [e, Device.bindOne, Device.joinable_none (p := (d.stream c).pool) hno, Device.freeFeed_none hall]

end Sys2Proof.Machine

/-! ### Stalls and their members (R6, R42) -/

namespace Sys2Proof.Machine

/-- A declaration changes the members' states alone (R6). -/
theorem Device.declare_eq (d : Device) (ms : List Opening) (g : StreamState → StreamState) :
    d.declare ms g = { d with intake := { d.intake with streams := (d.declare ms g).intake.streams } } := by
  induction ms generalizing d with
  | nil => rfl
  | cons o ms ih => exact ih (d.modStream o.chan fun s => { s with state := g s.state })

/-- Every member follows a declaration, and no other stream (R6). -/
theorem Device.stream_declare {g : StreamState → StreamState} (hg : ∀ x, g (g x) = g x) (d : Device)
    (ms : List Opening) (c : StreamId) :
    (d.declare ms g).stream c =
      if ∃ o ∈ ms, o.chan = c then { d.stream c with state := g (d.stream c).state } else d.stream c := by
  induction ms generalizing d with
  | nil => rw [if_neg (by simp)]; rfl
  | cons o ms ih =>
    have step : (d.declare (o :: ms) g).stream c =
        ((d.modStream o.chan fun s => { s with state := g s.state }).declare ms g).stream c := rfl
    rw [step, ih]
    by_cases ho : o.chan = c
    · subst ho
      rw [Device.stream_modStream, if_pos (⟨o, List.mem_cons_self, rfl⟩ : ∃ x ∈ o :: ms, x.chan = o.chan), hg, ite_self]
    · rw [Device.stream_modStream_ne _ (Ne.symm ho)]
      simp [ho]

theorem StreamState.stall_stall (x : StreamState) : x.stall.stall = x.stall := by cases x <;> rfl

theorem StreamState.recover_recover (x : StreamState) : x.recover.recover = x.recover := by cases x <;> rfl

theorem StreamState.stall_of_ne {x : StreamState} (h : x ≠ .bound) : x.stall = x := by
  cases x <;> first | rfl | exact absurd rfl h

theorem StreamState.recover_of_ne {x : StreamState} (h : x ≠ .stalled) : x.recover = x := by
  cases x <;> first | rfl | exact absurd rfl h

section
variable {d : Device} {f : FeedId} {x : Feed} {g : Stall → Stall}

/-- The causes become not empty: the members are declared stalled (R42). -/
theorem Device.setStall_stalls (hx : d.feed f = some x) (h : x.stall = ⟨false, false, false, false⟩)
    (hg : g x.stall ≠ ⟨false, false, false, false⟩) :
    d.setStall f g = (d.setFeed f (some { x with stall := g x.stall })).declare x.members StreamState.stall := by
  simp only [Device.setStall, hx, Stall.any_eq_false.mpr h, Stall.any_eq_true.mpr hg]
  rfl

/-- The causes become empty: the members are declared recovered, and the CE searches (R42). -/
theorem Device.setStall_recovers (hx : d.feed f = some x) (h : x.stall ≠ ⟨false, false, false, false⟩)
    (hg : g x.stall = ⟨false, false, false, false⟩) :
    d.setStall f g =
      ((d.setFeed f (some { x with stall := g x.stall })).declare x.members StreamState.recover).post .ceSearch := by
  simp only [Device.setStall, hx, Stall.any_eq_true.mpr h, Stall.any_eq_false.mpr hg]
  rfl

/-- Neither: nothing is declared (R42). -/
theorem Device.setStall_same (hx : d.feed f = some x)
    (h : x.stall = ⟨false, false, false, false⟩ ↔ g x.stall = ⟨false, false, false, false⟩) :
    d.setStall f g = d.setFeed f (some { x with stall := g x.stall }) := by
  have ha : x.stall.any = (g x.stall).any := by
    rw [Bool.eq_iff_iff, Stall.any_eq_true, Stall.any_eq_true, not_iff_not]; exact h
  simp only [Device.setStall, hx, ha]
  cases (g x.stall).any <;> rfl

theorem Device.setStall_cases (hx : d.feed f = some x) (g : Stall → Stall) :
    let a := d.setFeed f (some { x with stall := g x.stall })
    d.setStall f g = a ∨ d.setStall f g = a.declare x.members StreamState.stall ∨
      d.setStall f g = (a.declare x.members StreamState.recover).post .ceSearch := by
  simp only [Device.setStall, hx]
  split
  · exact .inr (.inl rfl)
  · split
    · exact .inr (.inr rfl)
    · exact .inl rfl

/-- The feed takes its causes, and no other feed changes, nor any time (R42). -/
theorem Device.setStall_feeds (hx : d.feed f = some x) (g : Stall → Stall) :
    (d.setStall f g).feeds = (d.setFeed f (some { x with stall := g x.stall })).feeds ∧
      (d.setStall f g).mu = d.mu := by
  rcases Device.setStall_cases hx g with h | h | h <;> rw [h]
  · exact ⟨rfl, rfl⟩
  · rw [Device.declare_eq]; exact ⟨rfl, rfl⟩
  · rw [Device.post_feeds, Device.post_mu, Device.declare_eq]; exact ⟨rfl, rfl⟩

theorem Device.feed_setStall (hx : d.feed f = some x) (g : Stall → Stall) (h : FeedId) :
    (d.setStall f g).feed h = if h = f then some { x with stall := g x.stall } else d.feed h := by
  have hf : (d.setStall f g).feed h = (d.setFeed f (some { x with stall := g x.stall })).feed h := by
    simp only [Device.feed, (Device.setStall_feeds hx g).1]
  rw [hf]
  split
  · rename_i hh; rw [hh, Device.feed_setFeed]
  · rename_i hh; rw [Device.feed_setFeed_ne _ hh]

/-- What a stall does to the streams (R6, R42): BOUND members become STALLED. -/
theorem Device.stream_setStall_stalls (hx : d.feed f = some x) (h : x.stall = ⟨false, false, false, false⟩)
    (hg : g x.stall ≠ ⟨false, false, false, false⟩) (c : StreamId) :
    ((∃ o ∈ x.members, o.chan = c) → (d.stream c).state = .bound →
      (d.setStall f g).stream c = { d.stream c with state := .stalled }) ∧
    (¬(∃ o ∈ x.members, o.chan = c) ∨ (d.stream c).state ≠ .bound → (d.setStall f g).stream c = d.stream c) := by
  rw [Device.setStall_stalls hx h hg, Device.stream_declare StreamState.stall_stall]
  refine ⟨fun hm hb => ?_, fun hor => ?_⟩
  · rw [if_pos hm]
    show { d.stream c with state := (d.stream c).state.stall } = _
    rw [hb]; rfl
  · split
    · rename_i hm
      show { d.stream c with state := (d.stream c).state.stall } = d.stream c
      rw [StreamState.stall_of_ne (hor.resolve_left fun hn => hn hm)]
    · rfl

/-- What a recovery does to the streams (R6, R42): STALLED members become BOUND. -/
theorem Device.stream_setStall_recovers (hx : d.feed f = some x) (h : x.stall ≠ ⟨false, false, false, false⟩)
    (hg : g x.stall = ⟨false, false, false, false⟩) (c : StreamId) :
    ((∃ o ∈ x.members, o.chan = c) → (d.stream c).state = .stalled →
      (d.setStall f g).stream c = { d.stream c with state := .bound }) ∧
    (¬(∃ o ∈ x.members, o.chan = c) ∨ (d.stream c).state ≠ .stalled → (d.setStall f g).stream c = d.stream c) := by
  rw [Device.setStall_recovers hx h hg, Device.stream_post, Device.stream_declare StreamState.recover_recover]
  refine ⟨fun hm hb => ?_, fun hor => ?_⟩
  · rw [if_pos hm]
    show { d.stream c with state := (d.stream c).state.recover } = _
    rw [hb]; rfl
  · split
    · rename_i hm
      show { d.stream c with state := (d.stream c).state.recover } = d.stream c
      rw [StreamState.recover_of_ne (hor.resolve_left fun hn => hn hm)]
    · rfl

end

/-! ### Closes of the assembly block (R48) -/

section
variable {d : Device} {f : FeedId} {x : Feed} {a : Assembly}

theorem Device.closePending_room (hx : d.feed f = some x) (ha : x.assembly = some a) (h : x.staging.length < 64) :
    d.closePending f = (d.setFeed f (some (x.close d.mu.elapsed))).post (.feedDecide f) := by
  simp only [Device.closePending, hx, ha]
  exact if_pos h

theorem Device.closePending_full (hx : d.feed f = some x) (ha : x.assembly = some a) (h : 64 ≤ x.staging.length) :
    d.closePending f = d.setFeed f (some { x with assembly := some { a with closePending := true } }) := by
  simp only [Device.closePending, hx, ha]
  exact if_neg (Nat.not_lt.mpr h)

theorem Device.closePending_none (hx : d.feed f = some x) (ha : x.assembly = none) : d.closePending f = d := by
  simp only [Device.closePending, hx, ha]

/-- A close is of one feed, and makes at most a dispatch decision due. -/
theorem Device.closePending_cases (d : Device) (f : FeedId) :
    ∃ v, d.closePending f = d ∨ d.closePending f = d.setFeed f v ∨
      d.closePending f = (d.setFeed f v).post (.feedDecide f) := by
  unfold Device.closePending
  split
  · exact ⟨none, .inl rfl⟩
  · split
    · exact ⟨none, .inl rfl⟩
    · split
      · exact ⟨_, .inr (.inr rfl)⟩
      · exact ⟨_, .inr (.inl rfl)⟩

theorem Device.closePending_rest (d : Device) (f : FeedId) :
    (d.closePending f).intake = d.intake ∧ ∀ g, g ≠ f → (d.closePending f).feed g = d.feed g := by
  obtain ⟨v, h | h | h⟩ := d.closePending_cases f <;> rw [h]
  · exact ⟨rfl, fun _ _ => rfl⟩
  · exact ⟨rfl, fun _ hg => Device.feed_setFeed_ne _ hg⟩
  · exact ⟨by simp, fun _ hg => by rw [Device.feed_post, Device.feed_setFeed_ne _ hg]⟩

theorem Feed.close_some (ha : x.assembly = some a) (now : Nat) :
    x.close now = { x with
      staging := x.staging ++ [⟨x.nextDseq, now, a.records, a.used⟩], nextDseq := x.nextDseq + 1, assembly := none,
      periodCount :=
        if x.state = .streaming ∨ x.state = .paused then min 4095 (x.periodCount + 1) else x.periodCount } := by
  simp only [Feed.close, ha]

end

/-! ### A span trigger (R57) -/

/-- A feed as a span trigger leaves it, before its assembly block is closed (R57). -/
def Feed.spanned (x : Feed) (full : Bool) : Feed :=
  { x with
    state := .spanning, spanFull := full, suspending := false, stall := { x.stall with span := true, suspend := false } }

theorem Device.spanTrigger_spanning {d : Device} {f : FeedId} {x : Feed} (hx : d.feed f = some x)
    (h : x.state = .spanning) (full : Bool) :
    d.spanTrigger f full = d.setFeed f (some { x with spanFull := x.spanFull || full }) := by
  simp only [Device.spanTrigger, hx, if_pos h]

/-- A first span trigger (R57): the feed takes SPANNING with SPAN, its assembly block is closed, and its progress is
due. -/
theorem Device.spanTrigger_first {d : Device} {f : FeedId} {x : Feed} (hx : d.feed f = some x)
    (h : x.state ≠ .spanning) (full : Bool) :
    ∃ b : Device, d.spanTrigger f full = (b.closePending f).post (.feedProgress f) ∧
      b.feed f = some (x.spanned full) ∧ (∀ g, g ≠ f → b.feed g = d.feed g) ∧ b.mu = d.mu ∧
      (x.stall = ⟨false, false, false, false⟩ → ∀ o ∈ x.members, (d.stream o.chan).state = .bound →
        b.stream o.chan = { d.stream o.chan with state := .stalled }) := by
  let y : Feed := { x with state := .spanning, spanFull := full, suspending := false }
  let a := d.setFeed f (some y)
  have hy : a.feed f = some y := Device.feed_setFeed _ _
  let g : Stall → Stall := fun s => { s with span := true, suspend := false }
  refine ⟨a.setStall f g, ?_, ?_, fun k hk => ?_, (Device.setStall_feeds hy g).2, fun hst o ho hb => ?_⟩
  · simp only [Device.spanTrigger, hx, if_neg h]; rfl
  · rw [Device.feed_setStall hy, if_pos rfl]; rfl
  · rw [Device.feed_setStall hy, if_neg hk, Device.feed_setFeed_ne _ hk]
  · exact (Device.stream_setStall_stalls (g := g) hy hst (by simp [g]) o.chan).1 ⟨o, ho, rfl⟩ hb

end Sys2Proof.Machine

/-! ### Dispatch decisions (R48, R50) -/

namespace Sys2Proof.Machine

/-- The part of a dispatch decision between the closes: the span trigger, the start, the dispatch (R50). -/
def Device.decided (d : Device) (f : FeedId) : Device :=
  match d.feed f with
  | none => d
  | some x =>
    let active := x.state == .filling || x.state == .streaming || x.state == .paused || x.state == .retiring
    match x.cart.bind d.cart with
    | none => d
    | some e =>
      if !active || x.suspending then d
      else if !writable e x then d.spanTrigger f (reserveBroken e x)
      else if x.state == .streaming || x.state == .retiring then Device.dispatchLoop f 5 d
      else if d.startCondition x then Device.dispatchLoop f 5 (d.setFeed f (some (x.start d.now)))
      else d

theorem Device.feedDecide_eq (d : Device) (f : FeedId) :
    d.feedDecide f = ((((d.closeDrained f).closeWaiting f).decided f).closeWaiting f).feedProgress f := rfl

section
variable {d : Device} {f : FeedId} {x : Feed} {c : CartId} {e : Cart}

theorem writable_iff : writable e x = true ↔
    e.protection = some .writable ∧ e.full = some false ∧ reserveBroken e x = false := by
  simp [writable, and_assoc]

/-- A feed not in FILLING, STREAMING, PAUSED or RETIRING dispatches nothing (R50). -/
theorem Device.decided_idle (hx : d.feed f = some x)
    (h : x.state = .unbound ∨ x.state = .spanning ∨ x.state = .suspended) :
    d.decided f = d := by
  have ha : (x.state == .filling || x.state == .streaming || x.state == .paused || x.state == .retiring) = false := by
    rcases h with h | h | h <;> rw [h] <;> rfl
  simp only [Device.decided, hx, ha, Bool.not_false, Bool.true_or, if_true]
  split <;> rfl

/-- In the active states the span trigger comes first, then the dispatch or the start (R50). -/
theorem Device.decided_active (hx : d.feed f = some x) (hc : x.cart = some c) (he : d.cart c = some e)
    (hs : x.suspending = false)
    (h : x.state = .filling ∨ x.state = .streaming ∨ x.state = .paused ∨ x.state = .retiring) :
    d.decided f =
      if !writable e x then d.spanTrigger f (reserveBroken e x)
      else if x.state == .streaming || x.state == .retiring then Device.dispatchLoop f 5 d
      else if d.startCondition x then Device.dispatchLoop f 5 (d.setFeed f (some (x.start d.now)))
      else d := by
  have ha : (x.state == .filling || x.state == .streaming || x.state == .paused || x.state == .retiring) = true := by
    rcases h with h | h | h | h <;> rw [h] <;> rfl
  have hb : x.cart.bind d.cart = some e := by rw [hc]; exact he
  simp only [Device.decided, hx, hb, ha, hs]
  rfl

theorem Device.decided_spans (hx : d.feed f = some x) (hc : x.cart = some c) (he : d.cart c = some e)
    (hs : x.suspending = false)
    (h : x.state = .filling ∨ x.state = .streaming ∨ x.state = .paused ∨ x.state = .retiring)
    (hw : writable e x = false) : d.decided f = d.spanTrigger f (reserveBroken e x) := by
  rw [Device.decided_active hx hc he hs h, hw]; rfl

theorem Device.decided_dispatches (hx : d.feed f = some x) (hc : x.cart = some c) (he : d.cart c = some e)
    (hs : x.suspending = false) (h : x.state = .streaming ∨ x.state = .retiring) (hw : writable e x = true) :
    d.decided f = Device.dispatchLoop f 5 d := by
  rw [Device.decided_active hx hc he hs (by tauto), hw]
  rcases h with h | h <;> rw [h] <;> rfl

theorem Device.decided_waits (hx : d.feed f = some x) (hc : x.cart = some c) (he : d.cart c = some e)
    (hs : x.suspending = false) (h : x.state = .filling ∨ x.state = .paused) (hw : writable e x = true) :
    d.decided f =
      if d.startCondition x then Device.dispatchLoop f 5 (d.setFeed f (some (x.start d.now))) else d := by
  rw [Device.decided_active hx hc he hs (by tauto), hw]
  rcases h with h | h <;> rw [h] <;> rfl

theorem Device.startCondition_iff (d : Device) (x : Feed) :
    d.startCondition x = true ↔ d.mu.params.startLevel ≤ x.staging.length ∨ ∃ b bs, x.staging = b :: bs ∧
      (b.closeTime + d.mu.params.assemblyTimeout < d.mu.elapsed ∨
        ∀ o ∈ x.members, (d.stream o.chan).state = .ending) := by
  rw [Device.startCondition, Device.now, Bool.or_eq_true, decide_eq_true_eq]
  cases x.staging with
  | nil => simp
  | cons b bs => simp

theorem Device.drained_iff (d : Device) (x : Feed) :
    d.drained x = true ↔ x.held = false ∧ ∀ o ∈ x.members,
      (d.stream o.chan).state = .ending ∧ (d.stream o.chan).slots = [] ∧ (d.stream o.chan).offered = none := by
  simp [Device.drained, and_assoc]

/-- Without an assembly block there is nothing to close. -/
theorem Device.closeDrained_none (hx : d.feed f = some x) (ha : x.assembly = none) : d.closeDrained f = d := by
  simp [Device.closeDrained, hx, ha]

theorem Device.closeWaiting_none (hx : d.feed f = some x) (ha : x.assembly = none) : d.closeWaiting f = d := by
  simp [Device.closeWaiting, hx, ha]

variable {a : Assembly}

theorem Device.closeDrained_some (hx : d.feed f = some x) (ha : x.assembly = some a) :
    d.closeDrained f = if d.drained x then d.closePending f else d := by
  simp [Device.closeDrained, hx, ha]

theorem Device.closeWaiting_some (hx : d.feed f = some x) (ha : x.assembly = some a) :
    d.closeWaiting f = if a.closePending then d.closePending f else d := by
  simp [Device.closeWaiting, hx, ha]

/-- FILLING and PAUSED with nothing suspended make no progress of their own. -/
theorem Device.feedProgress_waits (hx : d.feed f = some x) (h : x.state = .filling ∨ x.state = .paused)
    (hs : x.suspending = false) : d.feedProgress f = d := by
  rcases h with h | h <;> simp [Device.feedProgress, hx, h, hs]

/-- A feed whose block waits to be closed, and that has room, closes it: what the closes before a dispatch decision leave
(R48). -/
theorem Device.closes_room (hx : d.feed f = some x) (ha : x.assembly = some a)
    (h : d.drained x = true ∨ a.closePending = true) (hr : x.staging.length < 64) :
    (d.closeDrained f).closeWaiting f = (d.setFeed f (some (x.close d.mu.elapsed))).post (.feedDecide f) := by
  have hp := Device.closePending_room hx ha hr
  rw [Device.closeDrained_some hx ha]
  split
  · rw [hp]
    refine Device.closeWaiting_none (x := x.close d.mu.elapsed) (by simp) ?_
    rw [Feed.close_some ha]
  · rename_i hd
    rw [Device.closeWaiting_some hx ha, if_pos (h.resolve_left hd), hp]

/-- One that has no room stays close-pending (R48). -/
theorem Device.closes_full (hx : d.feed f = some x) (ha : x.assembly = some a)
    (h : d.drained x = true ∨ a.closePending = true) (hr : 64 ≤ x.staging.length) :
    (d.closeDrained f).closeWaiting f =
      d.setFeed f (some { x with assembly := some { a with closePending := true } }) := by
  have hp := Device.closePending_full hx ha hr
  rw [Device.closeDrained_some hx ha]
  split
  · let y : Feed := { x with assembly := some { a with closePending := true } }
    have hy : (d.setFeed f (some y)).feed f = some y := Device.feed_setFeed _ _
    rw [hp, Device.closeWaiting_some hy rfl, if_pos rfl, Device.closePending_full hy rfl hr, Device.setFeed_setFeed]
  · rename_i hd
    rw [Device.closeWaiting_some hx ha, if_pos (h.resolve_left hd), hp]

end

/-- Settles O32: the branches of the dispatch decision, the underrun, the span trigger, the stalls and the closes. -/
theorem startsUnderrunsSpansAndStalls : Obligations.StartsUnderrunsSpansAndStalls := by
  refine ⟨⟨?decide, ?underrun, ?span, ?stall⟩, ?closes⟩
  case decide =>
    intro d f x c e hx hc he ha hs broken writes starts goesOn
    have hw : writes ↔ writable e x = true := by
      rw [writable_iff, reserveBroken, decide_eq_false_iff_not]; rfl
    have hstart : starts ↔ d.startCondition x = true := (d.startCondition_iff x).symm
    have hd : d.feedDecide f = ((d.decided f).closeWaiting f).feedProgress f := by
      rw [Device.feedDecide_eq, Device.closeDrained_none hx ha, Device.closeWaiting_none hx ha]
    refine ⟨fun h hn => ?_, fun h hw' hn => ?_, fun h hw' hst => ?_, fun h hw' hst => ?_, fun h hw' => ?_, fun h => ?_⟩
    · rw [hd, Device.decided_spans hx hc he hs h (Bool.eq_false_iff.mpr fun hc => hn (hw.mpr hc))]; rfl
    · rw [hd, Device.decided_waits hx hc he hs h (hw.mp hw'), if_neg fun hc => hn (hstart.mpr hc),
        Device.closeWaiting_none hx ha, Device.feedProgress_waits hx h hs]
    · rw [hd, Device.decided_waits hx hc he hs (.inl h) (hw.mp hw'), if_pos (hstart.mp hst), Feed.start, if_pos h]; rfl
    · have hne : x.state ≠ .filling := by rw [h]; decide
      rw [hd, Device.decided_waits hx hc he hs (.inr h) (hw.mp hw'), if_pos (hstart.mp hst), Feed.start, if_neg hne]
    · rw [hd, Device.decided_dispatches hx hc he hs h (hw.mp hw')]
    · rw [hd, Device.decided_idle hx h, Device.closeWaiting_none hx ha]
  case underrun =>
    intro d f x hx runsDry
    have hr : runsDry ↔ x.state = .streaming ∧ x.flights = [] ∧ x.staging = [] ∧
        (x.members.any fun o => (d.stream o.chan).state != .ending) = true := by
      simp [runsDry]
    constructor
    · intro h; simp only [Device.underrun, hx, if_pos (hr.mp h)]
    · intro h; simp only [Device.underrun, hx, if_neg fun hc => h (hr.mpr hc)]
  case span =>
    intro d f x full hx e y
    refine ⟨fun h => Device.spanTrigger_spanning hx h full, fun h => ?_⟩
    obtain ⟨b, hb, hfeed, hother, hmu, hstall⟩ := Device.spanTrigger_first hx h full
    have he : ∀ k, e.feed k = (b.closePending f).feed k := fun k => by simp only [e, hb, Device.feed_post]
    obtain ⟨hintake, hrest⟩ := b.closePending_rest f
    refine ⟨fun ha => ?_, fun a ha hr => ?_, fun a ha hr => ?_, fun k hk => ?_, fun hst o ho hbound => ?_, ?_⟩
    · rw [he, Device.closePending_none hfeed ha, hfeed]; rfl
    · rw [he, Device.closePending_room (x := x.spanned full) hfeed ha hr, Device.feed_post, Device.feed_setFeed,
        Feed.close_some (x := x.spanned full) ha, hmu]
      rfl
    · rw [he, Device.closePending_full (x := x.spanned full) hfeed ha hr, Device.feed_setFeed]; rfl
    · rw [he, hrest k hk, hother k hk]
    · have hs : e.stream o.chan = b.stream o.chan := by
        simp only [e, hb, Device.stream_post]; simp only [Device.stream, hintake]
      rw [hs, hstall hst o ho hbound]
    · simp only [e, hb]; exact Device.mem_post _ _
  case stall =>
    intro d f x g hx e clear member
    refine ⟨(Device.feed_setStall hx g f).trans (if_pos rfl), fun k hk => (Device.feed_setStall hx g k).trans (if_neg hk),
      Device.stream_setStall_stalls hx, fun h hg => ⟨?_, Device.stream_setStall_recovers hx h hg⟩, fun h => ?_⟩
    · simp only [e, Device.setStall_recovers hx h hg]; exact Device.mem_post _ _
    · simp only [e, Device.setStall_same hx h]; exact ⟨rfl, rfl⟩
  case closes =>
    intro d f x a hx ha drained closed pending
    have hdr : drained ↔ d.drained x = true := (d.drained_iff x).symm
    have hclosed : closed = (d.setFeed f (some (x.close d.mu.elapsed))).post (.feedDecide f) := by
      rw [Feed.close_some ha]
    have hcf : closed.feed f = some (x.close d.mu.elapsed) := by rw [hclosed]; simp
    have hca : (x.close d.mu.elapsed).assembly = none := by rw [Feed.close_some ha]
    have hpf : pending.feed f = some { x with assembly := some { a with closePending := true } } :=
      Device.feed_setFeed _ _
    refine ⟨fun h hr => ?_, fun h hr => ?_, fun h => ?_, fun h hr => ?_, fun h hr => ?_⟩
    · rw [Device.feedDecide_eq, Device.feedDecide_eq, Device.closes_room hx ha (h.imp_left hdr.mp) hr, ← hclosed,
        Device.closeDrained_none hcf hca, Device.closeWaiting_none hcf hca]
    · rw [Device.feedDecide_eq, Device.feedDecide_eq pending, Device.closes_full hx ha (h.imp_left hdr.mp) hr,
        Device.closes_full hpf rfl (.inr rfl) hr]
      simp only [pending, Device.setFeed_setFeed]
    · rw [Device.closeDrained_some hx ha, if_neg fun hc => h (hdr.mpr hc)]
    · rw [Device.closeDrained_some hx ha, if_pos (hdr.mp h), Device.closePending_room hx ha hr, ← hclosed]
    · rw [Device.closeDrained_some hx ha, if_pos (hdr.mp h), Device.closePending_full hx ha hr]

end Sys2Proof.Machine

/-! ### Outbound frames (R4, R183, R188) -/

namespace Sys2Proof.Machine

/-- A run of frames without one of the channel is passed over; the streams whose OK it holds are remembered (R4). -/
theorem takeFrame_append {ch : Nat} {before : List OutFrame} (hb : ∀ g ∈ before, g.channel ≠ ch) :
    ∀ opened : List StreamId, ∃ opened' : List StreamId,
      (∀ c, c ∈ opened' ↔ c ∈ opened ∨ ∃ tag st is, OutFrame.resp tag st is (some c) ∈ before) ∧
      ∀ fs, takeFrame ch opened (before ++ fs) = (takeFrame ch opened' fs).map fun x => (x.1, before ++ x.2) := by
  induction before with
  | nil => exact fun opened => ⟨opened, by simp, fun fs => by simp⟩
  | cons b bs ih =>
    intro opened
    have hne : b.channel ≠ ch := hb b List.mem_cons_self
    have hbs := ih fun g hg => hb g (List.mem_cons_of_mem b hg)
    have pass : ∀ opened₁, (∀ c, c ∈ opened₁ ↔ c ∈ opened ∨ ∃ tag st is, OutFrame.resp tag st is (some c) = b) →
        (∀ fs, takeFrame ch opened (b :: fs) = (takeFrame ch opened₁ fs).map fun x => (x.1, b :: x.2)) →
        ∃ opened' : List StreamId,
          (∀ c, c ∈ opened' ↔ c ∈ opened ∨ ∃ tag st is, OutFrame.resp tag st is (some c) ∈ b :: bs) ∧
          ∀ fs, takeFrame ch opened (b :: bs ++ fs) =
            (takeFrame ch opened' fs).map fun x => (x.1, b :: bs ++ x.2) := fun opened₁ h₁ h₂ => by
      obtain ⟨opened', h₃, h₄⟩ := hbs opened₁
      refine ⟨opened', fun c => ?_, fun fs => ?_⟩
      · rw [h₃, h₁, or_assoc]
        simp only [List.mem_cons, exists_or]
      · rw [List.cons_append, h₂, h₄, Option.map_map]; rfl
    cases b with
    | resp tag st is opens =>
      cases opens with
      | none => exact pass opened (by simp) fun fs => by simp [takeFrame, hne]
      | some c =>
        refine pass (c :: opened) (fun y => ?_) fun fs => by simp [takeFrame, hne]
        simp [or_comm, eq_comm]
    | credit c n => exact pass opened (by simp) fun fs => by simp [takeFrame, hne]
    | rdata r p q o b => exact pass opened (by simp) fun fs => by simp [takeFrame, hne]
    | rmark r p m st e => exact pass opened (by simp) fun fs => by simp [takeFrame, hne]

/-- A CREDIT behind the OK of its stream's opening does not leave (R4). -/
theorem takeFrame_held {before after : List OutFrame} {c : StreamId} {n : Nat}
    (hb : ∀ g ∈ before, g.channel ≠ c.val + 1) (h : ∃ tag st is, OutFrame.resp tag st is (some c) ∈ before) :
    takeFrame (c.val + 1) [] (before ++ .credit c n :: after) = none := by
  obtain ⟨opened, ho, ht⟩ := takeFrame_append hb []
  have hc : c ∈ opened := (ho c).mpr (.inr h)
  simp [ht, takeFrame, hc, OutFrame.channel, streamChannel]

/-- Any other frame that is the oldest of its channel leaves (R4, R183). -/
theorem takeFrame_oldest {before after : List OutFrame} {f : OutFrame} (hb : ∀ g ∈ before, g.channel ≠ f.channel)
    (h : ∀ c n, f = .credit c n → ∀ tag st is, OutFrame.resp tag st is (some c) ∉ before) :
    takeFrame f.channel [] (before ++ f :: after) = some (f, before ++ after) := by
  obtain ⟨opened, ho, ht⟩ := takeFrame_append hb []
  rw [ht]
  cases f with
  | credit c n =>
    have hc : c ∉ opened := fun hc => by
      obtain ⟨tag, st, is, hm⟩ := ((ho c).mp hc).resolve_left (by simp)
      exact h c n rfl tag st is hm
    simp [takeFrame, hc]
  | resp tag st is opens => simp [takeFrame]
  | rdata r p q o b => simp [takeFrame]
  | rmark r p m st e => simp [takeFrame]

theorem takeFrame_none {ch : Nat} {fs : List OutFrame} (h : ∀ g ∈ fs, g.channel ≠ ch) : takeFrame ch [] fs = none := by
  obtain ⟨opened, -, ht⟩ := takeFrame_append h []
  simpa [takeFrame] using ht []

/-- While the link is up the frame of the channel that may leave is sent (R183). -/
theorem exec_outbound_sends {s : State} {ch : Nat} {f : OutFrame} {rest : List OutFrame} (up : s.dev.link.up = true)
    (h : takeFrame ch [] s.dev.link.outbound = some (f, rest)) :
    exec (.outboundFrameLeaves ch) s = .next { s with dev := s.dev.sendFrame f rest } := by
  simp only [exec, execOutboundFrameLeaves, up, if_true, h]; rfl

theorem exec_outbound_nothing {s : State} {ch : Nat} (h : takeFrame ch [] s.dev.link.outbound = none) :
    exec (.outboundFrameLeaves ch) s = .next s := by
  simp only [exec, execOutboundFrameLeaves, h]; split <;> rfl

/-- Settles O11: which frame of a channel may leave, and what its leaving does. -/
theorem theOldestFrameOfAChannelLeaves : Obligations.TheOldestFrameOfAChannelLeaves := by
  refine ⟨?_, ?_, ?_⟩
  · intro s ch before after f up hout hch hb hcredit wire d
    subst hch
    rw [exec_outbound_sends up (by rw [hout]; exact takeFrame_oldest hb hcredit)]
    refine ⟨fun hno => ?_, fun r p m st e hf => ?_⟩
    · cases f with
      | rmark r p m st e => exact absurd rfl (hno r p m st e)
      | resp _ _ _ _ => rfl
      | credit _ _ => rfl
      | rdata _ _ _ _ _ => rfl
    · subst hf; rfl
  · intro s c n before after hout hb hresp
    exact exec_outbound_nothing (by rw [hout]; exact takeFrame_held hb hresp)
  · exact fun s ch h => exec_outbound_nothing (takeFrame_none h)

end Sys2Proof.Machine

/-! ### O10: frames that are not taken (R10, R175, R176, R185), and the link resets (R21, R159, R184, R185) -/

namespace Sys2Proof.Machine

/-! #### While the link is down -/

/-- Nothing that arrives on the link, and no frame's leaving it, does anything while the link is down (R185). -/
theorem exec_of_link_down {s : State} (down : s.dev.link.up = false) {c : Instr} (h : onLink c = true) :
    exec c s = .next s := by
  cases c
  case data | markCut | markEnd | grant | frameRefused | poll => exact State.inbound_down down
  case unknownRequest =>
    simp only [exec, execUnknownRequest]
    exact State.answer_down down
  case listSegments => exact State.answer_down down
  case openStream | abortStream | loadPool | loadCartridgeCreate | loadCartridgeEdit | loadCartridgeRemove | lock
      | unlock | hold | finalize | recycle | inventory | move | restore | cancelRestore | verifyNow | loadSegment
      | releaseSegment | setTime | resetLink | resetChanger =>
    exact State.request_down down
  case readElement | readDrive | readStream =>
    simp only [exec, execReadElement, execReadDrive, execReadStream]
    split <;> exact State.answer_down down
  case readFeed | readCartridge | readSegment =>
    simp only [exec, execReadFeed, execReadCartridge, execReadSegment]
    split
    · exact State.answer_down down
    · split <;> exact State.answer_down down
  case setParam =>
    simp only [exec, execSetParam]
    split
    · exact State.answer_down down
    · exact State.answer_down down
    · exact State.request_down down
  case resetDrive =>
    simp only [exec, execResetDrive]
    split <;> exact State.request_down down
  case outboundFrameLeaves => simp [exec, execOutboundFrameLeaves, down]
  all_goals exact absurd h Bool.false_ne_true

/-! #### Frames refused while the link is up -/

/-- The intake unit refuses a DATA frame of a stream that takes none, an empty one and one too long (R8, R10). -/
theorem Device.takeData_refused {d : Device} {c : StreamId} {p : Bytes}
    (h : (d.stream c).state = .closed ∨ (d.stream c).state = .ending ∨ p = [] ∨ 4096 < p.length) :
    d.takeData c p = d.linkError := by
  have hc : (!(d.stream c).state.takes || p.isEmpty || decide (Config.maxPayload < p.length)) = true := by
    rcases h with h | h | h | h
    · simp [StreamState.not_takes_iff.mpr (.inl h)]
    · simp [StreamState.not_takes_iff.mpr (.inr h)]
    · simp [h]
    · simp [Config.maxPayload, h]
  simp only [Device.takeData, hc, if_true]

/-- The intake unit refuses a mark of a stream that takes none (R10). -/
theorem Device.marks_refused {d : Device} {c : StreamId}
    (h : (d.stream c).state = .closed ∨ (d.stream c).state = .ending) :
    d.takeCut c = d.linkError ∧ d.takeEnd c = d.linkError := by
  simp [Device.takeCut, Device.takeEnd, StreamState.not_takes_iff.mpr h]

/-- A frame on a channel of no stream is refused (R175). -/
theorem exec_stranger {s : State} (up : s.dev.link.up = true) {ch : Nat} (h : ch < 1 ∨ 32 < ch) :
    (∀ p, exec (.data ch p) s = .next { s with dev := s.dev.linkError }) ∧
    exec (.markCut ch) s = .next { s with dev := s.dev.linkError } ∧
    exec (.markEnd ch) s = .next { s with dev := s.dev.linkError } := by
  simp only [exec, execData, execMarkCut, execMarkEnd, State.inbound_up up, streamOf_none h, State.just_eq,
    implies_true, and_self]

/-- A GRANT of count 0, or on a channel of no restore, is refused (R153, R175). -/
theorem exec_grant_refused {s : State} (up : s.dev.link.up = true) {ch n : Nat} (h : ch < 33 ∨ 40 < ch ∨ n = 0) :
    exec (.grant ch n) s = .next { s with dev := s.dev.linkError } := by
  simp only [exec, execGrant, State.inbound_up up]
  split
  · rename_i r hr
    have hn : n = 0 := by
      rcases h with h | h | h
      · rw [restoreOf_none (.inl h)] at hr; exact absurd hr (by simp)
      · rw [restoreOf_none (.inr h)] at hr; exact absurd hr (by simp)
      · exact h
    rw [if_pos hn, State.just_eq]
  · rfl

/-! #### What the restores' end leaves of the streams and the frames -/

/-- The intake unit and the unsent frames are the same in two devices. -/
structure Device.SameIntake (d d' : Device) : Prop where
  intake : d'.intake = d.intake
  outbound : d'.link.outbound = d.link.outbound

namespace Device.SameIntake

theorem refl (d : Device) : d.SameIntake d := ⟨rfl, rfl⟩

theorem trans {a b c : Device} (h : a.SameIntake b) (g : b.SameIntake c) : a.SameIntake c :=
  ⟨g.intake.trans h.intake, g.outbound.trans h.outbound⟩

theorem foldl {α : Type} {g : Device → α → Device} (hg : ∀ (d : Device) a, d.SameIntake (g d a)) (l : List α)
    (d : Device) : d.SameIntake (l.foldl g d) := by
  induction l generalizing d with
  | nil => exact refl d
  | cons a l ih => exact (hg d a).trans (ih _)

theorem post (d : Device) (t : Task) : d.SameIntake (d.post t) := by
  unfold Device.post; split <;> exact ⟨rfl, rfl⟩

theorem modDrive (d : Device) (i : DriveId) (g : Drive → Drive) : d.SameIntake (d.modDrive i g) := ⟨rfl, rfl⟩

theorem dropReservations (d : Device) (f : FeedId) : d.SameIntake (d.dropReservations f) := by
  unfold Device.dropReservations
  split
  · exact refl d
  · unfold Device.releaseReservations
    split
    · exact ⟨rfl, rfl⟩
    · refine trans ?_ (post _ _)
      exact ⟨rfl, rfl⟩

theorem cancelSuspension (d : Device) (order : Nat) : d.SameIntake (d.cancelSuspension order) := by
  refine foldl (fun d i => ?_) _ _
  split
  · exact (modDrive d i _).trans (post _ _)
  · exact refl d

theorem withdrawMoves (d : Device) (i : DriveId) : d.SameIntake (d.withdrawMoves i) :=
  foldl (g := fun d m => d.dropMove (Move.id m)) (fun _ _ => ⟨rfl, rfl⟩) _ _

theorem withdrawClaim (d : Device) (order : Nat) : d.SameIntake (d.withdrawClaim order) := by
  unfold Device.withdrawClaim
  split
  · exact refl d
  · have h : d.SameIntake ((d.removeClaim order).cancelSuspension order) :=
      trans (b := d.removeClaim order) ⟨rfl, rfl⟩ (cancelSuspension _ _)
    dsimp only
    split
    · exact h
    · rename_i i _
      refine h.trans (.trans (modDrive _ i fun x => { x with claim := none }) (.trans ?_ (post _ _)))
      split
      · exact (withdrawMoves _ i).trans (modDrive _ i fun x => { x with phase := .rest })
      · exact refl _

theorem withdrawOf (d : Device) (o : Owner) : d.SameIntake (d.withdrawOf o) := by
  unfold Device.withdrawOf; split <;> [exact withdrawClaim _ _; exact refl d]

theorem removeFeed (d : Device) (f : FeedId) : d.SameIntake (d.removeFeed f) :=
  (((dropReservations d f).trans (withdrawOf _ _)).trans (c := Device.setFeed _ f none) ⟨rfl, rfl⟩).trans (post _ _)

/-- An UNBOUND feed is removed or stays. -/
theorem removeEmptied (d : Device) : d.SameIntake d.removeEmptied := by
  refine foldl (fun d f => ?_) _ _
  split
  · rename_i h
    unfold Device.feedProgress
    split
    · exact refl d
    · rename_i x hx
      have hu : x.state = .unbound := by simpa [hx] using (by simpa [hx] using h : _ ∧ _).2
      simp only [hu]
      split <;> [exact removeFeed _ _; exact refl d]
  · exact refl d

theorem dropContext (d : Device) (w : Work) : d.SameIntake (d.dropContext w) := by
  refine foldl (fun d i => ?_) _ _
  split <;> exact ⟨rfl, rfl⟩

theorem dropXe (d : Device) (c : XeClient) : d.SameIntake (d.dropXe c) := ⟨rfl, rfl⟩

theorem unpinRestore (d : Device) (id : Nat) : d.SameIntake (d.unpinRestore id) := ⟨rfl, rfl⟩

theorem leaveRestore (d : Device) (r : RestoreId) (e : Restore) : d.SameIntake (d.leaveRestore r e) := by
  have hm : d.SameIntake (d.modRestore r fun _ => e.over) := ⟨rfl, rfl⟩
  have hx := (hm.trans (withdrawOf _ (.restore r))).trans (dropXe _ (.restore r))
  exact (hx.trans (dropContext _ (.restore r))).trans (unpinRestore _ e.part)

theorem toIdle (d : Device) (i : DriveId) : d.SameIntake (d.toIdle i) :=
  (modDrive d i _).trans (post _ _)

theorem startUnmount (d : Device) (i : DriveId) : d.SameIntake (d.startUnmount i) := ⟨rfl, rfl⟩

theorem idleOrUnmount (d : Device) (i : DriveId) : d.SameIntake (d.idleOrUnmount i) := by
  unfold Device.idleOrUnmount
  dsimp only
  split
  · exact toIdle d i
  · exact (toIdle d i).trans (startUnmount _ i)

theorem popContext (d : Device) (i : DriveId) (k : Context) (rest : List Context) :
    d.SameIntake (d.popContext i k rest) := by
  unfold Device.popContext
  dsimp only
  split <;> exact ⟨rfl, rfl⟩

theorem workEnded (d : Device) (i : DriveId) : d.SameIntake (d.workEnded i) := by
  have h := modDrive d i fun x => { x with active := none, phase := .rest, suspendFor := none }
  unfold Device.workEnded
  dsimp only
  generalize d.modDrive i (fun x => { x with active := none, phase := .rest, suspendFor := none }) = a at h
  refine h.trans ?_
  split
  · exact idleOrUnmount a i
  · split
    · split
      · refine trans ?_ (post _ _)
        exact ⟨rfl, rfl⟩
      · exact popContext a i _ _
    · exact popContext a i _ _

theorem endWorkOf (d : Device) (w : Work) : d.SameIntake (d.endWorkOf w) := by
  unfold Device.endWorkOf Device.endWork
  split
  · split <;> [exact workEnded _ _; exact ⟨rfl, rfl⟩]
  · exact refl d

/-- The end of the restores at a link reset leaves the streams and the unsent frames alone (R159). -/
theorem cancelRestores (d : Device) : d.SameIntake d.cancelRestores := by
  unfold Device.cancelRestores
  refine ((foldl (fun d e => ?_) _ _).trans ((foldl (fun d e => ?_) _ _).trans (foldl (fun d e => ?_) _ _))).trans
    (post _ _)
  · exact leaveRestore d e.chan e
  · exact endWorkOf d _
  · exact ⟨rfl, rfl⟩

end Device.SameIntake

/-! #### The streams at a link reset (R21) -/

/-- A stream closed, where it is open. -/
def Device.abortOpen (d : Device) (c : StreamId) : Device := if (d.stream c).state = .closed then d else d.abort c

theorem Device.abortOpen_closes (d : Device) (c : StreamId) : ((d.abortOpen c).stream c).state = .closed := by
  unfold Device.abortOpen
  split
  · assumption
  · rw [Device.stream_abort, if_pos rfl]; rfl

theorem Device.abortOpen_keeps_closed {d : Device} {y : StreamId} (h : (d.stream y).state = .closed) (c : StreamId) :
    ((d.abortOpen c).stream y).state = .closed := by
  by_cases hy : y = c
  · rw [hy]; exact d.abortOpen_closes c
  · unfold Device.abortOpen
    split
    · exact h
    · rw [Device.stream_abort, if_neg hy]; exact h

theorem Device.abortOpen_keeps_resp {d : Device} {f : OutFrame} (hf : f.isResp = true) (h : f ∈ d.link.outbound)
    (c : StreamId) : f ∈ (d.abortOpen c).link.outbound := by
  unfold Device.abortOpen
  split
  · exact h
  · rw [Device.abort_outbound]
    refine List.mem_filter.mpr ⟨h, ?_⟩
    cases f with
    | resp => rfl
    | credit | rdata | rmark => exact absurd hf Bool.false_ne_true

/-- The streams closed in ascending channel (log entry 54). -/
def Device.abortAll (d : Device) : Device := allStreams.foldl Device.abortOpen d

/-- What every closing keeps, they all keep. -/
theorem Device.abortAll_keeps {P : Device → Prop} (hP : ∀ d c, P d → P (d.abortOpen c)) {d : Device} (h : P d) :
    P d.abortAll := by
  unfold Device.abortAll
  generalize allStreams = l
  induction l generalizing d with
  | nil => exact h
  | cons c l ih => exact ih (hP d c h)

theorem Device.abortAll_closes (d : Device) (y : StreamId) : (d.abortAll.stream y).state = .closed := by
  suffices h : ∀ (l : List StreamId) (d : Device), y ∈ l →
      ((l.foldl Device.abortOpen d).stream y).state = .closed from h _ _ (List.mem_finRange y)
  have keep : ∀ (l : List StreamId) (d : Device), (d.stream y).state = .closed →
      ((l.foldl Device.abortOpen d).stream y).state = .closed := by
    intro l
    induction l with
    | nil => exact fun _ h => h
    | cons c l ih => exact fun d h => ih _ (d.abortOpen_keeps_closed h c)
  intro l
  induction l with
  | nil => exact fun _ h => absurd h (by simp)
  | cons c l ih =>
    intro d h
    rcases List.mem_cons.mp h with rfl | h
    · exact keep l _ (d.abortOpen_closes y)
    · exact ih _ h

/-- The link reset, cut at the streams. -/
theorem Device.linkReset_eq (d : Device) :
    d.linkReset = { d.abortAll.removeEmptied.cancelRestores with
      link := { d.abortAll.removeEmptied.cancelRestores.link with grants := Vector.replicate 8 0, errors := 0 } } := by
  have h : d.abortAll = allStreams.foldl (fun d c => if (d.stream c).state = .closed then d else d.abort c) d := rfl
  rw [h]; rfl

/-- The intake unit and the unsent frames after a link reset are those the streams' closing leaves. -/
theorem Device.linkReset_intake (d : Device) : d.abortAll.SameIntake d.linkReset := by
  have h := (SameIntake.removeEmptied d.abortAll).trans (.cancelRestores _)
  rw [Device.linkReset_eq]
  generalize d.abortAll.removeEmptied.cancelRestores = e at h
  exact ⟨h.intake, h.outbound⟩

theorem Device.linkReset_closes (d : Device) (c : StreamId) : (d.linkReset.stream c).state = .closed := by
  have h : d.linkReset.stream c = d.abortAll.stream c := by simp only [Device.stream, d.linkReset_intake.intake]
  rw [h]; exact d.abortAll_closes c

theorem Device.linkReset_keeps_resp {d : Device} {f : OutFrame} (hf : f.isResp = true) (h : f ∈ d.link.outbound) :
    f ∈ d.linkReset.link.outbound := by
  rw [d.linkReset_intake.outbound]
  exact Device.abortAll_keeps (P := fun d => f ∈ d.link.outbound) (fun _ c h => Device.abortOpen_keeps_resp hf h c) h

theorem Device.linkReset_up (d : Device) : d.linkReset.link.up = d.link.up := by
  have hf : ∀ a b : Device, a.fixed = b.fixed → a.link.up = b.link.up := fun a b h => congrArg Fixed.up h
  have h1 : d.abortAll.link.up = d.link.up := by
    refine Device.abortAll_keeps (P := fun x => x.link.up = d.link.up) (fun x c h => ?_) rfl
    rw [← h]
    refine hf _ _ ?_
    unfold Device.abortOpen
    split <;> simp
  have h2 : d.abortAll.removeEmptied.link.up = d.abortAll.link.up := by
    refine hf _ _ (Device.fixed_foldl _ (fun d f => ?_) _ _)
    split <;> simp
  have h3 : d.abortAll.removeEmptied.cancelRestores.link.up = d.abortAll.removeEmptied.link.up := hf _ _ (by simp)
  rw [Device.linkReset_eq]
  generalize d.abortAll.removeEmptied.cancelRestores = e at h3
  exact h3.trans (h2.trans h1)

/-! #### The unsent frames discarded -/

/-- The entries of discarded RMARKs freed: only the restore queue changes, and it only loses entries. -/
theorem Device.freeMarked_eq (d : Device) (fs : List OutFrame) :
    ∃ q : Restore → Bool, d.freeMarked fs = { d with ru := { d.ru with queue := d.ru.queue.filter q } } := by
  unfold Device.freeMarked
  induction fs generalizing d with
  | nil => exact ⟨fun _ => true, by simp only [List.filter_true]; rfl⟩
  | cons f fs ih =>
    rw [List.foldl_cons]
    split
    · rename_i r _ _ _ _
      obtain ⟨q, hq⟩ := ih (d.freeRestore r)
      refine ⟨fun e => q e && e.chan != r, ?_⟩
      rw [hq]
      simp only [Device.freeRestore, List.filter_filter]
    · exact ih d

theorem Device.discardUnsent_eq (d : Device) (stays : OutFrame → Bool) :
    ∃ q : Restore → Bool, d.discardUnsent stays = { d with
      link := { d.link with outbound := d.link.outbound.filter stays }
      ru := { d.ru with queue := d.ru.queue.filter q } } := by
  obtain ⟨q, hq⟩ := Device.freeMarked_eq { d with link := { d.link with outbound := d.link.outbound.filter stays } }
    (d.link.outbound.filter fun f => !stays f)
  exact ⟨q, hq⟩

/-- A restore that has no entry has none after some entries are freed. -/
theorem Device.restore?_filter {d : Device} {r : RestoreId} (h : d.restore? r = none) (q : Restore → Bool) :
    ({ d with ru := { d.ru with queue := d.ru.queue.filter q } } : Device).restore? r = none :=
  List.find?_eq_none.mpr fun e he => List.find?_eq_none.mp h e (List.mem_filter.mp he).1

/-! #### The obligation -/

/-- Every restore in use has ended, with its record at the expansion engine, its contexts, its claim, its pin and its
drive's work (R157, R159, R185). -/
def Device.RestoresEnd (d d' : Device) : Prop :=
  (∀ r e, d.restore? r = some e → e.state ≠ .ended →
    d'.restore? r = none ∧ (∀ q ∈ d'.xe.requests, q.client ≠ .restore r) ∧
    (∀ i, ∀ k ∈ (d'.drive i).stack, k.work ≠ .restore r) ∧
    (∀ k, d.claimOf (.restore r) = some k → k ∉ d'.arb.claims) ∧
    ∀ i, d.driveOf (.restore r) = some i → (∀ k ∈ d.arb.claims, k.owner ≠ .restore r) →
      (d'.drive i).active ≠ some (.restore r)) ∧
  d'.map.parts.map (fun p => (p.id, p.restorePins)) = d.map.parts.map fun p =>
    (p.id, p.restorePins - (d.ru.queue.filter fun e => decide (e.state ≠ .ended ∧ e.part = p.id)).length)

/-- A link reset ends the restores, and so it does when it also frees ENDED entries and changes the link interface. -/
theorem Device.linkReset_restoresEnd (d : Device) (q : Restore → Bool) (link : Link) :
    d.RestoresEnd { d.linkReset with link, ru := { d.linkReset.ru with queue := d.linkReset.ru.queue.filter q } } := by
  obtain ⟨ends, pins⟩ := d.linkReset_gives
  generalize d.linkReset = e at ends pins ⊢
  refine ⟨fun r x hx hl => ?_, pins⟩
  obtain ⟨gone, without, claim, drive⟩ := ends r x hx hl
  exact ⟨Device.restore?_filter gone q, without.xe, without.stack, claim, drive⟩

/-- The link interface after a link reset: no grant, no error counted. -/
theorem Device.linkReset_link (d : Device) :
    d.linkReset.link.errors = 0 ∧ ∀ r : RestoreId, d.linkReset.link.grants[r] = 0 := by
  rw [Device.linkReset_eq]
  generalize d.abortAll.removeEmptied.cancelRestores = e
  exact ⟨rfl, fun r => by simp⟩

/-- Settles O10: what is not taken changes nothing or counts an error, and a link reset closes the streams, ends the
restores and discards what is unsent. -/
theorem framesNotTakenAndLinkResets : Obligations.FramesNotTakenAndLinkResets := by
  refine ⟨⟨fun c s h down => exec_of_link_down down h, fun s up => ?_⟩, fun s => ⟨rfl, ?_⟩⟩
  · intro d
    refine ⟨fun f => ?_, fun ch h => exec_stranger up h, fun ch n h => exec_grant_refused up h,
      fun c => ⟨fun p h => ?_, fun h => ?_⟩⟩
    · simp only [exec, execFrameRefused, State.inbound_up up]; rfl
    · rw [exec_data up, Device.takeData_refused (d := s.dev.begun) h]; rfl
    · obtain ⟨hc, he⟩ := Device.marks_refused (d := s.dev.begun) h
      rw [exec_markCut up, exec_markEnd up, hc, he]
      exact ⟨rfl, rfl⟩
  · intro restoresEnd
    refine ⟨?_, fun tag up => ?_⟩
    · obtain ⟨errors, grants⟩ := s.dev.begun.linkReset_link
      have closes := s.dev.begun.linkReset_closes
      have ends := s.dev.begun.linkReset_restoresEnd
      obtain ⟨q, hq⟩ := Device.discardUnsent_eq s.dev.begun.linkReset fun _ => false
      refine ⟨{ s.dev.begun.linkReset.discardUnsent fun _ => false with
        link := { (s.dev.begun.linkReset.discardUnsent fun _ => false).link with up := false } }, ?_, ?_⟩
      · simp only [exec, execLinkDown, State.run_eq]
      rw [hq]
      generalize s.dev.begun.linkReset = e at errors grants closes ends
      exact ⟨rfl, errors, by simp, grants, closes, ends q _⟩
    · have sent : OutFrame.resp tag .ok [] none ∈ (s.dev.begun.respond tag .ok).linkReset.link.outbound :=
        Device.linkReset_keeps_resp rfl (by simp [Device.respond, Device.emit])
      have hup : (s.dev.begun.respond tag .ok).linkReset.link.up = true :=
        (Device.linkReset_up _).trans up
      obtain ⟨errors, grants⟩ := (s.dev.begun.respond tag .ok).linkReset_link
      have closes := (s.dev.begun.respond tag .ok).linkReset_closes
      have ends := (s.dev.begun.respond tag .ok).linkReset_restoresEnd
      obtain ⟨q, hq⟩ := Device.discardUnsent_eq (s.dev.begun.respond tag .ok).linkReset OutFrame.isResp
      refine ⟨((s.dev.begun.respond tag .ok).linkReset).discardUnsent OutFrame.isResp, ?_, ?_⟩
      · simp only [exec, execResetLink, firstFailing, Option.isSome_none, Bool.false_eq_true, if_false]
        rw [State.request_accepted up rfl]
      rw [hq]
      generalize (s.dev.begun.respond tag .ok).linkReset = e at sent hup errors grants closes ends
      exact ⟨hup, errors, grants, closes, fun f hf => (List.mem_filter.mp hf).2, List.mem_filter.mpr ⟨sent, rfl⟩,
        ends q _⟩

end Sys2Proof.Machine

/-! ### O14: the reading requests (R22, R63, R82, R103, R121, R143, R174, R177) -/

namespace Sys2Proof.Machine

/-! #### The items of the snapshots, in the rules' words -/

theorem Stream.unconsumed_eq (x : Stream) : x.unconsumed =
    (x.slots.map fun y => y.payload.length).sum - x.byteOffset - (x.offered.map (·.rawLen)).getD 0 := by
  have h : x.offeredLen = (x.offered.map (·.rawLen)).getD 0 := by
    unfold Stream.offeredLen
    cases x.offered <;> rfl
  rw [← h]; rfl

theorem placeIn_eq (c : StreamId) (n : Nat) (l : List StreamId) : placeIn c n l = (l.idxOf? c).map (· + n) := by
  induction l generalizing n with
  | nil => rfl
  | cons x l ih =>
    rw [placeIn, List.idxOf?_cons]
    by_cases h : x = c
    · simp [h]
    · simp only [h, if_false, beq_iff_eq, ih, Option.map_map]
      congr 1
      funext k
      simp only [Function.comp_apply]
      omega

/-- The wait position is the place in the wait order of the stream's pool, from 1 (R22). -/
theorem Device.waitPosition_eq (d : Device) (c : StreamId) : d.waitPosition c =
    ((d.intake.waitOrder.filter fun y => (d.stream y).pool == (d.stream c).pool).idxOf? c).map (· + 1) :=
  placeIn_eq c 1 _

/-- A feed's claim is there when a claim is the feed's (R63). -/
theorem Device.feedClaim_eq (d : Device) (f : FeedId) :
    d.feedClaim f = d.arb.claims.any fun k => k.owner == .feed f := List.isSome_find? ..

/-- Names numbered from n, one item each. -/
theorem namesItems_eq {α : Type} (name : String) (text : α → String) (n : Nat) (l : List α) :
    namesItems name n (l.map text) =
      (l.zipIdx n).map fun o => nameItem (name ++ "_" ++ toString o.2) (text o.1) := by
  induction l generalizing n with
  | nil => rfl
  | cons x l ih => rw [List.map_cons, namesItems, ih, List.zipIdx_cons, List.map_cons]; rfl

/-- The contexts of a suspend stack numbered from n, bottom first (R143). -/
theorem stackItems_eq (i : DriveId) (n : Nat) (l : List Context) :
    stackItems i n l = (l.zipIdx n).flatMap fun k =>
      workItems i ("CONTEXT_" ++ toString k.2) k.1.work ++
        [numItem ("CONTEXT_" ++ toString k.2 ++ "_RESUME_BLOCK") 4 k.1.resume] := by
  induction l generalizing n with
  | nil => rfl
  | cons k l ih => rw [stackItems, ih, List.zipIdx_cons, List.flatMap_cons]

/-- The items of an absent or present thing. -/
theorem Option.toList_flatMap {α : Type} (v : Option α) (g : α → List Item) :
    v.toList.flatMap g = match v with
      | some a => g a
      | none => [] := by
  cases v <;> simp

/-! #### What the requests answer -/

section
variable {s : State} {tag : Tag}

theorem exec_readStream (up : s.dev.link.up = true) (c : StreamId) :
    exec (.readStream tag (c.val + 1)) s = .next { s with dev := s.dev.respond tag .ok (s.dev.streamItems c) } := by
  have h : streamOf? (c.val + 1) = some c := streamOf_streamChannel c
  simp only [exec, execReadStream, h]
  exact State.answer_ok up rfl

theorem exec_readFeed (up : s.dev.link.up = true) {f : FeedId} {x : Feed} (hx : s.dev.feed f = some x) :
    exec (.readFeed tag f) s = .next { s with dev := s.dev.respond tag .ok (s.dev.feedItems f x) } := by
  simp only [exec, execReadFeed, finOf_val, hx]
  exact State.answer_ok up rfl

theorem exec_readDrive (up : s.dev.link.up = true) (i : DriveId) :
    exec (.readDrive tag i) s = .next { s with dev := s.dev.respond tag .ok (s.dev.driveItems i) } := by
  simp only [exec, execReadDrive, finOf_val]
  exact State.answer_ok up rfl

theorem exec_readElement (up : s.dev.link.up = true) (e : ElemId) :
    exec (.readElement tag e) s = .next { s with
      dev := s.dev.respond tag .ok (s.dev.elementItems e ++ if e = pickerElem then s.dev.changerItems else []) } := by
  simp only [exec, execReadElement, finOf_val]
  exact State.answer_ok up rfl

theorem exec_listSegments (up : s.dev.link.up = true) {c j : Option Nat} {start : Nat} (ok : keyOk c j = true) :
    exec (.listSegments tag c j start) s =
      .next { s with dev := s.dev.respond tag .ok (s.dev.listItems c j start) } := by
  simp only [exec, execListSegments]
  exact State.answer_ok up (by rw [ok]; rfl)

/-- LIST_SEGMENTS takes exactly one key, in its range (R82). -/
theorem keyOk_false {c j : Option Nat} (h : (c = none ↔ j = none) ∨ (∃ n, c = some n ∧ 127 < n) ∨
    (∃ n, j = some n ∧ (n = 0 ∨ 0xFFFFFFFF < n))) : keyOk c j = false := by
  match c, j with
  | none, none | some _, some _ => rfl
  | some c, none =>
    have hc : 127 < c := by simpa using h
    simp [keyOk]; omega
  | none, some j =>
    have hj : j = 0 ∨ 0xFFFFFFFF < j := by simpa using h
    rcases hj with rfl | hj
    · rfl
    · exact Bool.and_eq_false_iff.mpr (.inr (decide_eq_false (Nat.not_le.mpr hj)))

end

/-- Settles O14: each snapshot is the answer of its request, and each operand that names nothing is refused. -/
theorem readsOnlyAnswer : Obligations.ReadsOnlyAnswer := by
  refine ⟨fun s tag up => ?_, fun s tag start up => ⟨fun c => ?_, fun j h1 h2 => ?_, fun keep rising => ?_⟩⟩
  · intro answered
    refine ⟨fun c => ?_, fun f x hx => ?_, fun i => ?_, fun e => ?_, fun k => ?_, fun items => ?_, fun ch h => ?_,
      fun n h => ⟨?_, ?_⟩, fun f h => ?_, fun n h => ?_, fun c j start h => ?_⟩
    · intro x
      rw [exec_readStream up]
      simp only [Device.streamItems, Stream.unconsumed_eq, Device.waitPosition_eq]
      rfl
    · rw [exec_readFeed up hx]
      simp only [Device.feedItems, Device.feedClaim_eq]
      rfl
    · intro x work
      have hname : "OUTSTANDING_COMMAND" ++ "_" = "OUTSTANDING_COMMAND_" := by decide
      rw [exec_readDrive up]
      have hwork : ∀ name w, work name w = workItems i name w := fun _ w => by cases w <;> rfl
      simp only [Device.driveItems, namesItems_eq, stackItems_eq, hname, hwork, Option.toList_flatMap,
        Device.assigned, x]
      -- each of the optional parts is there or not
      rcases (s.dev.drive i).active with _ | w <;> rcases (s.dev.drive i).claim.bind s.dev.claim? with _ | k <;>
        rcases (s.dev.drive i).faultCause with _ | y <;> rfl
    · intro own x status
      rw [exec_readElement up]
      have hown : s.dev.elementItems e = own := by
        simp only [Device.elementItems, Device.contentItems, own]
        cases (s.dev.elem e).content <;> rfl
      have hstatus : s.dev.changerItems = status := by
        simp only [Device.changerItems, status, itemsOf, Option.toList_flatMap]
        rfl
      rw [hown, hstatus]
      refine ⟨fun he => ?_, fun he => ?_⟩
      · rw [if_neg (show e ≠ pickerElem from he), List.append_nil]; rfl
      · rw [if_pos (show e = pickerElem from he)]; rfl
    · exact State.answer_ok up rfl
    · simp only [exec, execUnknownRequest]
      exact State.answer_refused up rfl
    · simp only [exec, execReadStream, streamOf_none h]
      exact State.answer_refused up rfl
    · simp only [exec, execReadFeed, finOf_none h]
      exact State.answer_refused up rfl
    · simp only [exec, execReadDrive, finOf_none h]
      exact State.answer_refused up rfl
    · simp only [exec, execReadFeed, finOf_val, h]
      exact State.answer_refused up rfl
    · simp only [exec, execReadElement, finOf_none h]
      exact State.answer_refused up rfl
    · simp only [exec, execListSegments, keyOk_false h]
      exact State.answer_refused up rfl
  · rw [exec_listSegments up (by simp [keyOk])]
    have h : s.dev.matching (some c.val) none = s.dev.map.parts.filter fun p => p.cart == c :=
      List.filter_congr fun p _ => by simp [Fin.ext_iff, Bool.beq_eq_decide_eq]
    simp only [Device.listItems, h]
    rfl
  · have ok : keyOk none (some j) = true :=
      Bool.and_eq_true_iff.mpr ⟨bne_iff_ne.mpr (by omega), decide_eq_true h2⟩
    rw [exec_listSegments up ok]
    rfl
  · rw [List.pairwise_map]
    exact (rising.filter keep).sublist ((List.take_sublist ..).trans (List.drop_sublist ..))

end Sys2Proof.Machine

/-! ### Checks made in their order (R89, R174) -/

namespace Sys2Proof.Machine

/-- The first of the checks that fails gives the refusal; a STALE one carries the generation (R89). -/
def refusalBy (gen : List Item) : List (Bool × Status) → Option RefusalOf
  | [] => none
  | (fails, st) :: cs => if fails then some ⟨st, if st = .stale then gen else []⟩ else refusalBy gen cs

/-- No check is a check of the generation. -/
def noStale (cs : List (Bool × Status)) : Bool := cs.all fun x => x.2 != .stale

theorem noStale_cons {x : Bool × Status} {cs : List (Bool × Status)} :
    noStale (x :: cs) = true ↔ x.2 ≠ .stale ∧ noStale cs = true := by simp [noStale]

theorem firstFailing_eq_refusalBy {cs : List (Bool × Status)} (h : noStale cs = true) (gen : List Item) :
    firstFailing cs = refusalBy gen cs := by
  induction cs with
  | nil => rfl
  | cons x cs ih =>
    obtain ⟨hx, hcs⟩ := noStale_cons.mp h
    simp only [firstFailing, refusalBy, if_neg hx, ih hcs]

/-- The check of the generation among the others. -/
theorem conditional_eq_refusalBy {before after : List (Bool × Status)} (h : noStale (before ++ after) = true)
    (e : Expected) (g : BitVec 8) :
    conditional before e g after = refusalBy [genItem g] (before ++ (!expectPasses e g, .stale) :: after) := by
  induction before with
  | nil =>
    cases hp : expectPasses e g <;> simp [conditional, firstFailing, refusalBy, hp]
    exact firstFailing_eq_refusalBy h _
  | cons x before ih =>
    obtain ⟨hx, hcs⟩ := noStale_cons.mp h
    have ih := ih hcs
    cases hb : x.1 <;> simp_all [conditional, firstFailing, refusalBy]

/-- A rule's checks and a request's, one by one: the same statuses, and each check fails when the rule's does, where the
checks before it have passed; a rule's check that cannot fail there may have none of the request's. -/
inductive Agree : List (Prop × Status) → List (Bool × Status) → Prop
  | nil : Agree [] []
  | cons {P b st ps cs} (iff : P ↔ b = true) (next : b = false → Agree ps cs) : Agree ((P, st) :: ps) ((b, st) :: cs)
  | skip {P st ps cs} (passes : ¬P) (next : Agree ps cs) : Agree ((P, st) :: ps) cs

theorem refusedInOrder_of_agree {answer : Status → Prop} {accepted : Prop} {gen : List Item} {ps cs} (h : Agree ps cs)
    (refused : ∀ st, refusalBy gen cs = some ⟨st, if st = .stale then gen else []⟩ → answer st)
    (none : refusalBy gen cs = none → accepted) : refusedInOrder answer accepted ps := by
  induction h with
  | nil => exact none rfl
  | @cons P b st ps cs iff next ih =>
    refine ⟨fun hP => refused st (by rw [refusalBy, if_pos (iff.mp hP)]), fun hP => ?_⟩
    have hb : ¬ b = true := fun hb => hP (iff.mpr hb)
    rw [refusalBy, if_neg hb] at refused none
    exact ih (by simpa using hb) refused none
  | skip passes _ ih => exact ⟨fun hP => absurd hP passes, fun _ => ih refused none⟩

/-- A refusal is that of checks which agree with the rule's. -/
def Ordered (gen : List Item) (r : Option RefusalOf) (ps : List (Prop × Status)) : Prop :=
  ∃ cs, r = refusalBy gen cs ∧ Agree ps cs

theorem Ordered.of_firstFailing {gen : List Item} {ps : List (Prop × Status)} {cs : List (Bool × Status)}
    (h : noStale cs = true) (agree : Agree ps cs) : Ordered gen (firstFailing cs) ps :=
  ⟨cs, firstFailing_eq_refusalBy h gen, agree⟩

theorem Ordered.of_conditional {ps : List (Prop × Status)} {before after : List (Bool × Status)} {e : Expected}
    {g : BitVec 8} (h : noStale (before ++ after) = true)
    (agree : Agree ps (before ++ (!expectPasses e g, .stale) :: after)) :
    Ordered [genItem g] (conditional before e g after) ps :=
  ⟨_, conditional_eq_refusalBy h e g, agree⟩

/-- A request answers the first of its rule's checks that fails, and is not refused when none does (R174). -/
theorem State.request_inOrder {s : State} {tag : Tag} {i : Instr} {r : Option RefusalOf} {g : Device → Device}
    {gen : List Item} {ps : List (Prop × Status)} (up : s.dev.link.up = true) (hi : exec i s = s.request tag r g)
    (h : Ordered gen r ps) :
    refusedInOrder (fun st => exec i s = .next { s with dev := { s.dev with link := { s.dev.link with
      outbound := s.dev.link.outbound ++ [.resp tag st (if st = .stale then gen else []) none] } } })
      (r = none) ps := by
  obtain ⟨cs, hr, agree⟩ := h
  refine refusedInOrder_of_agree agree (fun st hst => ?_) fun hn => hr.trans hn
  rw [hi, State.request_refused up (hr.trans hst)]
  rfl

/-- A request whose operand names nothing is answered BAD_ARGUMENT. -/
theorem State.request_badArgument {s : State} {tag : Tag} {i : Instr} {r : Option RefusalOf} {g : Device → Device}
    {items : List Item} (up : s.dev.link.up = true) (hi : exec i s = s.request tag r g)
    (hr : r = some { status := .badArgument }) :
    exec i s = .next { s with dev := { s.dev with link := { s.dev.link with
      outbound := s.dev.link.outbound ++
        [.resp tag .badArgument (if Status.badArgument = .stale then items else []) none] } } } := by
  rw [hi, State.request_refused up hr]
  rfl

/-! ### What the checks ask, in the rules' words -/

section
variable {α : Type}

theorem namedUnknown_iff {x : Named α} : namedUnknown x = true ↔ x = .unknown := by cases x <;> simp [namedUnknown]

theorem namedValue_iff {x : Option (Named α)} {a : α} : namedValue x = some a ↔ x = some (.known a) := by
  rcases x with _ | _ | _ <;> simp [namedValue]

end

theorem expectWide_iff {x : Expected} : expectWide x = true ↔ ∃ n, x = .exactly n ∧ 255 < n := by
  cases x <;> simp [expectWide]

theorem not_expectPasses_iff {x : Expected} {g : BitVec 8} :
    (!expectPasses x g) = true ↔ ∃ n, x = .exactly n ∧ n ≠ g.toNat := by
  cases x <;> simp [expectPasses]

theorem capacityOk_eq_false {n : Nat} : (!capacityOk n) = true ↔ n < 128 ∨ 16777215 < n := by
  simp only [capacityOk, Bool.not_eq_true', Bool.and_eq_false_iff, decide_eq_false_iff_not, Nat.not_le]
  rfl

theorem barcodeOk_eq_false {b : Bytes} :
    (!barcodeOk b) = true ↔ b.length ≠ 8 ∨ ∃ y ∈ b, y.toNat < 0x20 ∨ 0x7E < y.toNat := by
  simp only [barcodeOk, Bool.not_eq_true', Bool.and_eq_false_iff, beq_eq_false_iff_ne, List.all_eq_false,
    Bool.not_eq_true, decide_eq_false_iff_not, Nat.not_le]

section
variable {d : Device} {c : CartId}

/-- Held by a feed (R83). -/
theorem Device.heldByFeed_iff : d.heldByFeed c = true ↔ ∃ f x, d.feed f = some x ∧ x.cart = some c := by
  simp [Device.heldByFeed, Device.holder, List.find?_isSome, allFeeds, Option.bind_eq_some_iff]

/-- Named by a part record (R64). -/
theorem Device.named_iff : d.named c = true ↔ ∃ p ∈ d.map.parts, p.cart = c := by simp [Device.named]

/-- In motion (R83). -/
theorem Device.inMotion_iff : d.inMotion c = true ↔ (∃ m ∈ d.changer.moves, m.load = .cart c) ∨
    ∃ e y, d.cart c = some e ∧ e.location = .at y ∧ y.val ≤ 4 := by
  have hy : ∀ y : ElemId, (y == pickerElem || isDriveElem y) = true ↔ y.val ≤ 4 := fun y => by
    simp only [pickerElem, isDriveElem, Bool.or_eq_true, Bool.and_eq_true, beq_iff_eq, decide_eq_true_iff, Fin.ext_iff,
      Fin.val_zero]
    omega
  rw [Device.inMotion, Bool.or_eq_true]
  refine or_congr (by simp) ?_
  cases d.cart c with
  | none => simp [entryLocation]
  | some e => cases h : e.location <;> simp [entryLocation, h, hy]

theorem Device.byBarcode_iff {x : Bytes} :
    (d.byBarcode x).isSome = true ↔ ∃ y e, d.cart y = some e ∧ e.barcode = x := by
  simp [Device.byBarcode, List.find?_isSome, allCarts, Option.any_eq_true]

/-- A stream's previous opening lingers (R3). -/
theorem Device.lingering_iff {c : StreamId} : d.lingering c = true ↔
    (∃ r, d.ce.current = some r ∧ r.opening = ⟨c, (d.stream c).opening⟩) ∨
    ∃ f x, d.feed f = some x ∧ ∃ e ∈ x.departed, e.opening = ⟨c, (d.stream c).opening⟩ := by
  simp [Device.lingering, Device.opening, allFeeds, Option.any_eq_true]

end

/-- The checks of a conditional request on one entry agree with the rule's when its own do. -/
theorem Ordered.of_entry {d : Device} {c : CartId} {x : Expected} {own : CartId → Cart → List (Bool × Status)}
    {ps : List (Prop × Status)} (hs : ∀ e, noStale (own c e) = true)
    (h : ∀ e, d.cart c = some e → Agree ps (own c e)) :
    Ordered [genItem (d.row c).gen] (d.entryRefusal c x own)
      ((∃ n, x = .exactly n ∧ 255 < n, .badArgument) :: (d.cart c = none, .noEntry) ::
        (∃ n, x = .exactly n ∧ n ≠ (d.row c).gen.toNat, .stale) :: ps) := by
  simp only [Device.entryRefusal, finOf_val]
  cases he : d.cart c with
  | none => exact .of_firstFailing rfl <| .cons expectWide_iff.symm fun _ => .cons (by simp) nofun
  | some e =>
    exact .of_conditional (noStale_cons.mpr ⟨by simp, hs e⟩) <| .cons expectWide_iff.symm fun _ =>
      .skip (by simp) <| .cons not_expectPasses_iff.symm fun _ => h e he

end Sys2Proof.Machine

/-! ### O13: which refusal a request is answered with (R3, R80, R84 to R86, R93, R94, R98, R109, R146, R163) -/

namespace Sys2Proof.Machine

/-! #### Arguments outside their ranges -/

theorem segmentArgsBad_iff {a : SegmentArgs} : segmentArgsBad a = true ↔
    a.part = 0 ∨ 0xFFFFFFFF < a.part ∨ a.jobTag = 0 ∨ 0xFFFFFFFF < a.jobTag ∨ 0xFFFFFFFF < a.number ∨
    a.firstBlock = 0 ∨ a.lastBlock < a.firstBlock ∨ 2 ^ 24 - 1 < a.lastBlock ∨ a.lastSeq < a.firstSeq ∨
    0xFFFFFFFF < a.lastSeq ∨ a.rawBytes < a.storedBytes ∨ 2 ^ 64 ≤ a.rawBytes ∨ 0xFFFFFFFF < a.check ∨
    0xFFFFFFFF < a.closeTime ∨ (a.state ≠ .known .closed ∧ a.state ≠ .known .verified) ∨ a.gap = .unknown ∨
    a.truncated = .unknown ∨ a.continued = .unknown := by
  simp only [segmentArgsBad, Bool.or_eq_true, Bool.and_eq_true, beq_iff_eq, bne_iff_ne, decide_eq_true_iff, ne_eq,
    namedValue_iff, Option.some.injEq, namedUnknown_iff, or_assoc]
  rfl

theorem cartArgsBad_iff {a : CartArgs} : cartArgsBad a = true ↔
    a.kind = some .unknown ∨ (∃ n, a.pool = some n ∧ 7 < n) ∨ a.protection = some .unknown ∨
    (∃ n, a.eod = some n ∧ (n = 0 ∨ 2 ^ 24 < n)) ∨ (∃ n, a.capacity = some n ∧ (n < 128 ∨ 16777215 < n)) ∨
    (∃ n, a.serial = some n ∧ 0xFFFFFFFF < n) ∨ (∃ n, a.home = some n ∧ (n < 9 ∨ 104 < n)) ∨
    (∃ n, a.uses = some n ∧ 99 < n) ∨ a.full = some .unknown := by
  simp only [cartArgsBad, Bool.or_eq_true, Option.any_eq_true, namedUnknown_iff, exists_eq_right,
    capacityOk_eq_false, beq_iff_eq, decide_eq_true_iff, or_assoc]
  rfl

theorem poolArgsBad_iff {a : PoolArgs} : poolArgsBad a = true ↔
    (∃ n, a.multiplex = some n ∧ (n = 0 ∨ 8 < n)) ∨ (∃ n, a.interval = some n ∧ 8760 < n) ∨
    (∃ n, a.retries = some n ∧ 3 < n) ∨ a.takeScratch = some .unknown ∨ a.writeEnabled = some .unknown ∨
    (∃ n, a.defaultCapacity = some n ∧ (n < 128 ∨ 16777215 < n)) := by
  simp only [poolArgsBad, Bool.or_eq_true, Option.any_eq_true, namedUnknown_iff, exists_eq_right,
    capacityOk_eq_false, beq_iff_eq, decide_eq_true_iff, or_assoc]

theorem restoreArgsBad_iff {part : Nat} {pr : Named Priority} {first count : Option Nat} {follow : Named Bool} :
    restoreArgsBad part pr first count follow = true ↔
      part = 0 ∨ 0xFFFFFFFF < part ∨ pr = .unknown ∨ follow = .unknown ∨ (∃ q, first = some q ∧ 0xFFFFFFFF < q) ∨
      (∃ n, count = some n ∧ (n = 0 ∨ 2 ^ 32 < n)) ∨
      (∃ q n, first = some q ∧ count = some n ∧ 0xFFFFFFFF < q + n - 1) := by
  simp only [restoreArgsBad, Bool.or_eq_true, Option.any_eq_true, namedUnknown_iff, beq_iff_eq, decide_eq_true_iff,
    or_assoc, exists_and_left]
  rfl

theorem recordSizes_contains_eq_false {n : Nat} : (!recordSizes.contains n) = true ↔
    n ≠ 4096 ∧ n ≠ 8192 ∧ n ≠ 16384 ∧ n ≠ 32768 ∧ n ≠ 65536 := by
  simp [recordSizes]

/-! #### The states a request is refused in -/

/-- A cartridge that a loaded part record may not name (R80). -/
theorem cartRefusesPart_iff {e : Cart} {n : Nat} : cartRefusesPart e n = true ↔
    e.kind = .cleaning ∨ e.eod = none ∨ ∃ m, e.eod = some m ∧ m ≤ n := by
  cases h : e.eod <;> simp [cartRefusesPart, h]

/-- A location that FINALIZE refuses (R93). -/
theorem unfinalizable_iff {l : Location} : l.unfinalizable = true ↔
    l = .outside ∨ l = .unknown ∨ ∃ y, l = .at y ∧ (isMail y = true ∨ y = 0) := by
  cases l <;> simp [Location.unfinalizable, pickerElem]

theorem Device.feedMounting_iff {d : Device} {c : CartId} : d.feedMounting c = true ↔
    ∃ k ∈ d.arb.claims, k.drive ≠ none ∧ k.chosen = some c ∧ ∃ f, k.owner = .feed f := by
  have ho : ∀ o : Owner, (match o with | .feed _ => true | _ => false) = true ↔ ∃ f, o = .feed f := fun o => by
    cases o <;> simp
  simp only [Device.feedMounting, List.any_eq_true, Bool.and_eq_true, Option.isSome_iff_ne_none, beq_iff_eq, and_assoc]
  refine exists_congr fun k => and_congr_right fun _ => and_congr_right fun _ => and_congr_right fun _ => ho k.owner

/-- The STATE cases of an EDIT whose kind is one its argument takes (R85). -/
theorem Device.editState_iff {d : Device} {c : CartId} {e : Cart} {a : CartArgs} (hk : a.kind ≠ some .unknown) :
    d.editState c e a = true ↔
      (∃ n m, a.eod = some n ∧ e.eod = some m ∧ n < m) ∨
      (∃ k, a.kind = some (.known k) ∧ k ≠ e.kind ∧ e.eod ≠ none) ∨
      (a.pool = some 0 ∧ ((∃ p ∈ d.map.parts, p.cart = c) ∨ e.protection = some .finalized)) ∨
      (a.kind = some (.known .cleaning) ∧ (a.pool ≠ none ∨ a.eod ≠ none)) ∨
      ((a.kind = some (.known .data) ∨ (a.kind = none ∧ e.kind = .data)) ∧ a.uses ≠ none) ∨
      (e.kind = .cleaning ∧ (a.pool ≠ none ∨ a.eod ≠ none ∨ a.full ≠ none)) := by
  have hkind : ∀ k, (namedValue a.kind).getD e.kind = k ↔ a.kind = some (.known k) ∨ (a.kind = none ∧ e.kind = k) := by
    intro k
    rcases h : a.kind with _ | _ | _ <;> simp_all [namedValue]
  have hdiff : (namedValue a.kind).getD e.kind ≠ e.kind ↔ ∃ k, a.kind = some (.known k) ∧ k ≠ e.kind := by
    rcases h : a.kind with _ | _ | _ <;> simp_all [namedValue]
  simp only [Device.editState, Bool.or_eq_true, Bool.and_eq_true, Option.any_eq_true, beq_iff_eq, bne_iff_ne, hkind,
    hdiff, namedValue_iff, Option.isSome_iff_ne_none, Device.named_iff, decide_eq_true_iff, or_assoc, exists_and_left,
    ← exists_and_right, and_assoc]

/-- The load of an element. -/
theorem Device.loadAt_isNone {d : Device} {a : ElemId} : (d.loadAt a).isNone = true ↔
    (d.elem a).content = .empty ∨ ∃ c, (d.elem a).content = .unknown c := by
  unfold Device.loadAt
  cases (d.elem a).content <;> simp

theorem Device.foreignLoad_iff {d : Device} {a : ElemId} :
    d.foreignLoad a = true ↔ ∃ x, (d.elem a).content = .foreign x := by
  unfold Device.foreignLoad
  cases (d.elem a).content <;> simp

theorem Part.pins_pos {p : Part} : 0 < p.pins ↔ 0 < p.restorePins ∨ p.verifyPin = true := by
  unfold Part.pins
  split <;> simp [*]

/-- The cartridge at a MOVE's source is in use (R109). -/
theorem Device.loadBusy_iff {d : Device} {a : ElemId} : d.loadBusy a = true ↔
    ∃ c, (d.elem a).content = .occupied c ∧ ((∃ f x, d.feed f = some x ∧ x.cart = some c) ∨
      (∃ e, d.cart c = some e ∧ e.finalizing = true) ∨
      ∃ p ∈ d.map.parts, p.cart = c ∧ (p.state = .open ∨ 0 < p.restorePins ∨ p.verifyPin = true)) := by
  have hc : ∀ c, d.occupant a = some c ↔ (d.elem a).content = .occupied c := fun c => by
    unfold Device.occupant; cases (d.elem a).content <;> simp
  simp only [← hc]
  cases h : d.occupant a with
  | none => simp [Device.loadBusy, h]
  | some c =>
    have hh : (d.holder c).isSome = true ↔ ∃ f x, d.feed f = some x ∧ x.cart = some c := Device.heldByFeed_iff
    simp only [Device.loadBusy, h, Bool.or_eq_true, hh, Option.any_eq_true, Device.partsOn, List.any_eq_true,
      List.mem_filter, beq_iff_eq, decide_eq_true_iff, Part.pins_pos, Option.some.injEq, exists_eq_left', or_assoc,
      and_assoc]

theorem driveOfElem_eq_some {a : ElemId} {i : DriveId} : driveOfElem? a = some i ↔ a = driveElem i := by
  unfold driveOfElem? driveElem
  split
  · simp only [Option.some.injEq, Fin.ext_iff]; omega
  · simp only [reduceCtorEq, false_iff, Fin.ext_iff]; omega

/-- A MOVE's source stands in a drive at work (R109). -/
theorem Device.driveBusy_iff {d : Device} {a : ElemId} : d.driveBusy a = true ↔
    ∃ i, a = driveElem i ∧ ¬((∃ x, (d.elem a).content = .foreign x) ∧ (d.drive i).phase = .powerMouth) ∧
      ((d.drive i).state ≠ .mountedIdle ∨ (d.drive i).stack ≠ []) := by
  simp only [← driveOfElem_eq_some]
  cases h : driveOfElem? a with
  | none => simp [Device.driveBusy, h]
  | some i =>
    simp only [Device.driveBusy, Device.foreignAtMouth, h, Bool.and_eq_true, Bool.or_eq_true, Bool.not_eq_true',
      Option.some.injEq, exists_eq_left', ← Device.foreignLoad_iff, bne_iff_ne, ← Bool.not_eq_true,
      List.isEmpty_iff, beq_iff_eq, ne_eq]

theorem Device.part_eq_none {d : Device} {id : Nat} : d.part? id = none ↔ ∀ p ∈ d.map.parts, p.id ≠ id := by
  simp [Device.part?]

/-- A range that a RESTORE may not ask of a part (R146). -/
theorem rangeBad_iff {p : Part} {first count : Option Nat} {follow : Named Bool} :
    rangeBad p first count (followSet follow) = true ↔
      (∃ q, first = some q ∧ (q < p.firstSeq ∨ p.lastSeq < q)) ∨
      (follow ≠ .known true ∧ ∃ n, count = some n ∧ p.lastSeq < first.getD p.firstSeq + n - 1) := by
  have hf : (!followSet follow) = true ↔ follow ≠ .known true := by
    rcases follow with ⟨_ | _⟩ | _ <;> simp [followSet, namedValue]
  simp only [rangeBad, Bool.or_eq_true, Bool.and_eq_true, hf, Option.any_eq_true, decide_eq_true_iff, rangeStop,
    Option.map_eq_some_iff, exists_exists_and_eq_and]

/-- The checks of RESTORE in a row (R146). -/
theorem Device.restoreRefusal_eq (d : Device) (r : RestoreId) (part : Nat) (pr : Named Priority)
    (first count : Option Nat) (follow : Named Bool) :
    d.restoreRefusal (r.val + 33) part pr first count follow = firstFailing
      ((restoreArgsBad part pr first count follow, .badArgument) :: (decide (16 ≤ d.ru.queue.length), .full) ::
        match d.part? part with
        | none => [(true, .noEntry)]
        | some p =>
          [(p.state == .open || p.state == .bad, .state), (rangeBad p first count (followSet follow), .badArgument),
           ((d.restore? r).isSome || !p.restorePinFree, .busy)]) := by
  have hr : restoreOf? (r.val + 33) = some r := restoreOf_restoreChannel r
  simp only [Device.restoreRefusal, hr, firstFailing, Config.restoreQueue]
  cases restoreArgsBad part pr first count follow
  · by_cases hq : 16 ≤ d.ru.queue.length
    · simp [hq]
    · cases d.part? part <;> simp [hq, firstFailing]
  · rfl

/-! #### The obligation -/

/-- Settles O13: the checks of each request agree, one by one, with those of its rule. -/
theorem refusalsComeInTheirOrder : Obligations.RefusalsComeInTheirOrder := by
  intro s tag up answer gen wide differs held named inMotion entry bad
  refine ⟨⟨fun ch job pool size pol h => ?_, fun c p job size pol => ?_⟩, ⟨fun a h => ?_, fun c a hc => ?_⟩,
    fun i x b a h => ?_, fun c x b a => ?_, ⟨fun p x a h => ?_, fun p x a => ?_⟩, ⟨fun a b h => ?_, fun a b => ?_⟩,
    ⟨fun ch part pr first count follow h => ?_, fun r part pr first count follow => ?_⟩, fun c => ?_⟩
  -- OPEN_STREAM
  · refine State.request_badArgument up rfl ?_
    unfold Device.openRefusal
    rcases or_assoc.mpr h with h | h
    · rw [streamOf_none h]
    · rw [finOf_none h]; cases streamOf? ch <;> rfl
  · have hc : streamOf? (c.val + 1) = some c := streamOf_streamChannel c
    refine State.request_inOrder up rfl ?_
    simp only [Device.openRefusal, hc, finOf_val]
    refine .of_firstFailing rfl <| .cons ?_ fun _ => .cons ?_ fun _ => .cons ?_ fun _ => .cons ?_ fun _ => .nil
    · simp only [Bool.or_eq_true, beq_iff_eq, decide_eq_true_iff, Option.any_eq_true, recordSizes_contains_eq_false,
        namedUnknown_iff, exists_eq_right, or_assoc]
      rfl
    · rw [Bool.or_eq_true, bne_iff_ne, Device.lingering_iff]
    · simp [allStreams]
    · simp
  -- LOAD_SEGMENT
  · refine State.request_badArgument up rfl ?_
    rw [Device.loadSegmentRefusal, finOf_none h]
  · refine State.request_inOrder up rfl ?_
    simp only [Device.loadSegmentRefusal, hc, finOf_val]
    cases he : s.dev.cart c with
    | none => exact .of_firstFailing rfl <| .cons segmentArgsBad_iff.symm fun _ => .cons (by simp) nofun
    | some e =>
      refine .of_firstFailing rfl <| .cons segmentArgsBad_iff.symm fun _ => .skip (by simp) <| .cons ?_ fun _ =>
        .cons ?_ fun _ => .cons ?_ fun _ => .nil
      · simp [entry, he, cartRefusesPart_iff]
      · simp [Device.part?, List.find?_isSome]
      · simp [Device.mapHasRoom, Config.mapSize]
  -- the requests on one cartridge entry
  · refine ⟨?_, ?_, ?_, ?_, ?_, ?_⟩ <;> refine State.request_badArgument up rfl ?_
    · rw [Device.createRefusal, finOf_none h]
    · rw [Device.editRefusal, finOf_none h]
    · rw [Device.removeRefusal, Device.entryRefusal, finOf_none h]
    · rw [Device.finalizeRefusal, Device.entryRefusal, finOf_none h]
    · rw [Device.recycleRefusal, Device.entryRefusal, finOf_none h]
    · rw [Device.verifyRefusal, finOf_none h]
  · intro g
    refine ⟨?_, ?_, ?_, ?_, ?_⟩ <;> refine State.request_inOrder up rfl ?_
    -- CREATE
    · simp only [Device.createRefusal, finOf_val]
      refine .of_conditional rfl <| .cons ?_ fun _ => .cons not_expectPasses_iff.symm fun _ => .cons ?_ fun _ =>
        .cons ?_ fun _ => .nil
      · simp only [Bool.or_eq_true, Bool.and_eq_true, expectWide_iff, barcodeOk_eq_false, cartArgsBad_iff,
          Option.isSome_iff_ne_none, beq_iff_eq, namedValue_iff, or_assoc, wide, bad]
      · rw [Bool.or_eq_true, Device.byBarcode_iff, Option.isSome_iff_ne_none]
      · simp only [Bool.and_eq_true, Bool.not_eq_true', beq_eq_false_iff_ne, ne_eq, beq_iff_eq, namedValue_iff,
          Option.any_eq_true, bne_iff_ne, and_assoc]
    -- EDIT
    · simp only [Device.editRefusal, finOf_val]
      have hfirst : (wide x ∨ bad a ∨ a.protection ≠ none ∨ a.full = some (.known false)) ↔
          (expectWide x || cartArgsBad a || a.protection.isSome || a.full == some (.known false)) = true := by
        simp only [Bool.or_eq_true, expectWide_iff, cartArgsBad_iff, Option.isSome_iff_ne_none, beq_iff_eq, or_assoc,
          wide, bad]
      cases he : s.dev.cart c with
      | none => exact .of_firstFailing rfl <| .cons hfirst fun _ => .cons (by simp) nofun
      | some e =>
        refine .of_conditional rfl <| .cons hfirst fun hf => .skip (by simp) <|
          .cons not_expectPasses_iff.symm fun _ => .cons ?_ fun _ => .cons ?_ fun _ => .nil
        · simp only [Bool.or_eq_true, Bool.and_eq_true, Option.isSome_iff_ne_none, Device.heldByFeed_iff,
            Device.inMotion_iff, or_assoc, held, inMotion, entry, he, Option.some.injEq, exists_eq_left']
        · have hk : a.kind ≠ some .unknown := fun hk => by
            rw [hfirst.mp (.inr (.inl (.inl hk)))] at hf
            exact absurd hf (by simp)
          rw [Device.editState_iff hk]
          simp only [entry, he, Option.some.injEq, exists_eq_left', named]
    -- REMOVE
    · refine .of_entry (fun _ => rfl) fun e he => .cons ?_ fun _ => .cons ?_ fun _ => .nil
      · simp only [Bool.or_eq_true, Device.named_iff, Device.heldByFeed_iff, Device.inMotion_iff, or_assoc, held,
          inMotion, entry, named, he, Option.some.injEq, exists_eq_left']
      · simp only [Bool.or_eq_true, Bool.and_eq_true, beq_iff_eq, entry, he, Option.some.injEq, exists_eq_left']
    -- FINALIZE
    · refine .of_entry (fun _ => rfl) fun e he => .cons ?_ fun _ => .cons ?_ fun _ => .cons ?_ fun _ => .nil
      · simp only [Bool.or_eq_true, beq_iff_eq, unfinalizable_iff, Option.any_eq_true, decide_eq_true_iff, or_assoc,
          entry, he, Option.some.injEq, exists_eq_left']
      · simp only [Bool.or_eq_true, beq_iff_eq, entry, he, Option.some.injEq, exists_eq_left']
      · simp only [Bool.or_eq_true, beq_iff_eq, Device.heldByFeed_iff, Device.feedMounting_iff, or_assoc, held, entry,
          he, Option.some.injEq, exists_eq_left']
    -- RECYCLE
    · refine .of_entry (fun _ => rfl) fun e he => .cons ?_ fun _ => .cons ?_ fun _ => .cons ?_ fun _ => .nil
      · simp only [beq_iff_eq, entry, he, Option.some.injEq, exists_eq_left']
      · simp only [Bool.or_eq_true, beq_iff_eq, entry, he, Option.some.injEq, exists_eq_left']
      · simp only [Bool.or_eq_true, Device.named_iff, Device.heldByFeed_iff, Device.inMotion_iff, or_assoc, held,
          inMotion, entry, named, he, Option.some.injEq, exists_eq_left']
  -- LOAD_POOL
  · refine State.request_badArgument up rfl ?_
    rw [Device.poolRefusal, finOf_none h]
  · refine State.request_inOrder up rfl ?_
    simp only [Device.poolRefusal, finOf_val]
    refine .of_conditional rfl <| .cons ?_ fun _ => .cons not_expectPasses_iff.symm fun _ => .nil
    simp only [Bool.or_eq_true, beq_iff_eq, expectWide_iff, poolArgsBad_iff, or_assoc, wide]
  -- MOVE
  · refine State.request_badArgument up rfl ?_
    unfold Device.moveRefusal
    rcases h with h | h
    · rw [finOf_none h]
    · rw [finOf_none h]; cases finOf? 105 a <;> rfl
  · refine State.request_inOrder up rfl ?_
    simp only [Device.moveRefusal, finOf_val]
    refine .of_firstFailing rfl <| .cons ?_ fun _ => .cons ?_ fun _ => .cons ?_ fun _ => .cons ?_ fun _ => .nil
    · simp only [Bool.or_eq_true, beq_iff_eq, or_assoc]
    · simp only [Bool.or_eq_true, Bool.and_eq_true, Device.loadAt_isNone, Device.foreignLoad_iff, bne_iff_ne, or_assoc]
    · simp only [Bool.or_eq_true, Device.moveNames, Option.isSome_iff_ne_none, Device.loadBusy_iff,
        Device.driveBusy_iff, or_assoc, entry, held]
    · exact decide_eq_true_iff.symm
  -- RESTORE
  · refine State.request_badArgument up rfl ?_
    rw [Device.restoreRefusal, restoreOf_none h]
  · intro of
    refine State.request_inOrder up rfl ?_
    rw [Device.restoreRefusal_eq]
    have hfull : 16 ≤ s.dev.ru.queue.length ↔ decide (16 ≤ s.dev.ru.queue.length) = true := decide_eq_true_iff.symm
    cases hp : s.dev.part? part with
    | none =>
      exact .of_firstFailing rfl <| .cons restoreArgsBad_iff.symm fun _ => .cons hfull fun _ =>
        .cons (by simpa using Device.part_eq_none.mp hp) nofun
    | some p =>
      refine .of_firstFailing rfl <| .cons restoreArgsBad_iff.symm fun _ => .cons hfull fun _ =>
        .skip (by simp [← Device.part_eq_none, hp]) <| .cons ?_ fun ho => .cons ?_ fun _ => .cons ?_ fun _ => .nil
      · simp only [Bool.or_eq_true, beq_iff_eq, of, hp, Option.some.injEq, exists_eq_left']
      · simp only [rangeBad_iff, of, hp, Option.some.injEq, exists_eq_left']
      · have ho : p.state ≠ .open := fun h => by simp [h] at ho
        simp [of, hp, Device.restore?, List.find?_isSome, Part.restorePinFree, ho]
  -- VERIFY_NOW
  · refine State.request_inOrder up rfl ?_
    simp only [Device.verifyRefusal, finOf_val]
    refine .of_firstFailing rfl <| .cons ?_ fun _ => .cons ?_ fun _ => .cons ?_ fun _ => .nil
    · simp
    · simp [Device.partsOn, Part.unsettled]
    · simp [Option.any_eq_true]

end Sys2Proof.Machine

/-! ### Whatever the engine stores, the expansion gives back (R26 to R29, R37 to R39) -/

namespace Sys2Proof.Machine

/-! #### Bytes compared and copied -/

theorem sharedLen_le (n : Nat) (xs ys : Bytes) : sharedLen n xs ys ≤ n := by
  fun_induction sharedLen n xs ys <;> omega

theorem sharedLen_le_length (n : Nat) (xs ys : Bytes) : sharedLen n xs ys ≤ ys.length := by
  fun_induction sharedLen n xs ys <;> simp_all

theorem sharedLen_mono {n m : Nat} (h : n ≤ m) (xs ys : Bytes) : sharedLen n xs ys ≤ sharedLen m xs ys := by
  fun_induction sharedLen n xs ys generalizing m with
  | case1 | case2 | case3 => exact Nat.zero_le _
  | case4 n x xs ys ih =>
    obtain ⟨k, rfl⟩ : ∃ k, m = k + 1 := ⟨m - 1, by omega⟩
    simpa [sharedLen] using ih (by omega)
  | case5 => exact Nat.zero_le _

/-- Two runs agree as far as they are found to share bytes. -/
theorem take_sharedLen (n : Nat) (xs ys : Bytes) :
    xs.take (sharedLen n xs ys) = ys.take (sharedLen n xs ys) := by
  fun_induction sharedLen n xs ys <;> simp_all

/-- A byte-by-byte copy from where the record holds the same bytes continues the record, also where the copied bytes
overlap those it writes (R37). -/
theorem copyBack_record {record : Bytes} {q p n : Nat} (hq : q < p) (hn : p + n ≤ record.length)
    (h : (record.drop q).take n = (record.drop p).take n) :
    copyBack (p - q) n (record.take p).reverse = (record.take (p + n)).reverse := by
  induction n generalizing q p with
  | zero => rfl
  | succ n ih =>
    have hp : p < record.length := by omega
    have hq' : q < record.length := by omega
    rw [List.drop_eq_getElem_cons hp, List.drop_eq_getElem_cons hq', List.take_succ_cons, List.take_succ_cons,
      List.cons.injEq] at h
    obtain ⟨hbyte, hrest⟩ := h
    have hget : (record.take p).reverse.getD (p - q - 1) 0 = record[p] := by
      rw [← hbyte, List.getD_eq_getElem?_getD, List.getElem?_reverse (by simp; omega), List.length_take,
        Nat.min_eq_left (by omega), List.getElem?_take_of_lt (by omega),
        show p - 1 - (p - q - 1) = q by omega, List.getElem?_eq_getElem hq', Option.getD_some]
    have hcons : record[p] :: (record.take p).reverse = (record.take (p + 1)).reverse := by
      rw [List.take_succ_eq_append_getElem hp, List.reverse_append, List.reverse_singleton, List.singleton_append]
    rw [copyBack, hget, hcons, show p - q = p + 1 - (q + 1) by omega, ih (by omega) (by omega) hrest,
      show p + 1 + n = p + (n + 1) by omega]

/-! #### Tokens and what they spell -/

theorem Token.length_bytes (t : Token) : t.bytes.length = t.size := by
  cases t <;> simp [Token.bytes, Token.size, leBytes, Nat.add_comm]

theorem tokensBytes_append (ts : List Token) (t : Token) : tokensBytes (ts ++ [t]) = tokensBytes ts ++ t.bytes := by
  simp [tokensBytes]

theorem Token.size_pos (t : Token) : 1 ≤ t.size := by
  cases t <;> simp [Token.size]

/-- No token is empty. -/
theorem length_le_tokensBytes (ts : List Token) : ts.length ≤ (tokensBytes ts).length := by
  induction ts with
  | nil => exact Nat.zero_le _
  | cons t ts ih =>
    have h1 := t.length_bytes
    have h2 := t.size_pos
    simp only [tokensBytes, List.flatMap_cons, List.length_append, List.length_cons] at ih ⊢
    omega

/-- The tokens, each in the ranges of R28 and each copy reaching back into bytes already given, spell these bytes. -/
inductive Spells : List Token → Bytes → Prop
  | nil : Spells [] []
  | literal {ts : List Token} {out run : Bytes} : Spells ts out → 1 ≤ run.length → run.length ≤ 128 →
      Spells (ts ++ [.literal run]) (out ++ run)
  | copy {ts : List Token} {out more : Bytes} {dist : Nat} : Spells ts out → 3 ≤ more.length → more.length ≤ 130 →
      1 ≤ dist → dist ≤ out.length → dist ≤ 65535 →
      copyBack dist more.length out.reverse = (out ++ more).reverse →
      Spells (ts ++ [.copy more.length dist]) (out ++ more)

theorem Spells.eq_nil {out : Bytes} (h : Spells [] out) : out = [] := by
  generalize hts : ([] : List Token) = ts at h
  cases h with
  | nil => rfl
  | literal | copy => simp at hts

theorem expandToken_literal {rawLen n : Nat} {run out more : Bytes} (h1 : 1 ≤ run.length) (h2 : run.length ≤ 128)
    (hlen : out.length + run.length ≤ rawLen) :
    expandToken rawLen ⟨(Token.literal run).bytes ++ more, n, out⟩ =
      some ⟨more, n + (Token.literal run).size, run.reverse ++ out⟩ := by
  have hc : (BitVec.ofNat 8 (run.length - 1)).toNat = run.length - 1 := by
    rw [BitVec.toNat_ofNat]; omega
  have hn : run.length - 1 + 1 = run.length := by omega
  simp only [expandToken, Token.bytes, Token.size, List.cons_append, hc, hn, List.length_append]
  rw [if_pos (by omega), if_pos ⟨by omega, hlen⟩]
  simp [Nat.add_assoc]

theorem expandToken_copy {rawLen n len dist : Nat} {out more : Bytes} (h1 : 3 ≤ len) (h2 : len ≤ 130) (h3 : 1 ≤ dist)
    (h4 : dist ≤ out.length) (h5 : dist ≤ 65535) (hlen : out.length + len ≤ rawLen) :
    expandToken rawLen ⟨(Token.copy len dist).bytes ++ more, n, out⟩ =
      some ⟨more, n + (Token.copy len dist).size, copyBack dist len out⟩ := by
  have hc : (BitVec.ofNat 8 (len - 3 + 128)).toNat = len - 3 + 128 := by
    rw [BitVec.toNat_ofNat]; omega
  have hb := leBytes_length 2 dist
  have hn : len - 3 + 128 - 128 + 3 = len := by omega
  simp only [expandToken, Token.bytes, Token.size, List.cons_append, hc, hn, List.length_append,
    List.take_append_of_le_length (Nat.le_of_eq hb.symm), List.drop_append_of_le_length (Nat.le_of_eq hb.symm),
    List.take_of_length_le (Nat.le_of_eq hb), List.drop_of_length_le (Nat.le_of_eq hb),
    leNat_leBytes_of_lt (n := 2) (Nat.lt_succ_of_le h5)]
  rw [if_neg (by omega), if_pos ⟨by omega, h3, h4, hlen⟩, List.nil_append]

/-- A token that expands is one turn of the expansion. -/
theorem expandTokens_token {rawLen fuel : Nat} {e e' : Expander} (h : expandToken rawLen e = some e') :
    expandTokens rawLen (fuel + 1) e = expandTokens rawLen fuel e' := by
  have hne : e.input ≠ [] := fun hn => by simp [expandToken, hn] at h
  simp only [expandTokens, h]

/-- The expansion of tokens gives what they spell, and goes on with the input behind them (R37). -/
theorem expandTokens_spells {ts : List Token} {out : Bytes} (h : Spells ts out) {rawLen : Nat}
    (hlen : out.length ≤ rawLen) (more : Bytes) (fuel : Nat) :
    expandTokens rawLen (ts.length + fuel) ⟨tokensBytes ts ++ more, 0, []⟩ =
      expandTokens rawLen fuel ⟨more, (tokensBytes ts).length, out.reverse⟩ := by
  induction h generalizing more fuel with
  | nil => simp [tokensBytes]
  | @literal ts out run _ h1 h2 ih =>
    rw [List.length_append] at hlen
    have ht := expandToken_literal (n := (tokensBytes ts).length) (out := out.reverse) (more := more) h1 h2
      (by simpa using hlen)
    rw [tokensBytes_append, List.append_assoc, List.length_append, Nat.add_assoc, List.length_singleton, Nat.add_comm 1,
      ih (by omega), expandTokens_token ht, List.length_append, Token.length_bytes, List.reverse_append]
  | @copy ts out run dist _ h1 h2 h3 h4 h5 hc ih =>
    rw [List.length_append] at hlen
    have ht := expandToken_copy (n := (tokensBytes ts).length) (out := out.reverse) (more := more) h1 h2 h3
      (by simpa using h4) h5 (by simpa using hlen)
    rw [tokensBytes_append, List.append_assoc, List.length_append, Nat.add_assoc, List.length_singleton, Nat.add_comm 1,
      ih (by omega), expandTokens_token ht, hc, List.length_append, Token.length_bytes]

/-! #### The match finder -/

/-- A head table entry is the one set last, or one set before (R26). -/
theorem headGet_headSet {l : List (Nat × Nat)} {h p k q : Nat} (hg : headGet (headSet l h p) k = some q) :
    q = p ∨ headGet l k = some q := by
  induction l with
  | nil => simp_all [headSet, headGet]
  | cons x t ih => grind [headSet, headGet]

/-- What holds of the match finder at every position of a record: the tokens emitted spell the bytes before the pending
literals, their size is counted, and the head table points back (R26 to R28). -/
structure Finder.Reads (record : Bytes) (f : Finder) : Prop where
  within : f.pos ≤ record.length
  rest : f.rest = record.drop f.pos
  head : ∀ h q, headGet f.head h = some q → q < f.pos
  size : f.size = (tokensBytes f.out).length
  spells : ∃ done, Spells f.out done ∧ done ++ f.pending = record.take f.pos

section
variable {record : Bytes} {f : Finder}

theorem Finder.flush_pending (f : Finder) : f.flush.pending = [] := by
  unfold Finder.flush; split
  · assumption
  · rfl

theorem Finder.flush_unread (f : Finder) :
    f.flush.pos = f.pos ∧ f.flush.rest = f.rest ∧ f.flush.head = f.head := by
  unfold Finder.flush; split <;> exact ⟨rfl, rfl, rfl⟩

theorem Finder.Reads.size_emit (r : f.Reads record) (t : Token) :
    (f.emit t).size = (tokensBytes (f.emit t).out).length := by
  rw [Finder.emit, tokensBytes_append, List.length_append, ← r.size, t.length_bytes]

/-- The pending literals become a token that spells them (R28). -/
theorem Finder.Reads.flush (r : f.Reads record) (hp : f.pending.length ≤ 128) : f.flush.Reads record := by
  unfold Finder.flush
  split
  · exact r
  · rename_i hne
    obtain ⟨done, hs, hd⟩ := r.spells
    exact ⟨r.within, r.rest, r.head, r.size_emit _, record.take f.pos,
      hd ▸ hs.literal (List.length_pos_iff.mpr hne) hp, List.append_nil _⟩

theorem Finder.literal_unread (b : Byte) (t : Bytes) :
    (f.literal b t).pos = f.pos + 1 ∧ (f.literal b t).rest = t ∧ (f.literal b t).head = f.head := by
  unfold Finder.literal
  dsimp only
  split
  · exact Finder.flush_unread _
  · exact ⟨rfl, rfl, rfl⟩

/-- A byte that is no match's joins the pending literals (R27, R28). -/
theorem Finder.Reads.literal (r : f.Reads record) (hp : f.pending.length < 128) {b : Byte} {t : Bytes}
    (hr : f.rest = b :: t) : (f.literal b t).Reads record ∧ (f.literal b t).pending.length < 128 := by
  have hdrop : record.drop f.pos = b :: t := r.rest ▸ hr
  have hlt : f.pos < record.length := by
    have := congrArg List.length hdrop
    simp at this; omega
  obtain ⟨hb, ht⟩ := List.cons.inj (hdrop ▸ List.drop_eq_getElem_cons hlt)
  obtain ⟨done, hs, hd⟩ := r.spells
  have next : ({ f with pos := f.pos + 1, rest := t, pending := f.pending ++ [b] } : Finder).Reads record :=
    { within := hlt
      rest := ht
      head := fun h q hq => Nat.lt_succ_of_lt (r.head h q hq)
      size := r.size
      spells := ⟨done, hs, by rw [List.take_succ_eq_append_getElem hlt, ← hd, hb, List.append_assoc]⟩ }
  unfold Finder.literal
  dsimp only
  split
  · rename_i hfull
    exact ⟨next.flush (Nat.le_of_eq hfull), by rw [Finder.flush_pending]; decide⟩
  · rename_i hfull
    refine ⟨next, ?_⟩
    rw [List.length_append, List.length_singleton] at hfull ⊢
    omega

/-- A match found is of bytes the record holds at the candidate too (R27, step 3). -/
theorem Finder.candidate_some {q : Option Nat} {len dist : Nat} (h : Finder.candidate record f q = some (len, dist))
    (h3 : 3 ≤ f.rest.length) :
    ∃ p, q = some p ∧ dist = f.pos - p ∧ dist ≤ 65535 ∧ 3 ≤ len ∧ len ≤ 130 ∧ len ≤ f.rest.length ∧
      (record.drop p).take len = f.rest.take len := by
  cases q with
  | none => exact absurd h nofun
  | some p =>
    simp only [Finder.candidate, Option.ite_none_right_eq_some, Option.some.injEq, Prod.mk.injEq] at h
    obtain ⟨⟨hd, hs⟩, rfl, rfl⟩ := h
    have hm := sharedLen_mono (show 3 ≤ min 130 f.rest.length by omega) (record.drop p) f.rest
    have hl := sharedLen_le (min 130 f.rest.length) (record.drop p) f.rest
    exact ⟨p, rfl, rfl, hd, by omega, by omega, by omega, take_sharedLen _ _ _⟩

/-- A match is a token that copies the bytes from the candidate's place on (R27, R28). -/
theorem Finder.Reads.copy (r : f.Reads record) (hp : f.pending = []) {len p : Nat} (hlt : p < f.pos)
    (hd : f.pos - p ≤ 65535) (h3 : 3 ≤ len) (h130 : len ≤ 130) (hl : len ≤ f.rest.length)
    (hb : (record.drop p).take len = f.rest.take len) :
    ({ f.emit (.copy len (f.pos - p)) with pos := f.pos + len, rest := f.rest.drop len } : Finder).Reads record := by
  have hfit : f.pos + len ≤ record.length := by
    rw [r.rest, List.length_drop] at hl
    have := r.within
    omega
  obtain ⟨done, hs, hdone⟩ := r.spells
  rw [hp, List.append_nil] at hdone
  subst hdone
  have hmore : ((record.drop f.pos).take len).length = len := by rw [List.length_take, List.length_drop]; omega
  have htake : record.take f.pos ++ (record.drop f.pos).take len = record.take (f.pos + len) := by
    rw [List.take_add]
  have spelled := hs.copy (more := (record.drop f.pos).take len) (dist := f.pos - p) (by omega) (by omega) (by omega)
    (by rw [List.length_take]; omega) hd (by rw [hmore, htake]; exact copyBack_record hlt hfit (by rw [hb, r.rest]))
  rw [hmore, htake] at spelled
  exact
    { within := hfit
      rest := by rw [r.rest, List.drop_drop]
      head := fun h q hq => Nat.lt_add_right _ (r.head h q hq)
      size := r.size_emit _
      spells := ⟨_, spelled, by rw [show (f.emit _).pending = [] from hp, List.append_nil]⟩ }

/-- An entry of the head table set to a position already left behind (R26). -/
theorem Finder.Reads.setHead (r : f.Reads record) (h : Nat) {p : Nat} (hp : p < f.pos) :
    ({ f with head := headSet f.head h p } : Finder).Reads record :=
  { r with
    head := fun k q hq => (headGet_headSet hq).elim (fun e => e ▸ hp) (r.head k q) }

/-- A round of R27 that uses its candidate. -/
theorem Finder.step_match {a b c : Byte} {t : Bytes} {len dist : Nat} (hr : f.rest = a :: b :: c :: t)
    (hc : Finder.candidate record f (headGet f.head (hash3 a b c)) = some (len, dist)) :
    f.step record =
      { f.flush.emit (.copy len dist) with
        pos := f.flush.pos + len, rest := f.flush.rest.drop len
        head := headSet f.flush.head (hash3 a b c) f.pos } := by
  obtain ⟨pos, rest, head, pending, out, size⟩ := f
  subst hr
  simp only [Finder.step, hc, Finder.flush]
  split <;> rfl

/-- A round of R27 without a match. -/
theorem Finder.step_literal {a b c : Byte} {t : Bytes} (hr : f.rest = a :: b :: c :: t)
    (hc : Finder.candidate record f (headGet f.head (hash3 a b c)) = none) :
    f.step record =
      { f.literal a (b :: c :: t) with head := headSet (f.literal a (b :: c :: t)).head (hash3 a b c) f.pos } := by
  obtain ⟨pos, rest, head, pending, out, size⟩ := f
  subst hr
  simp only [Finder.step, hc, Finder.literal, Finder.flush]
  split
  · split <;> rfl
  · rfl

/-- A round with fewer than three bytes left (R27). -/
theorem Finder.step_short {a : Byte} {t : Bytes} (hr : f.rest = a :: t) (ht : t.length < 2) :
    f.step record = f.literal a t := by
  rcases t with _ | ⟨b, _ | ⟨c, t⟩⟩
  · simp only [Finder.step, hr]
  · simp only [Finder.step, hr]
  · simp at ht

/-- A round keeps what holds of the finder, and reads on. -/
theorem Finder.Reads.step (r : f.Reads record) (hp : f.pending.length < 128) (hne : f.rest ≠ []) :
    (f.step record).Reads record ∧ (f.step record).pending.length < 128 ∧
      (f.step record).rest.length < f.rest.length := by
  obtain ⟨a, u, hr⟩ := List.exists_cons_of_ne_nil hne
  obtain ⟨hpos, hrest, -⟩ := Finder.literal_unread (f := f) a u
  obtain ⟨next, hlit⟩ := r.literal hp hr
  rcases Nat.lt_or_ge u.length 2 with hu | hu
  · rw [Finder.step_short hr hu]
    exact ⟨next, hlit, by rw [hrest, hr]; simp⟩
  · obtain ⟨b, c, t, rfl⟩ : ∃ b c t, u = b :: c :: t := by
      rcases u with _ | ⟨b, _ | ⟨c, t⟩⟩
      · simp at hu
      · simp at hu
      · exact ⟨b, c, t, rfl⟩
    cases hc : Finder.candidate record f (headGet f.head (hash3 a b c)) with
    | none =>
      rw [Finder.step_literal hr hc]
      exact ⟨next.setHead _ (hpos ▸ Nat.lt_succ_self _), hlit, by simp [hrest, hr]⟩
    | some m =>
      obtain ⟨len, dist⟩ := m
      obtain ⟨p, hq, rfl, hd, h3, h130, hl, hb⟩ := Finder.candidate_some hc (by simp [hr])
      obtain ⟨epos, erest, ehead⟩ := f.flush_unread
      have copied := (r.flush (Nat.le_of_lt hp)).copy (Finder.flush_pending f) (len := len) (p := p)
        (by rw [epos]; exact r.head _ _ hq) (by rwa [epos]) h3 h130 (by rwa [erest]) (by rwa [erest])
      rw [Finder.step_match hr hc, ← epos]
      refine ⟨copied.setHead _ (Nat.lt_add_of_pos_right (by omega)), ?_, ?_⟩
      · show f.flush.pending.length < 128
        rw [Finder.flush_pending]; decide
      · show (f.flush.rest.drop len).length < f.rest.length
        rw [erest, List.length_drop, hr, List.length_cons]
        omega

/-- The finder ends with the size of its tokens reached, or with the whole record in them (R27, R29). -/
theorem Finder.Reads.run (r : f.Reads record) (hp : f.pending.length < 128) {fuel : Nat} (hf : f.rest.length ≤ fuel)
    (n : Nat) :
    (Finder.run record n fuel f).Reads record ∧
      (n ≤ (Finder.run record n fuel f).size ∨
        (Finder.run record n fuel f).rest = [] ∧ (Finder.run record n fuel f).pending = []) := by
  induction fuel generalizing f with
  | zero =>
    obtain ⟨-, erest, -⟩ := f.flush_unread
    exact ⟨r.flush (Nat.le_of_lt hp),
      .inr ⟨erest.trans (List.eq_nil_of_length_eq_zero (Nat.le_zero.mp hf)), f.flush_pending⟩⟩
  | succ fuel ih =>
    unfold Finder.run
    split
    · rename_i hn
      exact ⟨r, .inl hn⟩
    · split
      · rename_i he
        obtain ⟨-, erest, -⟩ := f.flush_unread
        exact ⟨r.flush (Nat.le_of_lt hp), .inr ⟨erest.trans he, f.flush_pending⟩⟩
      · rename_i hne
        obtain ⟨next, hpend, hless⟩ := r.step hp hne
        exact ih next hpend (by omega)

end

theorem findMatches_reads (record : Bytes) :
    (findMatches record).Reads record ∧
      (record.length ≤ (findMatches record).size ∨
        (findMatches record).rest = [] ∧ (findMatches record).pending = []) := by
  have start : Finder.Reads record { pos := 0, rest := record, head := [], pending := [], out := [], size := 0 } :=
    { within := Nat.zero_le _
      rest := rfl
      head := fun _ _ hq => by simp [headGet] at hq
      size := rfl
      spells := ⟨[], .nil, rfl⟩ }
  exact start.run (show 0 < 128 by decide) (Nat.le_refl _) _

/-- The size the finder counts is that of its tokens' bytes (R28). -/
theorem findMatches_size (record : Bytes) : (findMatches record).size = (tokensBytes (findMatches record).out).length :=
  (findMatches_reads record).1.size

/-- Tokens shorter than the record spell it whole (R27 to R29). -/
theorem findMatches_spells {record : Bytes} (h : (findMatches record).size < record.length) :
    Spells (findMatches record).out record := by
  obtain ⟨r, hend⟩ := findMatches_reads record
  obtain ⟨hrest, hpend⟩ := hend.resolve_left (Nat.not_le.mpr h)
  obtain ⟨done, hs, hd⟩ := r.spells
  have hlen : record.length ≤ (findMatches record).pos := List.drop_eq_nil_iff.mp (r.rest ▸ hrest)
  rw [hpend, List.append_nil, List.take_of_length_le hlen] at hd
  exact hd ▸ hs

/-! #### The record as stored, and its expansion -/

theorem compressRecord_compressed {raw : Bytes} (h : (findMatches raw).size < raw.length) :
    compressRecord raw = (.compressed, tokensBytes (findMatches raw).out, (findMatches raw).head) := by
  simp only [compressRecord, if_pos h]

theorem compressRecord_stored {raw : Bytes} (h : raw.length ≤ (findMatches raw).size) :
    compressRecord raw = (.stored, raw, (findMatches raw).head) := by
  simp only [compressRecord, if_neg (Nat.not_lt.mpr h)]

/-- A STORED record's bytes are its raw bytes (R37), and its check decides (R39). -/
theorem expandRecord_stored {r : TapeRecord} (hm : r.method = storedCode) (h1 : 1 ≤ r.rawLen) (h2 : r.rawLen ≤ 65536)
    (hs : r.storedLen = r.rawLen) (hl : r.stored.length = r.rawLen) :
    (expandRecord r).1 = if crc32 r.stored = r.rawCrc then .good r.stored r.rawCrc
      else .crcMismatch (crc32 r.stored) := by
  have ok : expandHeaderOk r = true := by
    simp only [expandHeaderOk, if_pos hm, Bool.and_eq_true, decide_eq_true_eq, beq_iff_eq]
    exact ⟨⟨h1, h2⟩, hs⟩
  simp only [expandRecord, ok, if_true, hm, hl, decide_true, List.reverse_reverse]
  split
  · rename_i hc; rw [hc]
  · rfl

/-- A COMPRESSED record whose tokens spell bytes of its raw length expands to them (R37), its check deciding (R39). -/
theorem expandRecord_compressed {r : TapeRecord} {ts : List Token} {raw : Bytes} (hm : r.method = compressedCode)
    (h1 : 1 ≤ r.rawLen) (h2 : r.rawLen ≤ 65536) (h3 : 1 ≤ r.storedLen) (h4 : r.storedLen < r.rawLen)
    (hs : r.stored = tokensBytes ts) (spelled : Spells ts raw) (hr : r.rawLen = raw.length) :
    (expandRecord r).1 = if crc32 raw = r.rawCrc then .good raw (crc32 raw) else .crcMismatch (crc32 raw) := by
  have hne : ¬r.method = storedCode := by rw [hm]; decide
  have ok : expandHeaderOk r = true := by
    simp only [expandHeaderOk, if_neg hne, if_pos hm, Bool.and_eq_true, decide_eq_true_eq]
    exact ⟨⟨h1, h2⟩, h3, h4⟩
  obtain ⟨fuel, hfuel⟩ := Nat.exists_eq_add_of_le (length_le_tokensBytes ts)
  have expanded : expandTokens r.rawLen r.stored.length ⟨r.stored, 0, []⟩ =
      (true, ⟨[], (tokensBytes ts).length, raw.reverse⟩) := by
    have h := expandTokens_spells spelled (Nat.le_of_eq hr.symm) [] fuel
    rw [List.append_nil, ← hfuel, ← hs] at h
    rw [h, hs]
    cases fuel <;> simp [expandTokens, hr]
  simp only [expandRecord, ok, if_true, if_neg hne, expanded, List.reverse_reverse]

/-- A record whose header does not hold together is a decode error (R38, case 1). -/
theorem expandRecord_header {r : TapeRecord} (h : expandHeaderOk r = false) : (expandRecord r).1 = .decodeError := by
  simp [expandRecord, h]

/-- Settles O28: the tokens of the match finder spell the record and the expansion gives what they spell; a STORED
record is the record. -/
theorem expansionUndoesCompression : Obligations.ExpansionUndoesCompression := by
  intro raw r h1 h2 packed
  rcases Nat.lt_or_ge (findMatches raw).size raw.length with h | h
  · have hp : packed = (.compressed, tokensBytes (findMatches raw).out, (findMatches raw).head) :=
      compressRecord_compressed h
    have spelled := findMatches_spells h
    have hlen := findMatches_size raw
    simp only [hp]
    refine ⟨fun _ => by omega, nofun, fun hrl hsl hs hm hcrc => ?_⟩
    have hsome : 1 ≤ r.storedLen := by
      have hn := length_le_tokensBytes (findMatches raw).out
      have hout : (findMatches raw).out ≠ [] := fun hnil => by
        have hraw := Spells.eq_nil (hnil ▸ spelled)
        simp [hraw] at h1
      have := List.length_pos_iff.mpr hout
      omega
    rw [expandRecord_compressed hm (by omega) (by omega) hsome (by omega) hs spelled hrl, if_pos hcrc.symm]
  · have hp : packed = (.stored, raw, (findMatches raw).head) := compressRecord_stored h
    simp only [hp]
    refine ⟨nofun, fun _ => trivial, fun hrl hsl hs hm hcrc => ?_⟩
    rw [expandRecord_stored hm (by omega) (by omega) (by omega) (by rw [hs]; exact hrl.symm), hs,
      if_pos hcrc.symm, hcrc]

end Sys2Proof.Machine

/-! ### The search of the compression engine (R24, R25) -/

namespace Sys2Proof.Machine

theorem Feed.accepts_iff (x : Feed) : x.accepts = true ↔
    (x.state = .unbound ∨ x.state = .filling ∨ x.state = .streaming ∨ x.state = .paused) ∧
      x.stall = ⟨false, false, false, false⟩ ∧ x.staging.length < 64 := by
  simp only [Feed.accepts, Bool.and_eq_true, Bool.or_eq_true, beq_iff_eq, Bool.not_eq_true', Stall.any_eq_false,
    decide_eq_true_eq, and_assoc, or_assoc]
  rfl

/-- The streams the engine may take from (R24). -/
theorem Device.eligible_iff {d : Device} {c : StreamId} {f : FeedId} {o : Offered} :
    d.eligible c = some (f, o) ↔
      (d.stream c).state ≠ .closed ∧ (d.stream c).offered = some o ∧ o.taken = false ∧ (d.stream c).feed = some f ∧
        ∃ x, d.feed f = some x ∧ x.accepts = true := by
  unfold Device.eligible
  dsimp only
  split
  · rename_i hs; simp [hs]
  · rename_i o' g ho hf hs
    rw [ho, hf]
    have cond : (!o'.taken && (d.feed g).any Feed.accepts) = true ↔
        o'.taken = false ∧ ∃ x, d.feed g = some x ∧ x.accepts = true := by
      simp [Option.any_eq_true]
    simp only [Option.ite_none_right_eq_some, Option.some.injEq, Prod.mk.injEq, cond]
    constructor
    · rintro ⟨⟨ht, hx⟩, rfl, rfl⟩
      exact ⟨hs, rfl, ht, rfl, hx⟩
    · rintro ⟨-, rfl, ht, rfl, hx⟩
      exact ⟨⟨ht, hx⟩, rfl, rfl⟩
  · rename_i h
    exact ⟨nofun, fun ⟨hne, ho, _, hf, _⟩ => absurd hf (h o f ho)⟩

/-- How many channels on from the one after the last served a channel is reached, wrapping from 32 to 1 (R25). -/
def searchRank (last c : StreamId) : Nat := (c.val + 31 - last.val) % 32

theorem mem_searchOrder (last c : StreamId) : c ∈ searchOrder last := by
  simp only [searchOrder, allStreams, List.mem_append, List.mem_filter, List.mem_finRange, true_and, decide_eq_true_eq]
  exact lt_or_ge last c

/-- The search visits the channels in the order they are reached. -/
theorem searchOrder_pairwise (last : StreamId) :
    (searchOrder last).Pairwise fun x y => searchRank last x < searchRank last y := by
  have up : allStreams.Pairwise (· < ·) := List.pairwise_lt_finRange 32
  refine List.pairwise_append.mpr ⟨(up.filter _).imp_of_mem fun hx hy h => ?_,
    (up.filter _).imp_of_mem fun hx hy h => ?_, fun x hx y hy => ?_⟩
  all_goals
    simp only [List.mem_filter, decide_eq_true_eq, Fin.lt_def, Fin.le_def, searchRank] at *
    omega

theorem Device.ceSearch_busy {d : Device} (h : d.ce.state ≠ .idle) : d.ceSearch = d := by
  simp only [Device.ceSearch, if_neg h]

theorem Device.ceSearch_none {d : Device} (h : ∀ c, d.eligible c = none) : d.ceSearch = d := by
  have none : (searchOrder d.ce.lastServed).findSome? (fun c => (d.eligible c).map fun x => (c, x)) = none :=
    List.findSome?_eq_none_iff.mpr fun y _ => by rw [h y]; rfl
  simp only [Device.ceSearch, none, ite_self]

/-- An idle engine takes from the eligible stream that is reached first. -/
theorem Device.ceSearch_first {d : Device} {c : StreamId} {f : FeedId} {o : Offered} (idle : d.ce.state = .idle)
    (he : d.eligible c = some (f, o))
    (first : ∀ y, d.eligible y ≠ none → searchRank d.ce.lastServed c ≤ searchRank d.ce.lastServed y) :
    d.ceSearch = d.takeRecord c f o := by
  obtain ⟨before, after, hl⟩ := List.append_of_mem (mem_searchOrder d.ce.lastServed c)
  have hbefore : ∀ y ∈ before, d.eligible y = none := fun y hy => by
    have hp := searchOrder_pairwise d.ce.lastServed
    rw [hl] at hp
    have hlt := (List.pairwise_append.mp hp).2.2 y hy c (List.mem_cons_self ..)
    by_contra hn
    exact absurd (first y hn) (Nat.not_le.mpr hlt)
  have found : (searchOrder d.ce.lastServed).findSome? (fun c => (d.eligible c).map fun x => (c, x)) =
      some (c, f, o) :=
    List.findSome?_eq_some_iff.mpr
      ⟨before, c, after, hl, by rw [he]; rfl, fun y hy => by rw [hbefore y hy]; rfl⟩
  simp only [Device.ceSearch, if_pos idle, found]

/-- Settles O25: the search visits the channels in the order they are reached from the one last served. -/
theorem theSearchTakesTheNextEligibleStream : Obligations.TheSearchTakesTheNextEligibleStream := by
  intro d
  refine ⟨Device.ceSearch_busy, Device.ceSearch_none, fun c f o idle he first => ?_, fun c f o => ?_⟩
  · rw [Device.ceSearch_first idle he first]; rfl
  · simp only [Device.eligible_iff, Feed.accepts_iff]

end Sys2Proof.Machine

/-! ### The end of an expansion (R35 to R40) -/

namespace Sys2Proof.Machine

section
variable {s : State} {q : XeRequest}

theorem exec_expansionCompletion_idle (h : s.dev.xe.current = none) : exec .expansionCompletion s = .next s :=
  State.runIf_not_due (by rw [h]; rfl)

theorem exec_expansionCompletion (h : s.dev.xe.current = some q) :
    exec .expansionCompletion s = .next { s with dev := s.dev.begun.expansionEnd.settle } :=
  State.runIf_due (by rw [h]; rfl)

end

/-- The engine that has ended its record, its arbiter due (R36, R39). -/
def Device.expanded (d : Device) (q : XeRequest) : Device :=
  ({ d with xe := { d.xe with current := none, decode := (expandRecord q.record).2 } } : Device).post .xe

section
variable {d : Device} {q : XeRequest}

/-- The result of a requester that has ended is discarded (R40). -/
theorem Device.expansionEnd_dropped (h : d.xe.current = some q) (hd : q.dropped = true) :
    d.expansionEnd = d.expanded q := by
  simp only [Device.expansionEnd, h, hd]; rfl

theorem Device.expansionEnd_restore {r : RestoreId} (h : d.xe.current = some q) (hd : q.dropped = false)
    (hc : q.client = .restore r) :
    d.expansionEnd = (d.expanded q).resultToRestore r (expandRecord q.record).1 := by
  simp only [Device.expansionEnd, h, hd, hc]; rfl

theorem Device.expansionEnd_pass {c : CartId} (h : d.xe.current = some q) (hd : q.dropped = false)
    (hc : q.client = .pass c) :
    d.expansionEnd = (d.expanded q).resultToPass c (expandRecord q.record).1 := by
  simp only [Device.expansionEnd, h, hd, hc]; rfl

end

/-- The header checks of R38, case 1. -/
theorem expandHeaderOk_eq_false {r : TapeRecord} (h : r.rawLen = 0 ∨ 65536 < r.rawLen ∨
    (r.method ≠ storedCode ∧ r.method ≠ compressedCode) ∨ (r.method = storedCode ∧ r.storedLen ≠ r.rawLen) ∨
    (r.method = compressedCode ∧ (r.storedLen = 0 ∨ r.rawLen ≤ r.storedLen))) : expandHeaderOk r = false := by
  refine Bool.eq_false_iff.mpr fun ok => ?_
  simp only [expandHeaderOk, Bool.and_eq_true, decide_eq_true_eq] at ok
  obtain ⟨⟨h1, h2⟩, hm⟩ := ok
  have h2 : r.rawLen ≤ 65536 := h2
  rcases h with h | h | ⟨hs, hc⟩ | ⟨hs, hne⟩ | ⟨hc, hl⟩
  · omega
  · omega
  · rw [if_neg hs, if_neg hc] at hm; exact absurd hm nofun
  · rw [if_pos hs] at hm; exact hne (beq_iff_eq.mp hm)
  · rw [if_neg (by rw [hc]; decide), if_pos hc, decide_eq_true_eq] at hm; omega

/-- Settles O27: the end of the expansion by its requester, and what a record's header and method make of it. -/
theorem expansionCompletionReturnsTheResult : Obligations.ExpansionCompletionReturnsTheResult := by
  refine ⟨fun s => exec_expansionCompletion_idle, fun s q hq => ?_, fun r => ⟨fun hm h1 h2 hs hl => ?_, fun h => ?_⟩⟩
  · rw [exec_expansionCompletion hq]
    refine ⟨fun hd => ?_, fun r hd hc => ?_, fun c hd hc => ?_⟩
    · rw [Device.expansionEnd_dropped (d := s.dev.begun) hq hd]; rfl
    · rw [Device.expansionEnd_restore (d := s.dev.begun) hq hd hc]; rfl
    · rw [Device.expansionEnd_pass (d := s.dev.begun) hq hd hc]; rfl
  · exact expandRecord_stored hm h1 h2 hs hl
  · exact expandRecord_header (expandHeaderOk_eq_false h)

end Sys2Proof.Machine

/-! ### The finished record held, and what a placement finishes (R29 to R33) -/

namespace Sys2Proof.Machine

/-- The records that take the match finder (R31). -/
theorem takesFinder_iff {policy : Policy} {bypass : Nat} :
    takesFinder policy bypass = true ↔ policy = .always ∨ (policy = .adaptive ∧ bypass = 0) := by
  cases policy <;> simp [takesFinder]

/-- The engine with its record finished by this method (R23, R33). -/
def Device.holdRecord (d : Device) (r : CeRecord) (m : Method) (stored : Bytes) (head : List (Nat × Nat))
    (matched : Bool) : Device :=
  { d with
    ce :=
      { d.ce with
        state := .holding, head
        hold := some
          ⟨{ opening := r.opening, jobTag := r.jobTag, seq := r.seq, rawLen := r.rawLen, storedLen := stored.length,
             method := m, rawCrc := crc32 ((d.stream r.opening.chan).bytes.take r.rawLen), gap := r.gap, stored },
           matched⟩ } }

section
variable {d : Device} {r : CeRecord}

/-- A record that does not take the match finder is held as it is (R30, R31). -/
theorem Device.compress_bypassed (hr : d.ce.current = some r) (hf : takesFinder r.policy r.bypass = false) :
    d.compress = d.holdRecord r .stored ((d.stream r.opening.chan).bytes.take r.rawLen) d.ce.head false := by
  simp only [Device.compress, Device.holdRecord, hr, hf, Bool.false_eq_true, if_false]

/-- One that takes it is held as the match finder leaves it (R29). -/
theorem Device.compress_matched (hr : d.ce.current = some r) (hf : takesFinder r.policy r.bypass = true)
    {m : Method} {stored : Bytes} {head : List (Nat × Nat)}
    (hc : compressRecord ((d.stream r.opening.chan).bytes.take r.rawLen) = (m, stored, head)) :
    d.compress = d.holdRecord r m stored head true := by
  simp only [Device.compress, Device.holdRecord, hr, hf, if_true, hc]

end

theorem exec_compressionCompletion {s : State} (h : s.dev.ce.state = .compressing) :
    exec .compressionCompletion s = .next { s with dev := s.dev.begun.compress.offerHeld.settle } :=
  State.runIf_due (by rw [h]; rfl)

theorem exec_placement {s : State} (h : s.dev.ce.state = .holding) :
    exec .placement s = .next { s with dev := s.dev.begun.offerHeld.settle } :=
  State.runIf_due (by rw [h]; rfl)

/-! #### The engine and the adaptive counters at a finish -/

section
variable (d : Device) (c : StreamId)

theorem Device.postFeed_ce (f : Option FeedId) (t : FeedId → Task) : (d.postFeed f t).ce = d.ce := by
  cases f
  · rfl
  · exact Device.post_ce _ _

/-- A stream's two adaptive counters: consecutive stored records and bypass remaining (R31, R32). -/
def Stream.counters (x : Stream) : Nat × Nat := (x.storedRun, x.bypass)

theorem Stream.cut_counters (x : Stream) (k : CutCase) : (x.cut k).counters = x.counters := by
  cases k <;> rfl

@[simp] theorem Device.stream_emit (f : OutFrame) : (d.emit f).stream c = d.stream c := rfl

/-- A record-cutting decision is none of the engine's business: it keeps the engine and the stream's counters. -/
theorem Device.cutDecision_keeps :
    (d.cutDecision c).ce = d.ce ∧ ((d.cutDecision c).stream c).counters = (d.stream c).counters := by
  by_cases ho : (d.stream c).offered = none
  · cases hk : (d.stream c).cutCase with
    | none => rw [Device.cutDecision_none hk]; exact ⟨rfl, rfl⟩
    | some k =>
      by_cases hn : (d.stream c).nextSeq = Config.max32
      · refine ⟨?_, ?_⟩
        · rw [Device.cutDecision_last ho hk hn, Device.postFeed_ce, Device.post_ce]
          split <;> rfl
        · rw [Device.cutDecision_last_stream ho hk hn, if_pos rfl]
          exact Stream.cut_counters _ k
      · refine ⟨?_, ?_⟩
        · rw [Device.cutDecision_cut ho hk hn, Device.post_ce]; rfl
        · rw [Device.cutDecision_cut_stream ho hk hn, if_pos rfl, Stream.cut_counters]
  · rw [Device.cutDecision_offered ho]; exact ⟨rfl, rfl⟩

theorem Device.finishRecord_keeps :
    (d.finishRecord c).ce = d.ce ∧ ((d.finishRecord c).stream c).counters = (d.stream c).counters := by
  rw [Device.finishRecord_eq]
  split
  · obtain ⟨hce, hcount⟩ := Device.cutDecision_keeps
      ((d.modStream c fun x => { x.finish.1 with credits := x.finish.1.credits + x.finish.2 }).emit
        (.credit c (d.stream c).finish.2)) c
    exact ⟨hce, by rw [hcount, Device.stream_emit, Device.stream_modStream]; rfl⟩
  · split
    · exact ⟨rfl, by rw [Device.stream_modStream]; rfl⟩
    · obtain ⟨hce, hcount⟩ := Device.cutDecision_keeps (d.modStream c fun x => x.finish.1) c
      exact ⟨hce, by rw [hcount, Device.stream_modStream]; rfl⟩

theorem Device.closeIfDone_keeps :
    (d.closeIfDone c).ce = d.ce ∧ ((d.closeIfDone c).stream c).counters = (d.stream c).counters := by
  by_cases h : (d.stream c).state = .ending ∧ (d.stream c).slots = [] ∧ (d.stream c).offered = none ∧
      (d.stream c).unconfirmed = 0
  · obtain ⟨hstream, -⟩ := d.closeIfDone_gives c h
    refine ⟨?_, by rw [hstream, if_pos rfl]; rfl⟩
    rw [Device.closeIfDone_done h, Device.modStream_ce, Device.leaveFeed]
    split
    · rw [Device.closeRef_eq]
    · rw [Device.post_ce, Device.modFeed_ce, Device.closeRef_eq]
  · rw [Device.closeIfDone_stays h]; exact ⟨rfl, rfl⟩

variable (r : CeRecord) (h : Hold)

/-- The device with the opening's counters moved, while it goes on (R32). -/
def Device.counted : Device :=
  if (d.stream r.opening.chan).opening = r.opening.no ∧ (d.stream r.opening.chan).state ≠ .closed then
    d.modStream r.opening.chan fun s =>
      { s with
        storedRun := (adaptiveCounters r.policy h.matched h.record.method r.storedRun r.bypass).1
        bypass := (adaptiveCounters r.policy h.matched h.record.method r.storedRun r.bypass).2 }
  else d

theorem Device.placed_eq : d.placed r h =
    ({ ((d.counted r h).finishRecord r.opening.chan).closeIfDone r.opening.chan with
       ce := { (((d.counted r h).finishRecord r.opening.chan).closeIfDone r.opening.chan).ce with
         state := .idle, current := none, hold := none } } : Device).post .ceSearch := rfl

theorem Device.counted_ce : (d.counted r h).ce = d.ce := by
  unfold Device.counted; split <;> rfl

/-- After a placement the engine is IDLE and empty, and the opening's counters are as they were moved (R33). -/
theorem Device.placed_keeps :
    (d.placed r h).ce = { d.ce with state := .idle, current := none, hold := none } ∧
      ((d.placed r h).stream r.opening.chan).counters = ((d.counted r h).stream r.opening.chan).counters := by
  obtain ⟨ce1, count1⟩ := (d.counted r h).finishRecord_keeps r.opening.chan
  obtain ⟨ce2, count2⟩ := ((d.counted r h).finishRecord r.opening.chan).closeIfDone_keeps r.opening.chan
  rw [Device.placed_eq]
  generalize ((d.counted r h).finishRecord r.opening.chan).closeIfDone r.opening.chan = e at ce2 count2
  rw [Device.post_ce, Device.stream_post]
  exact ⟨by rw [ce2, ce1, Device.counted_ce], count2.trans count1⟩

variable {d r}

/-- The counters of an opening that goes on are those R32 makes of the values taken with the record. -/
theorem Device.placed_counters_goesOn
    (go : (d.stream r.opening.chan).opening = r.opening.no ∧ (d.stream r.opening.chan).state ≠ .closed) :
    ((d.placed r h).stream r.opening.chan).counters =
      adaptiveCounters r.policy h.matched h.record.method r.storedRun r.bypass := by
  rw [(Device.placed_keeps ..).2, Device.counted, if_pos go, Device.stream_modStream]; rfl

theorem Device.placed_counters_closed
    (go : ¬((d.stream r.opening.chan).opening = r.opening.no ∧ (d.stream r.opening.chan).state ≠ .closed)) :
    ((d.placed r h).stream r.opening.chan).counters = (d.stream r.opening.chan).counters := by
  rw [(Device.placed_keeps ..).2, Device.counted, if_neg go]

end

/-! #### The counters case by case (R32) -/

section
variable {m : Method} {run bypass : Nat}

theorem adaptiveCounters_compressed :
    adaptiveCounters .adaptive true .compressed run bypass = (0, bypass) := rfl

theorem adaptiveCounters_stored (h : run ≠ 7) :
    adaptiveCounters .adaptive true .stored run bypass = (run + 1, bypass) :=
  if_neg (by omega)

theorem adaptiveCounters_eighth : adaptiveCounters .adaptive true .stored 7 bypass = (8, 64) := rfl

theorem adaptiveCounters_bypassed (h : 2 ≤ bypass) :
    adaptiveCounters .adaptive false m run bypass = (run, bypass - 1) :=
  if_neg (by omega)

theorem adaptiveCounters_last (h : bypass ≤ 1) : adaptiveCounters .adaptive false m run bypass = (0, 0) :=
  if_pos (by omega)

end

end Sys2Proof.Machine

/-! ### Placement (R33, R47, R48) -/

namespace Sys2Proof.Machine

/-! #### The cases of R47 -/

section
variable {x : Feed} {a : Assembly} {size : Nat}

theorem Feed.placeCase_stopped (h : ¬(x.state ≠ .spanning ∧ x.state ≠ .suspended ∧ x.suspending = false)) :
    x.placeCase size = none := by
  refine if_pos ?_
  by_contra hn
  simp only [not_or, Bool.not_eq_true] at hn
  exact h hn

theorem Feed.placeCase_none (ha : x.assembly = none)
    (runs : x.state ≠ .spanning ∧ x.state ≠ .suspended ∧ x.suspending = false) :
    x.placeCase size = some .open := by
  obtain ⟨h1, h2, h3⟩ := runs
  simp only [Feed.placeCase, h1, h2, h3, ha]
  rfl

theorem Feed.placeCase_some (ha : x.assembly = some a) (hp : a.closePending = false)
    (runs : x.state ≠ .spanning ∧ x.state ≠ .suspended ∧ x.suspending = false) :
    x.placeCase size =
      if size ≤ 262108 - a.used then some .append else if x.staging.length < 64 then some .renew else none := by
  obtain ⟨h1, h2, h3⟩ := runs
  simp only [Feed.placeCase, h1, h2, h3, ha, hp]
  rfl

theorem Feed.placeCase_pending (ha : x.assembly = some a) (hp : a.closePending = true) : x.placeCase size = none := by
  simp only [Feed.placeCase, ha, hp, if_true, ite_self]

end

/-! #### A close before a placement (R48) -/

section
variable {d : Device} {f : FeedId} {x : Feed} {a : Assembly}

theorem Device.closeBefore_stays (hx : d.feed f = some x)
    (h : 64 ≤ x.staging.length ∨ ∀ a, x.assembly = some a → a.closePending = false) : d.closeBefore f = d := by
  refine if_neg fun hc => ?_
  simp only [hx, Option.any_some, Bool.and_eq_true, decide_eq_true_eq, Option.any_eq_true] at hc
  obtain ⟨hr, a, ha, hp⟩ := hc
  rcases h with h | h
  · exact absurd hr (Nat.not_lt.mpr h)
  · rw [h a ha] at hp; exact absurd hp nofun

theorem Device.closeBefore_closes (hx : d.feed f = some x) (ha : x.assembly = some a) (hp : a.closePending = true)
    (hr : x.staging.length < 64) : d.closeBefore f = d.closeNow f := by
  refine if_pos ?_
  simp only [hx, Option.any_some, ha, hp, Bool.and_true, decide_eq_true_eq]
  exact hr

theorem Device.closeNow_some (hx : d.feed f = some x) (ha : x.assembly = some a) :
    d.closeNow f = ((d.setFeed f (some { x with
      staging := x.staging ++ [⟨x.nextDseq, d.mu.elapsed, a.records, a.used⟩], nextDseq := x.nextDseq + 1,
      periodCount :=
        if x.state = .streaming ∨ x.state = .paused then min 4095 (x.periodCount + 1) else x.periodCount,
      assembly := none })).post (.feedDecide f)).feedDecide f := by
  simp only [Device.closeNow, hx, Feed.close_some ha]
  rfl

/-- The time of a placement is the command's, also after a close and its decision. -/
theorem Device.closeNow_now (d : Device) (f : FeedId) : (d.closeNow f).now = d.now :=
  congrArg Fixed.elapsed (d.closeNow_fixed f)

end

/-! #### The held record -/

section
variable {d : Device} {r : CeRecord} {h : Hold} {x : Feed}

theorem Device.offerHeld_places {k : PlaceCase} (hr : d.ce.current = some r) (hh : d.ce.hold = some h)
    (hx : (d.closeBefore r.feed).feed r.feed = some x) (hk : x.placeCase h.record.size = some k) :
    d.offerHeld = (d.closeBefore r.feed).placeHeld r h k := by
  simp only [Device.offerHeld, hr, hh, hx, hk]

theorem Device.offerHeld_waits (hr : d.ce.current = some r) (hh : d.ce.hold = some h)
    (hx : (d.closeBefore r.feed).feed r.feed = some x) (hk : x.placeCase h.record.size = none) :
    d.offerHeld = (d.closeBefore r.feed).setFeed r.feed (some { x with held := true }) := by
  simp only [Device.offerHeld, hr, hh, hx, hk]

theorem Device.placeHeld_open (d : Device) (r : CeRecord) (h : Hold) :
    d.placeHeld r h .open =
      ((d.post (.feedDecide r.feed)).modFeed r.feed fun y => y.openWith h.record d.now).placed r h := by
  simp only [Device.placeHeld, Device.now_post]
  rfl

/-- A record placed without a close (R47, cases 1 and 2). -/
theorem Device.placeHeld_noClose {k : PlaceCase} (hx : d.feed r.feed = some x) (hk : k ≠ .renew) :
    d.placeHeld r h k =
      ((d.setFeed r.feed (some (x.place h.record d.now k))).post (.feedDecide r.feed)).placed r h := by
  cases k with
  | renew => exact absurd rfl hk
  | _ =>
    simp only [Device.placeHeld, Device.modFeed, Device.feed_post, Device.now_post, hx, Option.map_some,
      Device.setFeed_post]

theorem Device.placeHeld_renew (d : Device) (r : CeRecord) (h : Hold) :
    d.placeHeld r h .renew =
      ((d.closeNow r.feed).modFeed r.feed fun y => y.openWith h.record d.now).placed r h := by
  simp only [Device.placeHeld, Device.closeNow_now]
  rfl

end

/-- A record that opens an assembly block (R47, case 1). -/
theorem Feed.place_open (x : Feed) (r : Record) (now : Nat) :
    x.place r now .open = { x with assembly := some ⟨[r], 24 + r.storedLen, now, false⟩, held := false } := rfl

/-- One that is appended to the block that has room (R47, case 2). -/
theorem Feed.place_append {x : Feed} {a : Assembly} (ha : x.assembly = some a) (r : Record) (now : Nat) :
    x.place r now .append = { x with
      assembly := some { a with records := a.records ++ [r], used := a.used + (24 + r.storedLen) }
      held := false } := by
  simp only [Feed.place, ha]; rfl

/-! #### PLACEMENT as a command -/

section
variable {s : State} {r : CeRecord} {h : Hold} {x y : Feed} {a : Assembly}
  (hs : s.dev.ce.state = .holding) (hr : s.dev.ce.current = some r) (hh : s.dev.ce.hold = some h)
  (hx : s.dev.feed r.feed = some x)
include hs hr hh hx

theorem exec_placement_places {k : PlaceCase}
    (hstay : 64 ≤ x.staging.length ∨ ∀ a, x.assembly = some a → a.closePending = false)
    (hk : x.placeCase h.record.size = some k) (hne : k ≠ .renew) :
    exec .placement s = .next { s with
      dev := (((s.dev.begun.setFeed r.feed (some (x.place h.record s.dev.mu.elapsed k))).post
        (.feedDecide r.feed)).placed r h).settle } := by
  have stays := Device.closeBefore_stays (d := s.dev.begun) hx hstay
  rw [exec_placement hs, Device.offerHeld_places (d := s.dev.begun) hr hh (by rw [stays]; exact hx) hk, stays,
    Device.placeHeld_noClose (d := s.dev.begun) hx hne, Device.now_begun]

theorem exec_placement_waits
    (hstay : 64 ≤ x.staging.length ∨ ∀ a, x.assembly = some a → a.closePending = false)
    (hk : x.placeCase h.record.size = none) :
    exec .placement s =
      .next { s with dev := (s.dev.begun.setFeed r.feed (some { x with held := true })).settle } := by
  have stays := Device.closeBefore_stays (d := s.dev.begun) hx hstay
  rw [exec_placement hs, Device.offerHeld_waits (d := s.dev.begun) hr hh (by rw [stays]; exact hx) hk, stays]

theorem exec_placement_renews
    (hstay : 64 ≤ x.staging.length ∨ ∀ a, x.assembly = some a → a.closePending = false)
    (hk : x.placeCase h.record.size = some .renew) :
    exec .placement s = .next { s with
      dev := (((s.dev.begun.closeNow r.feed).modFeed r.feed fun y =>
        y.openWith h.record s.dev.mu.elapsed).placed r h).settle } := by
  have stays := Device.closeBefore_stays (d := s.dev.begun) hx hstay
  rw [exec_placement hs, Device.offerHeld_places (d := s.dev.begun) hr hh (by rw [stays]; exact hx) hk, stays,
    Device.placeHeld_renew, Device.now_begun]

/-- A close-pending block is closed first; the record then opens a block if the feed still takes one (R48). -/
theorem exec_placement_closed_opens (ha : x.assembly = some a)
    (hp : a.closePending = true) (hroom : x.staging.length < 64)
    (hy : (s.dev.begun.closeNow r.feed).feed r.feed = some y) (hya : y.assembly = none)
    (go : y.state ≠ .spanning ∧ y.state ≠ .suspended ∧ y.suspending = false) :
    exec .placement s = .next { s with
      dev := ((((s.dev.begun.closeNow r.feed).post (.feedDecide r.feed)).modFeed r.feed fun y =>
        y.openWith h.record s.dev.mu.elapsed).placed r h).settle } := by
  have closes := Device.closeBefore_closes (d := s.dev.begun) hx ha hp hroom
  rw [exec_placement hs, Device.offerHeld_places (d := s.dev.begun) hr hh (by rw [closes]; exact hy)
    (Feed.placeCase_none hya go), closes, Device.placeHeld_open, Device.closeNow_now, Device.now_begun]

theorem exec_placement_closed_waits (ha : x.assembly = some a)
    (hp : a.closePending = true) (hroom : x.staging.length < 64)
    (hy : (s.dev.begun.closeNow r.feed).feed r.feed = some y)
    (stop : ¬(y.state ≠ .spanning ∧ y.state ≠ .suspended ∧ y.suspending = false)) :
    exec .placement s = .next { s with
      dev := ((s.dev.begun.closeNow r.feed).setFeed r.feed (some { y with held := true })).settle } := by
  have closes := Device.closeBefore_closes (d := s.dev.begun) hx ha hp hroom
  rw [exec_placement hs, Device.offerHeld_waits (d := s.dev.begun) hr hh (by rw [closes]; exact hy)
    (Feed.placeCase_stopped stop), closes]

end

/-- Settles O26: what the engine holds, the cases of R47 with the close before them, and the counters of R32. -/
theorem theHeldRecordIsPlacedInItsFeed : Obligations.TheHeldRecordIsPlacedInItsFeed := by
  refine ⟨⟨fun s hs => ?_, fun s r hs hr => ?completion⟩, fun s hs => ?_, fun s r h x hs hr hh hx => ?placement,
    fun d r h => ?counters⟩
  · exact State.runIf_not_due (beq_eq_false_iff_ne.mpr hs)
  case completion =>
    intro raw finder held
    have hr : s.dev.begun.ce.current = some r := hr
    have hfinder : finder ↔ takesFinder r.policy r.bypass = true := takesFinder_iff.symm
    have hsize := findMatches_size raw
    rw [exec_compressionCompletion hs]
    refine ⟨fun hf => ?_, fun hf hlt => ?_, fun hf hle => ?_⟩
    · rw [Device.compress_bypassed hr (Bool.eq_false_iff.mpr fun hc => hf (hfinder.mpr hc))]; rfl
    · rw [Device.compress_matched hr (hfinder.mp hf) (compressRecord_compressed (raw := raw) (by omega))]; rfl
    · rw [Device.compress_matched hr (hfinder.mp hf) (compressRecord_stored (raw := raw) (by omega))]; rfl
  · exact State.runIf_not_due (beq_eq_false_iff_ne.mpr hs)
  case placement =>
    intro now size placed waits runs decided opensIn
    have hdecided : ∀ a, x.assembly = some a → decided a = s.dev.begun.closeNow r.feed := fun a ha =>
      (Device.closeNow_some (d := s.dev.begun) hx ha).symm
    have stay : ∀ a, x.assembly = some a → a.closePending = false →
        64 ≤ x.staging.length ∨ ∀ b, x.assembly = some b → b.closePending = false := fun a ha hp =>
      .inr fun b hb => Option.some.inj (ha.symm.trans hb) ▸ hp
    refine ⟨fun ha hruns => ?opens, fun a ha hp hruns hfit => ?appends, fun a ha hp hruns hfull hroom => ?renews,
      fun a ha hp hruns hfull hstaged => ?full, fun a ha hp hstaged => ?pendingFull,
      fun a y ha hp hroom hy hya => ?pending, fun hstop hp => ?stopped⟩
    case opens =>
      rw [exec_placement_places hs hr hh hx (.inr fun a h => absurd (ha.symm.trans h) nofun)
        (Feed.placeCase_none ha hruns) nofun, Feed.place_open]
    case appends =>
      have hk : x.placeCase h.record.size = some .append := by
        rw [Feed.placeCase_some ha hp hruns, if_pos (by exact hfit)]
      rw [exec_placement_places hs hr hh hx (stay a ha hp) hk nofun, Feed.place_append ha]
    case renews =>
      have hk : x.placeCase h.record.size = some .renew := by
        rw [Feed.placeCase_some ha hp hruns, if_neg (by exact Nat.not_le.mpr hfull), if_pos hroom]
      rw [exec_placement_renews hs hr hh hx (stay a ha hp) hk, hdecided a ha]
      rfl
    case full =>
      refine exec_placement_waits hs hr hh hx (.inl hstaged) ?_
      rw [Feed.placeCase_some ha hp hruns, if_neg (by exact Nat.not_le.mpr hfull), if_neg (Nat.not_lt.mpr hstaged)]
    case pendingFull => exact exec_placement_waits hs hr hh hx (.inl hstaged) (Feed.placeCase_pending ha hp)
    case pending =>
      rw [hdecided a ha] at hy ⊢
      refine ⟨fun go => ?_, exec_placement_closed_waits hs hr hh hx ha hp hroom hy⟩
      rw [exec_placement_closed_opens hs hr hh hx ha hp hroom hy hya go]
      rfl
    case stopped => exact exec_placement_waits hs hr hh hx (.inr hp) (Feed.placeCase_stopped hstop)
  case counters =>
    intro x y goesOn
    refine ⟨fun go hp => ?_, fun go => ?_, (d.placed_keeps r h).1, Device.mem_post _ _⟩
    · have hc := Device.placed_counters_goesOn h go
      rw [hp] at hc
      refine ⟨fun hm hk => ?_, fun hm hk => ⟨fun hrun => ?_, fun hrun => ?_⟩, fun hm => ⟨fun hb => ?_, fun hb => ?_⟩⟩
      · rw [hm, hk, adaptiveCounters_compressed] at hc; exact Prod.mk.inj hc
      · rw [hm, hk, adaptiveCounters_stored hrun] at hc; exact Prod.mk.inj hc
      · rw [hm, hk, hrun, adaptiveCounters_eighth] at hc; exact Prod.mk.inj hc
      · rw [hm, adaptiveCounters_bypassed hb] at hc; exact Prod.mk.inj hc
      · rw [hm, adaptiveCounters_last hb] at hc; exact Prod.mk.inj hc
    · exact Prod.mk.inj (Device.placed_counters_closed h go)

end Sys2Proof.Machine

/-! ### What every step keeps of the laws (O7) -/

namespace Sys2Proof.Machine

/-- A RESP, the count of a command and every decision keep the laws. -/
theorem Device.lawful_kept : Kept Device.Lawful :=
  ⟨fun _ _ _ _ h => Device.respond_lawful h, fun _ h => h, fun _ h => Device.settle_lawful h⟩

/-- The power-on values keep the laws: every table stands empty. -/
theorem Device.powerOn_lawful (door hold : Bool) : (Device.powerOn door hold).Lawful where
  feedCapacity f x hx := by simp [Device.powerOn] at hx
  mapCapacity :=
    { capacity := Nat.zero_le _
      reserved := by simp [Device.powerOn]
      rising := .nil
      counter := ⟨Nat.le_refl 1, Nat.le_of_ble_eq_true rfl⟩ }
  extents p hp := (nomatch hp)
  locations c e := by simp [Device.powerOn]
  suspendStacks i := by
    rw [show (Device.powerOn door hold).drives[i] = Drive.powerOn by simp [Device.powerOn]]
    exact StackLaw.nil

/-! #### What a request that is not refused has passed (R174) -/

/-- A request on one cartridge entry that is not refused names a row in use. -/
theorem Device.entryRefusal_inUse {d : Device} {index : Nat} {x : Expected} {own : CartId → Cart → List (Bool × Status)}
    {c : CartId} (h : d.entryRefusal index x own = none) (hc : finOf? 128 index = some c) : ∃ e, d.cart c = some e := by
  simp only [Device.entryRefusal, hc] at h
  cases he : d.cart c with
  | some e => exact ⟨e, rfl⟩
  | none => rw [he] at h; simpa using firstFailing_none h

/-- A CREATE finds its row empty (R84). -/
theorem Device.createRefusal_none {d : Device} {index : Nat} {x : Expected} {b : Bytes} {a : CartArgs} {c : CartId}
    (h : d.createRefusal index x b a = none) (hc : finOf? 128 index = some c) : d.cart c = none := by
  simp only [Device.createRefusal, hc] at h
  have := conditional_none h
  simp only [List.mem_cons, forall_eq_or_imp, Bool.or_eq_false_iff] at this
  simpa using this.1.1

/-- An EDIT lets no EOD fall (R85). -/
theorem Device.editRefusal_none {d : Device} {index : Nat} {x : Expected} {a : CartArgs} {c : CartId} {e : Cart}
    (h : d.editRefusal index x a = none) (hc : finOf? 128 index = some c) (he : d.cart c = some e) :
    (a.eod.any fun n => e.eod.any fun m => n < m) = false := by
  simp only [Device.editRefusal, hc, he] at h
  have := conditional_none h
  simp only [List.mem_cons, forall_eq_or_imp, Device.editState, Bool.or_eq_false_iff] at this
  exact this.2.1.1.1.1.1.1

/-- A REMOVE finds its cartridge named by no part (R86). -/
theorem Device.removeRefusal_none {d : Device} {index : Nat} {x : Expected} {c : CartId}
    (h : d.removeRefusal index x = none) (hc : finOf? 128 index = some c) : d.named c = false := by
  obtain ⟨e, he⟩ := Device.entryRefusal_inUse h hc
  have own := entry_none h hc he
  simp only [List.mem_cons, forall_eq_or_imp, Bool.or_eq_false_iff] at own
  exact own.1.1.1.1

/-- A RECYCLE finds its cartridge named by no part (R94). -/
theorem Device.recycleRefusal_none {d : Device} {index : Nat} {x : Expected} {c : CartId}
    (h : d.recycleRefusal index x = none) (hc : finOf? 128 index = some c) : d.named c = false := by
  obtain ⟨e, he⟩ := Device.entryRefusal_inUse h hc
  have own := entry_none h hc he
  simp only [List.mem_cons, forall_eq_or_imp, Bool.or_eq_false_iff] at own
  exact own.2.2.1.1.1.1

/-- A LOAD_SEGMENT brings a free id, finds room, and keeps the law on part extents (R75, R80). -/
theorem Device.loadSegmentRefusal_none {d : Device} {a : SegmentArgs} {c : CartId}
    (h : d.loadSegmentRefusal a = none) (hc : finOf? 128 a.cart = some c) :
    d.part? a.part = none ∧ d.mapHasRoom 1 = true ∧ a.firstBlock ≤ a.lastBlock ∧ a.firstSeq ≤ a.lastSeq ∧
      d.Beyond c a.lastBlock := by
  simp only [Device.loadSegmentRefusal, hc] at h
  split at h
  · simpa using firstFailing_none h
  · rename_i e he
    have := firstFailing_none h
    simp only [List.mem_cons, List.not_mem_nil, forall_eq_or_imp, false_imp_iff, implies_true, and_true] at this
    obtain ⟨bad, refuses, held, room⟩ := this
    have hb : a.firstBlock ≤ a.lastBlock ∧ a.firstSeq ≤ a.lastSeq := by
      simp only [segmentArgsBad, Bool.or_eq_false_iff, decide_eq_false_iff_not] at bad
      omega
    refine ⟨by simpa using held, by simpa using room, hb.1, hb.2, ?_⟩
    simp only [cartRefusesPart, Bool.or_eq_false_iff] at refuses
    split at refuses
    · exact absurd refuses.2 (by simp)
    · rename_i n hn
      exact ⟨e, n, he, hn, by simpa using refuses.2⟩

/-- A protection request leaves the EOD and the location (R91). -/
theorem Cart.protect_frame (e : Cart) (q : ProtectionRequest) (line : Bool) :
    (e.protect q line).eod = e.eod ∧ (e.protect q line).location = e.location := by
  unfold Cart.protect
  split
  · exact ⟨rfl, rfl⟩
  · split <;> exact ⟨rfl, rfl⟩

/-- Every command keeps the laws, with every decision it makes: each form of a command keeps what its own change and
`settle` keep. A request that writes a part record or a cartridge entry keeps them by the checks it has passed. -/
theorem exec_lawful {s t : State} {c : Instr} (hs : s.dev.Lawful) (h : exec c s = .next t) : t.dev.Lawful := by
  have run {g : Device → Device} (hg : ∀ d : Device, d.Lawful → (g d).Lawful) (h : s.run g = .next t) :
      t.dev.Lawful := Device.lawful_kept.run hs hg h
  have runIf {due : Bool} {g : Device → Device} (hg : ∀ d : Device, d.Lawful → (g d).Lawful)
      (h : s.runIf due g = .next t) : t.dev.Lawful := Device.lawful_kept.runIf hs hg h
  have answer {tag : Tag} {r : Option RefusalOf} {items : Device → List Item} (h : s.answer tag r items = .next t) :
      t.dev.Lawful := Device.lawful_kept.answer hs h
  have checked {tag : Tag} {r : Option RefusalOf} {g : Device → Device} (h : s.request tag r g = .next t)
      (hg : r = none → (g s.dev.begun).Lawful) : t.dev.Lawful := Device.lawful_kept.request hs (fun hr _ => hg hr) h
  have request {tag : Tag} {r : Option RefusalOf} {g : Device → Device} (hg : ∀ d : Device, d.Lawful → (g d).Lawful)
      (h : s.request tag r g = .next t) : t.dev.Lawful := Device.lawful_kept.request hs (fun _ => hg _) h
  have discarded (h : s.just Device.linkError = .next t) : t.dev.Lawful := Kept.just hs Device.linkError_lawful h
  have frame {ch : Nat} {g : StreamId → Device → Device} (hg : ∀ c (d : Device), d.Lawful → (g c d).Lawful)
      (h : s.inbound (match streamOf? ch with | some c => s.run (g c) | none => s.just Device.linkError) = .next t) :
      t.dev.Lawful :=
    Kept.inbound hs (fun h => by split at h <;> [exact run (hg _) h; exact discarded h]) h
  have completed {i : DriveId} {n : BitVec 16} {name : CmdName} {r : DriveResult} {found : Nat}
      {k : Device → DriveCmd → DriveResult → Device} (hk : ∀ (d : Device) c r, d.Lawful → (k d c r).Lawful)
      (h : s.run (fun d => d.completion i n name r found k) = .next t) : t.dev.Lawful :=
    run (fun _ hd => Device.completion_lawful hd hk) h
  cases c with
  | data ch p => exact frame (fun _ _ => Device.takeData_lawful) h
  | markCut ch => exact frame (fun _ _ => Device.takeCut_lawful) h
  | markEnd ch => exact frame (fun _ _ => Device.takeEnd_lawful) h
  | grant ch n =>
    refine Kept.inbound hs (fun h => ?_) h
    split at h
    · split at h <;> [exact discarded h; exact run (fun _ => Device.takeGrant_lawful) h]
    · exact discarded h
  | frameRefused f => exact Kept.inbound hs discarded h
  | unknownRequest tag is => exact answer (r := some { status := .badArgument }) (items := fun _ => []) h
  | openStream | abortStream | loadPool | restore | cancelRestore | verifyNow | releaseSegment =>
    refine request (fun d hd => ?_) h
    split <;> simp [hd]
  | inventory tag a b => exact request (fun _ => Device.beginInventory_lawful) h
  | setTime tag v => exact request (fun _ => Device.setTime_lawful) h
  | resetLink tag v =>
    exact request (fun _ hd => Device.discardUnsent_lawful (Device.linkReset_lawful (Device.respond_lawful hd))) h
  | resetChanger tag v => exact request (fun _ hd => Device.changerReset_lawful (Device.respond_lawful hd)) h
  | move tag a b =>
    refine request (fun _ hd => ?_) h
    split <;> [(split <;> simp [hd]); exact hd]
  | loadCartridgeCreate tag i x b a =>
    refine checked h fun hr => ?_
    split <;> [exact Device.createCart_lawful hs (Device.createRefusal_none hr ‹_›); exact hs]
  | loadCartridgeEdit tag i x a =>
    refine checked h fun hr => ?_
    split
    · split <;> [exact Device.editEntry_lawful hs ‹_› (Device.editRefusal_none hr ‹_› ‹_›); exact hs]
    · exact hs
  | loadCartridgeRemove tag i x =>
    refine checked h fun hr => ?_
    split <;> [exact Device.removeCart_lawful hs (Device.removeRefusal_none hr ‹_›); exact hs]
  | lock | unlock | hold =>
    refine checked h fun hr => Device.changeEntry_lawful hs (fun x => ?_) fun _ _ _ x => ?_
    · exact (x.protect_frame _ _).2
    · exact (x.protect_frame _ _).1
  | finalize tag i x =>
    refine request (fun d hd => ?_) h
    have := Device.changeEntry_lawful (tag := tag) (index := i) (g := fun e => { e with finalizing := true }) hd
      (fun _ => rfl) fun _ _ _ _ => rfl
    split <;> simp [this]
  | recycle tag i x =>
    refine checked h fun hr => Device.changeEntry_lawful (g := Cart.recycled) hs (fun _ => rfl) fun c hc hp => ?_
    have : s.dev.named c = true := Device.named_iff.mpr hp
    rw [Device.recycleRefusal_none hr hc] at this
    exact absurd this Bool.false_ne_true
  | loadSegment tag a =>
    refine checked h fun hr => ?_
    split
    · obtain ⟨hid, room, hb, hq, beyond⟩ := Device.loadSegmentRefusal_none hr ‹_›
      exact Device.loadSegment_lawful hs hid room hb hq beyond
    · exact hs
  | readSegment tag p =>
    simp only [exec, execReadSegment] at h
    split at h <;> [exact answer h; (split at h <;> exact answer h)]
  | listSegments tag c j n => exact answer h
  | readCartridge tag i =>
    simp only [exec, execReadCartridge] at h
    split at h <;> [exact answer h; (split at h <;> exact answer h)]
  | readFeed tag f =>
    simp only [exec, execReadFeed] at h
    split at h <;> [exact answer h; (split at h <;> exact answer h)]
  | readElement | readDrive | readStream =>
    simp only [exec, execReadElement, execReadDrive, execReadStream] at h
    split at h <;> exact answer h
  | setParam tag k v =>
    simp only [exec, execSetParam] at h
    split at h <;> [exact answer h; exact answer h; exact request (fun _ => Device.setParam_lawful) h]
  | poll tag => exact Kept.inbound hs (Kept.just hs Device.poll_lawful) h
  | resetDrive tag v =>
    simp only [exec, execResetDrive] at h
    split at h <;> [exact request (fun _ hd => Device.driveReset_lawful (Device.respond_lawful hd)) h;
      exact request (fun _ hd => hd) h]
  | linkDown =>
    rw [exec, execLinkDown] at h
    refine run (fun d hd => ?_) h
    have hk : (d.linkReset.discardUnsent fun _ => false).Lawful :=
      Device.discardUnsent_lawful (Device.linkReset_lawful hd)
    generalize d.linkReset.discardUnsent _ = e at hk
    exact hk
  | linkUp => exact Kept.just (g := fun d => { d with link := { d.link with up := true } }) hs (fun hd => hd) h
  | powerOn a b =>
    rw [exec, execPowerOn, State.just_next] at h
    exact h ▸ Device.powerOn_lawful a b
  | retentionHoldChange b =>
    exact Kept.just (g := fun d => { d with media := { d.media with holdLine := b } }) hs (fun hd => hd) h
  | mailDoorOpen | mailDoorClosed | compressionCompletion | placement | expansionCompletion | assemblyTimeout
  | oldestBlockTimeout | governorPeriod | commandTimeout | minimumDwell | idleUnmount =>
    refine runIf (fun d hd => ?_) h
    simp [hd]
  | loadCompletion | unloadCompletion | locateCompletion | locateEndCompletion | readCompletion | writeCompletion
  | speedCompletion | cleanCompletion =>
    refine completed (fun d c r hd => ?_) h
    simp [hd]
  | cleanRequest | transferCompletion | scanCompletion | rehomeCompletion | libraryTimeAdvance =>
    simp only [exec, execCleanRequest, execTransferCompletion, execScanCompletion, execRehomeCompletion,
      execLibraryTimeAdvance] at h
    refine run (fun d hd => ?_) h
    simp [hd]
  | orderTimeout =>
    simp only [exec, execOrderTimeout] at h
    split at h <;> [exact run (fun _ => Device.orderTimedOut_lawful) h; (cases h; exact hs)]
  | restoreStall ch =>
    simp only [exec, execRestoreStall] at h
    split at h <;> [exact runIf (fun _ => Device.endRestore_lawful) h; (cases h; exact hs)]
  | entryOverdue i =>
    simp only [exec, execEntryOverdue] at h
    split at h <;> [exact runIf (fun _ hd => by simp [hd]) h; (cases h; exact hs)]
  | outboundFrameLeaves ch =>
    simp only [exec, execOutboundFrameLeaves] at h
    split at h
    · split at h <;> [exact Kept.just hs Device.sendFrame_lawful h; (cases h; exact hs)]
    · cases h; exact hs

/-- Settles O7: a step is the front command's, and every command keeps the laws. -/
theorem everyStepKeepsTheLaws : Obligations.EveryStepKeepsTheLaws := by
  intro s t hs h
  unfold step at h
  split at h
  · cases h; exact hs
  · exact exec_lawful (by exact hs) h

end Sys2Proof.Machine

/-! ### The feeds' timers and the governor (R48, R50, R55, R56) -/

namespace Sys2Proof.Machine

/-! #### The age of a block (R48, R50) -/

section
variable {s : State} {f : FeedId} {x : Feed}

theorem Device.assemblyDue_iff {d : Device} {a : Assembly} (hx : d.feed f = some x) (ha : x.assembly = some a) :
    d.assemblyDue f = true ↔ a.firstTime + d.mu.params.assemblyTimeout ≤ d.mu.elapsed := by
  simp only [Device.assemblyDue, hx, Option.bind_some, ha, Option.any_some]
  exact decide_eq_true_iff

theorem Device.assemblyDue_none {d : Device} (hx : d.feed f = some x) (ha : x.assembly = none) :
    d.assemblyDue f = false := by
  simp [Device.assemblyDue, hx, ha]

theorem Device.stagedDue_iff {d : Device} {b : Block} {bs : List Block} (hx : d.feed f = some x)
    (hb : x.staging = b :: bs) :
    d.stagedDue f = true ↔ b.closeTime + d.mu.params.assemblyTimeout < d.mu.elapsed := by
  simp only [Device.stagedDue, hx, Option.any_some, hb]
  exact decide_eq_true_iff

theorem Device.stagedDue_nil {d : Device} (hx : d.feed f = some x) (hb : x.staging = []) : d.stagedDue f = false := by
  simp [Device.stagedDue, hx, hb]

theorem exec_assemblyTimeout (h : s.dev.assemblyDue f = true) :
    exec (.assemblyTimeout f) s = .next { s with dev := (s.dev.begun.closePending f).settle } :=
  State.runIf_due h

theorem exec_assemblyTimeout_early (h : s.dev.assemblyDue f = false) : exec (.assemblyTimeout f) s = .next s :=
  State.runIf_not_due h

theorem exec_oldestBlockTimeout (h : s.dev.stagedDue f = true) :
    exec (.oldestBlockTimeout f) s = .next { s with dev := (s.dev.begun.post (.feedDecide f)).settle } :=
  State.runIf_due h

theorem exec_oldestBlockTimeout_early (h : s.dev.stagedDue f = false) : exec (.oldestBlockTimeout f) s = .next s :=
  State.runIf_not_due h

end

/-! #### The end of a governor period (R55, R56) -/

section
variable {s : State} {f : FeedId} {x : Feed}

theorem Device.periodDue_iff {d : Device} (hx : d.feed f = some x) :
    d.periodDue f = true ↔ (x.state = .streaming ∨ x.state = .paused) ∧ x.periodStart + 1 ≤ d.mu.elapsed := by
  simp [Device.periodDue, hx, Device.now]

theorem exec_governorPeriod (h : s.dev.periodDue f = true) :
    exec (.governorPeriod f) s = .next { s with dev := (s.dev.begun.periodEnd f).settle } :=
  State.runIf_due h

theorem exec_governorPeriod_early (h : ¬s.dev.periodDue f = true) : exec (.governorPeriod f) s = .next s :=
  State.runIf_not_due (Bool.eq_false_iff.mpr h)

/-- The feed the governor leaves is written, and a change of its step is issued as SPEED. -/
theorem Device.periodEnd_eq {d : Device} {y : Feed} {changed : Bool} (hx : d.feed f = some x)
    (hg : x.governor d.mu.params.startLevel = (y, changed)) :
    d.periodEnd f = if changed then (d.setFeed f (some y)).issueSpeed f else d.setFeed f (some y) := by
  simp only [Device.periodEnd, hx, hg]

/-- A feed with the estimate of the next period, its count started again (R55). -/
def Feed.nextPeriod (x : Feed) : Feed :=
  { x with estimate := nextEstimate x.estimate x.periodCount, periodCount := 0, periodStart := x.periodStart + 1 }

/-- The target step at the end of the period (R56). -/
def Feed.target (x : Feed) : Nat := targetStep (nextEstimate x.estimate x.periodCount)

variable {level : Nat}

/-- The governor's table (R56), by how the step stands to its target. -/
theorem Feed.governor_eq (x : Feed) (level : Nat) : x.governor level =
    if x.target < x.step then
      if x.speedOut then ({ x.nextPeriod with upCount := 0 }, false)
      else ({ x.nextPeriod with upCount := 0, step := x.target }, true)
    else if x.step < x.target then
      if min 2 (x.upCount + 1) = 2 ∧ level ≤ x.staging.length ∧ !x.speedOut then
        ({ x.nextPeriod with upCount := 0, step := x.step + 1 }, true)
      else ({ x.nextPeriod with upCount := min 2 (x.upCount + 1) }, false)
    else ({ x.nextPeriod with upCount := 0 }, false) := rfl

theorem Feed.governor_falls (h : x.target < x.step) (hs : x.speedOut = false) :
    x.governor level = ({ x.nextPeriod with upCount := 0, step := x.target }, true) := by
  rw [Feed.governor_eq, if_pos h, if_neg (by simp [hs])]

theorem Feed.governor_falls_held (h : x.target < x.step) (hs : x.speedOut = true) :
    x.governor level = ({ x.nextPeriod with upCount := 0 }, false) := by
  rw [Feed.governor_eq, if_pos h, if_pos hs]

/-- Below the target the step rises at the second period, with staging at the start level and no SPEED outstanding. -/
theorem Feed.governor_rises (h : x.step < x.target) (hu : min 2 (x.upCount + 1) = 2) (hl : level ≤ x.staging.length)
    (hs : x.speedOut = false) :
    x.governor level = ({ x.nextPeriod with upCount := 0, step := x.step + 1 }, true) := by
  rw [Feed.governor_eq, if_neg (Nat.lt_asymm h), if_pos h, if_pos ⟨hu, hl, by simp [hs]⟩]

theorem Feed.governor_counts (h : x.step < x.target)
    (hn : min 2 (x.upCount + 1) ≠ 2 ∨ x.staging.length < level ∨ x.speedOut = true) :
    x.governor level = ({ x.nextPeriod with upCount := min 2 (x.upCount + 1) }, false) := by
  have hf : ¬(min 2 (x.upCount + 1) = 2 ∧ level ≤ x.staging.length ∧ !x.speedOut) := fun ⟨hu, hl, hs⟩ => by
    rcases hn with hn | hn | hn
    · exact hn hu
    · exact Nat.not_le_of_lt hn hl
    · simp [hn] at hs
  rw [Feed.governor_eq, if_neg (Nat.lt_asymm h), if_pos h, if_neg hf]

theorem Feed.governor_level (h : x.target = x.step) :
    x.governor level = ({ x.nextPeriod with upCount := 0 }, false) := by
  rw [Feed.governor_eq, if_neg (by omega), if_neg (by omega)]

end

/-! #### The target step and SPEED (R56, R123) -/

/-- The target step stands in 1..8, and the estimate carries its speed, unless it is 1 (R56). -/
theorem targetStep_mem (e : Nat) :
    1 ≤ targetStep e ∧ targetStep e ≤ 8 ∧ (16 * (300 + 100 * targetStep e) ≤ e + e / 8 ∨ targetStep e = 1) := by
  unfold targetStep
  cases hf : [8, 7, 6, 5, 4, 3, 2].find? (fun k => decide (16 * (300 + 100 * k) ≤ e + e / 8)) with
  | none => simp
  | some t =>
    have hp : 16 * (300 + 100 * t) ≤ e + e / 8 :=
      of_decide_eq_true (List.find?_some (p := fun k => decide (16 * (300 + 100 * k) ≤ e + e / 8)) hf)
    have hm := List.mem_of_find?_eq_some hf
    simp only [List.mem_cons, List.not_mem_nil, or_false] at hm
    refine ⟨?_, ?_, .inl hp⟩ <;> rw [Option.getD_some] <;> omega

/-- No step above the target is one whose speed the estimate carries: the steps are tried from 8 down (R56). -/
theorem le_targetStep {e k : Nat} (h1 : 1 ≤ k) (h8 : k ≤ 8) (hk : 16 * (300 + 100 * k) ≤ e + e / 8) :
    k ≤ targetStep e := by
  by_cases h2 : k = 1
  · exact h2 ▸ (targetStep_mem e).1
  · have hmem : k ∈ [8, 7, 6, 5, 4, 3, 2] := by simp; omega
    unfold targetStep
    cases hf : [8, 7, 6, 5, 4, 3, 2].find? (fun k => decide (16 * (300 + 100 * k) ≤ e + e / 8)) with
    | none => exact absurd (decide_eq_true hk) (List.find?_eq_none.mp hf k hmem)
    | some t =>
      obtain ⟨-, before, after, hl, hb⟩ := List.find?_eq_some_iff_append.mp hf
      have falling : ([8, 7, 6, 5, 4, 3, 2] : List Nat).Pairwise (· > ·) := by decide
      rw [hl] at hmem falling
      rw [Option.getD_some]
      rcases List.mem_append.mp hmem with hm | hm
      · exact absurd (hb k hm) (by simp [hk])
      · rcases List.mem_cons.mp hm with rfl | hm
        · exact Nat.le_refl _
        · exact Nat.le_of_lt ((List.pairwise_cons.mp (List.pairwise_append.mp falling).2.1).1 k hm)

theorem Device.issueSpeed_none {d : Device} {f : FeedId} {x : Feed} (hx : d.feed f = some x) (hi : x.drive = none) :
    d.issueSpeed f = d := by
  simp only [Device.issueSpeed, hx, hi]

theorem Device.issueSpeed_some {d : Device} {f : FeedId} {x : Feed} {i : DriveId} (hx : d.feed f = some x)
    (hi : x.drive = some i) :
    d.issueSpeed f = (d.setFeed f (some { x with speedOut := true })).issue i (.speed x.step) := by
  simp only [Device.issueSpeed, hx, hi]

/-! #### The obligation -/

/-- Settles O29: what each timer does when it is due and before, the governor's table, and the target step. -/
theorem feedTimersAndTheGovernor : Obligations.FeedTimersAndTheGovernor := by
  refine ⟨?timers, ?governor, fun e k h1 h8 => le_targetStep h1 h8, fun e => targetStep_mem e, ?speed⟩
  case timers =>
    intro s f x hx limit now
    have hb : s.dev.begun.feed f = some x := hx
    refine ⟨fun a ha due room => ?_, fun a ha due full => ?_, fun a ha early => ?_, fun ha => ?_, fun b bs hs due => ?_,
      fun b bs hs early => ?_, fun hs => ?_⟩
    · rw [exec_assemblyTimeout ((Device.assemblyDue_iff hx ha).mpr due), Device.closePending_room hb ha room,
        Feed.close_some ha]
      rfl
    · rw [exec_assemblyTimeout ((Device.assemblyDue_iff hx ha).mpr due), Device.closePending_full hb ha full]
    · exact exec_assemblyTimeout_early (Bool.eq_false_iff.mpr fun h =>
        Nat.not_le_of_lt early ((Device.assemblyDue_iff hx ha).mp h))
    · exact exec_assemblyTimeout_early (Device.assemblyDue_none hx ha)
    · exact exec_oldestBlockTimeout ((Device.stagedDue_iff hx hs).mpr due)
    · exact exec_oldestBlockTimeout_early (Bool.eq_false_iff.mpr fun h =>
        Nat.not_lt_of_le early ((Device.stagedDue_iff hx hs).mp h))
    · exact exec_oldestBlockTimeout_early (Device.stagedDue_nil hx hs)
  case governor =>
    intro s f x hx
    have hb : s.dev.begun.feed f = some x := hx
    have due := Device.periodDue_iff hx
    refine ⟨?ends, fun hs hp => ?_, fun early => ?_⟩
    case ends =>
      intro hst hnow e y k keeps issues up
      have ends {z : Feed} {changed : Bool} (hg : x.governor s.dev.mu.params.startLevel = (z, changed)) :
          exec (.governorPeriod f) s = if changed then issues z else keeps z := by
        rw [exec_governorPeriod (due.mpr ⟨hst, hnow⟩), Device.periodEnd_eq hb hg]
        cases changed <;> rfl
      refine ⟨fun h hs => ?_, fun h hs => ?_, fun h hu hl hs => ?_, fun h hn => ?_, fun h => ?_⟩
      · exact ends (Feed.governor_falls h hs)
      · exact ends (Feed.governor_falls_held h hs)
      · exact ends (Feed.governor_rises h hu hl hs)
      · exact ends (Feed.governor_counts h hn)
      · exact ends (Feed.governor_level h)
    · exact exec_governorPeriod_early fun h => (due.mp h).1.elim hs hp
    · exact exec_governorPeriod_early fun h => Nat.not_le_of_lt early (due.mp h).2
  case speed =>
    exact fun d f x hx => ⟨Device.issueSpeed_none hx, fun i => Device.issueSpeed_some hx⟩

end Sys2Proof.Machine

/-! ### The dispatch of a block (R51, R52, R57) -/

namespace Sys2Proof.Machine

section
variable {d : Device} {f : FeedId} {x : Feed} {i : DriveId} {c : CartId} {e : Cart} {b : Block} {bs : List Block}

theorem reserveBroken_iff : reserveBroken e x = true ↔ e.capacity < e.eod.getD 0 + x.flights.length + 1 + 64 :=
  decide_eq_true_iff

/-- The head block dispatched: staging comes down from 64 blocks exactly when it held 64 (R6, R49, R51). -/
theorem Device.dispatchHead_some (hx : d.feed f = some x) (hs : x.staging = b :: bs) :
    d.dispatchHead f i e =
      let tape := dataBlock b (nextBlock e x) e.serial
      let sent :=
        (d.setFeed f (some { x with staging := bs, flights := x.flights ++ [⟨b, tape⟩] })).issue i (.write tape)
      if x.staging.length = 64 then sent.post .ceSearch else sent := by
  have hroom : (64 ≤ x.staging.length ∧ bs.length < 64) ↔ x.staging.length = 64 := by
    rw [hs, List.length_cons]; omega
  simp only [Device.dispatchHead, hx]
  rw [hs] at hroom ⊢
  simp only [Device.roomAgain, Config.stagingLimit, hroom]

variable {fuel : Nat}

/-- A turn of the dispatch on a feed with a staged block, a drive and a cartridge (R51). -/
theorem Device.dispatchLoop_turn (hx : d.feed f = some x) (hs : x.staging = b :: bs) (hi : x.drive = some i)
    (hc : x.cart = some c) (he : d.cart c = some e) :
    Device.dispatchLoop f (fuel + 1) d =
      if !writable e x then d.spanTrigger f (reserveBroken e x)
      else if 4 ≤ x.flights.length ∨ x.stall.mapFull then d
      else if (d.askReservations f x c b).2 then
        Device.dispatchLoop f fuel ((d.askReservations f x c b).1.dispatchHead f i e)
      else (d.askReservations f x c b).1 := by
  simp only [Device.dispatchLoop, hx, hs, hi, hc, he]
  rfl

theorem Device.dispatchLoop_guarded (hx : d.feed f = some x) (hs : x.staging = b :: bs) (hi : x.drive = some i)
    (hc : x.cart = some c) (he : d.cart c = some e) (hw : writable e x = false) :
    Device.dispatchLoop f (fuel + 1) d = d.spanTrigger f (reserveBroken e x) := by
  rw [Device.dispatchLoop_turn hx hs hi hc he, hw]; rfl

theorem Device.dispatchLoop_full (hx : d.feed f = some x) (hs : x.staging = b :: bs) (hi : x.drive = some i)
    (hc : x.cart = some c) (he : d.cart c = some e) (hw : writable e x = true)
    (h : 4 ≤ x.flights.length ∨ x.stall.mapFull = true) : Device.dispatchLoop f (fuel + 1) d = d := by
  rw [Device.dispatchLoop_turn hx hs hi hc he, hw, if_neg (by simp), if_pos h]

theorem Device.dispatchLoop_granted (hx : d.feed f = some x) (hs : x.staging = b :: bs) (hi : x.drive = some i)
    (hc : x.cart = some c) (he : d.cart c = some e) (hw : writable e x = true)
    (h : ¬(4 ≤ x.flights.length ∨ x.stall.mapFull = true)) (ha : (d.askReservations f x c b).2 = true) :
    Device.dispatchLoop f (fuel + 1) d =
      Device.dispatchLoop f fuel ((d.askReservations f x c b).1.dispatchHead f i e) := by
  rw [Device.dispatchLoop_turn hx hs hi hc he, hw, if_neg (by simp), if_neg h, if_pos ha]

end

/-- Settles O30: the turns of the dispatch, and the block its head becomes. -/
theorem dispatchStampsAndGuards : Obligations.DispatchStampsAndGuards := by
  intro d f x i c e b bs hx hs hi hc he n tape sent
  have hw : writable e x = true ↔ e.protection = some .writable ∧ e.full = some false ∧ n + 1 + 64 ≤ e.capacity := by
    rw [writable_iff, Bool.eq_false_iff, ne_eq, reserveBroken_iff, Nat.not_lt]
  refine ⟨Device.dispatchHead_some hx hs, fun fuel h => ?_, fun fuel hp hf hr h4 => ?_,
    fun fuel hp hf hr h4 hm ha => ?_⟩
  · refine Device.dispatchLoop_guarded hx hs hi hc he (Bool.eq_false_iff.mpr fun hc => ?_)
    obtain ⟨hp, hf, hr⟩ := hw.mp hc
    rcases h with h | h | h
    · exact h hp
    · exact h hf
    · exact Nat.not_lt_of_le hr h
  · exact Device.dispatchLoop_full hx hs hi hc he (hw.mpr ⟨hp, hf, hr⟩) (.inl h4)
  · refine Device.dispatchLoop_granted hx hs hi hc he (hw.mpr ⟨hp, hf, hr⟩) (fun h => ?_) ha
    rcases h with h | h
    · exact Nat.not_le_of_lt h4 h
    · rw [hm] at h; exact absurd h Bool.false_ne_true

end Sys2Proof.Machine

/-! ### The parts of the segment map (R52, R67 to R71, R76 to R78) -/

namespace Sys2Proof.Machine

/-! #### One part record changed (R71, R76 to R78) -/

section
variable {d : Device} {id : Nat} {p : Part}

@[simp] theorem Device.part?_raise (d : Device) (k : EventKind) (a : EventArg) (id : Nat) :
    (d.raise k a).part? id = d.part? id := rfl

theorem Device.part?_id (hp : d.part? id = some p) : p.id = id := by simpa using List.find?_some hp

theorem Device.part?_modPart_same {g : Part → Part} (hp : d.part? id = some p) (hg : ∀ p, (g p).id = p.id) :
    (d.modPart id g).part? id = some (g p) := by
  rw [Device.part?_modPart hg, if_pos rfl, hp]; rfl

theorem Device.part?_modPart_ne {g : Part → Part} {y : Nat} (hy : y ≠ id) (hg : ∀ p, (g p).id = p.id) :
    (d.modPart id g).part? y = d.part? y := by
  rw [Device.part?_modPart hg, if_neg hy]

/-- A close of a part that is closed already adds the flags of its cause (R71). -/
theorem Device.closePart_closed {gap truncated continued : Bool} (hp : d.part? id = some p) (h : p.state ≠ .open) :
    d.closePart id gap truncated continued = d.modPart id fun p => p.flagged gap truncated continued := by
  simp only [Device.closePart, hp, if_neg h]

theorem Device.setBad_stays (hp : d.part? id = some p) (h : p.state = .open ∨ p.state = .bad) : d.setBad id = d := by
  simp only [Device.setBad, hp, if_pos h]

theorem Device.setBad_sets (hp : d.part? id = some p) (h : ¬(p.state = .open ∨ p.state = .bad)) :
    d.setBad id = ((d.modPart id fun p => { p with state := .bad, suspectTime := none }).raise .segmentBad
      (.number id)).post (.verifyNotify p.cart) := by
  simp only [Device.setBad, hp, if_neg h]

theorem Device.setVerified_sets (hp : d.part? id = some p) (h : p.state = .closed ∨ p.state = .suspect) :
    d.setVerified id =
      (d.modPart id fun p => { p with state := .verified, suspectTime := none }).post (.verifyNotify p.cart) := by
  simp only [Device.setVerified, hp, if_pos h]

theorem Device.setVerified_stays (hp : d.part? id = some p) (h : ¬(p.state = .closed ∨ p.state = .suspect)) :
    d.setVerified id = d := by
  simp only [Device.setVerified, hp, if_neg h]

theorem Device.markSuspect_marks (hp : d.part? id = some p) (h : p.state = .closed ∨ p.state = .verified) :
    d.markSuspect id = ((d.modPart id fun p => { p with state := .suspect, suspectTime := some d.time }).raise
      .segmentSuspect (.number id)).post (.verifyNotify p.cart) := by
  simp only [Device.markSuspect, hp, if_pos h]

theorem Device.markSuspect_stays (hp : d.part? id = some p) (h : ¬(p.state = .closed ∨ p.state = .verified)) :
    d.markSuspect id = d := by
  simp only [Device.markSuspect, hp, if_neg h]

theorem Part.restorePinFree_iff : p.restorePinFree = true ↔ p.state ≠ .open ∧ p.restorePins < 4 := by
  simp [Part.restorePinFree]

theorem Part.verifyPinFree_iff :
    p.verifyPinFree = true ↔ (p.state = .closed ∨ p.state = .suspect) ∧ p.verifyPin = false := by
  simp [Part.verifyPinFree]

end

/-! #### The current part of an opening, and the reservations a block needs (R52, R67, R68) -/

section
variable {d : Device} {f : FeedId} {x : Feed} {c : CartId} {b : Block} {o : Opening} {r : Option PartRef}

/-- The current part is the OPEN one on the cartridge that the reference names (R67). -/
theorem Device.currentPart_eq_some {p : Part} : d.currentPart r c = some p ↔
    ∃ id n, r = some ⟨some id, n, c⟩ ∧ d.part? id = some p ∧ p.state = .open ∧ p.cart = c := by
  cases r with
  | none => simp [Device.currentPart]
  | some r =>
    obtain ⟨part, n, y⟩ := r
    by_cases hy : y = c
    · cases part <;> simp [Device.currentPart, refPart, hy, Option.filter_eq_some_iff]
    · simp [Device.currentPart, hy]

theorem Device.currentPart_eq_none : d.currentPart r c = none ↔
    ¬∃ id n p, r = some ⟨some id, n, c⟩ ∧ d.part? id = some p ∧ p.state = .open ∧ p.cart = c := by
  rw [Option.eq_none_iff_forall_ne_some]
  simp only [ne_eq, Device.currentPart_eq_some, not_exists]
  exact ⟨fun h id n p => h p id n, fun h p id n => h id n p⟩

theorem Device.refOf_member (h : o ∈ x.members) : d.refOf x o = some (d.stream o.chan).part := if_pos h

/-- An opening that is no member is looked for among the departed entries, the oldest first (R46, R67). -/
theorem Device.refOf_departed (h : o ∉ x.members) : d.refOf x o = some r ↔
    ∃ before z after, x.departed = before ++ z :: after ∧ (∀ w ∈ before, w.opening ≠ o) ∧ z.opening = o ∧
      z.part = r := by
  rw [Device.refOf, if_neg h, Option.map_eq_some_iff]
  constructor
  · rintro ⟨z, hz, rfl⟩
    obtain ⟨ho, before, after, hl, hb⟩ := List.find?_eq_some_iff_append.mp hz
    exact ⟨before, z, after, hl, fun w hw => by simpa using hb w hw, by simpa using ho, rfl⟩
  · rintro ⟨before, z, after, hl, hb, ho, rfl⟩
    exact ⟨z, List.find?_eq_some_iff_append.mpr ⟨by simpa using ho, before, after, hl,
      fun w hw => by simpa using hb w hw⟩, rfl⟩

theorem nodup_eraseDups {α : Type} [DecidableEq α] : ∀ l : List α, l.eraseDups.Nodup
  | [] => .nil
  | a :: l => by
    rw [List.eraseDups_cons]
    exact List.nodup_cons.mpr ⟨by simp, nodup_eraseDups _⟩
termination_by l => l.length
decreasing_by exact Nat.lt_succ_of_le (List.length_filter_le _ _)

theorem Device.needed_nodup : (d.needed x c b).Nodup := (nodup_eraseDups _).filter _

/-- A block needs a reservation for each of its openings without one and without a current part on the cartridge
(R52). -/
theorem Device.mem_needed : o ∈ d.needed x c b ↔ (∃ r ∈ b.records, r.opening = o) ∧ o ∉ x.reservations ∧
    ∃ r, d.refOf x o = some r ∧ d.currentPart r c = none := by
  simp only [Device.needed, List.mem_filter, List.mem_eraseDups, List.mem_map, Bool.and_eq_true, Bool.not_eq_true',
    List.contains_eq_mem, decide_eq_false_iff_not]
  refine and_congr_right fun _ => and_congr_right fun _ => ?_
  cases d.refOf x o <;> simp

theorem Device.askReservations_none (h : d.needed x c b = []) : d.askReservations f x c b = (d, true) := by
  simp only [Device.askReservations, h, if_true]

theorem Device.askReservations_granted (h : d.needed x c b ≠ [])
    (room : d.map.parts.length + d.map.reserved + (d.needed x c b).length ≤ 4096) :
    d.askReservations f x c b = ((d.reserve (d.needed x c b).length).setFeed f
      (some { x with reservations := x.reservations ++ d.needed x c b }), true) := by
  simp only [Device.askReservations, if_neg h, if_pos (Device.mapHasRoom_iff.mpr room)]

theorem Device.askReservations_refused (h : d.needed x c b ≠ [])
    (full : 4096 < d.map.parts.length + d.map.reserved + (d.needed x c b).length) :
    d.askReservations f x c b =
      ((d.setStall f fun s => { s with mapFull := true }).raise .mapFull (.number f), false) := by
  simp only [Device.askReservations, if_neg h,
    if_neg fun room => Nat.not_le_of_lt full (Device.mapHasRoom_iff.mp room)]

end

/-! #### A confirmed record (R69, R70) -/

section
variable {l : List Part} {p : Part}

theorem find?_insertPart_ne {y : Nat} (h : y ≠ p.id) :
    (insertPart p l).find? (fun q => q.id == y) = l.find? fun q => q.id == y := by
  have hp : (p.id == y) = false := by simpa using Ne.symm h
  induction l with
  | nil => simp [insertPart, hp]
  | cons q l ih =>
    rw [insertPart]
    split
    · rw [List.find?_cons, hp]
    · rw [List.find?_cons, List.find?_cons, ih]

theorem find?_insertPart_self (h : ∀ q ∈ l, q.id ≠ p.id) : (insertPart p l).find? (fun q => q.id == p.id) = some p := by
  induction l with
  | nil => simp [insertPart]
  | cons q l ih =>
    have hq : (q.id == p.id) = false := by simpa using h q List.mem_cons_self
    rw [insertPart]
    split
    · simp
    · rw [List.find?_cons, hq]
      exact ih fun z hz => h z (List.mem_cons_of_mem q hz)

variable {d : Device} {f : FeedId} {x : Feed} {c : CartId} {n : Nat} {r : Record}

/-- A record of a member whose current part stands on the cartridge extends it (R69). -/
theorem Device.mapRecord_extends (hx : d.feed f = some x) (hm : r.opening ∈ x.members)
    (hp : d.currentPart (d.stream r.opening.chan).part c = some p) :
    d.mapRecord f c n r = d.modPart p.id fun p => p.extend r n := by
  simp only [Device.mapRecord, hx, Device.refOf_member hm, Option.join_some, hp]

/-- A record of a member without one takes a reservation and makes the part (R70). -/
theorem Device.mapRecord_makes (hx : d.feed f = some x) (hm : r.opening ∈ x.members)
    (hp : d.currentPart (d.stream r.opening.chan).part c = none) (hr : r.opening ∈ x.reservations) :
    let y : Feed := { x with reservations := x.reservations.erase r.opening }
    let made := (d.setFeed f (some y)).consumeReservation.createPart (d.stream r.opening.chan).part c r n
    d.mapRecord f c n r = made.1.modStream r.opening.chan fun s => { s with part := some made.2 } := by
  intro y made
  have hy : made.1.feed f = some y := Device.feed_setFeed f _
  have hmap : d.mapRecord f c n r = made.1.setRef f r.opening made.2 := by
    simp only [Device.mapRecord, hx, Device.refOf_member hm, Option.join_some, hp, Device.spendReservation, if_pos hr]
    rfl
  rw [hmap]
  simp only [Device.setRef, hy]
  exact if_pos hm

end

/-! #### The obligation -/

/-- Settles O35: the changes of a part record, the reservations, the confirmed record, and the held feeds. -/
theorem thePartsOfTheMapChangeState : Obligations.ThePartsOfTheMapChangeState := by
  refine ⟨?states, ?reservations, ?record, fun _ _ => rfl, fun _ => rfl, ?again⟩
  case states =>
    intro d id p hp
    have told (g : Part → Part) (k : EventKind) (a : EventArg) (hg : ∀ p, (g p).id = p.id) :
        let e := ((d.modPart id g).raise k a).post (.verifyNotify p.cart)
        e.part? id = some (g p) ∧ (∀ y, y ≠ id → e.part? y = d.part? y) ∧
          e.event k = some (raiseEvent (d.event k) a) ∧ Task.verifyNotify p.cart ∈ e.agenda := by
      refine ⟨?_, fun y hy => ?_, ?_, Device.mem_post _ _⟩
      · rw [Device.part?_post, Device.part?_raise, Device.part?_modPart_same hp hg]
      · rw [Device.part?_post, Device.part?_raise, Device.part?_modPart_ne hy hg]
      · rw [Device.event_post, Device.event_raise]; rfl
    refine ⟨fun gap truncated continued => ⟨fun ho => ?_, fun hn => ?_, fun y hy => ?_⟩, Device.setBad_stays hp,
      fun ho hb => ?_, fun h => ?_, fun hc hs => ?_, fun h => ?_, fun hc hv => ?_, Part.restorePinFree_iff,
      Part.verifyPinFree_iff, ?_, ?_, ?_, ?_⟩
    · obtain ⟨hsame, -, htask⟩ :=
        Device.closePart_open (gap := gap) (truncated := truncated) (continued := continued) hp ho
      exact ⟨hsame, htask⟩
    · rw [Device.closePart_closed hp hn]
      exact ⟨Device.part?_modPart_same hp fun _ => rfl, rfl⟩
    · by_cases ho : p.state = .open
      · exact (Device.closePart_open hp ho).2.1 y hy
      · rw [Device.closePart_closed hp ho]
        exact Device.part?_modPart_ne hy fun _ => rfl
    · rw [Device.setBad_sets hp (not_or.mpr ⟨ho, hb⟩)]
      exact told _ _ _ fun _ => rfl
    · rw [Device.setVerified_sets hp h]
      refine ⟨?_, fun y hy => ?_, Device.mem_post _ _⟩ <;> rw [Device.part?_post]
      · exact Device.part?_modPart_same hp fun _ => rfl
      · exact Device.part?_modPart_ne hy fun _ => rfl
    · exact Device.setVerified_stays hp (not_or.mpr ⟨hc, hs⟩)
    · rw [Device.markSuspect_marks hp h]
      exact told _ _ _ fun _ => rfl
    · exact Device.markSuspect_stays hp (not_or.mpr ⟨hc, hv⟩)
    all_goals exact Device.part?_modPart_same hp fun _ => rfl
  case reservations =>
    intro d f x c b hx os current
    refine ⟨Device.needed_nodup, fun o => ?_, Device.askReservations_none, Device.askReservations_granted,
      Device.askReservations_refused⟩
    have hcur : ∀ r, d.currentPart r c = none ↔ ¬current r := fun r => Device.currentPart_eq_none
    rw [Device.mem_needed]
    refine and_congr_right fun _ => and_congr_right fun _ => ?_
    by_cases hm : o ∈ x.members
    · simp [Device.refOf_member hm, hm, hcur]
    · simp only [Device.refOf_departed hm, hm, hcur, false_and, false_or, not_false_eq_true, true_and]
      constructor
      · rintro ⟨r, ⟨before, z, after, hl, hb, ho, rfl⟩, hr⟩
        exact ⟨before, z, after, hl, hb, ho, hr⟩
      · rintro ⟨before, z, after, hl, hb, ho, hr⟩
        exact ⟨_, ⟨before, z, after, hl, hb, ho, rfl⟩, hr⟩
  case record =>
    intro d f x c n r hx hm e part
    refine ⟨fun id k p hpart hp ho hc => ?_, fun hno hr hfree => ?_⟩
    · have he : e = d.modPart p.id fun p => p.extend r n :=
        Device.mapRecord_extends hx hm (Device.currentPart_eq_some.mpr ⟨id, k, hpart, hp, ho, hc⟩)
      rw [Device.part?_id hp] at he
      rw [he]
      exact ⟨Device.part?_modPart_same (g := fun p => p.extend r n) hp fun _ => rfl, rfl, rfl, rfl⟩
    · intro number
      have hn : d.currentPart part c = none := Device.currentPart_eq_none.mpr hno
      have he := Device.mapRecord_makes (n := n) hx hm hn hr
      have hnum : nextPartNumber part = number := rfl
      have hparts : e.map.parts = insertPart (Part.create d.newPartId number c r n) d.map.parts := by
        rw [← hnum]; simp only [e, he]; rfl
      refine ⟨?_, fun y hy => ?_, ?_, ?_, ?_⟩
      · simp only [Device.part?, hparts]
        exact find?_insertPart_self (p := Part.create d.newPartId number c r n) hfree
      · simp only [Device.part?, hparts]
        exact find?_insertPart_ne (p := Part.create d.newPartId number c r n) hy
      · simp only [e, he]; rfl
      · simp only [e, he]; exact Device.feed_setFeed f _
      · simp only [e, he, Device.stream_modStream]; rfl
  case again =>
    intro d f x hx
    refine ⟨fun h => ?_, fun b bs c hm hs hc => ?_⟩
    · cases hm : x.stall.mapFull with
      | false => simp [Device.askAgain, hx, hm]
      | true =>
        rcases h with h | h | h
        · rw [hm] at h; cases h
        · simp [Device.askAgain, hx, hm, h]
        · cases hs : x.staging <;> simp [Device.askAgain, hx, hm, h, hs]
    · simp only [Device.askAgain, hx, hm, hs, hc]
      rfl

end Sys2Proof.Machine

/-! ### WRITE and SPEED completions of a feed (R53, R56, R59) -/

namespace Sys2Proof.Machine

section
variable {d : Device} {i : DriveId} {f : FeedId} {x : Feed} {n : BitVec 16} {name : CmdName} {r : DriveResult}
  {o : Outstanding} {os : List Outstanding} {found : Nat} {k : Device → DriveCmd → DriveResult → Device}

/-- A completion of the oldest outstanding command with a result it can give, which is no drive fault, is handed on
(R123, R124). -/
theorem Device.completion_answered (ho : (d.drive i).outstanding = o :: os) (hn : o.number = n)
    (hc : o.cmd.name = name) (hr : canAnswer name r = true) (hf : isFault name r = false)
    {g : Option Nat → Option Nat} (hg : ∀ p, positionAfter o.cmd r p found = g p) :
    d.completion i n name r found k =
      (k (d.modDrive i fun y => { y with outstanding := os, position := g y.position }) o.cmd r).post
        (.suspendCheck i) := by
  have ht : takenAs name r = r := if_pos hr
  have he : d.completion i n name r found k =
      (match (d.drive i).outstanding with
        | [] => d
        | o :: os =>
          if o.number = n ∧ o.cmd.name = name then
            let d := d.modDrive i fun x =>
              { x with outstanding := os, position := positionAfter o.cmd (takenAs name r) x.position found }
            if isFault name (takenAs name r) then d.driveFault i ⟨name, takenAs name r⟩
            else (k d o.cmd (takenAs name r)).post (.suspendCheck i)
          else d) := rfl
  rw [he, ho, ht]
  simp only [hn, hc, hf, hg, and_self, if_true, Bool.false_eq_true, if_false]

theorem canAnswer_write (r : DriveResult) : canAnswer .write r = true := by cases r <;> rfl

theorem isFault_write (h : r ≠ .hardwareError) : isFault .write r = false := by
  simpa [isFault] using h

/-- A WRITE's position goes on at a confirmation and is UNKNOWN after any other result (Table 7-2). -/
theorem positionAfter_write (b : TapeBlock) (p : Option Nat) :
    positionAfter (.write b) r p found = if r = .ok ∨ r = .endOfMedium then p.map (· + 1) else none := by
  cases r <;> rfl

/-- A WRITE completed while a drive works for its feed is the feed's (R53). -/
theorem Device.writeDone_working {cmd : DriveCmd} (hp : (d.drive i).phase = .working)
    (ha : (d.drive i).active = some (.feed f)) : d.writeDone i cmd r = d.feedWrite f r := by
  simp only [Device.writeDone, hp, ha]

theorem Device.speedDone_active (ha : (d.drive i).active = some (.feed f)) : d.speedDone i = d.feedSpeed f := by
  simp only [Device.speedDone, ha]

theorem Device.feedSpeed_eq (hx : d.feed f = some x) :
    d.feedSpeed f = (d.setFeed f (some { x with speedOut := false })).post (.feedProgress f) := by
  simp only [Device.feedSpeed, Device.modFeed, hx, Option.map_some]

/-- The feed's block in flight is returned already: its completion is discarded (R53). -/
theorem Device.feedWrite_returned (hx : d.feed f = some x) (hr : 0 < x.returned) :
    d.feedWrite f r = (d.setFeed f (some { x with returned := x.returned - 1 })).post (.feedProgress f) := by
  simp only [Device.feedWrite, hx, hr, if_true]

section
variable {y : Flight} {ys : List Flight} {c : CartId} (hx : d.feed f = some x) (hr : x.returned = 0)
  (hf : x.flights = y :: ys) (hc : x.cart = some c)
include hx hr hf hc

theorem Device.feedWrite_ok : d.feedWrite f .ok = ((d.confirm f c y).underrun f).post (.feedDecide f) := by
  simp [Device.feedWrite, hx, hr, hf, hc]

theorem Device.feedWrite_endOfMedium :
    d.feedWrite f .endOfMedium = ((d.confirm f c y).spanTrigger f true).post (.feedDecide f) := by
  simp [Device.feedWrite, hx, hr, hf, hc]

/-- A WRITE that failed returns every block in flight to staging, and spans (R57, R59). -/
theorem Device.feedWrite_failed (hok : r ≠ .ok) (hem : r ≠ .endOfMedium) :
    d.feedWrite f r = ((d.setFeed f (some { x with
      staging := (y :: ys).map (·.block) ++ x.staging, flights := [], returned := ys.length })).spanTrigger f
        true).post (.feedDecide f) := by
  simp [Device.feedWrite, hx, hr, hf, hc, hok, hem, Feed.returnFlights]

end

/-- An entry written: its row alone changes, and decisions are due. -/
theorem Device.writeCart_eq (c : CartId) (e : Option Cart) :
    d.writeCart c e =
      { d with
        media := { d.media with carts := d.media.carts.set c ((d.row c).after e) }
        agenda := (d.writeCart c e).agenda } := by
  by_cases he : d.cart c = e
  · have hw : d.writeCart c e = d := if_pos he
    have ha : (d.row c).after e = d.row c := if_pos he
    rw [hw, ha]
    simp only [Device.row, Fin.getElem_fin, Vector.set_getElem_self]
  · have ha : (d.row c).after e = ⟨(d.row c).gen + 1, e⟩ := if_neg he
    rw [ha]
    unfold Device.writeCart
    extract_lets old a b g
    have hab : b = { a with agenda := b.agenda } := by
      unfold b; split
      · rfl
      · exact Device.post_eq _ _
    have hgb : g = { b with agenda := g.agenda } := by
      unfold g; split
      · split
        · exact Device.post_eq _ _
        · rfl
      · rfl
    rw [if_neg he]
    have hs : Device.signals d g c = { g with agenda := (Device.signals d g c).agenda } := Device.postAll_eq _ _
    rw [hs, hgb, hab]
    rfl

/-- An entry changed: its row alone changes, and decisions are due. -/
theorem Device.editCart_eq {c : CartId} {e : Cart} (he : d.cart c = some e) (g : Cart → Cart) :
    d.editCart c g =
      { d with
        media := { d.media with carts := d.media.carts.set c ((d.row c).after (some (g e))) }
        agenda := (d.editCart c g).agenda } := by
  have hw : d.editCart c g = d.writeCart c (some (g e)) := by simp only [Device.editCart, he]
  rw [hw]
  exact Device.writeCart_eq c _

/-- A confirmation takes the oldest block out of flight, moves the cartridge's EOD, and takes the records (R53). -/
theorem Device.confirm_eq {c : CartId} {e : Cart} {y : Flight} {ys : List Flight} (hx : d.feed f = some x)
    (hf : x.flights = y :: ys)
    (he : (d.setFeed f (some { x with flights := ys, written := x.written + 1 })).cart c = some e) :
    d.confirm f c y =
      y.block.records.foldl (fun d r => (d.mapRecord f c y.tape.number r).countOff f r)
        ((d.setFeed f (some { x with flights := ys, written := x.written + 1 })).editCart c fun e =>
          { e with eod := some (eodAfter e y.tape.number) }) := by
  have hmod : (d.modFeed f fun x => { x with flights := x.flights.tail, written := x.written + 1 }) =
      d.setFeed f (some { x with flights := ys, written := x.written + 1 }) := by
    simp only [Device.modFeed, hx, Option.map_some, hf, List.tail_cons]
  simp only [Device.confirm, hmod, he, Option.isSome_some, if_true]

end

/-- Settles O49: each completion is handed on to the feed, whose answer has one equation for each result; the
confirmation's own change is that of the feed and of the cartridge's row. -/
theorem feedCompletionsConfirmAndReturn : Obligations.FeedCompletionsConfirmAndReturn := by
  unfold Obligations.FeedCompletionsConfirmAndReturn
  intro s i n o os f x ho hn ha hp hx d goesOn
  have hdx : ∀ g, (d g).feed f = some x := fun _ => hx
  have hda : ∀ g, ((d g).drive i).active = some (.feed f) := fun g => by simpa [d] using ha
  have hdp : ∀ g, ((d g).drive i).phase = .working := fun g => by simpa [d] using hp
  have written : ∀ {b r}, o.cmd = .write b → r ≠ .hardwareError → exec (.writeCompletion i n r) s =
      goesOn ((d fun p => if r = .ok ∨ r = .endOfMedium then p.map (· + 1) else none).feedWrite f r) := by
    intro b r hb hr
    let g := fun p : Option Nat => if r = .ok ∨ r = .endOfMedium then p.map (· + 1) else none
    have hpos : ∀ p, positionAfter o.cmd r p 0 = g p := fun p => hb ▸ positionAfter_write b p
    have hc := Device.completion_answered (d := s.dev.begun) (i := i) (k := fun d cmd r => d.writeDone i cmd r) ho hn
      (congrArg DriveCmd.name hb) (canAnswer_write r) (isFault_write hr) hpos
    have hw := Device.writeDone_working (cmd := o.cmd) (r := r) (hdp g) (hda g)
    exact congrArg (fun d : Device => Host.Outcome.next { s with dev := d.settle })
      (hc.trans (congrArg (Device.post · (.suspendCheck i)) hw))
  refine ⟨fun k r hk hr => ?_, fun b r hb hret hr => ?_, fun b y ys c hb hret hfl hc => ⟨?_, ?_, fun r hr => ?_, ?_⟩⟩
  · let g := fun p : Option Nat => if r = .ok then p else none
    have hpos : ∀ p, positionAfter o.cmd r p 0 = g p := by
      intro p; rw [hk]; rcases hr with rfl | rfl <;> rfl
    obtain ⟨hcan, hfault⟩ : canAnswer .speed r = true ∧ isFault .speed r = false := by
      rcases hr with rfl | rfl <;> exact ⟨rfl, rfl⟩
    have hc := Device.completion_answered (d := s.dev.begun) (i := i) (k := fun d _ _ => d.speedDone i) ho hn
      (congrArg DriveCmd.name hk) hcan hfault hpos
    refine congrArg (fun d : Device => Host.Outcome.next { s with dev := d.settle })
      (hc.trans (congrArg (Device.post · (.suspendCheck i)) ?_))
    exact (Device.speedDone_active (hda g)).trans (Device.feedSpeed_eq (hdx g))
  · refine (written hb hr).trans (congrArg goesOn ?_)
    exact Device.feedWrite_returned hx hret
  · refine (written hb (by decide)).trans (congrArg goesOn ?_)
    exact Device.feedWrite_ok hx hret hfl hc
  · refine (written hb (by decide)).trans (congrArg goesOn ?_)
    exact Device.feedWrite_endOfMedium hx hret hfl hc
  · obtain ⟨hok, hem, hhw⟩ : r ≠ .ok ∧ r ≠ .endOfMedium ∧ r ≠ .hardwareError := by
      rcases hr with rfl | rfl | rfl <;> decide
    have hw := written hb hhw
    simp only [hok, hem, or_self, if_false] at hw
    exact hw.trans (congrArg goesOn (Device.feedWrite_failed hx hret hfl hc hok hem))
  · intro m hm e he
    let m' := m.setFeed f (some { x with flights := ys, written := x.written + 1 })
    have hcart : m'.cart c = some e := he
    exact ⟨_, (Device.confirm_eq hm hfl hcart).trans
      (congrArg (List.foldl _ · y.block.records) (Device.editCart_eq hcart _))⟩

end Sys2Proof.Machine

/-! ### A departure with a claim assigned elsewhere (R58, R61) -/

namespace Sys2Proof.Machine

/-- A device no run reaches: feed 0 is SPANNING on drive 0, with nothing in flight and nothing left to write, and a FEED
claim of it is assigned to drive 1. -/
def claimedElsewhere : Device :=
  let d := State.reset.dev.setFeed 0 (some {
    state := .spanning, pool := 1, members := [], drive := some 0, cart := some 0 })
  let d := d.setRow 0 ⟨0, some {
    barcode := ascii "AAA001L9", kind := .data, pool := some 1, protection := some .writable, full := some false,
    eod := some 1, capacity := 16777215, serial := 7, location := .at (driveElem 0), home := none, uses := 0,
    finalizing := false, reason := .none }⟩
  let d := d.modDrive 1 fun x => { x with claim := some 0 }
  { d with
    arb :=
      { claims := [{ order := 0, kind := .feed, owner := .feed 0, target := .pool 1, drive := some 1 }],
        nextOrder := 1 } }

/-- The departure removes the feed with its oldest claim, and drive 1 is assigned that claim no longer. -/
theorem claimedElsewhere_departs :
    (claimedElsewhere.drive 1).claim = some 0 ∧ ((claimedElsewhere.feedProgress 0).drive 1).claim = none := by
  decide +kernel

/-- Refutes O33: the first part says that a departure leaves every other drive as it is, with no hypothesis on the
claims; a feed with nothing left to write is removed and its claim withdrawn (R61), which frees the drive that claim is
assigned to. The statement asks that no claim of the feed is in the list for the removal alone, after this clause. -/
theorem not_departuresServicesAndRetirements : ¬ Obligations.DeparturesServicesAndRetirements := by
  unfold Obligations.DeparturesServicesAndRetirements
  rintro ⟨departs, -⟩
  obtain ⟨-, frame⟩ := departs claimedElsewhere 0 _ rfl rfl
  obtain ⟨-, others, -⟩ := frame 0 0 _ rfl rfl rfl rfl rfl rfl
  obtain ⟨before, after⟩ := claimedElsewhere_departs
  rw [others 1 (by decide), before] at after
  cases after

end Sys2Proof.Machine

/-! ### The drive reset (R141) -/

namespace Sys2Proof.Machine

section
variable {d : Device} {i : DriveId}

/-- Two changes of a drive port are one. -/
theorem Device.modDrive_modDrive (g h : Drive → Drive) :
    (d.modDrive i g).modDrive i h = d.modDrive i fun x => h (g x) := by
  simp [Device.modDrive, Device.drive]

/-! #### Moves withdrawn (R106, R141) -/

/-- An element's indications of a move are cleared, and no other (R106). -/
theorem Device.elem_dropMove (id : Nat) (y : ElemId) :
    (d.dropMove id).elem y =
      { d.elem y with
        incoming := if (d.elem y).incoming = some id then none else (d.elem y).incoming
        outgoing := if (d.elem y).outgoing = some id then none else (d.elem y).outgoing } := by
  simp only [Device.dropMove, Device.clearMarks, Device.elem, Fin.getElem_fin, Vector.getElem_map]
  rfl

/-- Moves dropped from the queue: those with another id stay, and nothing but the queue and the indications changes. -/
theorem Device.foldl_dropMove (ms : List Move) :
    let e := ms.foldl (fun d m => d.dropMove m.id) d
    (∀ m, m ∈ e.changer.moves ↔ m ∈ d.changer.moves ∧ ∀ z ∈ ms, z.id ≠ m.id) ∧
    e.drives = d.drives ∧ e.arb = d.arb ∧ e.media.carts = d.media.carts := by
  induction ms generalizing d with
  | nil => simp
  | cons z zs ih =>
    obtain ⟨moves, rest⟩ := ih (d := d.dropMove z.id)
    refine ⟨fun m => (moves m).trans ?_, rest⟩
    simp only [Device.dropMove, List.mem_filter, bne_iff_ne, List.forall_mem_cons, and_assoc, ne_comm]
    rfl

/-- Moves dropped from the queue leave each element's content, and no element names one of them. -/
theorem Device.foldl_dropMove_elem (ms : List Move) (y : ElemId) :
    let e := ms.foldl (fun d m => d.dropMove m.id) d
    (e.elem y).content = (d.elem y).content ∧
    (∀ n, (e.elem y).incoming = some n → (d.elem y).incoming = some n ∧ ∀ z ∈ ms, z.id ≠ n) ∧
    ∀ n, (e.elem y).outgoing = some n → (d.elem y).outgoing = some n ∧ ∀ z ∈ ms, z.id ≠ n := by
  induction ms generalizing d with
  | nil => simp
  | cons z zs ih =>
    obtain ⟨content, incoming, outgoing⟩ := ih (d := d.dropMove z.id)
    rw [Device.elem_dropMove] at content incoming outgoing
    have marks : ∀ {v : Option Nat} {n : Nat},
        (if v = some z.id then none else v) = some n → v = some n ∧ z.id ≠ n := by
      intro v n h
      split at h
      · cases h
      · next hv => exact ⟨h, fun e => hv (e ▸ h)⟩
    refine ⟨content, fun n hn => ?_, fun n hn => ?_⟩
    · obtain ⟨h, others⟩ := incoming n hn
      obtain ⟨h, hz⟩ := marks h
      exact ⟨h, List.forall_mem_cons.mpr ⟨hz, others⟩⟩
    · obtain ⟨h, others⟩ := outgoing n hn
      obtain ⟨h, hz⟩ := marks h
      exact ⟨h, List.forall_mem_cons.mpr ⟨hz, others⟩⟩

/-- The moves a drive reset withdraws (R141, step 1). -/
theorem Device.mem_resetMoves_dropped {rescan : Bool} {m : Move} :
    m ∈ (d.movesOf i).filter (fun m => !m.running && !(rescan && m.order < 0)) ↔
      m ∈ d.changer.moves ∧ ¬(m.requester ≠ .drive i ∨ m.running = true ∨ (rescan = true ∧ m.order < 0)) := by
  simp only [Device.movesOf, List.mem_filter, beq_iff_eq, Bool.and_eq_true, Bool.not_eq_true', Bool.and_eq_false_iff,
    decide_eq_false_iff_not, and_assoc]
  grind

theorem Device.resetMoves_rest (rescan : Bool) :
    (d.resetMoves i rescan).drives = d.drives ∧ (d.resetMoves i rescan).arb = d.arb ∧
      (d.resetMoves i rescan).media.carts = d.media.carts :=
  (Device.foldl_dropMove _).2

/-- A queued move of the port leaves the queue; of moves with distinct ids, no other does (R141, step 1). -/
theorem Device.mem_resetMoves {rescan : Bool} (ids : (d.changer.moves.map fun m => m.id).Nodup) (m : Move) :
    m ∈ (d.resetMoves i rescan).changer.moves ↔
      m ∈ d.changer.moves ∧ (m.requester ≠ .drive i ∨ m.running = true ∨ (rescan = true ∧ m.order < 0)) := by
  refine ((Device.foldl_dropMove _).1 m).trans (and_congr_right fun hm => ⟨fun h => ?_, fun h z hz e => ?_⟩)
  · by_contra hk
    exact h m (Device.mem_resetMoves_dropped.mpr ⟨hm, hk⟩) rfl
  · obtain ⟨hz, hk⟩ := Device.mem_resetMoves_dropped.mp hz
    exact hk (List.inj_on_of_nodup_map ids hz hm e ▸ h)

/-! #### The end of the drive's work (R141, steps 1 and 2) -/

theorem Device.elementMoving_iff :
    d.elementMoving i = true ↔
      ∃ m ∈ d.changer.moves, m.running = true ∧ (m.src = driveElem i ∨ m.dst = some (driveElem i)) := by
  simp [Device.elementMoving]

theorem Device.drive_resetMoves (j : DriveId) (rescan : Bool) : (d.resetMoves i rescan).drive j = d.drive j := by
  simp only [Device.drive, (Device.resetMoves_rest rescan).1]

/-- The owner of a claim that waits again: a host's move is not ready (R141). -/
def Device.unreadyOwner (d : Device) (o : Owner) : Device :=
  match o with
  | .hostMove m => d.modMove m fun y => { y with ready := false }
  | _ => d

/-- An assigned claim returned to waiting with its entry order (R126). -/
theorem Device.returnClaim_assigned {k : Claim} (h : d.assigned i = some k) :
    d.returnClaim i =
      ((((d.modDrive i fun x => { x with claim := none }).modClaim k.order fun y =>
        { y with
          kind := d.kindAtReturn k, drive := none, chosen := none, scratch := false, reported := false,
          prepared := false }).unreadyOwner k.owner).postTarget k.target).post .arbiter := by
  obtain ⟨o, ho, hk⟩ := Option.bind_eq_some_iff.mp h
  have hord : k.order = o := by simpa using List.find?_some hk
  subst hord
  have hk' : (d.modDrive i fun x => { x with claim := none }).claim? k.order = some k := hk
  simp only [Device.returnClaim, ho, hk']
  rfl

theorem Device.postTarget_eq (t : Target) : d.postTarget t = { d with agenda := (d.postTarget t).agenda } := by
  cases t with
  | cart c => exact Device.post_eq _ _
  | pool | drive => rfl

theorem Device.unreadyOwner_drive (o : Owner) (j : DriveId) : (d.unreadyOwner o).drive j = d.drive j := by
  cases o <;> rfl

theorem Device.unreadyOwner_arb (o : Owner) : (d.unreadyOwner o).arb = d.arb := by cases o <;> rfl

/-- The kind a returned claim has (R164). -/
theorem Device.kindAtReturn_verify {k : Claim} {c : CartId} (h : k.owner = .verify c) :
    d.kindAtReturn k = if (d.entry? c).any (fun e => e.overdue d.time) then .overdue else .verify := by
  simp only [Device.kindAtReturn, h]

theorem Device.kindAtReturn_other {k : Claim} (h : ∀ c, k.owner ≠ .verify c) : d.kindAtReturn k = k.kind := by
  unfold Device.kindAtReturn
  split
  · next c hc => exact absurd hc (h c)
  · rfl

/-! #### The unload (R141, step 3) -/

theorem Device.resetStep3_occupied (h : (d.elem (driveElem i)).content ≠ .empty) :
    d.resetStep3 i = d.modDrive i fun x =>
      { x with
        state := .unloading, phase := .resetUnload, idleSince := none, cart := d.occupant (driveElem i),
        outstanding := x.outstanding ++ [⟨x.cmdNo, d.mu.elapsed, .unload⟩], cmdNo := x.cmdNo + 1 } := by
  simp only [Device.resetStep3, if_neg h, Device.startUnload, Device.issue, Device.modDrive_modDrive]
  rfl

theorem Device.hostMoveFrom_none (h : ∀ m ∈ d.changer.moves, m.requester ≠ .host ∨ m.src ≠ driveElem i) :
    d.hostMoveFrom i = none := by
  simp only [Device.hostMoveFrom, List.find?_eq_none]
  intro m hm
  rcases h m hm with h | h <;> simp [h]

/-- A drive emptied with no claim and no host move: it rests, and the arbiter decides (R135). -/
theorem Device.driveEmptied_free (hc : (d.drive i).claim = none)
    (hm : ∀ m ∈ d.changer.moves, m.requester ≠ .host ∨ m.src ≠ driveElem i) :
    d.driveEmptied i = (d.modDrive i fun x =>
      { x with
        state := .empty, phase := .rest, cart := none, mountTime := none, idleSince := none, position := none,
        hostIn := false }).post .arbiter := by
  simp only [Device.driveEmptied]
  generalize hd' : (d.modDrive i fun x =>
      { x with
        state := .empty, phase := .rest, cart := none, mountTime := none, idleSince := none, position := none,
        hostIn := false }) = d'
  have hhost : d'.hostMoveFrom i = none := hd' ▸ Device.hostMoveFrom_none hm
  have hclaim : d'.assigned i = none := by rw [← hd']; simp [Device.assigned, hc]
  simp only [Device.presentHost, hhost, Device.beginMount, hclaim]

/-! #### Rescans and ended moves (R119, R141) -/

theorem Device.driveRescan_eq :
    d.driveRescan i =
      if (d.elem (driveElem i)).content = (d.drive i).cart.elim .empty .occupied then
        if (d.drive i).phase = .resetWait ∧ d.elementMoving i = false then d.resetStep3 i else d
      else d.driveReset i true := by
  unfold Device.driveRescan
  cases (d.drive i).cart <;> simp only [Bool.not_eq_true', beq_eq_false_iff_ne, ne_eq, ite_not, Option.elim] <;> rfl

/-- The end of a port's own move that leads into no other drive. -/
theorem Device.passedOn_own {m : Move} {r : MoveResult} (h : ∀ j, m.dst = some (driveElem j) → j = i) :
    d.passedOn i m r = d := by
  unfold Device.passedOn
  split
  · next j hj =>
    obtain ⟨e, he, hj⟩ := Option.bind_eq_some_iff.mp hj
    exact if_pos (h j (he.trans (congrArg some (driveOfElem_eq_some.mp hj))))
  · rfl

end

theorem driveElem_inj {i j : DriveId} (h : driveElem i = driveElem j) : i = j := by
  simpa [driveElem, Fin.ext_iff] using h

/-- Settles O48: the steps of the reset one after the other, each by the rule of its operation. -/
theorem aDriveResetEndsItsWork : Obligations.ADriveResetEndsItsWork := by
  unfold Obligations.ADriveResetEndsItsWork
  refine ⟨?host, ?reset, ?unload, ?moves, ?claim, ?rescan, ?ended⟩
  case host =>
    intro s tag i up
    simp only [exec, execResetDrive, Option.bind_some, finOf_val]
    exact State.request_accepted up rfl
  case reset =>
    intro d i rescan x stopped atRest ended d' moving
    have hx : stopped.drive i = { x with outstanding := [], position := none } :=
      (Device.drive_resetMoves i rescan).trans
        (Device.drive_modDrive (d := d) i fun x => { x with outstanding := [], position := none })
    have he : stopped.endContexts i = ended.returnClaim i := by
      simp only [Device.endContexts, hx]
      simp only [ended, List.map_reverse]
      rfl
    have hd : ((stopped.endContexts i).unreadyHost i).modDrive i (fun x => { x with faultCause := none }) = d' := by
      rw [he]
    have hr : d.driveReset i rescan = if d'.elementMoving i then d'.setDrive i .unloading .resetWait
        else d'.resetStep3 i := by
      rw [← hd]; rfl
    exact ⟨fun h => hr.trans (if_pos (Device.elementMoving_iff.mpr h)),
      fun h => hr.trans (if_neg fun hm => h (Device.elementMoving_iff.mp hm))⟩
  case unload =>
    intro d i
    refine ⟨Device.resetStep3_occupied, fun he hc hm => ?_⟩
    have hc' : ((d.modDrive i fun x => { x with found := none }).drive i).claim = none := by
      rw [Device.drive_modDrive]; exact hc
    rw [Device.resetStep3, if_pos he, Device.driveEmptied_free hc' hm, Device.modDrive_modDrive]
  case moves =>
    intro d i rescan ids e kept
    refine ⟨Device.mem_resetMoves ids, fun y => ?_, Device.resetMoves_rest rescan⟩
    obtain ⟨content, incoming, outgoing⟩ := Device.foldl_dropMove_elem (d := d)
      ((d.movesOf i).filter fun m => !m.running && !(rescan && m.order < 0)) y
    refine ⟨content, fun m hm hk => ⟨fun h => ?_, fun h => ?_⟩⟩
    · exact (incoming _ h).2 m (Device.mem_resetMoves_dropped.mpr ⟨hm, hk⟩) rfl
    · exact (outgoing _ h).2 m (Device.mem_resetMoves_dropped.mpr ⟨hm, hk⟩) rfl
  case claim =>
    intro d i k hk e overdue
    have he : e = _ := Device.returnClaim_assigned hk
    have hov : ∀ c, (d.entry? c).any (fun e => e.overdue d.time) = true ↔ overdue c := fun c => by
      simp only [overdue, Option.any_eq_true, VerifyEntry.overdue]
      exact exists_congr fun y => and_congr_right fun _ => decide_eq_true_iff
    refine ⟨?_, fun j hj => ?_, ?_, ⟨d.kindAtReturn k, ?_, fun c hc => ?_, Device.kindAtReturn_other⟩, fun m hm => ?_⟩
    · rw [he, Device.drive_post, Device.postTarget_eq]
      exact (Device.unreadyOwner_drive _ _).trans (Device.drive_modDrive (d := d) i fun x => { x with claim := none })
    · rw [he, Device.drive_post, Device.postTarget_eq]
      exact (Device.unreadyOwner_drive _ _).trans
        (Device.drive_modDrive_ne (d := d) (fun x => { x with claim := none }) hj)
    · rw [he]; exact Device.mem_post _ _
    · rw [he, Device.post_arb, Device.postTarget_eq]
      exact congrArg Arbiter.claims (Device.unreadyOwner_arb _)
    · rw [Device.kindAtReturn_verify hc]
      exact ⟨fun h => if_pos ((hov c).mpr h), fun h => if_neg fun ho => h ((hov c).mp ho)⟩
    · rw [he, Device.post_changer, Device.postTarget_eq, hm]
      rfl
  case rescan =>
    intro d i content asHeld moving
    have hheld : asHeld ↔ (d.elem (driveElem i)).content = (d.drive i).cart.elim .empty .occupied := by
      unfold asHeld
      cases (d.drive i).cart <;> exact Iff.rfl
    have hmov : d.elementMoving i = false ↔ ¬moving :=
      Bool.not_eq_true _ ▸ not_congr Device.elementMoving_iff
    refine ⟨fun hh hw => ?_, fun hh hp hm => ?_, fun hh => ?_⟩
    · rw [Device.driveRescan_eq, if_pos (hheld.mp hh), if_neg]
      exact fun ⟨hp, hm⟩ => hw.elim (fun h => h hp) (hmov.mp hm)
    · rw [Device.driveRescan_eq, if_pos (hheld.mp hh), if_pos ⟨hp, hmov.mpr hm⟩]
    · rw [Device.driveRescan_eq, if_neg fun h => hh (hheld.mpr h)]
  case ended =>
    intro d i m r hr
    have he : d.moveEnded m r = d.driveMoveEnded i m r := by simp only [Device.moveEnded, hr]
    rw [he]
    refine ⟨fun hp hd => ?_, fun j hj hd hp hw => ?_⟩
    · simp only [Device.driveMoveEnded, hp, if_true]
      exact Device.passedOn_own hd
    · have hne : m.dst ≠ some (driveElem i) := fun h =>
        hj (driveElem_inj (Option.some.inj (hd.symm.trans h)))
      have hdj : m.dst.bind driveOfElem? = some j := by
        rw [hd]; exact driveOfElem_eq_some.mpr rfl
      simp only [Device.driveMoveEnded, hp, reduceCtorEq, if_false, hne, if_true, Device.passedOn, hdj, hj, hw]

end Sys2Proof.Machine

/-! ### The order of claims (R128, R138) -/

namespace Sys2Proof.Machine

section
variable {i : DriveId} {a b c k : Claim} {l : List Claim}

theorem Claim.before_iff :
    a.before i b = true ↔
      a.kind.cls < b.kind.cls ∨
        (a.kind.cls = b.kind.cls ∧ (a.age i < b.age i ∨ (a.age i = b.age i ∧ a.order < b.order))) := by
  simp [Claim.before]

theorem Claim.before_trans (h : a.before i b = true) (h' : b.before i c = true) : a.before i c = true := by
  rw [Claim.before_iff] at *; omega

theorem Claim.before_asymm (h : a.before i b = true) : ¬b.before i a = true := by
  rw [Claim.before_iff] at *; omega

theorem mem_insertClaim : b ∈ insertClaim i k l ↔ b = k ∨ b ∈ l := by
  induction l with
  | nil => simp [insertClaim]
  | cons x l ih =>
    unfold insertClaim
    split
    · exact List.mem_cons
    · rw [List.mem_cons, ih, List.mem_cons, or_left_comm]

theorem mem_foldr_insertClaim : b ∈ l.foldr (insertClaim i) [] ↔ b ∈ l := by
  induction l with
  | nil => rfl
  | cons x l ih => rw [List.foldr_cons, mem_insertClaim, ih, List.mem_cons]

theorem pairwise_insertClaim (h : l.Pairwise fun a b => ¬b.before i a = true) :
    (insertClaim i k l).Pairwise fun a b => ¬b.before i a = true := by
  induction l with
  | nil => exact List.pairwise_singleton ..
  | cons x l ih =>
    obtain ⟨hx, hl⟩ := List.pairwise_cons.mp h
    unfold insertClaim
    split
    · next hk =>
      refine List.pairwise_cons.mpr ⟨fun y hy hyk => ?_, h⟩
      rcases List.mem_cons.mp hy with rfl | hy
      · exact Claim.before_asymm hk hyk
      · exact hx y hy (Claim.before_trans hyk hk)
    · next hk =>
      refine List.pairwise_cons.mpr ⟨fun y hy => ?_, ih hl⟩
      rcases mem_insertClaim.mp hy with rfl | hy
      · exact hk
      · exact hx y hy

/-- Claims put in order one by one are in order (R128). -/
theorem pairwise_foldr_insertClaim (l : List Claim) :
    (l.foldr (insertClaim i) []).Pairwise fun a b => ¬b.before i a = true := by
  induction l with
  | nil => exact .nil
  | cons x l ih => exact pairwise_insertClaim ih

/-- The claim that goes before every other is the first in order. -/
theorem head_foldr_insertClaim (hk : k ∈ l) (first : ∀ z ∈ l, z ≠ k → k.before i z = true) :
    (l.foldr (insertClaim i) []).head? = some k := by
  have hp := pairwise_foldr_insertClaim (i := i) l
  have hm : k ∈ l.foldr (insertClaim i) [] := mem_foldr_insertClaim.mpr hk
  cases hs : l.foldr (insertClaim i) [] with
  | nil => rw [hs] at hm; exact absurd hm List.not_mem_nil
  | cons x xs =>
    by_cases hx : x = k
    · rw [hx]; rfl
    · rw [hs] at hp hm
      have hx' : x ∈ l := mem_foldr_insertClaim.mp (hs ▸ List.mem_cons_self)
      have hxs := (List.mem_cons.mp hm).resolve_left (Ne.symm hx)
      exact absurd (first x hx' hx) ((List.pairwise_cons.mp hp).1 k hxs)

/-- Of claims that prefer no drive, the class decides and then the entry order (log entry 63). -/
theorem Claim.before_of_unpreferred (ha : a.preferred = none) (hb : b.preferred = none)
    (h : a.kind.cls < b.kind.cls ∨ (a.kind.cls = b.kind.cls ∧ a.order < b.order)) : a.before i b = true := by
  have age : ∀ k : Claim, k.preferred = none → k.age i = k.order + 1 := fun k hk => by simp [Claim.age, hk]
  rw [Claim.before_iff, age a ha, age b hb]; omega

end

/-! ### Suspension decided (R60, R138) -/

section
variable {d : Device} {i : DriveId} {w : Work} {c : CartId} {k : Claim}

/-- A waiting restore claim for the cartridge that may suspend the work (R138). -/
def Device.Asks (d : Device) (c : CartId) (w : Work) (k : Claim) : Prop :=
  k ∈ d.arb.claims ∧ k.drive = none ∧ k.kind.isRestore = true ∧ k.target = .cart c ∧ d.maySuspend k.kind w = true

theorem Device.mem_asking :
    k ∈ (d.arb.claims.filter fun k =>
      k.drive.isNone && k.kind.isRestore && k.target == .cart c && d.maySuspend k.kind w) ↔ d.Asks c w k := by
  simp [Device.Asks, and_assoc]

theorem Device.suspender_none (h : ∀ k, ¬d.Asks c w k) : d.suspender c w = none := by
  have hl : (d.arb.claims.filter fun k =>
      k.drive.isNone && k.kind.isRestore && k.target == .cart c && d.maySuspend k.kind w) = [] :=
    List.eq_nil_iff_forall_not_mem.mpr fun k hk => h k (Device.mem_asking.mp hk)
  rw [Device.suspender, hl]
  rfl

/-- The claim of the highest class, then the oldest, suspends the work (log entry 63). -/
theorem Device.suspender_first (hk : d.Asks c w k) (hp : ∀ z, d.Asks c w z → z.preferred = none)
    (first : ∀ z, d.Asks c w z → z ≠ k →
      k.kind.cls < z.kind.cls ∨ (k.kind.cls = z.kind.cls ∧ k.order < z.order)) :
    d.suspender c w = some k :=
  head_foldr_insertClaim (Device.mem_asking.mpr hk) fun z hz hne =>
    have hz := Device.mem_asking.mp hz
    Claim.before_of_unpreferred (hp k hk) (hp z hz) (first z hz hne)

/-- Only a restore claim may suspend work (R138). -/
theorem Device.isRestore_of_maySuspend {kind : ClaimKind} (h : d.maySuspend kind w = true) : kind.isRestore = true := by
  cases kind with
  | urgent | normal => rfl
  | cleaning | overdue | feed | host | verify => exact absurd h Bool.false_ne_true

/-- Whether a drive's work may be suspended now (R138). -/
def Device.open_ (d : Device) (i : DriveId) : Bool :=
  !(d.drive i).cleaningDue && (d.drive i).stack.length < 2 && (d.drive i).suspendFor.isNone && d.suspendable i

theorem Device.open_iff :
    d.open_ i = true ↔ (d.drive i).cleaningDue = false ∧ (d.drive i).stack.length < 2 ∧
      (d.drive i).suspendFor = none ∧ d.suspendable i = true := by
  simp [Device.open_, and_assoc]

section
variable (ha : (d.drive i).active = some w) (hc : (d.drive i).cart = some c)
include ha hc

theorem Device.checkSuspension_closed (h : d.open_ i = false) : d.checkSuspension i = d := by
  simp only [Device.checkSuspension, ha, hc]
  exact if_neg (Bool.eq_false_iff.mp h)

theorem Device.checkSuspension_unasked (h : d.suspender c w = none) : d.checkSuspension i = d := by
  simp only [Device.checkSuspension, ha, hc, h, ite_self]

/-- A feed stops and drains (R60, R138). -/
theorem Device.checkSuspension_feed (h : d.open_ i = true) (hk : d.suspender c w = some k) {f : FeedId}
    (hw : w = .feed f) :
    d.checkSuspension i = (d.modDrive i fun x => { x with suspendFor := some k.order }).feedSuspend f := by
  subst hw
  simp only [Device.checkSuspension, ha, hc, hk]
  exact if_pos h

/-- Other work waits for its outstanding READ (R138). -/
theorem Device.checkSuspension_reading (h : d.open_ i = true) (hk : d.suspender c w = some k)
    (hw : ∀ f, w ≠ .feed f) :
    d.checkSuspension i =
      if (d.drive i).outstanding = [] then
        (d.modDrive i fun x => { x with suspendFor := some k.order }).post (.pushReady i)
      else d.modDrive i fun x => { x with suspendFor := some k.order } := by
  simp only [Device.checkSuspension, ha, hc, hk]
  refine (if_pos h).trans ?_
  cases w with
  | feed f => exact absurd rfl (hw f)
  | restore | verify | finalize | cleaning => rfl

end

end

/-! ### A feed at a suspension and after a pop (R60) -/

section
variable {d : Device} {f : FeedId} {y : Feed}

/-- A feed's stall causes changed: the feeds, the member streams and the decisions alone change. -/
theorem Device.setStall_eq (d : Device) (f : FeedId) (g : Stall → Stall) :
    d.setStall f g =
      { d with
        intake := (d.setStall f g).intake, feeds := (d.setStall f g).feeds, agenda := (d.setStall f g).agenda } := by
  cases hx : d.feed f with
  | none =>
    have h : d.setStall f g = d := by simp only [Device.setStall, hx]
    rw [h]
  | some x =>
    rcases Device.setStall_cases hx g with h | h | h <;> rw [h]
    · rfl
    · rw [Device.declare_eq]; rfl
    · rw [Device.post_eq, Device.declare_eq]; rfl

/-- SUSPEND is added and the drain begun, and the assembly block takes a pending cause (R60, step 1). -/
theorem Device.feedSuspend_eq (hy : d.feed f = some y) :
    ∃ e : Device, e.feed f = some { y with suspending := true, stall := { y.stall with suspend := true } } ∧
      e.mu = d.mu ∧ d.feedSuspend f = (e.closePending f).post (.feedProgress f) := by
  refine ⟨(d.setStall f fun s => { s with suspend := true }).modFeed f fun x => { x with suspending := true }, ?_, ?_,
    rfl⟩
  · rw [Device.feed_modFeed, Device.feed_setStall hy, if_pos rfl]; rfl
  · exact (Device.setStall_feeds hy _).2

/-- The suspension cancelled (R60, step 5). -/
theorem Device.feed_feedUnsuspend (hy : d.feed f = some y) :
    (d.feedUnsuspend f).feed f = some { y with suspending := false, stall := { y.stall with suspend := false } } := by
  have hm : (d.modFeed f fun x => { x with suspending := false }).feed f = some { y with suspending := false } := by
    rw [Device.feed_modFeed, hy]; rfl
  rw [Device.feedUnsuspend, Device.feed_post, Device.feed_setStall hm, if_pos rfl]

/-- A feed after its pop has its drive again, with SPEED issued (R60). -/
theorem Device.feedResumed_eq (hy : d.feed f = some y) {i : DriveId} (hi : y.drive = some i) :
    ∃ e : Device,
      e.feed f = some { y with
        state := if y.members = [] then .retiring else .filling, stall := { y.stall with suspend := false } } ∧
      e.drives = d.drives ∧ e.mu = d.mu ∧
      d.feedResumed f =
        (((e.setFeed f (some { y with
          state := if y.members = [] then .retiring else .filling, stall := { y.stall with suspend := false },
          speedOut := true })).issue i (.speed y.step)).post .bind).post (.feedDecide f) := by
  have hm : (d.modFeed f fun x => { x with state := x.bound }).feed f = some { y with state := y.bound } := by
    rw [Device.feed_modFeed, hy]; rfl
  have he :
      ((d.modFeed f fun x => { x with state := x.bound }).setStall f fun s => { s with suspend := false }).feed f =
      some { y with state := y.bound, stall := { y.stall with suspend := false } } := by
    rw [Device.feed_setStall hm, if_pos rfl]
  refine ⟨_, he, ?_, (Device.setStall_feeds hm _).2, ?_⟩
  · rw [Device.setStall_eq]; rfl
  · simp only [Device.feedResumed, Device.issueSpeed, he, hi]
    rfl

end

/-! ### The push (R138) -/

section
variable {d : Device} {i : DriveId} {w : Work} {k : Claim} {r : RestoreId} {resume : Nat}

/-- The port of a drive whose work's context is pushed, before its claim is served (R138). -/
def Drive.stacked (x : Drive) (w : Work) (resume : Nat) : Drive :=
  { x with
    stack := if x.takesPush w then x.stack ++ [⟨w, resume⟩] else x.stack, suspendFor := none, phase := .rest }

/-- A context pushed and its claim served (R138); after a pass's push the arbiter decides (R128). -/
theorem Device.push_eq (hk : d.claim? k.order = some k) (ho : k.owner = .restore r) :
    ∃ b : Device, b = { d.modDrive i fun x => x.stacked w resume with agenda := b.agenda } ∧
      (∀ c, w = .verify c → .arbiter ∈ b.agenda) ∧
      d.push i w resume k.order =
        ((b.removeClaim k.order).modDrive i fun x => { x with active := some (.restore r) }).post
          (.serve i (.restore r)) := by
  simp only [Device.push, hk, ho]
  cases w with
  | verify c => exact ⟨_, Device.post_eq _ _, fun _ _ => Device.mem_post _ _, rfl⟩
  | feed | restore | finalize | cleaning =>
    exact ⟨d.modDrive i fun x => x.stacked _ resume, rfl, fun _ hc => (nomatch hc), rfl⟩

/-- The drive, the claims and the decisions after a push by an owner that has changed neither (R138). -/
theorem Device.push_gives {d' : Device} (hd : d'.drives = d.drives) (ha : d'.arb = d.arb)
    (hk : d.claim? k.order = some k) (ho : k.owner = .restore r) (hp : (d.drive i).takesPush w = true) :
    let e := d'.push i w resume k.order
    (e.drive i = { d.drive i with
        stack := (d.drive i).stack ++ [⟨w, resume⟩], suspendFor := none, phase := .rest, active := some (.restore r) } ∧
      (∀ j, j ≠ i → e.drive j = d.drive j) ∧
      e.arb.claims = d.arb.claims.filter (fun z => z.order != k.order) ∧ Task.serve i (.restore r) ∈ e.agenda) ∧
    (∀ c, w = .verify c → .arbiter ∈ e.agenda) ∧ e.feeds = d'.feeds ∧ e.ru = d'.ru ∧ e.vu = d'.vu ∧ e.xe = d'.xe := by
  have hdr : ∀ j, d'.drive j = d.drive j := fun j => by simp only [Device.drive, hd]
  obtain ⟨b, hb, arbiter, he⟩ := Device.push_eq (d := d') (i := i) (w := w) (resume := resume)
    (by rw [Device.claim?, ha]; exact hk) ho
  have hbd : ∀ j, (b.removeClaim k.order).drive j = (d'.modDrive i fun x => x.stacked w resume).drive j := fun j => by
    rw [hb]; rfl
  simp only [he, Device.post_arb, Device.post_feeds, Device.post_ru, Device.post_vu, Device.post_xe]
  refine ⟨⟨?_, fun j hj => ?_, ?_, Device.mem_post _ _⟩,
    fun c hc => Device.mem_post_of_mem (arbiter c hc), ?_, ?_, ?_, ?_⟩
  · rw [Device.drive_post, Device.drive_modDrive, hbd, Device.drive_modDrive, hdr]
    simp only [Drive.stacked, hp, if_true]
  · rw [Device.drive_post, Device.drive_modDrive_ne _ hj, hbd, Device.drive_modDrive_ne _ hj, hdr]
  · rw [hb, ← ha]; rfl
  all_goals rw [hb]; rfl

theorem Drive.takesPush_empty {x : Drive} (w : Work) (h : x.stack = []) : x.takesPush w = true := by
  simp [Drive.takesPush, h, Config.stackDepth]

theorem Drive.takesPush_reading {x : Drive} (hw : w.isFeed = false) (h : x.stack.length < 2) :
    x.takesPush w = true := by
  simpa [Drive.takesPush, hw, Config.stackDepth] using h

theorem Device.pushReady_work (ha : (d.drive i).active = some w) {o : Nat} (hs : (d.drive i).suspendFor = some o) :
    d.pushReady i = d.pushWork i w o := by
  simp only [Device.pushReady, ha, hs]

theorem Device.pushReady_cancelled (ha : (d.drive i).active = some w) (hs : (d.drive i).suspendFor = none) :
    d.pushReady i = d.resumeCancelled i := by
  simp only [Device.pushReady, ha, hs]

theorem Device.pushWork_busy {o : Nat} (h : (d.drive i).outstanding ≠ []) : d.pushWork i w o = d := by
  simp only [Device.pushWork]
  exact if_pos (bne_iff_ne.mpr h)

theorem Feed.quiet_iff {y : Feed} : y.quiet = true ↔ y.flights = [] ∧ y.returned = 0 ∧ y.speedOut = false := by
  simp [Feed.quiet, and_assoc]

section
variable {o : Nat} (hout : (d.drive i).outstanding = [])
include hout

/-- A feed's context is pushed once it is drained (R60, step 3). -/
theorem Device.pushWork_feed {f : FeedId} {y : Feed} (hy : d.feed f = some y) :
    d.pushWork i (.feed f) o =
      if y.suspending = true ∧ y.quiet = true then
        (d.feedPushed f).push i (.feed f) (((d.driveCart i).bind fun x => x.2.eod).getD 1) o
      else d := by
  simp [Device.pushWork, hout, hy]

theorem Device.pushWork_restore {a : RestoreId} {e : Restore} (he : d.restore? a = some e) :
    d.pushWork i (.restore a) o = (d.restorePushed a).push i (.restore a) (e.readPos.getD 0) o := by
  simp [Device.pushWork, hout, he]

theorem Device.pushWork_verify {c : CartId} {p : Pass} (hp : d.pass? c = some p) :
    d.pushWork i (.verify c) o = (d.passPushed c).push i (.verify c) p.readPos o := by
  simp [Device.pushWork, hout, hp]

end

/-- An entry of a restore changed is found changed. -/
theorem Device.restore?_modRestore {a : RestoreId} {e : Restore} {g : Restore → Restore} (he : d.restore? a = some e)
    (hg : ∀ x, (g x).chan = x.chan) : (d.modRestore a g).restore? a = some (g e) := by
  have hf : ((fun e : Restore => e.chan == a) ∘ fun e => if e.chan = a then g e else e) = fun e => e.chan == a := by
    funext x
    simp only [Function.comp]
    split
    · rw [hg]
    · rfl
  have hchan : e.chan = a := by simpa using List.find?_some he
  simp only [Device.restore?, Device.modRestore, List.find?_map, hf]
  have he' : d.ru.queue.find? (fun e => e.chan == a) = some e := he
  simp only [he', Option.map_some, hchan, if_true]

/-- A pass changed is found changed. -/
theorem Device.pass?_modPass {c : CartId} {p : Pass} {g : Pass → Pass} (hp : d.pass? c = some p)
    (hg : ∀ x, (g x).cart = x.cart) : (d.modPass c g).pass? c = some (g p) := by
  have hf : ((fun p : Pass => p.cart == c) ∘ fun p => if p.cart = c then g p else p) = fun p => p.cart == c := by
    funext x
    simp only [Function.comp]
    split
    · rw [hg]
    · rfl
  have hcart : p.cart = c := by simpa using List.find?_some hp
  simp only [Device.pass?, Device.modPass, List.find?_map, hf]
  have hp' : d.vu.passes.find? (fun p => p.cart == c) = some p := hp
  simp only [hp', Option.map_some, hcart, if_true]

end

/-! ### Claims withdrawn (R126, R138) -/

/-- A drive port is changed by what the change makes of it. -/
theorem Device.modDrive_congr {d : Device} {i : DriveId} {g h : Drive → Drive} (e : g (d.drive i) = h (d.drive i)) :
    d.modDrive i g = d.modDrive i h := by
  simp only [Device.modDrive, e]

section
variable {d : Device} {i : DriveId} {w : Work} {k : Claim} {c : CartId} {e : Cart}

/-- A suspension for a withdrawn claim ends in every drive it is made in, and the port is told (R60, R138). -/
theorem Device.foldl_cancel (order : Nat) (l : List DriveId) :
    let e := l.foldl
      (fun d i =>
        if (d.drive i).suspendFor = some order then
          (d.modDrive i fun x => { x with suspendFor := none }).post (.pushReady i)
        else d) d
    e.arb = d.arb ∧ (∀ t ∈ d.agenda, t ∈ e.agenda) ∧
    ∀ i, e.drive i =
        (if i ∈ l ∧ (d.drive i).suspendFor = some order then { d.drive i with suspendFor := none } else d.drive i) ∧
      (i ∈ l → (d.drive i).suspendFor = some order → .pushReady i ∈ e.agenda) := by
  induction l generalizing d with
  | nil => exact ⟨rfl, fun _ h => h, fun i => ⟨rfl, fun h => absurd h List.not_mem_nil⟩⟩
  | cons j l ih =>
    simp only [List.foldl_cons]
    split
    · next hj =>
      let a := (d.modDrive j fun x => { x with suspendFor := none }).post (.pushReady j)
      obtain ⟨arb, agenda, drives⟩ := ih (d := a)
      refine ⟨arb.trans (Device.post_arb ..), fun t ht => agenda t (Device.mem_post_of_mem ht), fun i => ?_⟩
      obtain ⟨drive, told⟩ := drives i
      by_cases hi : i = j
      · subst hi
        have hai : a.drive i = { d.drive i with suspendFor := none } := by
          rw [Device.drive_post, Device.drive_modDrive]
        refine ⟨?_, fun _ _ => agenda _ (Device.mem_post ..)⟩
        rw [drive, hai, if_neg (by simp), if_pos ⟨List.mem_cons_self, hj⟩]
      · have hai : a.drive i = d.drive i := by rw [Device.drive_post, Device.drive_modDrive_ne _ hi]
        rw [hai] at drive told
        simp only [List.mem_cons, hi, false_or]
        exact ⟨drive, told⟩
    · next hj =>
      obtain ⟨arb, agenda, drives⟩ := ih (d := d)
      refine ⟨arb, agenda, fun i => ?_⟩
      by_cases hi : i = j
      · subst hi
        have hn : ∀ p : Prop, ¬(p ∧ (d.drive i).suspendFor = some order) := fun p h => hj h.2
        exact ⟨by rw [(drives i).1, if_neg (hn _), if_neg (hn _)], fun _ h => absurd h hj⟩
      · simp only [List.mem_cons, hi, false_or]
        exact drives i

/-- A waiting claim withdrawn (R126): it leaves the list, and a suspension for it is cancelled. -/
theorem Device.withdrawClaim_waiting (hk : d.claim? k.order = some k) (hd : k.drive = none) :
    d.withdrawClaim k.order = (d.removeClaim k.order).cancelSuspension k.order := by
  simp only [Device.withdrawClaim, hk, hd]

/-! ### The end of work (R136, R139) -/

/-- An UNLOAD issued (R135), in one change of the port. -/
theorem Device.startUnload_eq (p : Phase) :
    d.startUnload i p = d.modDrive i fun x =>
      { x with
        state := .unloading, phase := p, idleSince := none,
        outstanding := x.outstanding ++ [⟨x.cmdNo, d.mu.elapsed, .unload⟩], cmdNo := x.cmdNo + 1 } := by
  simp only [Device.startUnload, Device.issue, Device.modDrive_modDrive]
  rfl

theorem Device.modRestore_modDrive (r : RestoreId) (g : Drive → Drive) (h : Restore → Restore) :
    (d.modDrive i g).modRestore r h = (d.modRestore r h).modDrive i g := rfl

theorem Device.modPass_modDrive (g : Drive → Drive) (h : Pass → Pass) :
    (d.modDrive i g).modPass c h = (d.modPass c h).modDrive i g := rfl

/-- A command issued in a new phase, nothing being outstanding. -/
theorem Device.setPhase_issue (p : Phase) (cmd : DriveCmd) (h : (d.drive i).outstanding = []) :
    (d.setPhase i p).issue i cmd = d.modDrive i fun x =>
      { x with phase := p, outstanding := [⟨x.cmdNo, d.mu.elapsed, cmd⟩], cmdNo := x.cmdNo + 1 } := by
  refine (Device.modDrive_modDrive _ _).trans (Device.modDrive_congr ?_)
  simp only [Drive.issued, h, List.nil_append]
  rfl

theorem Device.mountedWanted_iff :
    d.mountedWanted i = true ↔ ∃ k ∈ d.arb.claims, k.drive = none ∧ d.wantsMounted i k = true := by
  simp [Device.mountedWanted]

theorem Device.mountedWanted_post (t : Task) : (d.post t).mountedWanted i = d.mountedWanted i := by
  rw [Device.post_eq]; rfl

/-- A port left without work, before it is popped or idle (R136, R139). -/
def Device.workless (d : Device) (i : DriveId) : Device :=
  d.modDrive i fun x => { x with active := none, phase := .rest, suspendFor := none }

/-- A port at rest with its mounted cartridge (R136). -/
def Device.idled (d : Device) (i : DriveId) : Device :=
  (d.workless i).modDrive i fun x => { x with state := .mountedIdle, hostIn := false, idleSince := some d.mu.elapsed }

theorem Device.toIdle_workless : (d.workless i).toIdle i = (d.idled i).post .arbiter := by
  simp only [Device.toIdle, Device.idled, Device.workless, Device.modDrive_modDrive]
  rfl

theorem Device.cleaningDue_workless : ((d.workless i).drive i).cleaningDue = (d.drive i).cleaningDue := by
  rw [Device.workless, Device.drive_modDrive]

theorem Device.cleaningDue_idled : (((d.idled i).post .arbiter).drive i).cleaningDue = (d.drive i).cleaningDue := by
  rw [Device.drive_post, Device.idled, Device.drive_modDrive]; exact Device.cleaningDue_workless

/-- With an empty stack the drive is MOUNTED_IDLE, and unmounts when it is neither wanted nor cleaning-due (R136). -/
theorem Device.workEnded_idle (h : (d.drive i).stack = []) :
    d.workEnded i =
      if (d.idled i).mountedWanted i = true ∨ (d.drive i).cleaningDue = true then (d.idled i).post .arbiter
      else ((d.idled i).post .arbiter).startUnmount i := by
  have he : d.workEnded i = (d.workless i).idleOrUnmount i := by
    simp only [Device.workEnded, Device.drive_modDrive, h, List.reverse_nil]
    rfl
  rw [he, Device.idleOrUnmount]
  simp only [Device.toIdle_workless, Device.mountedWanted_post, Device.cleaningDue_idled, Bool.or_eq_true]

section
variable {top : Context} {below : List Context} (h : (d.drive i).stack = below ++ [top])

/-- The waiting claim that takes the drive at a pop (R139). -/
def Device.taker (d : Device) (i : DriveId) (top : Context) : Option Claim :=
  if (d.drive i).cleaningDue then none else (d.drive i).cart.bind fun c => d.suspender c top.work

theorem Device.taker_workless : (d.workless i).taker i top = d.taker i top := by
  simp only [Device.taker, Device.workless, Device.drive_modDrive]
  rfl

include h

theorem Device.reverse_stack_workless : ((d.workless i).drive i).stack.reverse = top :: below.reverse := by
  rw [Device.workless, Device.drive_modDrive]
  simp only [h, List.reverse_append, List.reverse_singleton, List.singleton_append]

/-- The top context is popped when no claim that may suspend it takes the drive (R139). -/
theorem Device.workEnded_pops (ht : d.taker i top = none) : d.workEnded i = (d.workless i).popContext i top below := by
  have hs := Device.reverse_stack_workless h
  rw [← Device.taker_workless] at ht
  unfold Device.workEnded
  change (d.workless i).taker i top = none at ht
  generalize hd : d.workless i = d' at hs ht ⊢
  rw [Device.workless] at hd
  rw [hd]
  rw [Device.taker] at ht
  simp only [hs, ht, List.reverse_reverse]

/-- The claim that may suspend the top context takes the drive (R139). -/
theorem Device.workEnded_taken {r : RestoreId} (ht : d.taker i top = some k) (ho : k.owner = .restore r) :
    d.workEnded i =
      (((d.workless i).removeClaim k.order).modDrive i fun x => { x with active := some (.restore r) }).post
        (.serve i (.restore r)) := by
  have hs := Device.reverse_stack_workless h
  rw [← Device.taker_workless] at ht
  unfold Device.workEnded
  generalize hd : d.workless i = d' at hs ht ⊢
  rw [Device.workless] at hd
  rw [hd]
  rw [Device.taker] at ht
  simp only [hs, ht, ho]

end

/-- The port of a drive whose top context is popped (R139). -/
def Drive.popped (x : Drive) (top : Context) (below : List Context) (s : DriveState) (p : Phase) (now n : Nat) :
    Drive :=
  { x with
    stack := below, active := some top.work, state := s, phase := p,
    outstanding := x.outstanding ++ [⟨x.cmdNo, now, .locate n⟩], cmdNo := x.cmdNo + 1 }

theorem Device.popContext_restore {top : Context} (below : List Context) {r : RestoreId} (hw : top.work = .restore r) :
    d.popContext i top below = (d.modRestore r fun e => { e with state := .positioning }).modDrive i fun x =>
      x.popped top below .positioning (.popLocate false) d.mu.elapsed top.resume := by
  simp only [Device.popContext, hw, Device.setDrive, Device.issue, Device.modRestore_modDrive, Device.modDrive_modDrive]
  simp only [Drive.popped, hw]
  rfl

theorem Device.popContext_verify {top : Context} (below : List Context) (hw : top.work = .verify c) :
    d.popContext i top below = (d.modPass c fun p => { p with state := .positioning }).modDrive i fun x =>
      x.popped top below .positioning (.popLocate false) d.mu.elapsed top.resume := by
  simp only [Device.popContext, hw, Device.setDrive, Device.issue, Device.modPass_modDrive, Device.modDrive_modDrive]
  simp only [Drive.popped, hw]
  rfl

theorem Device.popContext_feed {top : Context} (below : List Context) {f : FeedId} (hw : top.work = .feed f)
    (hc : (d.drive i).cart = some c) (he : d.cart c = some e) :
    d.popContext i top below = d.modDrive i fun x =>
      x.popped top below .appendCheck .popAppendLocate d.mu.elapsed (e.eod.getD 1 - 1) := by
  have heod : ((d.modDrive i fun x => { x with stack := below, active := some (.feed f) }).driveCart i).bind
      (fun x => x.2.eod) = e.eod := by
    have hx : ((d.modDrive i fun x => { x with stack := below, active := some (.feed f) }).drive i).cart = some c := by
      rw [Device.drive_modDrive]; exact hc
    rw [Device.driveCart, hx, Option.bind_some, show (Device.modDrive d i _).cart c = some e from he]
    rfl
  simp only [Device.popContext, hw, heod, Device.setDrive, Device.issue, Device.modDrive_modDrive]
  simp only [Drive.popped, hw]
  rfl

/-! ### The completions after a pop (R60, R139) -/

section
variable {cmd : DriveCmd} {r : DriveResult} {f : FeedId}

theorem Device.locateDone_popped {again : Bool} (hp : (d.drive i).phase = .popLocate again) :
    d.locateDone i cmd .ok = d.resumeReading i := by
  simp only [Device.locateDone, hp, if_true]

/-- The LOCATE of a popped context that fails is made once more, and the second time the work is lost (R139). -/
theorem Device.locateDone_again {again : Bool} (hp : (d.drive i).phase = .popLocate again) (hr : r ≠ .ok) :
    d.locateDone i cmd r = if again then d.popLost i else (d.setPhase i (.popLocate true)).issue i cmd := by
  simp only [Device.locateDone, hp, hr, if_false]

theorem Device.readDone_append {n : Nat} {block : Bytes} (hp : (d.drive i).phase = .appendRead n true) :
    d.readDone i r block = d.popAppendRead i n r block := by
  simp only [Device.readDone, hp]

theorem Device.readDone_label {n : Nat} {block : Bytes} (hp : (d.drive i).phase = .popLabelRead n) :
    d.readDone i r block = d.popLabelRead i n r block := by
  simp only [Device.readDone, hp]

theorem Device.writingFeed_eq (ha : (d.drive i).active = some (.feed f)) (hc : (d.drive i).cart = some c)
    (he : d.cart c = some e) : d.writingFeed i = some (f, c, e) := by
  simp only [Device.writingFeed, ha, Device.driveCart, hc, Option.bind_some, he, Option.map_some]

theorem rereads_iff {block : Bytes} :
    rereads r block = true ↔ r = .mediumError ∨ (r = .ok ∧ readBlock block = none) := by
  simp [rereads]

section
variable (hw : d.writingFeed i = some (f, c, e))
include hw

/-- The checks after a pop have failed: the feed spans with no FULL mark (R60, R139). -/
theorem Device.popMismatch_eq :
    d.popMismatch i = ((d.markMismatch c .eodMismatch).raise .eodMismatch (.number c)).spanTrigger f false := by
  simp only [Device.popMismatch, hw]
  rfl

theorem Device.locateDone_append (hp : (d.drive i).phase = .popAppendLocate) :
    d.locateDone i cmd r =
      if r ≠ .ok then d.popMismatch i
      else if e.eod.getD 1 ≤ 1 then (d.setPhase i (.popLabelRead 0)).issue i (.read 0)
      else (d.setPhase i (.appendRead 0 true)).issue i (.read (e.eod.getD 1 - 1)) := by
  simp only [Device.locateDone, hp, Device.popLocated, hw, bne_iff_ne]

theorem Device.popAppendRead_again {k : Nat} {block : Bytes} (h : rereads r block = true ∧ k < d.readRetries c) :
    d.popAppendRead i k r block =
      (d.setPhase i (.appendRead (k + 1) true)).issue i (.read (e.eod.getD 1 - 1)) := by
  simp only [Device.popAppendRead, hw]
  exact if_pos (by simpa using h)

theorem Device.popAppendRead_judged {k : Nat} {block : Bytes} (h : ¬(rereads r block = true ∧ k < d.readRetries c)) :
    d.popAppendRead i k r block =
      if r = .ok then
        match tailCheck block (e.eod.getD 1 - 1) e.serial with
        | .good => d.popGood i f e
        | .final => (d.markFinalized c).spanTrigger f false
        | .mismatch => d.popMismatch i
      else d.popMismatch i := by
  simp only [Device.popAppendRead, hw]
  exact if_neg (by simpa using h)

theorem Device.popLabelRead_again {k : Nat} {block : Bytes} (h : rereads r block = true ∧ k < d.readRetries c) :
    d.popLabelRead i k r block = (d.setPhase i (.popLabelRead (k + 1))).issue i (.read 0) := by
  simp only [Device.popLabelRead, hw]
  exact if_pos (by simpa using h)

theorem Device.popLabelRead_judged {k : Nat} {block : Bytes} (h : ¬(rereads r block = true ∧ k < d.readRetries c)) :
    d.popLabelRead i k r block =
      if r = .ok ∧ ∃ b, labelShaped block = some b ∧ b.barcode = e.barcode ∧ b.serial = e.serial then d.popGood i f e
      else d.popMismatch i := by
  simp only [Device.popLabelRead, hw]
  refine (if_neg (by simpa using h)).trans ?_
  simp only [Bool.and_eq_true, beq_iff_eq, Option.any_eq_true]

end

end
end

/-- Settles O52: the decision by the order of claims, the push and the pop by one rule for each kind of work, and each
completion after a pop by the answer of its command. -/
theorem workIsSuspendedPushedAndPopped : Obligations.WorkIsSuspendedPushedAndPopped := by
  unfold Obligations.WorkIsSuspendedPushedAndPopped
  refine ⟨?decided, ?feed, ?pushed, ?cancelled, ?withdrawn, ?ended, ?popped⟩
  case decided =>
    intro d i w c ha hc x maySuspend works asks open_ first
    have hmay : ∀ k, maySuspend k ↔ d.maySuspend k w = true := by
      intro k
      cases k with
      | urgent => cases w <;> simp [maySuspend, Device.maySuspend, Option.any_eq_true]
      | normal => cases w <;> simp [maySuspend, Device.maySuspend]
      | cleaning | overdue | feed | host | verify => simp [maySuspend, Device.maySuspend]
    have hasks : ∀ k, asks k ↔ d.Asks c w k := fun k =>
      and_congr_right fun _ => and_congr_right fun _ =>
        ⟨fun ⟨ht, hm⟩ =>
          have hm := (hmay _).mp hm
          ⟨Device.isRestore_of_maySuspend hm, ht, hm⟩,
         fun ⟨_, ht, hm⟩ => ⟨ht, (hmay _).mpr hm⟩⟩
    have hworks : works ↔ d.suspendable i = true := by
      simp only [works, x, Device.suspendable, ha, Bool.and_eq_true, beq_iff_eq]
      refine and_congr_right fun _ => ?_
      cases (d.drive i).state <;> cases w <;> simp [Option.any_eq_true, or_assoc]
    have hopen : open_ ↔ d.open_ i = true := by
      rw [Device.open_iff, ← hworks]
    have hclosed : ¬open_ → d.open_ i = false := fun h => Bool.eq_false_iff.mpr fun ho => h (hopen.mpr ho)
    refine ⟨fun h => ?_, fun hp ho k hk => ?_⟩
    · rcases h with h | h
      · exact Device.checkSuspension_closed ha hc (hclosed h)
      · exact Device.checkSuspension_unasked ha hc (Device.suspender_none fun k hk => h k ((hasks k).mpr hk))
    · obtain ⟨hk, before⟩ := hk
      have ho := hopen.mp ho
      have hs : d.suspender c w = some k := Device.suspender_first ((hasks k).mp hk)
        (fun z hz => hp z ((hasks z).mpr hz)) fun z hz hne => before z ((hasks z).mpr hz) hne
      refine ⟨fun f hw => Device.checkSuspension_feed ha hc ho hs hw, fun hw hout => ?_, fun hw hout => ?_⟩
      · exact (Device.checkSuspension_reading ha hc ho hs hw).trans (if_pos hout)
      · exact (Device.checkSuspension_reading ha hc ho hs hw).trans (if_neg hout)
  case feed =>
    intro d f y hy stopped y'
    obtain ⟨e, he, hmu, hs⟩ := Device.feedSuspend_eq hy
    have hstop : stopped.feed f = (e.closePending f).feed f := by
      rw [show stopped = _ from hs, Device.feed_post]
    refine ⟨fun ha => ?_, fun a ha hl => ?_, fun a ha hl => ?_, ?_, Device.feed_feedUnsuspend hy, Device.mem_post _ _,
      fun i hi => ?_, Device.mem_post _ _⟩
    · rw [hstop, Device.closePending_none he ha, he]
    · rw [hstop, Device.closePending_room he ha hl, Device.feed_post, Device.feed_setFeed, hmu]
      exact congrArg some (Feed.close_some (x := y') ha d.mu.elapsed)
    · rw [hstop, Device.closePending_full he ha hl, Device.feed_setFeed]
    · rw [show stopped = _ from hs]; exact Device.mem_post _ _
    · obtain ⟨e, -, hd, hmu, hr⟩ := Device.feedResumed_eq hy hi
      have hdrive : e.drive i = d.drive i := by simp only [Device.drive, hd]
      constructor
      · rw [hr, Device.feed_post, Device.feed_post]
        exact Device.feed_setFeed ..
      · rw [hr, Device.drive_post, Device.drive_post, Device.issue, Device.drive_modDrive]
        show (e.drive i).issued e.mu.elapsed _ = _
        rw [hdrive, hmu]
        rfl
  case pushed =>
    intro d i w k r ha hs hk ho x pushed
    have hp : d.pushReady i = d.pushWork i w k.order := Device.pushReady_work ha hs
    refine ⟨fun h => hp.trans (Device.pushWork_busy h), fun hout hl => ⟨?pushedFeed, ?pushedRestore, ?pushedPass⟩⟩
    case pushedFeed =>
      intro f y c e hw hy hc he drained
      subst hw
      rw [hp, Device.pushWork_feed hout hy]
      have hdr : drained ↔ y.suspending = true ∧ y.quiet = true := and_congr_right fun _ => Feed.quiet_iff.symm
      have heod : ((d.driveCart i).bind fun x => x.2.eod).getD 1 = e.eod.getD 1 := by
        rw [Device.driveCart, show (d.drive i).cart = some c from hc, Option.bind_some, he]; rfl
      refine ⟨fun h => if_neg fun hq => h (hdr.mpr hq), fun h hst => ?_⟩
      rw [if_pos (hdr.mp h), heod]
      have htakes : (d.drive i).takesPush (.feed f) = true := Drive.takesPush_empty _ hst
      obtain ⟨gives, -, hfeeds, -⟩ := Device.push_gives (d' := d.feedPushed f) (resume := e.eod.getD 1) rfl rfl
        hk ho htakes
      refine ⟨gives, ?_⟩
      rw [Device.feed, hfeeds]
      exact (Device.feed_modFeed ..).trans (by rw [hy]; rfl)
    case pushedRestore =>
      intro a e hw he
      subst hw
      rw [hp, Device.pushWork_restore hout he]
      have htakes : (d.drive i).takesPush (.restore a) = true := Drive.takesPush_reading rfl hl
      obtain ⟨gives, -, -, hru, -, hxe⟩ := Device.push_gives (d' := d.restorePushed a) (resume := e.readPos.getD 0)
        rfl rfl hk ho htakes
      refine ⟨gives, ?_, fun q hq => ?_⟩
      · rw [Device.restore?, hru]
        exact Device.restore?_modRestore (d := d.withdrawXe (.restore a)) he fun _ => rfl
      · rw [hxe] at hq
        simpa using (List.mem_filter.mp hq).2
    case pushedPass =>
      intro c p hw hpass
      subst hw
      rw [hp, Device.pushWork_verify hout hpass]
      have htakes : (d.drive i).takesPush (.verify c) = true := Drive.takesPush_reading rfl hl
      obtain ⟨gives, arbiter, -, -, hvu, hxe⟩ := Device.push_gives (d' := d.passPushed c) (resume := p.readPos)
        rfl rfl hk ho htakes
      refine ⟨gives, ?_, fun q hq => ?_, arbiter c rfl⟩
      · rw [Device.pass?, hvu]
        exact Device.pass?_modPass (d := d.withdrawXe (.pass c)) hpass fun _ => rfl
      · rw [hxe] at hq
        simpa using (List.mem_filter.mp hq).2
  case cancelled =>
    intro d i w ha hs x
    rw [Device.pushReady_cancelled ha hs]
    refine ⟨fun f y hw hy => ?_, fun r hw => ?_, fun c hw => ?_⟩ <;> subst hw <;>
      simp only [Device.resumeCancelled, ha]
    · rw [hy]; rfl
    · rfl
    · rfl
  case withdrawn =>
    intro d k hk hd e
    obtain ⟨arb, -, drives⟩ := Device.foldl_cancel (d := d.removeClaim k.order) k.order allDrives
    have he : e = _ := Device.withdrawClaim_waiting hk hd
    refine ⟨?_, fun i => ?_⟩
    · rw [he]; exact congrArg Arbiter.claims arb
    · obtain ⟨drive, told⟩ := drives i
      have hi : i ∈ allDrives := List.mem_finRange i
      rw [he]
      refine ⟨drive.trans ?_, told hi⟩
      simp only [hi, true_and]
      rfl
  case ended =>
    intro d i x done idle wanted
    have hwanted : (d.idled i).mountedWanted i = true ↔ wanted := Device.mountedWanted_iff
    refine ⟨fun hst hw => ?_, fun hst hw hc => ?_, ?stacked⟩
    · rw [Device.workEnded_idle hst, if_pos (hw.imp_left hwanted.mpr)]
      rfl
    · rw [Device.workEnded_idle hst, if_neg, Device.startUnmount, Device.startUnload_eq, Device.post_mu]
      · rfl
      · rintro (h | h)
        · exact hw (hwanted.mp h)
        · exact Bool.false_ne_true (hc.symm.trans h)
    case stacked =>
      intro below top hst asks located
      refine ⟨fun c k r hd hc hk ho first => ?_, fun hn => ?_⟩
      · have hs : d.suspender c top.work = some k := Device.suspender_first hk
          (fun z hz => (first z hz).1) fun z hz hne => (first z hz).2 hne
        have ht : d.taker i top = some k := by
          rw [Device.taker, show (d.drive i).cleaningDue = false from hd, show (d.drive i).cart = some c from hc]
          exact hs
        rw [Device.workEnded_taken hst ht ho]
        refine congrArg (Device.post · _) ?_
        exact congrArg (fun z : Device => { z with
          arb := { d.arb with claims := d.arb.claims.filter fun z => z.order != k.order } })
          (Device.modDrive_modDrive (d := d) (i := i)
            (fun x => { x with active := none, phase := .rest, suspendFor := none })
            fun x => { x with active := some (.restore r) })
      · have ht : d.taker i top = none := by
          rw [Device.taker]
          split
          · rfl
          · next hd =>
            have hn := hn.resolve_left hd
            cases hc : (d.drive i).cart with
            | none => rfl
            | some c => exact Device.suspender_none fun k => hn c k hc
        rw [Device.workEnded_pops hst ht]
        refine ⟨fun r hw => ?_, fun c hw => ?_, fun f c e hw hc he => ?_⟩
        · rw [Device.popContext_restore below hw]; rfl
        · rw [Device.popContext_verify below hw]; rfl
        · have hc' : ((d.workless i).drive i).cart = some c := by
            rw [Device.workless, Device.drive_modDrive]; exact hc
          rw [Device.popContext_feed below hw hc' (show (d.workless i).cart c = some e from he)]; rfl
  case popped =>
    intro s i n t x d goesOn asks failed lost
    have hdrive : ∀ p, (d p).drive i = { x with outstanding := [], position := p } := fun p =>
      Device.drive_modDrive (d := s.dev.begun) i _
    have located : ∀ {m : Nat} {r : DriveResult}, x.outstanding = [⟨n, t, .locate m⟩] → (r = .ok ∨ failed r) →
        exec (.locateCompletion i n r) s =
          goesOn ((d (if r = .ok then some m else lost r m)).locateDone i (.locate m) r) := by
      intro m r hout hr
      have hpos : ∀ p, positionAfter (.locate m) r p 0 = if r = .ok then some m else lost r m := by
        intro p
        rcases hr with rfl | rfl | rfl | rfl
        · rfl
        · rfl
        · rfl
        · simp [positionAfter, blankAtStart, lost]
      have hcan : canAnswer .locate r = true ∧ isFault .locate r = false := by
        rcases hr with rfl | rfl | rfl | rfl <;> exact ⟨rfl, rfl⟩
      exact congrArg (fun e : Device => Host.Outcome.next { s with dev := e.settle })
        (Device.completion_answered (d := s.dev.begun) (k := fun d cmd r => d.locateDone i cmd r)
          (g := fun _ => if r = .ok then some m else lost r m) hout rfl rfl hcan.1 hcan.2 hpos)
    have reads : ∀ {m : Nat} {r : DriveResult} {block : Bytes}, x.outstanding = [⟨n, t, .read m⟩] →
        (r = .ok ∨ failed r) →
        exec (.readCompletion i n r block) s =
          goesOn ((d (if r = .ok then some (m + 1) else lost r m)).readDone i r block) := by
      intro m r block hout hr
      have hpos : ∀ p, positionAfter (.read m) r p 0 = if r = .ok then some (m + 1) else lost r m := by
        intro p
        rcases hr with rfl | rfl | rfl | rfl
        · rfl
        · rfl
        · rfl
        · simp [positionAfter, blankAtStart, lost]
      have hcan : canAnswer .read r = true ∧ isFault .read r = false := by
        rcases hr with rfl | rfl | rfl | rfl <;> exact ⟨rfl, rfl⟩
      exact congrArg (fun e : Device => Host.Outcome.next { s with dev := e.settle })
        (Device.completion_answered (d := s.dev.begun) (k := fun d _ r => d.readDone i r block)
          (g := fun _ => if r = .ok then some (m + 1) else lost r m) hout rfl rfl hcan.1 hcan.2 hpos)
    have hasks : ∀ p q cmd, goesOn (((d p).setPhase i q).issue i cmd) = asks (d p) q cmd := fun p q cmd =>
      congrArg goesOn (Device.setPhase_issue q cmd (by rw [hdrive]))
    have hne : ∀ {r}, failed r → r ≠ .ok := by
      rintro r (rfl | rfl | rfl) <;> decide
    refine ⟨fun m again hout hp => ⟨fun r ha => ⟨?_, fun hag y hy => ?_⟩, fun c ha => ⟨?_, fun hag y hy => ?_⟩,
      fun hag y hy => ?_⟩, ?feed⟩
    · rw [located hout (.inl rfl), Device.locateDone_popped (by rw [hdrive]; exact hp), Device.resumeReading]
      simp only [hdrive, ha]
      rfl
    · rw [located hout (.inr hy), Device.locateDone_again (by rw [hdrive]; exact hp) (hne hy), if_pos hag,
        Device.popLost]
      simp only [hdrive, ha, hne hy, if_false]
    · rw [located hout (.inl rfl), Device.locateDone_popped (by rw [hdrive]; exact hp), Device.resumeReading]
      simp only [hdrive, ha]
      rfl
    · rw [located hout (.inr hy), Device.locateDone_again (by rw [hdrive]; exact hp) (hne hy), if_pos hag,
        Device.popLost]
      simp only [hdrive, ha, hne hy, if_false]
    · rw [located hout (.inr hy), Device.locateDone_again (by rw [hdrive]; exact hp) (hne hy), hag, if_neg (by decide),
        hasks, if_neg (hne hy)]
    case feed =>
      intro f c e ha hc he eod good mismatch
      have hw : ∀ p, (d p).writingFeed i = some (f, c, e) := fun p =>
        Device.writingFeed_eq (by rw [hdrive]; exact ha) (by rw [hdrive]; exact hc) he
      have hgood : ∀ p, goesOn ((d p).popGood i f e) = good := by
        intro p
        simp only [good, d, Device.popGood, Device.modDrive_modDrive]
      have hmis : ∀ p, goesOn ((d p).popMismatch i) = mismatch p := fun p =>
        congrArg goesOn (Device.popMismatch_eq (hw p))
      refine ⟨fun m hout hp => ⟨fun h => ?_, fun h => ?_, fun r hr => ?_⟩, ?append, ?label⟩
      · rw [located hout (.inl rfl), Device.locateDone_append (hw _) (by rw [hdrive]; exact hp), if_neg (by simp),
          if_pos h, hasks]
        rfl
      · rw [located hout (.inl rfl), Device.locateDone_append (hw _) (by rw [hdrive]; exact hp), if_neg (by simp),
          if_neg (Nat.not_le.mpr h), hasks]
        rfl
      · rw [located hout (.inr hr), Device.locateDone_append (hw _) (by rw [hdrive]; exact hp), if_pos (hne hr), hmis,
          if_neg (hne hr)]
      case append =>
        intro m k r block hout hp again p
        have hagain : again ↔ rereads r block = true ∧ k < s.dev.readRetries c := and_congr_left' rereads_iff.symm
        have hdone : ∀ p, (d p).readDone i r block = (d p).popAppendRead i k r block := fun p =>
          Device.readDone_append (by rw [hdrive]; exact hp)
        refine ⟨fun ha => ?_, fun ha hr => ⟨fun ht => ?_, fun ht => ?_, fun ht => ?_⟩, fun ha hr => ?_⟩
        · have hr : r = .ok ∨ failed r := ha.1.elim (fun h => .inr (.inl h)) fun h => .inl h.1
          rw [reads hout hr, hdone, Device.popAppendRead_again (hw _) (hagain.mp ha), hasks]
        · rw [reads hout (.inl hr), hdone, Device.popAppendRead_judged (hw _) (mt hagain.mpr ha), if_pos hr, ht, hgood]
        · rw [reads hout (.inl hr), hdone, Device.popAppendRead_judged (hw _) (mt hagain.mpr ha), if_pos hr, ht]
        · rw [reads hout (.inl hr), hdone, Device.popAppendRead_judged (hw _) (mt hagain.mpr ha), if_pos hr, ht, hmis]
        · rw [reads hout (.inr hr), hdone, Device.popAppendRead_judged (hw _) (mt hagain.mpr ha), if_neg (hne hr),
            hmis, if_neg (hne hr)]
      case label =>
        intro m k r block hout hp again p found
        have hagain : again ↔ rereads r block = true ∧ k < s.dev.readRetries c := and_congr_left' rereads_iff.symm
        have hdone : ∀ p, (d p).readDone i r block = (d p).popLabelRead i k r block := fun p =>
          Device.readDone_label (by rw [hdrive]; exact hp)
        refine ⟨fun ha => ?_, fun ha hr hf => ?_, fun ha hr => ?_⟩
        · have hr : r = .ok ∨ failed r := ha.1.elim (fun h => .inr (.inl h)) fun h => .inl h.1
          rw [reads hout hr, hdone, Device.popLabelRead_again (hw _) (hagain.mp ha), hasks]
        · rw [reads hout (.inl hr), hdone, Device.popLabelRead_judged (hw _) (mt hagain.mpr ha), if_pos ⟨hr, hf⟩,
            hgood]
        · rw [reads hout (hr.elim .inr fun h => .inl h.1), hdone,
            Device.popLabelRead_judged (hw _) (mt hagain.mpr ha), if_neg, hmis]
          exact fun h => hr.elim (fun hr => hne hr h.1) fun hr => hr.2 h.2

end Sys2Proof.Machine

/-! ### Which claims a drive is available to (R127, R128) -/

namespace Sys2Proof.Machine

section
variable {d : Device} {i : DriveId} {k : Claim} {c : CartId}

/-- A cartridge chosen for, or the target of, an assigned claim (R129). -/
theorem Device.spokenFor_iff :
    d.spokenFor c = true ↔ ∃ y ∈ d.arb.claims, y.drive ≠ none ∧ (y.chosen = some c ∨ y.target = .cart c) := by
  simp [Device.spokenFor, Option.isSome_iff_ne_none]

theorem Device.movesOut_iff {m : Nat} : d.movesOut m i = true ↔ ∃ y, d.move? m = some y ∧ y.src = driveElem i := by
  simp [Device.movesOut, Option.any_eq_true]

theorem Device.dwellPassed_iff :
    d.dwellPassed i = true ↔ ∃ t, (d.drive i).mountTime = some t ∧ t + d.mu.params.minimumDwell ≤ d.mu.elapsed := by
  simp only [Device.dwellPassed, Option.any_eq_true]
  exact exists_congr fun t => and_congr_right fun _ => decide_eq_true_iff

theorem Device.idleCart_eq_some :
    d.idleCart i = some c ↔ (d.drive i).state = .mountedIdle ∧ (d.drive i).cart = some c := by
  simp [Device.idleCart]

/-- A claim is for the cartridge mounted in a MOUNTED_IDLE drive (R127, R129). -/
theorem Device.wantsMounted_iff :
    d.wantsMounted i k = true ↔ ∃ c, (d.drive i).state = .mountedIdle ∧ (d.drive i).cart = some c ∧
      (k.target = .cart c ∨ (∃ p, k.target = .pool p ∧ d.appendable p c = true ∧
          ∀ y ∈ d.arb.claims, y.drive ≠ none → y.chosen ≠ some c ∧ y.target ≠ .cart c) ∨
        (k.target = .drive i ∧ ∃ m, k.owner = .hostMove m ∧ ∃ y, d.move? m = some y ∧ y.src = driveElem i)) := by
  have mounted : d.wantsMounted i k = true ↔ ∃ c, d.idleCart i = some c ∧
      (k.target = .cart c ∨ (∃ p, k.target = .pool p ∧ d.appendable p c = true ∧ ¬d.spokenFor c = true) ∨
        (k.target = .drive i ∧ ∃ m, k.owner = .hostMove m ∧ d.movesOut m i = true)) := by
    unfold Device.wantsMounted
    cases d.idleCart i with
    | none => simp
    | some c =>
      cases k.target with
      | cart x => simp
      | pool p => simp
      | drive j => cases k.owner <;> simp
  rw [mounted]
  refine exists_congr fun c => ?_
  simp only [Device.idleCart_eq_some, and_assoc, Device.spokenFor_iff, Device.movesOut_iff, not_exists, not_and, not_or,
    ne_eq]

/-- A drive has nothing of its own under way (R127). -/
theorem Device.freeDrive_iff :
    d.freeDrive i = true ↔ (d.drive i).claim = none ∧ (d.drive i).stack = [] ∧ (d.drive i).active = none ∧
      (d.drive i).phase = .rest ∧ ((d.drive i).state = .empty ∨ (d.drive i).state = .mountedIdle) := by
  simp [Device.freeDrive, and_assoc]

theorem Device.available_due (h : (d.drive i).cleaningDue = true) :
    d.available i k = true ↔
      d.freeDrive i = true ∧ k.owner = .cleaning i ∧ ((d.drive i).state = .empty ∨ d.dwellPassed i = true) := by
  simp [Device.available, h]

theorem Device.available_cleaning (h : (d.drive i).cleaningDue = false) {j : DriveId} (ho : k.owner = .cleaning j) :
    d.available i k = true ↔
      d.freeDrive i = true ∧ j = i ∧ ((d.drive i).state = .empty ∨ d.dwellPassed i = true) := by
  simp [Device.available, h, ho]

theorem Device.available_hostMove (h : (d.drive i).cleaningDue = false) {m : Nat} (ho : k.owner = .hostMove m) :
    d.available i k = true ↔
      d.freeDrive i = true ∧ k.target = .drive i ∧ (d.movesOut m i = true ↔ (d.drive i).state ≠ .empty) := by
  simp only [Device.available, h, ho, Bool.and_eq_true, Bool.false_eq_true, if_false, beq_iff_eq]
  cases d.movesOut m i <;> simp

theorem Device.available_other (h : (d.drive i).cleaningDue = false) (hc : ∀ j, k.owner ≠ .cleaning j)
    (hm : ∀ m, k.owner ≠ .hostMove m) :
    d.available i k = true ↔
      d.freeDrive i = true ∧ ((d.drive i).state = .empty ∨ d.wantsMounted i k = true ∨ d.dwellPassed i = true ∨
        k.kind = .urgent ∨ (d.drive i).released = true) := by
  have he : d.available i k =
      (d.freeDrive i && ((d.drive i).state == .empty || d.wantsMounted i k || d.dwellPassed i || k.kind == .urgent ||
        (d.drive i).released)) := by
    simp only [Device.available, h, Bool.false_eq_true, if_false]
  simp [he, or_assoc]

/-- A drive serves verify work (R128, step 3). -/
theorem Device.servesVerify_iff :
    d.servesVerify i = true ↔ (∃ y, d.assigned i = some y ∧ (y.kind = .overdue ∨ y.kind = .verify)) ∨
      ∃ c, (d.drive i).active = some (.verify c) := by
  have kinds : ∀ y : ClaimKind, y.isVerify = true ↔ y = .overdue ∨ y = .verify := by
    intro y; cases y <;> simp [ClaimKind.isVerify]
  simp only [Device.servesVerify, Bool.or_eq_true, Option.any_eq_true, kinds]
  refine or_congr_right ?_
  cases (d.drive i).active with
  | none => simp
  | some w => cases w <;> simp

/-- A verify claim is passed over when as many drives serve verify work as the limit has it (R128, step 3). -/
theorem Device.passedOver_iff :
    d.passedOver k = true ↔ (k.kind = .overdue ∨ k.kind = .verify) ∧
      ∃ js : List DriveId, js.Nodup ∧ (∀ j ∈ js, d.servesVerify j = true) ∧
        d.mu.params.verifyDriveLimit ≤ js.length := by
  have kind : k.kind.isVerify = true ↔ k.kind = .overdue ∨ k.kind = .verify := by
    cases k.kind <;> simp [ClaimKind.isVerify]
  simp only [Device.passedOver, Bool.and_eq_true, decide_eq_true_iff, kind]
  refine and_congr_right fun _ => ⟨fun h => ?_, fun ⟨js, hn, hs, hl⟩ => hl.trans ?_⟩
  · exact ⟨_, (List.nodup_finRange 4).filter _, fun j hj => (List.mem_filter.mp hj).2, h⟩
  · exact (hn.subperm fun j hj => List.mem_filter.mpr ⟨List.mem_finRange j, hs j hj⟩).length_le

/-! ### What a report leaves to choose (R128, R129) -/

/-- Two devices on which every claim takes the same: they differ in what claims report, in stalls, in events and in
decisions due alone. -/
structure Device.ChoosesAs (d e : Device) : Prop where
  drives : e.drives = d.drives
  media : e.media = d.media
  changer : e.changer = d.changer
  map : e.map = d.map
  params : e.mu.params = d.mu.params
  elapsed : e.mu.elapsed = d.mu.elapsed
  holder : ∀ c, e.holder c = d.holder c
  spoken : ∀ c, e.spokenFor c = d.spokenFor c

namespace Device.ChoosesAs
variable {e : Device} (h : d.ChoosesAs e)
include h

theorem drive (i : DriveId) : e.drive i = d.drive i := by simp only [Device.drive, h.drives]
theorem cart (c : CartId) : e.cart c = d.cart c := by simp only [Device.cart, Device.row, h.media]
theorem elem (y : ElemId) : e.elem y = d.elem y := by simp only [Device.elem, h.media]
theorem pool (p : PoolId) : e.pool p = d.pool p := by simp only [Device.pool, h.media]
theorem moveNames (y : ElemId) : e.moveNames y = d.moveNames y := by simp only [Device.moveNames, h.elem]
theorem movesOut (m : Nat) (i : DriveId) : e.movesOut m i = d.movesOut m i := by
  simp only [Device.movesOut, Device.move?, h.changer]
theorem appendable (p : PoolId) (c : CartId) : e.appendable p c = d.appendable p c := by
  simp only [Device.appendable, h.cart, h.holder]
theorem takeable (p : PoolId) (c : CartId) : e.takeable p c = d.takeable p c := by
  simp only [Device.takeable, h.cart, h.pool, Device.named, h.map]
theorem idleCart (i : DriveId) : e.idleCart i = d.idleCart i := by simp only [Device.idleCart, h.drive]
theorem fetchable (c : CartId) : e.fetchable c = d.fetchable c := by
  simp only [Device.fetchable, h.cart, h.elem, h.moveNames]
theorem stored (c : CartId) : e.stored c = d.stored c := by simp only [Device.stored, h.fetchable, h.cart]
theorem slotChoice (c : CartId) : e.slotChoice c = d.slotChoice c := by
  simp only [Device.slotChoice, h.stored, h.spoken]
theorem wantsMounted (i : DriveId) (k : Claim) : e.wantsMounted i k = d.wantsMounted i k := by
  simp only [Device.wantsMounted, h.idleCart, h.appendable, h.spoken, h.movesOut]
theorem dwellPassed (i : DriveId) : e.dwellPassed i = d.dwellPassed i := by
  rw [Bool.eq_iff_iff, Device.dwellPassed_iff, Device.dwellPassed_iff, h.drive, h.params, h.elapsed]
theorem available (i : DriveId) (k : Claim) : e.available i k = d.available i k := by
  simp only [Device.available, Device.freeDrive, h.drive, h.dwellPassed, h.movesOut, h.wantsMounted]
theorem largestEod (cs : List CartId) : Machine.largestEod e cs = Machine.largestEod d cs := by
  induction cs with
  | nil => rfl
  | cons c cs ih => simp only [Machine.largestEod, ih, h.cart]
theorem mostUses (cs : List CartId) : Machine.mostUses e cs = Machine.mostUses d cs := by
  induction cs with
  | nil => rfl
  | cons c cs ih => simp only [Machine.mostUses, ih, h.cart]
theorem cleaningChoice : e.cleaningChoice = d.cleaningChoice := by
  simp only [Device.cleaningChoice, h.mostUses, h.cart, h.stored]
theorem feedChoice (i : DriveId) (k : Claim) (p : PoolId) : e.feedChoice i k p = d.feedChoice i k p := by
  simp only [Device.feedChoice, h.idleCart, h.appendable, h.spoken, h.available, h.largestEod, h.takeable, h.slotChoice]
theorem choice (i : DriveId) (k : Claim) : e.choice i k = d.choice i k := by
  simp only [Device.choice, h.cleaningChoice, h.feedChoice, h.idleCart, h.fetchable]
theorem deliverable (c : Choice) : e.deliverable c = d.deliverable c := by
  simp only [Device.deliverable, h.drive, h.moveNames]

theorem trans {z : Device} (h' : e.ChoosesAs z) : d.ChoosesAs z where
  drives := h'.drives.trans h.drives
  media := h'.media.trans h.media
  changer := h'.changer.trans h.changer
  map := h'.map.trans h.map
  params := h'.params.trans h.params
  elapsed := h'.elapsed.trans h.elapsed
  holder c := (h'.holder c).trans (h.holder c)
  spoken c := (h'.spoken c).trans (h.spoken c)

end Device.ChoosesAs

theorem Device.ChoosesAs.refl (d : Device) : d.ChoosesAs d :=
  ⟨rfl, rfl, rfl, rfl, rfl, rfl, fun _ => rfl, fun _ => rfl⟩

/-- A claim's report noted changes no choice. -/
theorem Device.ChoosesAs.noted (d : Device) (o : Nat) (b : Bool) :
    d.ChoosesAs (d.modClaim o fun k => { k with reported := b }) where
  drives := rfl
  media := rfl
  changer := rfl
  map := rfl
  params := rfl
  elapsed := rfl
  holder _ := rfl
  spoken c := by
    simp only [Device.spokenFor, Device.modClaim, List.any_map]
    refine congrArg (List.any d.arb.claims) (funext fun k => ?_)
    simp only [Function.comp]
    split <;> rfl

/-- A stall cause changed changes no choice. -/
theorem Device.ChoosesAs.setStall (d : Device) (f : FeedId) (g : Stall → Stall) : d.ChoosesAs (d.setStall f g) := by
  have holder : ∀ c, (d.setStall f g).holder c = d.holder c := by
    intro c
    have hcart : ∀ h, ((d.setStall f g).feed h).bind (·.cart) = (d.feed h).bind (·.cart) := by
      intro h
      cases hx : d.feed f with
      | none => rw [show d.setStall f g = d by simp only [Device.setStall, hx]]
      | some x =>
        rw [Device.feed_setStall hx]
        split
        · next hh => rw [hh, hx]; rfl
        · rfl
    simp only [Device.holder, hcart]
  rw [Device.setStall_eq] at holder ⊢
  exact ⟨rfl, rfl, rfl, rfl, rfl, rfl, holder, fun _ => rfl⟩

theorem Device.ChoosesAs.raise (d : Device) (k : EventKind) (a : EventArg) : d.ChoosesAs (d.raise k a) :=
  ⟨rfl, rfl, rfl, rfl, rfl, rfl, fun _ => rfl, fun _ => rfl⟩

/-- A claim that reports that it has found no cartridge leaves every choice as it is (R129, R137). -/
theorem Device.ChoosesAs.reportNone (d : Device) (k : Claim) : d.ChoosesAs (d.reportNone k) := by
  unfold Device.reportNone
  split
  · exact .refl d
  · split
    · next f ho =>
      have stalled := (Device.ChoosesAs.noted d k.order true).trans (.setStall _ f fun s => { s with noMedia := true })
      unfold Device.feedNoMedia
      dsimp only
      split
      · exact stalled.trans (.raise _ _ _)
      · exact stalled
    · exact (Device.ChoosesAs.noted d k.order true).trans (.raise _ _ _)
    · exact .refl d

/-! ### One drive decided (R128) -/

theorem Device.mem_contenders :
    k ∈ d.contenders i ↔ k ∈ d.arb.claims ∧ k.drive = none ∧ d.available i k = true ∧ d.passedOver k = false := by
  simp [Device.contenders, mem_foldr_insertClaim, and_assoc]

theorem Device.pairwise_contenders : (d.contenders i).Pairwise fun a b => ¬b.before i a = true :=
  pairwise_foldr_insertClaim _

/-- Of claims in order, the first that is wanted and can be served is the one that goes before every other such. -/
theorem findSome_first {l : List Claim} {p : Claim → Bool} {f : Claim → Option Choice} {c : Choice}
    (hl : l.Pairwise fun a b => ¬b.before i a = true) (hk : k ∈ l) (hp : p k = true) (hf : f k = some c)
    (first : ∀ z ∈ l, p z = true → (∃ c', f z = some c') → z ≠ k → k.before i z = true) :
    (l.filter p).findSome? (fun k => (f k).map fun c => (k, c)) = some (k, c) := by
  induction l with
  | nil => exact absurd hk List.not_mem_nil
  | cons x l ih =>
    obtain ⟨hx, hl⟩ := List.pairwise_cons.mp hl
    by_cases hxk : x = k
    · subst hxk
      simp [hp, hf]
    · have hkl : k ∈ l := (List.mem_cons.mp hk).resolve_left (Ne.symm hxk)
      have rest := ih hl hkl fun z hz => first z (List.mem_cons_of_mem _ hz)
      by_cases hpx : p x = true
      · cases hfx : f x with
        | none => simpa [hpx, hfx] using rest
        | some c' => exact absurd (first x List.mem_cons_self hpx ⟨c', hfx⟩ hxk) (hx k hkl)
      · rw [List.filter_cons_of_neg hpx]
        exact rest

/-- The reports of the claims that find no cartridge (R129, R137). -/
def Device.reporting (d : Device) (i : DriveId) (ks : List Claim) (e : Device) : Device :=
  (ks.filter fun z => (d.choice i z).isNone).foldl (fun d z => d.reportNone z) e

/-- Claims weighed that cannot be served are passed, each reporting if it finds no cartridge (R129). -/
theorem Device.weigh_passes {e : Device} (h : d.ChoosesAs e) {before ks : List Claim}
    (hb : ∀ z ∈ before, ∀ c, d.choice i z = some c → d.deliverable c = false) :
    Device.weigh i (before ++ ks) e = Device.weigh i ks (d.reporting i before e) := by
  induction before generalizing e with
  | nil => rfl
  | cons z zs ih =>
    have hzs : ∀ y ∈ zs, ∀ c, d.choice i y = some c → d.deliverable c = false := fun y hy =>
      hb y (List.mem_cons_of_mem _ hy)
    simp only [List.cons_append, Device.weigh, h.choice]
    cases hz : d.choice i z with
    | none =>
      simp only [Device.reporting, List.filter_cons, hz, Option.isNone_none, if_true, List.foldl_cons]
      exact ih (h.trans (.reportNone e z)) hzs
    | some c =>
      simp only [h.deliverable, hb z List.mem_cons_self c hz, Bool.false_eq_true, if_false]
      simp only [Device.reporting, List.filter_cons, hz, Option.isNone_some, Bool.false_eq_true, if_false]
      exact ih h hzs

theorem Device.weigh_serves {e : Device} (h : d.ChoosesAs e) {ks : List Claim} {c : Choice}
    (hc : d.choice i k = some c) (hd : d.deliverable c = true) : Device.weigh i (k :: ks) e = (e, some (k, c)) := by
  simp only [Device.weigh, h.choice, hc, h.deliverable, hd, if_true]

theorem Device.ChoosesAs.reporting (d : Device) (i : DriveId) (ks : List Claim) {e : Device} (h : d.ChoosesAs e) :
    d.ChoosesAs (d.reporting i ks e) := by
  unfold Device.reporting
  generalize ks.filter (fun z => (d.choice i z).isNone) = l
  induction l generalizing e with
  | nil => exact h
  | cons z l ih => exact ih (h.trans (.reportNone e z))

theorem Device.deliverable_iff {c : Choice} :
    d.deliverable c = true ↔ c.cart = none ∨ (d.drive c.drive).state ≠ .empty ∨
      ((d.elem (driveElem c.drive)).incoming = none ∧ (d.elem (driveElem c.drive)).outgoing = none) := by
  simp [Device.deliverable, Device.moveNames, or_assoc]

theorem Device.decideDrive_busy (h : d.freeDrive i = false) (n : Nat) : Device.decideDrive i n d = d := by
  cases n with
  | zero => rfl
  | succ n => simp only [Device.decideDrive, h, Bool.false_eq_true, if_false]

/-- The first claim for the mounted cartridge that can be served takes the drive (R128, step 1). -/
theorem Device.decideDrive_mounted (hf : d.freeDrive i = true) {c : Choice} (n : Nat)
    (h : ((d.contenders i).filter fun k => d.wantsMounted i k).findSome? (fun k => (d.choice i k).map fun c => (k, c)) =
      some (k, c)) : Device.decideDrive i (n + 1) d = d.assign k c := by
  simp only [Device.decideDrive, hf, if_true, h]

section
variable (hf : d.freeDrive i = true)
  (h : ((d.contenders i).filter fun k => d.wantsMounted i k).findSome? (fun k => (d.choice i k).map fun c => (k, c)) =
    none)
include hf h

/-- With no claim for the mounted cartridge that can be served, the first weighed that can be takes the drive, or
another that it has found (R128, step 2). -/
theorem Device.decideDrive_weighed {e : Device} {c : Choice} (hw : Device.weigh i (d.contenders i) d = (e, some (k, c)))
    (n : Nat) :
    Device.decideDrive i (n + 1) d = if c.drive = i then e.assign k c else Device.decideDrive i n (e.assign k c) := by
  simp only [Device.decideDrive, hf, if_true, h, hw]

theorem Device.decideDrive_unserved {e : Device} (hw : Device.weigh i (d.contenders i) d = (e, none)) (n : Nat) :
    Device.decideDrive i (n + 1) d = e := by
  simp only [Device.decideDrive, hf, if_true, h, hw]

end

end

/-! ### What a claim takes (R127, R129, R137) -/

section
variable {d : Device} {i : DriveId} {k : Claim} {c : CartId} {p : PoolId}

/-- The lowest-numbered that a test accepts. -/
theorem finRange_find_some {n : Nat} {p : Fin n → Bool} {a : Fin n} (ha : p a = true)
    (first : ∀ b, p b = true → a ≤ b) : (List.finRange n).find? p = some a := by
  rw [← Fin.find?_eq_find?_finRange, Fin.find?_eq_some_iff]
  exact ⟨ha, fun b hb => Bool.eq_false_iff.mpr fun h => absurd (first b h) (not_le.mpr hb)⟩

theorem finRange_find_none {n : Nat} {p : Fin n → Bool} (h : ∀ a, ¬p a = true) : (List.finRange n).find? p = none :=
  List.find?_eq_none.mpr fun a _ => h a

/-- The first cartridge of the greatest measure. -/
def firstGreatest (m : CartId → Nat) : List CartId → Option CartId
  | [] => none
  | c :: cs =>
    match firstGreatest m cs with
    | none => some c
    | some b => if m c < m b then some b else some c

theorem firstGreatest_mem {m : CartId → Nat} {l : List CartId} {b : CartId} (h : firstGreatest m l = some b) :
    b ∈ l := by
  induction l with
  | nil => cases h
  | cons x l ih =>
    rw [firstGreatest] at h
    split at h
    · cases h; exact List.mem_cons_self
    · next y hy =>
      split at h
      · cases h; exact List.mem_cons_of_mem _ (ih hy)
      · cases h; exact List.mem_cons_self

/-- Of cartridges in ascending order, the greatest is taken, ties to the lowest. -/
theorem firstGreatest_eq {m : CartId → Nat} {l : List CartId} (hl : l.Pairwise (· < ·)) (hc : c ∈ l)
    (greatest : ∀ b ∈ l, m b < m c ∨ (m b = m c ∧ c ≤ b)) : firstGreatest m l = some c := by
  induction l with
  | nil => exact absurd hc List.not_mem_nil
  | cons x l ih =>
    obtain ⟨hx, hl⟩ := List.pairwise_cons.mp hl
    rw [firstGreatest]
    rcases List.mem_cons.mp hc with rfl | hc
    · split
      · rfl
      · next b hb =>
        rw [if_neg]
        rcases greatest b (List.mem_cons_of_mem _ (firstGreatest_mem hb)) with h | h <;> omega
    · rw [ih hl hc fun b hb => greatest b (List.mem_cons_of_mem _ hb)]
      refine if_pos ?_
      rcases greatest x List.mem_cons_self with h | h
      · exact h
      · exact absurd h.2 (not_le.mpr (hx c hc))

theorem largestEod_eq (cs : List CartId) :
    largestEod d cs = firstGreatest (fun c => ((d.cart c).bind (·.eod)).getD 0) cs := by
  induction cs with
  | nil => rfl
  | cons c cs ih => rw [largestEod, firstGreatest, ih] <;> rfl

theorem mostUses_eq (cs : List CartId) :
    mostUses d cs = firstGreatest (fun c => ((d.cart c).map (·.uses)).getD 0) cs := by
  induction cs with
  | nil => rfl
  | cons c cs ih => rw [mostUses, firstGreatest, ih] <;> rfl

/-- Of the cartridges a test accepts, the greatest is taken, ties to the lowest index (R129, R137). -/
theorem firstGreatest_filter {m : CartId → Nat} {q : CartId → Bool} (hc : q c = true)
    (greatest : ∀ b, q b = true → m b < m c ∨ (m b = m c ∧ c ≤ b)) : firstGreatest m (allCarts.filter q) = some c :=
  firstGreatest_eq ((List.pairwise_lt_finRange 128).filter q) (List.mem_filter.mpr ⟨List.mem_finRange c, hc⟩)
    fun b hb => greatest b (List.mem_filter.mp hb).2

theorem filter_allCarts_nil {q : CartId → Bool} (h : ∀ c, ¬q c = true) : allCarts.filter q = [] :=
  List.filter_eq_nil_iff.mpr fun c _ => h c

/-- A cartridge stands in a slot, a mail slot among them if `mail`, with no move naming it (R127, R129). -/
def Device.Movable (d : Device) (c : CartId) (mail : Bool) : Prop :=
  ∃ y e, d.cart c = some y ∧ y.location = .at e ∧ (isStorage e = true ∨ (mail = true ∧ isMail e = true)) ∧
    (d.elem e).content = .occupied c ∧ (d.elem e).incoming = none ∧ (d.elem e).outgoing = none

theorem Device.fetchable_iff : d.fetchable c = true ↔ d.Movable c true := by
  unfold Device.fetchable Device.Movable
  cases d.cart c with
  | none => simp [entryLocation]
  | some y => cases hl : y.location <;> simp [entryLocation, hl, Device.moveNames, and_assoc]

theorem Device.stored_iff : d.stored c = true ↔ d.Movable c false := by
  rw [Device.stored, Bool.and_eq_true, Device.fetchable_iff]
  unfold Device.Movable
  cases d.cart c with
  | none => simp
  | some y => cases hl : y.location <;> simp [entryLocation, hl]; tauto

theorem Device.slotChoice_iff : d.slotChoice c = true ↔ d.Movable c false ∧ ¬d.spokenFor c = true := by
  rw [Device.slotChoice, Bool.and_eq_true, Device.stored_iff, Bool.not_eq_true', Bool.not_eq_true]

/-- A claim that names its cartridge takes it where it is mounted or can be fetched (R127). -/
theorem Device.choice_cart (ht : k.target = .cart c) (hc : ∀ j, k.owner ≠ .cleaning j)
    (hm : ∀ m, k.owner ≠ .hostMove m) :
    d.choice i k = if d.idleCart i = some c || d.fetchable c then some ⟨i, some c, false⟩ else none := by
  unfold Device.choice
  cases ho : k.owner with
  | cleaning j => exact absurd ho (hc j)
  | hostMove m => exact absurd ho (hm m)
  | feed | restore | verify | finalize => simp only [ht]

theorem Device.choice_hostMove {m : Nat} (ho : k.owner = .hostMove m) : d.choice i k = some ⟨i, none, false⟩ := by
  simp only [Device.choice, ho]

/-! #### Cleaning cartridges (R137) -/

theorem Device.choice_cleaning {j : DriveId} (ho : k.owner = .cleaning j) :
    d.choice i k = d.cleaningChoice.map fun c => ⟨i, some c, false⟩ := by
  simp only [Device.choice, ho]

/-- A cleaning cartridge with uses remaining stands in a storage slot (R137). -/
def Device.Cleans (d : Device) (c : CartId) (n : Nat) : Prop :=
  (∃ y, d.cart c = some y ∧ y.kind = .cleaning ∧ y.uses = n) ∧ 0 < n ∧ d.Movable c false

theorem Device.cleans_iff :
    ((d.cart c).any (fun e => e.kind == .cleaning && 0 < e.uses) && d.stored c) = true ↔
      d.Cleans c (((d.cart c).map (·.uses)).getD 0) := by
  rw [Bool.and_eq_true, Device.stored_iff, Device.Cleans]
  cases d.cart c <;> simp [and_assoc]

theorem Device.Cleans.uses {n : Nat} (h : d.Cleans c n) : ((d.cart c).map (·.uses)).getD 0 = n := by
  obtain ⟨⟨y, hy, -, hn⟩, -⟩ := h
  rw [hy]; exact hn

theorem Device.cleaningChoice_some {n : Nat} (hc : d.Cleans c n)
    (most : ∀ b m, d.Cleans b m → m < n ∨ (m = n ∧ c ≤ b)) : d.cleaningChoice = some c := by
  rw [Device.cleaningChoice, mostUses_eq]
  refine firstGreatest_filter (Device.cleans_iff.mpr (hc.uses.symm ▸ hc)) fun b hb => ?_
  rw [hc.uses]
  exact most b _ (Device.cleans_iff.mp hb)

theorem Device.cleaningChoice_none (h : ∀ c n, ¬d.Cleans c n) : d.cleaningChoice = none := by
  rw [Device.cleaningChoice, filter_allCarts_nil fun c hc => h c _ (Device.cleans_iff.mp hc)]
  rfl

/-! #### The four choices of a FEED claim (R129) -/

theorem Device.choice_feed {f : FeedId} (ho : k.owner = .feed f) (ht : k.target = .pool p) :
    d.choice i k = d.feedChoice i k p := by
  simp only [Device.choice, ho, ht]

/-- A cartridge mounted in an idle drive that the claim may take (R129). -/
def Device.mountedFor (d : Device) (p : PoolId) (j : DriveId) : Option CartId :=
  (d.idleCart j).filter fun c => d.appendable p c && !d.spokenFor c

theorem Device.mountedFor_iff {j : DriveId} :
    d.mountedFor p j = some c ↔
      ((d.drive j).state = .mountedIdle ∧ (d.drive j).cart = some c) ∧ d.appendable p c = true ∧
        ¬d.spokenFor c = true := by
  simp [Device.mountedFor, Option.filter_eq_some_iff, Device.idleCart_eq_some]

/-- The four choices of R129, in their order. -/
theorem Device.feedChoice_eq :
    d.feedChoice i k p =
      match d.mountedFor p i with
      | some c => some ⟨i, some c, false⟩
      | none =>
        match allDrives.find? fun j => j != i && d.available j k && (d.mountedFor p j).isSome with
        | some j => some ⟨j, d.mountedFor p j, false⟩
        | none =>
          match largestEod d (allCarts.filter fun c => d.appendable p c && d.slotChoice c) with
          | some c => some ⟨i, some c, false⟩
          | none => (allCarts.find? fun c => d.takeable p c && d.slotChoice c).map fun c => ⟨i, some c, true⟩ := rfl

theorem Device.feedChoice_mounted (h : d.mountedFor p i = some c) : d.feedChoice i k p = some ⟨i, some c, false⟩ := by
  simp only [Device.feedChoice_eq, h]

theorem Device.no_other_drive
    (hother : ∀ j c, ¬(j ≠ i ∧ d.available j k = true ∧ d.mountedFor p j = some c)) :
    (allDrives.find? fun j => j != i && d.available j k && (d.mountedFor p j).isSome) = none := by
  refine finRange_find_none fun b hb => ?_
  simp only [Bool.and_eq_true, bne_iff_ne, Option.isSome_iff_exists] at hb
  obtain ⟨⟨hne, ha⟩, e, he⟩ := hb
  exact hother b e ⟨hne, ha, he⟩

theorem Device.no_appendable_slot (hslot : ∀ c, ¬(d.appendable p c = true ∧ d.slotChoice c = true)) :
    largestEod d (allCarts.filter fun c => d.appendable p c && d.slotChoice c) = none := by
  rw [filter_allCarts_nil fun c hc => hslot c (by simpa using hc)]
  rfl

section
variable (hi : d.mountedFor p i = none)
include hi

/-- A cartridge in another drive the claim may have, the lowest-numbered (log entry 84). -/
theorem Device.feedChoice_other {j : DriveId} (hj : j ≠ i ∧ d.available j k = true ∧ d.mountedFor p j = some c)
    (first : ∀ b e, b ≠ i ∧ d.available b k = true ∧ d.mountedFor p b = some e → j ≤ b) :
    d.feedChoice i k p = some ⟨j, some c, false⟩ := by
  have hf : (allDrives.find? fun j => j != i && d.available j k && (d.mountedFor p j).isSome) = some j := by
    refine finRange_find_some (by simp [hj]) fun b hb => ?_
    simp only [Bool.and_eq_true, bne_iff_ne, Option.isSome_iff_exists] at hb
    obtain ⟨⟨hne, ha⟩, e, he⟩ := hb
    exact first b e ⟨hne, ha, he⟩
  simp only [Device.feedChoice_eq, hi, hf, hj]

variable (hother : ∀ j c, ¬(j ≠ i ∧ d.available j k = true ∧ d.mountedFor p j = some c))
include hother

/-- An appendable cartridge in a slot, the one of the largest EOD (R129). -/
theorem Device.feedChoice_slot (hc : d.appendable p c = true ∧ d.slotChoice c = true)
    (greatest : ∀ b, d.appendable p b = true ∧ d.slotChoice b = true →
      ((d.cart b).bind (·.eod)).getD 0 < ((d.cart c).bind (·.eod)).getD 0 ∨
        (((d.cart b).bind (·.eod)).getD 0 = ((d.cart c).bind (·.eod)).getD 0 ∧ c ≤ b)) :
    d.feedChoice i k p = some ⟨i, some c, false⟩ := by
  have hl : largestEod d (allCarts.filter fun c => d.appendable p c && d.slotChoice c) = some c := by
    rw [largestEod_eq]
    exact firstGreatest_filter (by simp [hc]) fun b hb => greatest b (by simpa using hb)
  simp only [Device.feedChoice_eq, hi, Device.no_other_drive hother, hl]

variable (hslot : ∀ c, ¬(d.appendable p c = true ∧ d.slotChoice c = true))
include hslot

/-- A takeable scratch cartridge in a slot, the lowest (R129). -/
theorem Device.feedChoice_scratch (hc : d.takeable p c = true ∧ d.slotChoice c = true)
    (first : ∀ b, d.takeable p b = true ∧ d.slotChoice b = true → c ≤ b) :
    d.feedChoice i k p = some ⟨i, some c, true⟩ := by
  have hf : (allCarts.find? fun c => d.takeable p c && d.slotChoice c) = some c :=
    finRange_find_some (by simp [hc]) fun b hb => first b (by simpa using hb)
  simp only [Device.feedChoice_eq, hi, Device.no_other_drive hother, Device.no_appendable_slot hslot, hf,
    Option.map_some]

theorem Device.feedChoice_none (hscratch : ∀ c, ¬(d.takeable p c = true ∧ d.slotChoice c = true)) :
    d.feedChoice i k p = none := by
  have hf : (allCarts.find? fun c => d.takeable p c && d.slotChoice c) = none :=
    finRange_find_none fun b hb => hscratch b (by simpa using hb)
  simp only [Device.feedChoice_eq, hi, Device.no_other_drive hother, Device.no_appendable_slot hslot, hf,
    Option.map_none]

end

end

/-! ### A claim takes a drive (R128, R130, R132, R134) -/

section
variable {d : Device} {i : DriveId} {k : Claim} {c : Choice}

/-- The device with a drive taken by a claim, before the drive port goes on (R128). -/
def Device.taken (d : Device) (k : Claim) (c : Choice) : Device :=
  (d.modClaim k.order fun k =>
    { k with drive := some c.drive, chosen := c.cart, scratch := c.scratch, reported := false }).modDrive c.drive
      fun x => { x with claim := some k.order, released := false }

theorem Device.state_taken : ((d.taken k c).drive c.drive).state = (d.drive c.drive).state := by
  rw [Device.taken, Device.drive_modDrive]; rfl

theorem Device.assign_empty (h : (d.drive c.drive).state = .empty) :
    d.assign k c = (d.taken k c).beginMount c.drive := by
  have he := Device.state_taken (d := d) (k := k) (c := c)
  rw [h] at he
  exact if_pos he

section
variable (h : (d.drive c.drive).state ≠ .empty)
include h

theorem Device.assign_unwanted (hw : d.wantsMounted c.drive k = false) :
    d.assign k c = (d.taken k c).startUnmount c.drive := by
  have he : ((d.taken k c).drive c.drive).state ≠ .empty := by rw [Device.state_taken]; exact h
  refine (if_neg he).trans (if_neg ?_)
  rw [hw]; exact Bool.false_ne_true

theorem Device.assign_wanted (hw : d.wantsMounted c.drive k = true) :
    d.assign k c =
      match k.owner with
      | .restore r => (d.taken k c).handOverDrive c.drive (.restore r)
      | .verify x => (d.taken k c).handOverDrive c.drive (.verify x)
      | .hostMove _ => (d.taken k c).startUnload c.drive .hostUnload
      | _ => (d.taken k c).beginAppend c.drive := by
  have he : ((d.taken k c).drive c.drive).state ≠ .empty := by rw [Device.state_taken]; exact h
  exact (if_neg he).trans (if_pos hw)

end

/-- A drive handed to the owner of the claim it has just been given (R126). -/
theorem Device.handOver_taken (w : Work) :
    (d.taken k c).handOverDrive c.drive w =
      (((d.taken k c).removeClaim k.order).modDrive c.drive fun x =>
        { x with claim := none, active := some w, idleSince := none }).post (.serve c.drive w) := by
  have hc : ((d.taken k c).drive c.drive).claim = some k.order := by rw [Device.taken, Device.drive_modDrive]
  simp only [Device.handOverDrive, Device.clearClaim, hc, Device.modDrive_modDrive]

end

section
variable {d : Device} {i : DriveId} {k : Claim} {c : CartId} {e : Cart}

section
variable (hk : d.assigned i = some k) (hc : k.chosen = some c) (ho : ∀ m, k.owner ≠ .hostMove m)
include hk hc ho

/-- The mount move asked for (R130). -/
theorem Device.beginMount_moves {d' : Device} (hr : d.requestMove i c (driveElem i) k.kind.cls = some d') :
    d.beginMount i = d'.setPhase i .mountMove := by
  cases hw : k.owner with
  | hostMove m => exact absurd hw (ho m)
  | feed | restore | verify | finalize | cleaning => simp only [Device.beginMount, hk, hw, hc, hr]

/-- A mount move that would be BUSY: the claim waits again (R130). -/
theorem Device.beginMount_busy (hr : d.requestMove i c (driveElem i) k.kind.cls = none) :
    d.beginMount i = d.returnClaim i := by
  cases hw : k.owner with
  | hostMove m => exact absurd hw (ho m)
  | feed | restore | verify | finalize | cleaning => simp only [Device.beginMount, hk, hw, hc, hr]

end

theorem Device.requestMove_eq (b : ElemId) (cls : Nat) :
    d.requestMove i c b cls =
      (d.moveSource c b).map fun a => d.enterMove a (some b) (.cart c) (some cls) (.drive i) true := rfl

section
variable (hc : (d.drive i).cart = some c) (he : d.cart c = some e)
include hc he

/-- The append check of a cartridge whose EOD is UNKNOWN begins with LOCATE_END (R132). -/
theorem Device.beginAppend_unknown (hn : e.eod = none) :
    d.beginAppend i =
      ((d.modDrive i fun x => { x with state := .appendCheck, idleSince := none }).setPhase i .appendEnd).issue i
        .locateEnd := by
  simp only [Device.beginAppend, Device.driveCart, hc, Option.bind_some, he, Option.map_some, hn]

/-- With a known EOD the append check reads the last block, or is good at once with an EOD of 1 (R132). -/
theorem Device.beginAppend_known {n : Nat} (hn : e.eod = some n) :
    d.beginAppend i =
      let d := d.modDrive i fun x => { x with state := .appendCheck, idleSince := none }
      if n ≤ 1 then d.appendGood i c e
      else (d.setDrive i .appendCheck (.appendRead 0 false)).issue i (.read (n - 1)) := by
  have he' : (d.modDrive i fun x => { x with state := .appendCheck, idleSince := none }).cart c = some e := he
  simp only [Device.beginAppend, Device.driveCart, hc, Option.bind_some, he, Option.map_some, hn,
    Device.appendRead, he', Option.getD_some]

end

/-- The assigned host move's drive stands ready for it (R134). -/
theorem Device.beginMount_host {m : Nat} (hk : d.assigned i = some k) (ho : k.owner = .hostMove m) :
    d.beginMount i =
      ((d.modClaim k.order fun k => { k with prepared := true }).setPhase i .hostMove).hostReady m := by
  simp only [Device.beginMount, hk, ho, Device.prepareHost]

/-- A host move is ready once each of its other claims stands prepared (R109, R134). -/
theorem Device.hostReady_prepared {m o : Nat} :
    ((d.modClaim o fun k => { k with prepared := true }).setPhase i .hostMove).arb.claims.all
        (fun k => k.owner != .hostMove m || k.prepared) = true ↔
      ∀ y ∈ d.arb.claims, y.owner = .hostMove m → y.order ≠ o → y.prepared = true := by
  simp only [Device.setPhase, Device.modDrive, Device.modClaim, List.all_map, List.all_eq_true, Function.comp]
  refine forall₂_congr fun y _ => ?_
  by_cases h : y.order = o <;> simp [h, imp_iff_not_or]

theorem Device.settleRelease_kept (h : (d.drive i).released = false) : d.settleRelease i = d := by
  simp only [Device.settleRelease, h, Bool.false_eq_true, if_false]

/-- A drive just released and given to no claim unmounts, unless cleaning-due (R128, R136; log entry 14). -/
theorem Device.settleRelease_released (h : (d.drive i).released = true) :
    d.settleRelease i = d.modDrive i fun x =>
      if x.state = .mountedIdle ∧ x.claim = none ∧ x.cleaningDue = false then
        { x with
          released := false, state := .unloading, phase := .unload, idleSince := none,
          outstanding := x.outstanding ++ [⟨x.cmdNo, d.mu.elapsed, .unload⟩], cmdNo := x.cmdNo + 1 }
      else { x with released := false } := by
  simp only [Device.settleRelease, h, if_true, Device.drive_modDrive, Bool.not_eq_true']
  split
  · next hx =>
    rw [Device.startUnmount, Device.startUnload_eq, Device.modDrive_modDrive]
    exact Device.modDrive_congr (if_pos hx).symm
  · next hx => exact Device.modDrive_congr (if_neg hx).symm

/-! ### Media that return (R44, R129) -/

/-- A FEED claim told that media have returned for its pool, and its feed (R44; log entry 82). -/
def Device.tellMedia (d : Device) (k : Claim) : Device :=
  let d := d.modClaim k.order fun k => { k with reported := false }
  match k.owner with
  | .feed f => d.setStall f fun s => { s with noMedia := false }
  | _ => d

theorem Device.mediaReturned_eq (p : PoolId) :
    d.mediaReturned p = ((d.arb.claims.filter fun k => k.target == .pool p).foldl Device.tellMedia d).post .arbiter :=
  rfl

theorem Device.claims_tellMedia :
    (d.tellMedia k).arb.claims =
      d.arb.claims.map fun y => if y.order = k.order then { y with reported := false } else y := by
  unfold Device.tellMedia
  dsimp only
  split
  · rw [Device.setStall_eq]; rfl
  · rfl

/-- The claims told report no more. -/
theorem Device.claims_foldl_tellMedia (ks : List Claim) :
    (ks.foldl Device.tellMedia d).arb.claims =
      d.arb.claims.map fun y => if ∃ k ∈ ks, y.order = k.order then { y with reported := false } else y := by
  induction ks generalizing d with
  | nil => simp
  | cons k ks ih =>
    rw [List.foldl_cons, ih, Device.claims_tellMedia, List.map_map]
    refine List.map_congr_left fun y _ => ?_
    by_cases h : y.order = k.order
    · simp [Function.comp, h]
    · simp [Function.comp, h]

/-- Telling a claim leaves a feed in use, and NO_MEDIA clear where it was clear or the feed is the claim's. -/
theorem Device.feed_tellMedia {f : FeedId} {x : Feed} (hx : d.feed f = some x) :
    ∃ y, (d.tellMedia k).feed f = some y ∧ (x.stall.noMedia = false ∨ k.owner = .feed f → y.stall.noMedia = false) := by
  unfold Device.tellMedia
  dsimp only
  split
  · next g hg =>
    have hx' : (d.modClaim k.order fun k => { k with reported := false }).feed f = some x := hx
    by_cases h : f = g
    · subst h
      rw [Device.feed_setStall hx', if_pos rfl]
      exact ⟨_, rfl, fun _ => rfl⟩
    · refine ⟨x, ?_, fun hs => hs.resolve_right fun ho => h (Owner.feed.inj (ho.symm.trans hg))⟩
      cases hy : (d.modClaim k.order fun k => { k with reported := false }).feed g with
      | none => simp only [Device.setStall, hy]; exact hx
      | some y => rw [Device.feed_setStall hy, if_neg h]; exact hx
  · next hn => exact ⟨x, hx, fun hs => hs.resolve_right fun ho => hn f ho⟩

theorem Device.feed_foldl_tellMedia {f : FeedId} {x : Feed} (hx : d.feed f = some x) (ks : List Claim) :
    ∃ y, (ks.foldl Device.tellMedia d).feed f = some y ∧
      (x.stall.noMedia = false ∨ (∃ k ∈ ks, k.owner = .feed f) → y.stall.noMedia = false) := by
  induction ks generalizing d x with
  | nil => exact ⟨x, hx, fun h => h.resolve_right fun ⟨_, hk, _⟩ => absurd hk List.not_mem_nil⟩
  | cons k ks ih =>
    obtain ⟨y, hy, clear⟩ := Device.feed_tellMedia (k := k) hx
    obtain ⟨z, hz, clear'⟩ := ih hy
    refine ⟨z, hz, fun h => clear' ?_⟩
    rcases h with h | ⟨q, hq, ho⟩
    · exact .inl (clear (.inl h))
    · rcases List.mem_cons.mp hq with rfl | hq
      · exact .inl (clear (.inr ho))
      · exact .inr ⟨q, hq, ho⟩

end

/-- Settles O51: availability read off, the decision of a drive by the order of its contenders and by reports that leave
every choice as it is, the four choices of R129 in their order, and what follows each. -/
theorem theArbiterGivesDrivesToClaims : Obligations.TheArbiterGivesDrivesToClaims := by
  unfold Obligations.TheArbiterGivesDrivesToClaims
  refine ⟨?available, ?decided, ?choice, ?assigned, ?mount, ?append, ?host, ?released, fun d => rfl, ?media⟩
  case available =>
    intro d i k x free dwell movesOut forMounted serves
    have hfree : d.freeDrive i = true ↔ free := Device.freeDrive_iff
    have hdwell : d.dwellPassed i = true ↔ dwell := Device.dwellPassed_iff
    have hmounted : d.wantsMounted i k = true ↔ forMounted := Device.wantsMounted_iff
    refine ⟨hmounted, ?_, Device.passedOver_iff.trans ?_⟩
    · cases hd : x.cleaningDue with
      | true =>
        rw [if_pos rfl, Device.available_due hd, hfree, hdwell]
      | false =>
        rw [if_neg Bool.false_ne_true]
        cases ho : k.owner with
        | cleaning j => rw [Device.available_cleaning hd ho, hfree, hdwell]
        | hostMove m => rw [Device.available_hostMove hd ho, hfree, Device.movesOut_iff]
        | feed | restore | verify | finalize =>
          rw [Device.available_other hd (fun _ h => nomatch ho.symm.trans h) (fun _ h => nomatch ho.symm.trans h),
            hfree, hdwell, hmounted]
    · simp only [Device.servesVerify_iff, serves]
  case decided =>
    intro d i age sooner contends takes
    have hsooner : ∀ a b, sooner a b ↔ a.before i b = true := fun a b => Claim.before_iff.symm
    have hcon : ∀ k, k ∈ d.contenders i ↔ contends k := fun k => Device.mem_contenders
    have hnone : (∀ z c', takes z c' → d.wantsMounted i z = false) →
        ((d.contenders i).filter fun k => d.wantsMounted i k).findSome?
          (fun k => (d.choice i k).map fun c => (k, c)) = none := by
      intro h
      refine List.findSome?_eq_none_iff.mpr fun z hz => ?_
      obtain ⟨hz, hw⟩ := List.mem_filter.mp hz
      cases hc : d.choice i z with
      | none => rfl
      | some c => exact absurd (h z c ⟨(hcon z).mp hz, hc⟩) (by rw [hw]; decide)
    refine ⟨hcon, ?_, ?mounted, ?weighed, fun k => rfl, ?busy⟩
    · exact Device.pairwise_contenders.imp fun h hs => h ((hsooner _ _).mp hs)
    case mounted =>
      intro k c n hk hw first
      obtain ⟨hcont, hc⟩ := hk
      have ⟨_, _, havail, _⟩ := hcont
      have hf : d.freeDrive i = true := by
        rw [Device.available, Bool.and_eq_true] at havail
        exact havail.1
      refine Device.decideDrive_mounted hf n
        (findSome_first Device.pairwise_contenders ((hcon k).mpr hcont) hw hc fun z hz hp ⟨c', hc'⟩ hne => ?_)
      exact (hsooner _ _).mp (first z c' ⟨(hcon z).mp hz, hc'⟩ hp hne)
    case weighed =>
      intro freeElem served reporting hf hn
      have hserved : ∀ k c, served k c ↔ d.choice i k = some c ∧ d.deliverable c = true := fun k c =>
        and_congr_right fun _ => Device.deliverable_iff.symm
      have hunserved : ∀ z, (∀ c', ¬served z c') → ∀ c, d.choice i z = some c → d.deliverable c = false :=
        fun z h c hc => Bool.eq_false_iff.mpr fun hd => h c ((hserved z c).mpr ⟨hc, hd⟩)
      refine ⟨fun before after k c n hl hk hb => ?_, fun hno n => ?_⟩
      · obtain ⟨hc, hd⟩ := (hserved k c).mp hk
        refine Device.decideDrive_weighed hf (hnone hn) ?_ n
        rw [hl, Device.weigh_passes (.refl d) fun z hz => hunserved z (hb z hz)]
        exact Device.weigh_serves (.reporting d i before (.refl d)) hc hd
      · refine Device.decideDrive_unserved hf (hnone hn) ?_ n
        have hw := Device.weigh_passes (i := i) (.refl d) (before := d.contenders i) (ks := [])
          fun z hz => hunserved z fun c' => hno z c' ((hcon z).mp hz)
        rw [List.append_nil] at hw
        exact hw
    case busy =>
      intro h n
      refine Device.decideDrive_busy (Bool.eq_false_iff.mpr fun hf => ?_) n
      obtain ⟨hclaim, hstack, hactive, hphase, -⟩ := Device.freeDrive_iff.mp hf
      rcases h with h | h | h | h
      · exact h hclaim
      · exact h hstack
      · exact h hactive
      · exact h hphase
  case choice =>
    intro d i k spoken movable idle
    have hspoken : ∀ c, d.spokenFor c = true ↔ spoken c := fun c => Device.spokenFor_iff
    have hidle : ∀ {j c}, d.idleCart j = some c ↔ idle j c := Device.idleCart_eq_some
    have hfetch : ∀ {c}, d.fetchable c = true ↔ movable c true := Device.fetchable_iff
    refine ⟨fun c ht hc hm => ⟨fun h => ?_, fun hi hf => ?_⟩, fun m ho => Device.choice_hostMove ho, ?cleaning, ?feed⟩
    · rw [Device.choice_cart ht hc hm, if_pos]
      simpa only [Bool.or_eq_true, decide_eq_true_eq, hidle, hfetch] using h
    · rw [Device.choice_cart ht hc hm, if_neg]
      simpa only [Bool.or_eq_true, decide_eq_true_eq, hidle, hfetch, not_or] using ⟨hi, hf⟩
    case cleaning =>
      intro j ho usable
      refine ⟨fun c n hc most => ?_, fun h => ?_⟩
      · rw [Device.choice_cleaning ho, Device.cleaningChoice_some hc most]; rfl
      · rw [Device.choice_cleaning ho, Device.cleaningChoice_none h]; rfl
    case feed =>
      intro f p ho ht mounted other appendable scratch end_
      have hmounted : ∀ {j c}, d.mountedFor p j = some c ↔ mounted j c := fun {j c} => by
        rw [Device.mountedFor_iff, hspoken]
      have hother : ∀ {j c}, (j ≠ i ∧ d.available j k = true ∧ d.mountedFor p j = some c) ↔ other j c := fun {j c} => by
        rw [hmounted]
      have happ : ∀ {c}, (d.appendable p c = true ∧ d.slotChoice c = true) ↔ appendable c := fun {c} => by
        rw [Device.slotChoice_iff, hspoken]; rfl
      have hscratch : ∀ {c}, (d.takeable p c = true ∧ d.slotChoice c = true) ↔ scratch c := fun {c} => by
        rw [Device.slotChoice_iff, hspoken]; rfl
      rw [Device.choice_feed ho ht]
      refine ⟨fun c hc => Device.feedChoice_mounted (hmounted.mpr hc), fun hi => ?_⟩
      have hi : d.mountedFor p i = none :=
        Option.eq_none_iff_forall_ne_some.mpr fun c hc => hi c (hmounted.mp hc)
      refine ⟨fun j c hj first => Device.feedChoice_other hi (hother.mpr hj) fun b e hb => first b e (hother.mp hb),
        fun ho => ?_⟩
      have ho : ∀ j c, ¬(j ≠ i ∧ d.available j k = true ∧ d.mountedFor p j = some c) :=
        fun j c h => ho j c (hother.mp h)
      refine ⟨fun c hc greatest => Device.feedChoice_slot hi ho (happ.mpr hc) fun b hb => greatest b (happ.mp hb),
        fun ha => ?_⟩
      have ha : ∀ c, ¬(d.appendable p c = true ∧ d.slotChoice c = true) := fun c h => ha c (happ.mp h)
      exact ⟨fun c hc first => Device.feedChoice_scratch hi ho ha (hscratch.mpr hc)
          fun b hb => first b (hscratch.mp hb),
        fun hs => Device.feedChoice_none hi ho ha fun c hc => hs c (hscratch.mp hc)⟩
  case assigned =>
    intro d k c i x taken unloads handed
    have hunload : ∀ p, (d.taken k c).startUnload i p = unloads p := fun p => Device.startUnload_eq p
    have hhanded : ∀ w, (d.taken k c).handOverDrive i w = handed w := by
      intro w
      rw [Device.handOver_taken]
      refine congrArg (Device.post · _) ?_
      exact congrArg (fun z : Device => { z with
          arb := { taken.arb with claims := taken.arb.claims.filter fun y => y.order != k.order } })
        (Device.modDrive_modDrive (d := d.modClaim k.order fun k =>
            { k with drive := some c.drive, chosen := c.cart, scratch := c.scratch, reported := false }) (i := i)
          (fun x => { x with claim := some k.order, released := false })
          fun x => { x with claim := none, active := some w, idleSince := none })
    refine ⟨fun h => Device.assign_empty h, fun h hw => ?_, fun h hw => ?_⟩
    · rw [Device.assign_unwanted h hw]; exact hunload .unload
    · rw [Device.assign_wanted h hw]
      cases k.owner with
      | restore r => exact hhanded (.restore r)
      | verify z => exact hhanded (.verify z)
      | hostMove m => exact hunload .hostUnload
      | feed | finalize | cleaning => rfl
  case mount =>
    intro d i k c hk hc ho
    exact ⟨fun a ha => Device.beginMount_moves hk hc ho (by rw [Device.requestMove_eq, ha, Option.map_some]),
      fun ha => Device.beginMount_busy hk hc ho (by rw [Device.requestMove_eq, ha, Option.map_none])⟩
  case append =>
    intro d i c e hc he checks
    refine ⟨fun hn => ?_, fun n hn h2 => ?_, fun n hn h1 => ?_⟩
    · rw [Device.beginAppend_unknown hc he hn]
      simp only [Device.setPhase, Device.issue, Device.modDrive_modDrive]
      rfl
    · refine (Device.beginAppend_known hc he hn).trans ((if_neg (Nat.not_le.mpr h2)).trans ?_)
      simp only [Device.setDrive, Device.issue, Device.modDrive_modDrive]
      rfl
    · exact (Device.beginAppend_known hc he hn).trans (if_pos h1)
  case host =>
    intro d i k m hk ho held ready
    rw [Device.beginMount_host hk ho, Device.hostReady]
    exact ⟨fun h => if_pos (Device.hostReady_prepared.mpr h), fun h => if_neg (mt Device.hostReady_prepared.mp h)⟩
  case released =>
    exact fun d i => ⟨Device.settleRelease_kept, Device.settleRelease_released⟩
  case media =>
    intro d p orders e told
    have hks : ∀ y, y ∈ d.arb.claims.filter (fun k => k.target == .pool p) ↔ y ∈ d.arb.claims ∧ told y := fun y => by
      simp only [List.mem_filter, beq_iff_eq, told]
    rw [show e = _ from Device.mediaReturned_eq p, Device.post_arb]
    refine ⟨?_, fun k hk ht f x ho hx => ?_, Device.mem_post ..⟩
    · rw [Device.claims_foldl_tellMedia]
      refine List.map_congr_left fun y hy => ?_
      have hsame : (∃ k ∈ d.arb.claims.filter (fun k => k.target == .pool p), y.order = k.order) ↔ told y := by
        refine ⟨fun ⟨k, hk, hyk⟩ => ?_, fun ht => ⟨y, (hks y).mpr ⟨hy, ht⟩, rfl⟩⟩
        obtain ⟨hk, ht⟩ := (hks k).mp hk
        exact List.inj_on_of_nodup_map orders hy hk hyk ▸ ht
      simp only [hsame]
    · rw [Device.feed_post]
      obtain ⟨y, hy, clear⟩ := Device.feed_foldl_tellMedia hx (d.arb.claims.filter fun k => k.target == .pool p)
      exact ⟨y, hy, clear (.inr ⟨k, (hks k).mpr ⟨hk, ht⟩, ho⟩)⟩

end Sys2Proof.Machine

/-! ### Part records by their ids (R66, R81) -/

namespace Sys2Proof.Machine

section
variable {d : Device} {id : Nat} {p : Part} {before after : List Part}

/-- An id that no record in use holds finds none. -/
theorem Device.part?_eq_none_iff : d.part? id = none ↔ ∀ p ∈ d.map.parts, p.id ≠ id := by simp [Device.part?]

/-- An id finds the first record that holds it. -/
theorem Device.part?_of_first (hl : d.map.parts = before ++ p :: after) (hb : ∀ q ∈ before, q.id ≠ p.id) :
    d.part? p.id = some p :=
  List.find?_eq_some_iff_append.mpr ⟨by simp, before, after, hl, fun q hq => by simpa using hb q hq⟩

/-- A part id in 1..FFFFFFFFh passes the check of its range (log entry 44). -/
theorem partId_inRange (h1 : 1 ≤ id) (h2 : id ≤ 0xFFFFFFFF) : ¬(id = 0 ∨ Config.max32 < id) := by
  unfold Config.max32; omega

end

end Sys2Proof.Machine

/-! ### O15: READ_SEGMENT and READ_CARTRIDGE (R81, R87) -/

namespace Sys2Proof.Machine

section
variable {s : State} {tag : Tag}

/-! #### READ_SEGMENT (R81) -/

theorem exec_readSegment_zero (up : s.dev.link.up = true) :
    exec (.readSegment tag 0) s = .next { s with dev := s.dev.respond tag .badArgument } := by
  simp only [exec, execReadSegment, true_or, if_true]
  exact State.answer_refused up rfl

theorem exec_readSegment_none {id : Nat} (up : s.dev.link.up = true) (h1 : 1 ≤ id) (h2 : id ≤ 0xFFFFFFFF)
    (hp : s.dev.part? id = none) :
    exec (.readSegment tag id) s = .next { s with dev := s.dev.respond tag .noEntry } := by
  simp only [exec, execReadSegment, if_neg (partId_inRange h1 h2), hp]
  exact State.answer_refused up rfl

theorem exec_readSegment {id : Nat} {p : Part} (up : s.dev.link.up = true) (h1 : 1 ≤ id) (h2 : id ≤ 0xFFFFFFFF)
    (hp : s.dev.part? id = some p) :
    exec (.readSegment tag id) s = .next { s with dev := s.dev.respond tag .ok p.items } := by
  simp only [exec, execReadSegment, if_neg (partId_inRange h1 h2), hp]
  exact State.answer_ok up rfl

/-! #### READ_CARTRIDGE (R87) -/

theorem exec_readCartridge_beyond {i : Nat} (up : s.dev.link.up = true) (h : 127 < i) :
    exec (.readCartridge tag i) s = .next { s with dev := s.dev.respond tag .badArgument } := by
  simp only [exec, execReadCartridge, finOf_none h]
  exact State.answer_refused up rfl

theorem exec_readCartridge_empty {c : CartId} (up : s.dev.link.up = true) (he : s.dev.cart c = none) :
    exec (.readCartridge tag c) s =
      .next { s with dev := s.dev.respond tag .noEntry [genItem (s.dev.row c).gen] } := by
  simp only [exec, execReadCartridge, finOf_val, he]
  exact State.answer_refused up rfl

theorem exec_readCartridge {c : CartId} {e : Cart} (up : s.dev.link.up = true) (he : s.dev.cart c = some e) :
    exec (.readCartridge tag c) s = .next { s with dev := s.dev.respond tag .ok (s.dev.cartItems c e) } := by
  simp only [exec, execReadCartridge, finOf_val, he]
  exact State.answer_ok up rfl

/-- Usable is appendable for the entry's own pool, or takeable for a data pool (R96). -/
theorem Device.usableNow_eq {d : Device} {c : CartId} {e : Cart} (he : d.cart c = some e) :
    d.usableNow c = ((e.pool.any fun p => d.appendable p c) || dataPools.any fun p => d.takeable p c) := by
  rw [Device.usableNow, he, Option.bind_some]

end

/-- Settles O15: each read answers its record's or entry's items, and each operand that names none is refused. -/
theorem segmentAndCartridgeReadsAnswerEveryField : Obligations.SegmentAndCartridgeReadsAnswerEveryField := by
  refine ⟨fun s tag up => ?segment, fun s tag up => ?cartridge⟩
  case segment =>
    intro answered time
    have htime : ∀ name t, time name t = timeItem name t := fun _ t => by cases t <;> rfl
    refine ⟨exec_readSegment_zero up,
      fun id h1 h2 hno => exec_readSegment_none up h1 h2 (Device.part?_eq_none_iff.mpr hno),
      fun p before after hl hb h1 h2 => ?_⟩
    rw [exec_readSegment up h1 h2 (Device.part?_of_first hl hb), htime, htime]
    rfl
  case cartridge =>
    intro answered
    refine ⟨fun i h => exec_readCartridge_beyond up h, fun c he => exec_readCartridge_empty up he, fun c e he => ?_⟩
    rw [exec_readCartridge up he]
    simp only [Device.cartItems, Device.usableNow_eq he, Cart.items, knownItem, locationItem]
    rfl

end Sys2Proof.Machine

/-! ### O34: new part ids, LOAD_SEGMENT and RELEASE_SEGMENT (R66, R67, R79, R80) -/

namespace Sys2Proof.Machine

/-! #### The id of a new part (R66) -/

/-- Every id the search passes on its way from the counter on is held; one that ends below its start has wrapped. -/
theorem freePartId_skips_held (used : Nat → Bool) (fuel n : Nat) (hn : 1 ≤ n) :
    (∀ m, n ≤ m → m < freePartId used fuel n → used m = true) ∧
    (freePartId used fuel n < n →
      (∀ m, n ≤ m → m ≤ 0xFFFFFFFF → used m = true) ∧ ∀ m, 1 ≤ m → m < freePartId used fuel n → used m = true) := by
  induction fuel generalizing n with
  | zero => exact ⟨fun m h1 h2 => absurd h2 (Nat.not_lt.mpr h1), fun h => absurd h (Nat.lt_irrefl n)⟩
  | succ k ih =>
    rw [freePartId]
    by_cases hu : used n = true
    · rw [if_pos hu]
      obtain ⟨passed, wrapped⟩ := ih (nextPartId n) (nextPartId_range n).1
      generalize freePartId used k (nextPartId n) = r at *
      by_cases hmax : n ≥ Config.max32
      · -- the counter wraps here, and the search goes on from 1
        rw [nextPartId, if_pos hmax] at passed
        refine ⟨fun m h1 h2 => passed m (by omega) h2, fun _ => ⟨fun m h1 h2 => ?_, passed⟩⟩
        have hm : m = n := by unfold Config.max32 at hmax; omega
        exact hm ▸ hu
      · rw [nextPartId, if_neg hmax] at passed wrapped
        have from_n : ∀ {m}, n ≤ m → (n + 1 ≤ m → used m = true) → used m = true := fun {m} h1 h =>
          (Nat.eq_or_lt_of_le h1).elim (fun e => e ▸ hu) h
        refine ⟨fun m h1 h2 => from_n h1 fun h => passed m h h2, fun hr => ?_⟩
        obtain ⟨above, below⟩ := wrapped (by omega)
        exact ⟨fun m h1 h2 => from_n h1 fun h => above m h h2, below⟩
    · rw [if_neg hu]
      exact ⟨fun m h1 h2 => absurd h2 (Nat.not_lt.mpr h1), fun h => absurd h (Nat.lt_irrefl n)⟩

section
variable {d : Device}

theorem Device.newPartId_range (sound : d.Sound) : 1 ≤ d.newPartId ∧ d.newPartId ≤ 0xFFFFFFFF :=
  freePartId_range _ _ _ sound.counter

/-- The id of a new part is the first free one from the counter on (R66). -/
theorem Device.newPartId_first (sound : d.Sound) :
    (∀ m, d.map.counter ≤ m → m < d.newPartId → ∃ p ∈ d.map.parts, p.id = m) ∧
    (d.newPartId < d.map.counter →
      (∀ m, d.map.counter ≤ m → m ≤ 0xFFFFFFFF → ∃ p ∈ d.map.parts, p.id = m) ∧
      ∀ m, 1 ≤ m → m < d.newPartId → ∃ p ∈ d.map.parts, p.id = m) := by
  simp only [← Device.part?_isSome]
  exact freePartId_skips_held _ _ _ sound.counter.1

/-- A part made leaves the counter one past its id (R66). -/
theorem Device.createPart_counter (sound : d.Sound) (r : Option PartRef) (c : CartId) (rec : Record) (block : Nat) :
    (d.createPart r c rec block).1.map.counter = if d.newPartId = 0xFFFFFFFF then 1 else d.newPartId + 1 := by
  have hmax : d.newPartId ≥ Config.max32 ↔ d.newPartId = 0xFFFFFFFF :=
    ⟨fun h => Nat.le_antisymm (Device.newPartId_range sound).2 h, fun h => Nat.le_of_eq h.symm⟩
  rw [show (d.createPart r c rec block).1.map.counter = nextPartId d.newPartId from rfl]
  simp only [nextPartId, hmax]

end

/-! #### LOAD_SEGMENT (R80) -/

/-- A record is put among the others, which keep their order. -/
theorem insertPart_eq_append (p : Part) (l : List Part) :
    ∃ before after, l = before ++ after ∧ insertPart p l = before ++ p :: after := by
  induction l with
  | nil => exact ⟨[], [], rfl, rfl⟩
  | cons q qs ih =>
    rw [insertPart]
    split
    · exact ⟨[], q :: qs, rfl, rfl⟩
    · obtain ⟨before, after, hl, hi⟩ := ih
      exact ⟨q :: before, after, congrArg (q :: ·) hl, congrArg (q :: ·) hi⟩

/-- The arguments of the LOAD_SEGMENT that loads this record, closed at this time. -/
def Part.loadArgs (p : Part) (time : Nat) : SegmentArgs :=
  { part := p.id, jobTag := p.jobTag, number := p.number, cart := p.cart, firstBlock := p.firstBlock,
    lastBlock := p.lastBlock, firstSeq := p.firstSeq, lastSeq := p.lastSeq, rawBytes := p.rawBytes,
    storedBytes := p.storedBytes, check := p.check.toNat, state := .known p.state, gap := .known p.gap,
    truncated := .known p.truncated, continued := .known p.continued, closeTime := time }

@[simp] theorem flagSet_known (b : Bool) : flagSet (.known b) = b := by cases b <;> rfl

/-- A record that the host loaded, closed and with no pin, is what its arguments load. -/
theorem Part.loaded_loadArgs {p : Part} {time : Nat} (host : p.hostLoaded = true) (closed : p.closeTime = some time)
    (suspect : p.suspectTime = none) (pins : p.restorePins = 0) (pin : p.verifyPin = false) :
    Part.loaded (p.loadArgs time) p.cart = p := by
  cases p
  simp_all [Part.loaded, Part.loadArgs, namedValue]

section
variable {s : State} {tag : Tag} {a : SegmentArgs} {c : CartId} {e : Cart}

/-- A LOAD_SEGMENT whose four checks pass is not refused (R80). -/
theorem Device.loadSegmentRefusal_eq_none {d : Device} (hc : finOf? 128 a.cart = some c) (he : d.cart c = some e)
    (args : segmentArgsBad a = false) (cart : cartRefusesPart e a.lastBlock = false) (free : d.part? a.part = none)
    (room : d.mapHasRoom 1 = true) : d.loadSegmentRefusal a = none := by
  simp only [Device.loadSegmentRefusal, hc, he, args, cart, free, room]
  rfl

theorem exec_loadSegment (up : s.dev.link.up = true) (hc : finOf? 128 a.cart = some c)
    (hr : s.dev.loadSegmentRefusal a = none) :
    exec (.loadSegment tag a) s = .next { s with dev := (s.dev.begun.loadSegment tag a c).settle } := by
  simp only [exec, execLoadSegment, hc]
  exact State.request_accepted up hr

end

/-! #### RELEASE_SEGMENT (R79) -/

theorem Part.pins_pos_iff {p : Part} : 0 < p.pins ↔ 0 < p.restorePins ∨ p.verifyPin = true := by
  cases h : p.verifyPin <;> simp [Part.pins, h]

section
variable {s : State} {tag : Tag} {id : Nat} {p : Part}

theorem Device.releaseRefusal_zero : s.dev.releaseRefusal 0 = some { status := .badArgument } := if_pos (.inl rfl)

theorem exec_releaseSegment_refused {x : RefusalOf} (up : s.dev.link.up = true)
    (hr : s.dev.releaseRefusal id = some x) :
    exec (.releaseSegment tag id) s = .next { s with dev := s.dev.respond tag x.status x.items } :=
  State.request_refused up hr

variable (up : s.dev.link.up = true) (h1 : 1 ≤ id) (h2 : id ≤ 0xFFFFFFFF)
include h1 h2

theorem Device.releaseRefusal_none (hp : s.dev.part? id = none) :
    s.dev.releaseRefusal id = some { status := .noEntry } := by
  simp only [Device.releaseRefusal, if_neg (partId_inRange h1 h2), hp]

/-- A record in use is refused while it is OPEN, and then while it is pinned (R79). -/
theorem Device.releaseRefusal_some (hp : s.dev.part? id = some p) : s.dev.releaseRefusal id =
    if p.state = .open then some { status := .state } else if 0 < p.pins then some { status := .busy } else none := by
  simp only [Device.releaseRefusal, if_neg (partId_inRange h1 h2), hp, firstFailing, beq_iff_eq, decide_eq_true_eq]

include up

theorem exec_releaseSegment (hp : s.dev.part? id = some p) (closed : p.state ≠ .open) (unpinned : ¬0 < p.pins) :
    exec (.releaseSegment tag id) s = .next { s with dev := (s.dev.begun.releaseSegment tag p).settle } := by
  have hr : s.dev.releaseRefusal id = none := by
    rw [Device.releaseRefusal_some h1 h2 hp, if_neg closed, if_neg unpinned]
  have hp' : s.dev.begun.part? id = some p := hp
  simp only [exec, execReleaseSegment, State.request_accepted up hr, hp']

end

/-! #### The obligation -/

/-- Settles O34: the search from the counter on, LOAD_SEGMENT with its four checks passed, and RELEASE_SEGMENT. -/
theorem partIdsAndTheRequestsOnParts : Obligations.PartIdsAndTheRequestsOnParts := by
  refine ⟨fun d sound hl => ?ids, ?load, fun s tag up => ?release⟩
  case ids =>
    obtain ⟨h1, h2⟩ := Device.newPartId_range sound
    obtain ⟨first, wraps⟩ := Device.newPartId_first sound
    exact ⟨Device.newPartId_free sound.counter hl, h1, h2, first, wraps, Device.createPart_counter sound⟩
  case load =>
    intro s tag c e eod st gap truncated continued p up he kind heod hst room free id1 id2 job1 job2 number first1
      blocks last block seqs lastSeq bytes raw time htime hp d
    obtain rfl : p.cart = c := congrArg Part.cart hp
    obtain rfl : p.state = st := congrArg Part.state hp
    obtain rfl : p.gap = gap := congrArg Part.gap hp
    obtain rfl : p.truncated = truncated := congrArg Part.truncated hp
    obtain rfl : p.continued = continued := congrArg Part.continued hp
    have loaded : Part.loaded (p.loadArgs time) p.cart = p :=
      Part.loaded_loadArgs (congrArg Part.hostLoaded hp) (congrArg Part.closeTime hp) (congrArg Part.suspectTime hp)
        (congrArg Part.restorePins hp) (congrArg Part.verifyPin hp)
    have args : segmentArgsBad (p.loadArgs time) = false := by
      have state : ¬(p.state ≠ .closed ∧ p.state ≠ .verified) := by tauto
      have check := p.check.isLt
      rw [← Bool.not_eq_true, segmentArgsBad_iff]
      simp only [Part.loadArgs, ne_eq, Named.known.injEq, reduceCtorEq, or_false] at state ⊢
      simp only [state, or_false]
      omega
    have cart : cartRefusesPart e p.lastBlock = false := by
      rw [← Bool.not_eq_true, cartRefusesPart_iff]
      simp [kind, heod, block]
    have hr : s.dev.loadSegmentRefusal (p.loadArgs time) = none :=
      Device.loadSegmentRefusal_eq_none (finOf_val _) he args cart (Device.part?_eq_none_iff.mpr free)
        (Device.mapHasRoom_iff.mpr room)
    refine ⟨?_, insertPart_eq_append p _, fun rising => insertPart_rising rising free⟩
    refine (exec_loadSegment up (finOf_val p.cart) hr).trans ?_
    simp only [Device.loadSegment, loaded]
    rfl
  case release =>
    intro refused
    refine ⟨exec_releaseSegment_refused up Device.releaseRefusal_zero, fun id h1 h2 hno => ?_,
      fun p before after hl hb h1 h2 => ?_⟩
    · exact exec_releaseSegment_refused up (Device.releaseRefusal_none h1 h2 (Device.part?_eq_none_iff.mpr hno))
    · have hp := Device.part?_of_first hl hb
      have hr := Device.releaseRefusal_some h1 h2 hp
      refine ⟨fun ho => ?_, fun ho pinned => ?_, fun ho restore verify => ?_⟩
      · exact exec_releaseSegment_refused up (hr.trans (if_pos ho))
      · exact exec_releaseSegment_refused up (hr.trans ((if_neg ho).trans (if_pos (Part.pins_pos_iff.mpr pinned))))
      · have unpinned : ¬0 < p.pins := by simp [Part.pins_pos_iff, restore, verify]
        exact exec_releaseSegment up h1 h2 hp ho unpinned

end Sys2Proof.Machine

/-! ### The changer takes up work (R106, R109, R115) -/

namespace Sys2Proof.Machine

/-! #### What the changer's operations leave, and reading back -/

section
variable {d : Device}

theorem driveOfElem_driveElem (i : DriveId) : driveOfElem? (driveElem i) = some i := driveOfElem_eq_some.mpr rfl

theorem isDriveElem_driveElem (i : DriveId) : isDriveElem (driveElem i) = true := by
  revert i; decide

theorem driveOfElem_none {e : ElemId} (h : isDriveElem e = false) : driveOfElem? e = none :=
  dif_neg fun ⟨low, high⟩ => by simp [isDriveElem, low, high] at h

/-- A claim placed changes the claim list and makes decisions due (R126). -/
theorem Device.placeClaim_eq (d : Device) (kind : ClaimKind) (owner : Owner) (target : Target) (p : Option DriveId) :
    d.placeClaim kind owner target p =
      { d with
        arb := { claims := d.arb.claims ++ [{ order := d.arb.nextOrder, kind, owner, target, preferred := p }],
                 nextOrder := d.arb.nextOrder + 1 }
        agenda := (d.placeClaim kind owner target p).agenda } := by
  unfold Device.placeClaim
  rw [Device.postAll_eq, Device.post_eq, Device.postTarget_eq]

/-- A move entered (R106): it stands last in the queue, its two elements are marked, and the picker decides. -/
theorem Device.enterMove_eq {a b : ElemId} (hab : a ≠ b) (load : Load) (cls : Option Nat) (q : Requester)
    (ready : Bool) :
    d.enterMove a (some b) load cls q ready =
      ({ d with
        media := { d.media with
          elems := (d.media.elems.set a { d.elem a with outgoing := some d.changer.nextMove }).set b
            { d.elem b with incoming := some d.changer.nextMove } }
        changer := { d.changer with
          moves := d.changer.moves ++
            [{ id := d.changer.nextMove, src := a, dst := some b, load, cls, requester := q,
               order := d.changer.entryCount, running := false, ready, atPicker := false, grips := 0 }]
          nextMove := d.changer.nextMove + 1
          entryCount := d.changer.entryCount + 1 } } : Device).post .picker := by
  have hb : ∀ g : Element → Element, (d.modElem a g).elem b = d.elem b := fun g =>
    Device.elem_modElem_ne g hab.symm
  rw [← hb fun x => { x with outgoing := some d.changer.nextMove }]
  rfl

/-- An element changed but for its content leaves what every element holds. -/
theorem Device.content_modElem {g : Element → Element} (hg : ∀ x, (g x).content = x.content) (y e : ElemId) :
    ((d.modElem y g).elem e).content = (d.elem e).content := by
  by_cases he : e = y
  · rw [he, Device.elem_modElem, hg]
  · rw [Device.elem_modElem_ne g he]

theorem Device.content_enterMove (a b : ElemId) (load : Load) (cls : Option Nat) (q : Requester) (ready : Bool)
    (e : ElemId) : ((d.enterMove a (some b) load cls q ready).elem e).content = (d.elem e).content := by
  unfold Device.enterMove
  rw [Device.elem_post]
  exact (Device.content_modElem (g := fun x => { x with incoming := some d.changer.nextMove }) (fun _ => rfl) b e).trans
    (Device.content_modElem (g := fun x => { x with outgoing := some d.changer.nextMove }) (fun _ => rfl) a e)

end

/-! #### INVENTORY (R115) -/

theorem Device.inventoryRefusal_none {d : Device} {first last : Option Nat} (low : 5 ≤ first.getD 5)
    (order : first.getD 5 ≤ last.getD 104) (high : last.getD 104 ≤ 104) (idle : d.changer.inventory = none) :
    d.inventoryRefusal first last = none := by
  have range : (decide (first.getD 5 < 5) || decide (104 < first.getD 5) || decide (last.getD 104 < 5) ||
      decide (104 < last.getD 104) || decide (last.getD 104 < first.getD 5)) = false := by
    simp only [Bool.or_eq_false_iff, decide_eq_false_iff_not]
    omega
  simp only [Device.inventoryRefusal, firstFailing, range, idle, Option.isSome_none, Bool.false_eq_true, if_false]

/-! #### MOVE (R109) -/

section
variable {d : Device} {a b : ElemId} {load : Load}

theorem Device.foreignLoad_of_cart {c : CartId} (h : d.loadAt a = some (.cart c)) : d.foreignLoad a = false := by
  unfold Device.loadAt at h
  unfold Device.foreignLoad
  cases hx : (d.elem a).content <;> simp_all

theorem Device.foreignAtMouth_of_not_foreign (h : d.foreignLoad a = false) : d.foreignAtMouth a = false := by
  unfold Device.foreignAtMouth
  cases driveOfElem? a <;> simp [h]

theorem Device.foreignAtMouth_of_not_drive (h : isDriveElem a = false) : d.foreignAtMouth a = false := by
  rw [Device.foreignAtMouth, driveOfElem_none h]

theorem Device.driveBusy_of_not_drive (h : isDriveElem a = false) : d.driveBusy a = false := by
  rw [Device.driveBusy, driveOfElem_none h]

theorem Device.driveBusy_of_mountedIdle {i : DriveId} (state : (d.drive i).state = .mountedIdle)
    (stack : (d.drive i).stack = []) : d.driveBusy (driveElem i) = false := by
  simp [Device.driveBusy, driveOfElem_driveElem, state, stack]

/-- The checks of R109 that a MOVE has passed. -/
structure Device.MoveTaken (d : Device) (a b : ElemId) (load : Load) : Prop where
  source : a ≠ 0
  destination : b ≠ 0
  apart : a ≠ b
  load : d.loadAt a = some load
  free : (d.elem b).content = .empty
  fits : isDriveElem b = false ∨ d.foreignLoad a = false
  sourceUnnamed : d.moveNames a = false
  destinationUnnamed : d.moveNames b = false
  idle : d.loadBusy a = false
  still : d.driveBusy a = false
  room : d.hostMoves < 4

theorem Device.MoveTaken.not_refused (h : d.MoveTaken a b load) : d.moveRefusal a b = none := by
  have fits : (isDriveElem b && d.foreignLoad a) = false := Bool.and_eq_false_iff.mpr h.fits
  simp [Device.moveRefusal, firstFailing, h.source, h.destination, h.apart, h.load, h.free, fits, h.sourceUnnamed,
    h.destinationUnnamed, h.idle, h.still, h.room]

/-- A MOVE that passes its checks is entered as a host's (R109). -/
theorem exec_move {s : State} (tag : Tag) (up : s.dev.link.up = true) (h : s.dev.MoveTaken a b load) :
    exec (.move tag a b) s = .next { s with dev := (s.dev.begun.hostMove tag a b load).settle } := by
  have hl : s.dev.begun.loadAt a = some load := h.load
  refine (State.request_accepted up h.not_refused).trans ?_
  simp only [finOf_val, hl]

/-- A host move that touches no drive is ready, and needs no claim (R109). -/
theorem Device.hostMove_of_no_drive (tag : Tag) (ha : isDriveElem a = false) (hb : isDriveElem b = false) :
    d.hostMove tag a b load = (d.respond tag .ok).enterMove a (some b) load (some 6) .host true := by
  simp [Device.hostMove, Device.claimHost, driveOfElem_none ha, driveOfElem_none hb, ha, hb,
    Device.foreignAtMouth_of_not_drive ha]

/-- A host move out of a drive, or into one, waits for the HOST claim it places for that drive (R109). -/
theorem Device.hostMove_of_drive (tag : Tag) {i : DriveId} (hf : d.foreignLoad a = false)
    (hi : (a = driveElem i ∧ isDriveElem b = false) ∨ (b = driveElem i ∧ isDriveElem a = false)) :
    d.hostMove tag a b load = ((d.respond tag .ok).enterMove a (some b) load (some 6) .host false).placeClaim .host
      (.hostMove d.changer.nextMove) (.drive i) := by
  rcases hi with ⟨rfl, hb⟩ | ⟨rfl, ha⟩
  · simp [Device.hostMove, Device.claimHost, driveOfElem_driveElem, driveOfElem_none hb, isDriveElem_driveElem,
      Device.foreignAtMouth_of_not_foreign hf]
  · simp [Device.hostMove, Device.claimHost, driveOfElem_driveElem, driveOfElem_none ha, isDriveElem_driveElem,
      Device.foreignAtMouth_of_not_foreign hf]

end

/-! #### The obligation -/

/-- Settles O39: each request passes its checks; a move that touches one drive waits for the claim of that drive. -/
theorem inventoryAndMoveEnterTheirWork : Obligations.InventoryAndMoveEnterTheirWork := by
  refine ⟨fun s tag up => ⟨?inventory, ?move⟩, ?drive⟩
  case inventory =>
    intro first last a b low order high idle
    exact State.request_accepted up (Device.inventoryRefusal_none low order high idle)
  case move =>
    intro a b load ha0 hb0 hab ha hb hload free na nb idle room id
    have taken : s.dev.MoveTaken a b load :=
      ⟨ha0, hb0, hab, hload, free, .inl hb, na, nb, idle, Device.driveBusy_of_not_drive ha, room⟩
    rw [exec_move tag up taken, Device.hostMove_of_no_drive tag ha hb, Device.enterMove_eq hab]
    rfl
  case drive =>
    intro s tag a b load i up ha0 hb0 hab hi hload free na nb idle room
    have foreign : s.dev.foreignLoad a = false := by
      rcases hi with ⟨_, _, _, _, c, rfl⟩ | ⟨_, _, c, rfl⟩ <;> exact Device.foreignLoad_of_cart hload
    have still : s.dev.driveBusy a = false := by
      rcases hi with ⟨rfl, _, state, stack, _⟩ | ⟨_, ha, _⟩
      · exact Device.driveBusy_of_mountedIdle state stack
      · exact Device.driveBusy_of_not_drive ha
    have touches : (a = driveElem i ∧ isDriveElem b = false) ∨ (b = driveElem i ∧ isDriveElem a = false) :=
      hi.imp (fun h => ⟨h.1, h.2.1⟩) fun h => ⟨h.1, h.2.1⟩
    have taken : s.dev.MoveTaken a b load :=
      ⟨ha0, hb0, hab, hload, free, .inr foreign, na, nb, idle, still, room⟩
    refine ⟨_, exec_move tag up taken, ?_⟩
    rw [Device.hostMove_of_drive tag (d := s.dev.begun) foreign touches, Device.placeClaim_eq]
    have entered := Device.enterMove_eq (d := s.dev.begun.respond tag .ok) hab load (some 6) .host false
    refine ⟨?_, ?_, ?_, ?_, ?_, Device.content_enterMove a b load (some 6) .host false⟩ <;>
      simp only [entered, Device.post_changer, Device.post_arb, Device.post_link, Device.post_drives,
        Device.post_media] <;>
      rfl

end Sys2Proof.Machine

/-! ### The picker's choice, and the scans (R110 to R112, R116 to R119) -/

namespace Sys2Proof.Machine

/-! #### What a scan leaves, and reading back -/

section
variable {d : Device}

@[simp] theorem Device.writeCart_changer (c : CartId) (e : Option Cart) : (d.writeCart c e).changer = d.changer := by
  rw [Device.writeCart_eq]

@[simp] theorem Device.editCart_changer (c : CartId) (g : Cart → Cart) : (d.editCart c g).changer = d.changer := by
  unfold Device.editCart
  split
  · exact Device.writeCart_changer ..
  · rfl

@[simp] theorem Device.setContent_changer (e : ElemId) (v : Content) : (d.setContent e v).changer = d.changer := by
  unfold Device.setContent
  extract_lets x y
  split
  · split
    · exact (Device.post_changer ..).trans (Device.post_changer ..)
    · exact Device.post_changer ..
  · rfl

@[simp] theorem Device.loseCart_changer (c : CartId) : (d.loseCart c).changer = d.changer := Device.editCart_changer ..

@[simp] theorem Device.cartOutside_changer (c : CartId) : (d.cartOutside c).changer = d.changer :=
  Device.editCart_changer ..

@[simp] theorem Device.forgetFormer_changer (c : CartId) : (d.forgetFormer c).changer = d.changer := rfl

@[simp] theorem Device.settleIn_changer (e : ElemId) (c : CartId) : (d.settleIn e c).changer = d.changer :=
  (Device.editCart_changer ..).trans (Device.setContent_changer ..)

@[simp] theorem Device.loseDisplaced_changer (e : ElemId) : (d.loseDisplaced e).changer = d.changer := by
  unfold Device.loseDisplaced
  split
  · exact Device.loseCart_changer ..
  · rfl

theorem Device.scanEmpty_changer (e : ElemId) : (d.scanEmpty e).changer = d.changer := by
  unfold Device.scanEmpty
  dsimp only
  split
  · split <;> simp
  · simp

theorem Device.scanBarcode_changer (e : ElemId) (x : Bytes) : (d.scanBarcode e x).1.changer = d.changer := by
  unfold Device.scanBarcode
  split
  · extract_lets moved displaced
    have hm : moved.changer = d.changer := by
      unfold moved
      split
      · split <;> simp
      · rfl
    have hd : displaced.changer = moved.changer := by
      unfold displaced
      split
      · split <;> simp
      · rfl
    exact (Device.settleIn_changer ..).trans (hd.trans hm)
  · dsimp only
    split <;> simp

/-- A scan result changes the tables, and nothing of the changer controller (R101). -/
@[simp] theorem Device.scan_changer (e : ElemId) (r : ScanResult) : (d.scan e r).1.changer = d.changer := by
  cases r with
  | empty => exact Device.scanEmpty_changer e
  | barcode x => exact Device.scanBarcode_changer e x

theorem Device.takeDestination_changer (l : Load) (b : ElemId) : (d.takeDestination l b).changer = d.changer := by
  cases l with
  | cart c => exact Device.editCart_changer ..
  | foreign x => rfl

theorem Device.elem_takeDestination (l : Load) (b e : ElemId) : (d.takeDestination l b).elem e = d.elem e := by
  cases l with
  | cart c => exact Device.elem_editCart ..
  | foreign x => rfl

/-- A move in the queue changed is found changed. -/
theorem Device.move?_modMove {m : Move} {g : Move → Move} (hm : d.move? m.id = some m) (hg : ∀ x, (g x).id = x.id) :
    (d.modMove m.id g).move? m.id = some (g m) := by
  have hid : ((fun x : Move => x.id == m.id) ∘ fun x => if x.id = m.id then g x else x) = fun x => x.id == m.id := by
    funext x
    simp only [Function.comp]
    split
    · rw [hg]
    · rfl
  have hm' : d.changer.moves.find? (fun x => x.id == m.id) = some m := hm
  simp only [Device.move?, Device.modMove, List.find?_map, hid, hm', Option.map_some, if_true]

/-- Two changes of a move are one. -/
theorem Device.modMove_modMove {id : Nat} (g h : Move → Move) (hg : ∀ x, (g x).id = x.id) :
    (d.modMove id g).modMove id h = d.modMove id fun x => h (g x) := by
  have each : ∀ x : Move, (if (if x.id = id then g x else x).id = id then h (if x.id = id then g x else x)
      else if x.id = id then g x else x) = if x.id = id then h (g x) else x := fun x => by
    by_cases hx : x.id = id <;> simp [hx, hg]
  simp [Device.modMove, each]

/-- What an element holds is read from its content. -/
theorem Device.holds_iff {e : ElemId} {l : Load} : d.holds e l = true ↔
    (∃ c, l = .cart c ∧ (d.elem e).content = .occupied c) ∨ ∃ x, l = .foreign x ∧ (d.elem e).content = .foreign x := by
  cases l <;> simp [Device.holds]

theorem Device.holds_congr {x : Device} {e : ElemId} (h : (x.elem e).content = (d.elem e).content) (l : Load) :
    x.holds e l = d.holds e l := by cases l <;> simp [Device.holds, h]

theorem Device.pickerLoad_eq_some {l : Load} : d.pickerLoad = some l ↔ d.holds 0 l = true := by
  rw [Device.holds_iff, Device.pickerLoad, show pickerElem = 0 from rfl]
  cases (d.elem 0).content <;> simp [eq_comm]

theorem Device.slotFree_content {e : ElemId} (h : d.slotFree e = true) : (d.elem e).content = .empty := by
  simp only [Device.slotFree, Bool.and_eq_true, beq_iff_eq] at h
  exact h.1

/-- R102 gives a load an EMPTY element. -/
theorem Device.destination_empty {l : Load} {b : ElemId} (h : d.destination l = some b) :
    (d.elem b).content = .empty := by
  have lowest : d.lowestFreeSlot = some b → (d.elem b).content = .empty := fun h => by
    have hb := List.find?_some h
    exact Device.slotFree_content (Bool.and_eq_true_iff.mp hb).2
  cases l with
  | foreign x => exact lowest h
  | cart c =>
    unfold Device.destination at h
    dsimp only at h
    split at h
    · split at h
      · next free => cases h; exact Device.slotFree_content free
      · exact lowest h
    · exact lowest h

end

/-! #### The order of the items (R110) -/

theorem Pick.before_iff {a b : Pick} :
    a.before b = true ↔ a.cls < b.cls ∨ (a.cls = b.cls ∧ a.order < b.order) := by simp [Pick.before]

theorem Pick.not_before_of_before {a b : Pick} (h : a.before b = true) : ¬b.before a = true := by
  rw [Pick.before_iff] at h ⊢
  omega

theorem bestPick_mem {l : List Pick} {p : Pick} (h : bestPick l = some p) : p ∈ l := by
  induction l generalizing p with
  | nil => cases h
  | cons x xs ih =>
    unfold bestPick at h
    split at h
    · cases h; exact List.mem_cons_self
    · next q hq =>
      split at h
      · cases h; exact List.mem_cons_of_mem _ (ih hq)
      · cases h; exact List.mem_cons_self

/-- The item that goes before every other one is taken. -/
theorem bestPick_first {l : List Pick} {p : Pick} (hp : p ∈ l) (first : ∀ q ∈ l, q ≠ p → p.before q = true) :
    bestPick l = some p := by
  induction l with
  | nil => cases hp
  | cons x xs ih =>
    unfold bestPick
    by_cases hx : x = p
    · subst hx
      split
      · rfl
      · next q hq =>
        by_cases hqp : q = x
        · rw [hqp, ite_self]
        · exact if_neg (Pick.not_before_of_before (first q (List.mem_cons_of_mem _ (bestPick_mem hq)) hqp))
    · have htail : p ∈ xs := (List.mem_cons.mp hp).resolve_left (Ne.symm hx)
      rw [ih htail fun q hq => first q (List.mem_cons_of_mem _ hq)]
      exact if_pos (first x List.mem_cons_self hx)

/-! #### The eligible items (R110) -/

section
variable {d : Device}

theorem Move.places_iff {m : Move} : m.places = true ↔ m.requester = .changer ∧ m.src = 0 := by
  simp [Move.places, pickerElem]

/-- A queued move that the picker may take (R110). -/
def Device.MayTake (d : Device) (m : Move) : Prop :=
  m ∈ d.changer.moves ∧ m.running = false ∧ m.ready = true ∧
    ¬((isMail m.src = true ∨ ∃ b, m.dst = some b ∧ isMail b = true) ∧
      (d.changer.doorOpen = true ∨ d.changer.mailScan ≠ none)) ∧
    ((d.elem 0).content = .empty ∨ (m.requester = .changer ∧ m.src = 0)) ∧
    (m.requester = .changer ∧ m.src = 0 → d.destination m.load ≠ none)

theorem Device.mayTake_iff {m : Move} : d.MayTake m ↔ m ∈ d.changer.moves ∧ d.moveEligible m = true := by
  simp only [Device.MayTake, Device.moveEligible, Bool.and_eq_true, Bool.or_eq_true, Bool.not_eq_true',
    ← Move.places_iff, ← Bool.not_eq_true, Option.any_eq_true, Option.isSome_iff_ne_none, beq_iff_eq, pickerElem,
    and_assoc, imp_iff_not_or]

theorem Device.mem_picks {p : Pick} : p ∈ d.picks ↔ (∃ m, d.MayTake m ∧ p = .move m) ∨
    (∃ v, d.changer.inventory = some v ∧ p = .inventory v) ∨ ∃ v, d.changer.mailScan = some v ∧ p = .mail v := by
  simp only [Device.picks, List.mem_append, List.mem_map, List.mem_filter, Option.mem_toList, Option.map_eq_some_iff,
    ← Device.mayTake_iff, or_assoc, eq_comm (b := p)]

/-- An eligible item that goes before all others is the best. -/
theorem Device.bestPick_picks {p : Pick} (hp : p ∈ d.picks)
    (moves : ∀ y, d.MayTake y → .move y ≠ p → p.before (.move y) = true)
    (inventory : ∀ v, d.changer.inventory = some v → .inventory v ≠ p → p.before (.inventory v) = true)
    (mail : ∀ v, d.changer.mailScan = some v → .mail v ≠ p → p.before (.mail v) = true) :
    bestPick d.picks = some p := by
  refine bestPick_first hp fun q hq hne => ?_
  rcases Device.mem_picks.mp hq with ⟨y, hy, rfl⟩ | ⟨v, hv, rfl⟩ | ⟨v, hv, rfl⟩
  · exact moves y hy hne
  · exact inventory v hv hne
  · exact mail v hv hne

/-- A move that is older, or of a higher class, than every other eligible item is the best. -/
theorem Device.bestPick_move {m : Move} (hm : d.MayTake m)
    (moves : ∀ y, d.MayTake y → y ≠ m →
      m.cls.getD 0 < y.cls.getD 0 ∨ (m.cls.getD 0 = y.cls.getD 0 ∧ m.order < y.order))
    (inventory : ∀ v, d.changer.inventory = some v → m.cls.getD 0 < 6 ∨ (m.cls.getD 0 = 6 ∧ m.order < v.order))
    (mail : ∀ v, d.changer.mailScan = some v → m.cls.getD 0 < 6 ∨ (m.cls.getD 0 = 6 ∧ m.order < v.order)) :
    bestPick d.picks = some (.move m) :=
  Device.bestPick_picks (Device.mem_picks.mpr (.inl ⟨m, hm, rfl⟩))
    (fun y hy hne => Pick.before_iff.mpr (moves y hy fun h => hne (h ▸ rfl)))
    (fun v hv _ => Pick.before_iff.mpr (inventory v hv)) fun v hv _ => Pick.before_iff.mpr (mail v hv)

/-- A scan step is of class 6 (R110). -/
theorem Device.bestPick_inventory {v : Inventory} (hv : d.changer.inventory = some v)
    (moves : ∀ y, d.MayTake y → 6 < y.cls.getD 0 ∨ (6 = y.cls.getD 0 ∧ v.order < y.order))
    (mail : ∀ w, d.changer.mailScan = some w → v.order < w.order) : bestPick d.picks = some (.inventory v) :=
  Device.bestPick_picks (Device.mem_picks.mpr (.inr (.inl ⟨v, hv, rfl⟩)))
    (fun y hy _ => Pick.before_iff.mpr (moves y hy))
    (fun w hw hne => absurd (hv.symm.trans hw) fun h => hne (by cases h; rfl))
    fun w hw _ => Pick.before_iff.mpr (.inr ⟨rfl, mail w hw⟩)

theorem Device.bestPick_mail {v : MailScan} (hv : d.changer.mailScan = some v)
    (moves : ∀ y, d.MayTake y → 6 < y.cls.getD 0 ∨ (6 = y.cls.getD 0 ∧ v.order < y.order))
    (inventory : ∀ w, d.changer.inventory = some w → v.order < w.order) : bestPick d.picks = some (.mail v) :=
  Device.bestPick_picks (Device.mem_picks.mpr (.inr (.inr ⟨v, hv, rfl⟩)))
    (fun y hy _ => Pick.before_iff.mpr (moves y hy))
    (fun w hw _ => Pick.before_iff.mpr (.inr ⟨rfl, inventory w hw⟩))
    fun w hw hne => absurd (hv.symm.trans hw) fun h => hne (by cases h; rfl)

theorem Device.picks_eq_nil (moves : ∀ m, ¬d.MayTake m) (inventory : d.changer.inventory = none)
    (mail : d.changer.mailScan = none) : d.picks = [] :=
  List.eq_nil_iff_forall_not_mem.mpr fun p hp => by
    rcases Device.mem_picks.mp hp with ⟨m, hm, -⟩ | ⟨v, hv, -⟩ | ⟨v, hv, -⟩
    · exact moves m hm
    · simp [inventory] at hv
    · simp [mail] at hv

/-! #### A move begun (R111) -/

theorem Device.startMove_ok {m : Move} {b : ElemId} (hb : m.dst = some b) (held : d.holds m.src m.load = true)
    (free : (d.elem b).content = .empty ∨ isDriveElem b = true) :
    d.startMove m =
      ((d.modMove m.id fun m => { m with running := true }).giveOrder .moving (.transfer m.id m.src b), true) := by
  have ok : d.startOk m = true := by simp [Device.startOk, hb, held, free]
  simp only [Device.startMove, hb, ok, if_true]

theorem Device.startMove_fails {m : Move} (h : d.startOk m = false) :
    d.startMove m = (d.endMove m (.failed .start), false) := by
  unfold Device.startMove
  split
  · rw [h]; rfl
  · rfl

theorem Device.startOk_of_not_held {m : Move} (h : d.holds m.src m.load = false) : d.startOk m = false := by
  rw [Device.startOk, h, Bool.false_and]

/-- A placement given its destination: the home is taken, and the move and its element are marked (R102, R119). -/
def Device.aimed (d : Device) (m : Move) (b : ElemId) : Device :=
  ((d.takeDestination m.load b).modMove m.id fun m => { m with dst := some b }).modElem b fun x =>
    { x with incoming := some m.id }

theorem Device.aimPlacement_held {m : Move} {b : ElemId} (held : d.holds 0 m.load = true)
    (hb : d.destination m.load = some b) : d.aimPlacement m = some (d.aimed m b) := by
  rw [Device.aimPlacement, if_pos (Device.pickerLoad_eq_some.mpr held), hb]
  rfl

theorem Device.aimPlacement_not_held {m : Move} (h : d.holds 0 m.load = false) : d.aimPlacement m = some d :=
  if_neg fun hl => by simp [Device.pickerLoad_eq_some.mp hl] at h

theorem Device.content_aimed (m : Move) (b e : ElemId) : ((d.aimed m b).elem e).content = (d.elem e).content :=
  (Device.content_modElem (g := fun x => { x with incoming := some m.id }) (fun _ => rfl) b e).trans
    (congrArg Element.content (Device.elem_takeDestination m.load b e))

theorem Device.move?_aimed {m : Move} (b : ElemId) (hm : d.move? m.id = some m) :
    (d.aimed m b).move? m.id = some { m with dst := some b } := by
  have taken : (d.takeDestination m.load b).move? m.id = some m := by
    simpa only [Device.move?, Device.takeDestination_changer] using hm
  exact Device.move?_modMove (g := fun m => { m with dst := some b }) taken fun _ => rfl

/-- A placement that has its destination starts (R111). -/
theorem Device.startMove_aimed {m : Move} {b : ElemId} (src : m.src = 0) (held : d.holds 0 m.load = true)
    (free : (d.elem b).content = .empty) :
    (d.aimed m b).startMove { m with dst := some b } =
      ((((d.takeDestination m.load b).modMove m.id fun m => { m with dst := some b, running := true }).modElem b
        fun x => { x with incoming := some m.id }).giveOrder .moving (.transfer m.id 0 b), true) := by
  have once : ((d.takeDestination m.load b).modMove m.id fun m => { m with dst := some b }).modMove m.id
      (fun m => { m with running := true }) =
        (d.takeDestination m.load b).modMove m.id fun m => { m with dst := some b, running := true } :=
    Device.modMove_modMove (fun m => { m with dst := some b }) _ fun _ => rfl
  rw [Device.startMove_ok rfl (by rw [src, Device.holds_congr (Device.content_aimed m b 0), held])
    (.inl ((Device.content_aimed m b b).trans free)), src, ← once]
  rfl

/-! #### What the idle picker does (R110) -/

theorem Device.pickerChoose_nothing (h : bestPick d.picks = none) : d.pickerChoose = d := by
  simp only [Device.pickerChoose, h, ite_self]

section
variable (idle : d.changer.picker = .idle)
include idle

/-- A move is chosen: it is started, or it has failed and the picker decides again. -/
theorem Device.pickerChoose_move {m m' : Move} {aimed : Device} (best : bestPick d.picks = some (.move m))
    (aim : (if m.places then d.aimPlacement m else some d) = some aimed) (hm : aimed.move? m.id = some m') :
    d.pickerChoose = if (aimed.startMove m').2 then (aimed.startMove m').1
      else (aimed.startMove m').1.ensurePlacement.post .picker := by
  simp only [Device.pickerChoose, if_pos idle, best, aim, hm]

theorem Device.pickerChoose_inventory {v : Inventory} (best : bestPick d.picks = some (.inventory v)) :
    d.pickerChoose = d.inventoryStep v := by
  simp only [Device.pickerChoose, if_pos idle, best]

theorem Device.pickerChoose_mail {v : MailScan} {e : ElemId} (best : bestPick d.picks = some (.mail v))
    (he : v.next = e.val) : d.pickerChoose = d.giveOrder .scanning (.scan e .mail false) := by
  simp only [Device.pickerChoose, if_pos idle, best, he, finOf_val]

/-- A chosen move whose start check passes runs, and one whose check fails ends (R111). -/
theorem Device.pickerChoose_queued {m : Move} {b : ElemId} (best : bestPick d.picks = some (.move m))
    (other : m.places = false) (hb : m.dst = some b) (hm : d.move? m.id = some m) :
    (d.holds m.src m.load = true → (d.elem b).content = .empty ∨ isDriveElem b = true → d.pickerChoose =
      (d.modMove m.id fun m => { m with running := true }).giveOrder .moving (.transfer m.id m.src b)) ∧
    (¬(d.holds m.src m.load = true ∧ ((d.elem b).content = .empty ∨ isDriveElem b = true)) →
      d.pickerChoose = ((d.endMove m (.failed .start)).ensurePlacement).post .picker) := by
  have chosen := Device.pickerChoose_move idle best (aimed := d) (by rw [other]; rfl) hm
  refine ⟨fun held free => ?_, fun fails => ?_⟩
  · rw [chosen, Device.startMove_ok hb held free]; rfl
  · have check : d.startOk m = false := by
      simp only [Device.startOk, hb, Option.any_some, ← Bool.not_eq_true, Bool.and_eq_true, Bool.or_eq_true, beq_iff_eq]
      exact fails
    rw [chosen, Device.startMove_fails check]; rfl

/-- A chosen placement runs to the destination of R102, and fails when element 0 does not hold its load (R111, R112). -/
theorem Device.pickerChoose_placement {m : Move} {b : ElemId} (best : bestPick d.picks = some (.move m))
    (places : m.places = true) (hb : d.destination m.load = some b) (hm : d.move? m.id = some m) :
    (d.holds 0 m.load = true → d.pickerChoose =
      (((d.takeDestination m.load b).modMove m.id fun m => { m with dst := some b, running := true }).modElem b
        fun x => { x with incoming := some m.id }).giveOrder .moving (.transfer m.id 0 b)) ∧
    (d.holds 0 m.load = false →
      d.pickerChoose = ((d.endMove m (.failed .start)).ensurePlacement).post .picker) := by
  have src : m.src = 0 := (Move.places_iff.mp places).2
  refine ⟨fun held => ?_, fun lost => ?_⟩
  · rw [Device.pickerChoose_move idle best ((if_pos places).trans (Device.aimPlacement_held held hb))
      (Device.move?_aimed b hm), Device.startMove_aimed src held (Device.destination_empty hb)]
    rfl
  · rw [Device.pickerChoose_move idle best ((if_pos places).trans (Device.aimPlacement_not_held lost)) hm,
      Device.startMove_fails (Device.startOk_of_not_held (by rw [src, lost]))]
    rfl

end

/-- An inventory step at an element scans it, or skips a mail slot that is not to be scanned now (R116). -/
theorem Device.inventoryStep_at {v : Inventory} {e : ElemId} (he : v.next = e.val) :
    d.inventoryStep v =
      if isMail e = true ∧ (d.changer.doorOpen = true ∨ d.changer.mailScan ≠ none) then
        (d.advanceInventory { v with skipped := v.skipped + 1 }).post .picker
      else d.giveOrder .scanning (.scan e .inventory false) := by
  simp only [Device.inventoryStep, he, finOf_val, Bool.and_eq_true, Bool.or_eq_true, Option.isSome_iff_ne_none]

end

/-! #### Scans (R112, R116 to R119) -/

/-- A SCAN completion of the order in progress (R107). -/
theorem exec_scanCompletion {s : State} {n : BitVec 16} {t : Nat} {e : ElemId} {p : ScanFor} {stale : Bool}
    (r : ScanResult) (ho : s.dev.changer.order = some ⟨n, t, .scan e p stale⟩) :
    exec (.scanCompletion n r) s = .next { s with dev := (s.dev.begun.scanEnd e p stale r).settle } := by
  have current : s.dev.begun.orderNumbered n = some (.scan e p stale) := by
    simp only [Device.orderNumbered, Device.begun_changer, ho, if_true]
  have done : s.dev.begun.scanDone n r = s.dev.begun.scanEnd e p stale r := by
    simp only [Device.scanDone, current]
  rw [← done]
  rfl

section
variable {d : Device} {e : ElemId} {r : ScanResult}

/-- A mail scan's step goes on to the next slot, or ends the scan at the last one (R118). -/
theorem Device.mailScanned_taken {v : MailScan} (hv : d.changer.mailScan = some v) :
    d.mailScanned e r false =
      let x := (d.scan e r).1.freePicker
      if 8 ≤ v.next then
        ({ x with changer := { x.changer with mailScan := none } } : Device).raise .operationEnd .mailScanned
      else { x with changer := { x.changer with
        mailScan := some ⟨v.next + 1, x.changer.entryCount⟩, entryCount := x.changer.entryCount + 1 } } := by
  have kept : (d.scan e r).1.freePicker.changer.mailScan = some v := by simp [Device.freePicker, hv]
  simp only [Device.mailScanned, kept, Bool.false_eq_true, if_false]
  rfl

/-- The scan of an occupied destination ends its move (R112). -/
theorem Device.scanEnd_destination {m : Move} (hm : d.move? m.id = some m) (stale : Bool) :
    d.scanEnd e (.destination m.id) stale r =
      (if stale then d else (d.scan e r).1).failMove m .destinationOccupied := by
  have kept : (if stale then d else (d.scan e r).1).move? m.id = some m := by
    cases stale <;> simpa [Device.move?] using hm
  simp only [Device.scanEnd, kept]

/-- A rescan of the reset sequence goes on with the elements still to scan (R119). -/
theorem Device.scanEnd_reset {v : ResetSeq} {todo : List ElemId} (hv : d.changer.reset = some v)
    (hp : v.phase = .rescan todo) :
    d.scanEnd e .reset false r =
      (d.scan e r).1.resetScan { v with drivesScanned := v.drivesScanned ++ (driveOfElem? e).toList } todo := by
  have kept : (d.scan e r).1.changer.reset = some v := by simp [hv]
  simp only [Device.scanEnd, Bool.false_eq_true, if_false, kept, hp]

end

/-! #### The obligation -/

/-- Settles O43: an eligible item that goes before every other one is the arbiter's choice, and each kind of item,
chosen, does what its rule says; a scan leaves the controller as it is, so its completion goes on from there. -/
theorem thePickerChoosesAndScansGoOn : Obligations.ThePickerChoosesAndScansGoOn := by
  refine ⟨fun d => ⟨fun busy => if_neg busy, fun idle => ?picker⟩, fun d v => ?advance, fun s n t e r => ?scans⟩
  case picker =>
    intro touchesMail eligible before cls
    refine ⟨fun noMove noInventory noMail => ?_, fun m b hm other hb found moves inventory mail => ?_,
      fun m b hm places hb found moves inventory mail => ?_, fun v e hv he moves mail => ?_,
      fun v e hv he moves inventory => ?_⟩
    · exact Device.pickerChoose_nothing (by rw [Device.picks_eq_nil noMove noInventory noMail]; rfl)
    · have best := Device.bestPick_move hm moves inventory mail
      have queued : m.places = false := by rwa [← Bool.not_eq_true, Move.places_iff]
      simpa only [Device.holds_iff] using Device.pickerChoose_queued idle best queued hb found
    · have best := Device.bestPick_move hm moves inventory mail
      exact Device.pickerChoose_placement idle best (Move.places_iff.mpr places) hb found
    · rw [Device.pickerChoose_inventory idle (Device.bestPick_inventory hv moves mail), Device.inventoryStep_at he]
      exact ⟨fun scans => if_neg scans, fun skips => if_pos skips⟩
    · exact Device.pickerChoose_mail idle (Device.bestPick_mail hv moves inventory) he
  case advance =>
    refine ⟨fun more => ?_, fun last => ?_⟩
    · exact if_neg (show ¬v.last < v.next + 1 by omega)
    · exact if_pos (show v.last < v.next + 1 by omega)
  case scans =>
    intro finished scanned
    refine ⟨fun ho => exec_scanCompletion r ho, fun v ho hv => ?_, fun m stale ho hm => ?_, fun v todo ho hv hp => ?_⟩
    · have done := exec_scanCompletion r ho
      rw [Device.scanEnd, Device.mailScanned_taken (d := s.dev.begun) hv] at done
      refine ⟨fun last => ?_, fun more => ?_⟩
      · simpa only [if_pos last] using done
      · simpa only [if_neg (Nat.not_le.mpr more)] using done
    · exact (exec_scanCompletion r ho).trans (by rw [Device.scanEnd_destination (d := s.dev.begun) hm])
    · have done := exec_scanCompletion r ho
      rw [Device.scanEnd_reset (d := s.dev.begun) hv hp] at done
      refine ⟨fun h => ?_, fun x xs h => ?_⟩ <;> subst h <;> exact done

end Sys2Proof.Machine

/-! ### O45: completions taken in order, faults, and the position after each result (R123, R124, R140) -/

namespace Sys2Proof.Machine

/-! #### Results and positions (R124, Table 7-2) -/

section
variable {name : CmdName} {r : DriveResult} {cmd : DriveCmd} {pos : Option Nat} {found : Nat}

theorem takenAs_cannot (h : canAnswer name r = false) : takenAs name r = .hardwareError := by simp [takenAs, h]

/-- The completions that are drive faults (R124, R140). -/
theorem isFault_takenAs_iff :
    isFault name (takenAs name r) = true ↔
      r = .hardwareError ∨ canAnswer name r = false ∨ (name = .load ∧ r ≠ .ok) := by
  cases h : canAnswer name r with
  | true => simp [takenAs, h, isFault]
  | false => simp [takenAs_cannot h, isFault]

/-- The result a fault cause names: NOT_READY is every command's to give, and any other result of a fault is taken as
HARDWARE_ERROR, LOAD giving no more than these and OK (R124). -/
theorem takenAs_of_fault (h : isFault name (takenAs name r) = true) :
    takenAs name r = if r = .notReady then .notReady else .hardwareError := by
  rcases isFault_takenAs_iff.mp h with rfl | cannot | ⟨rfl, notOk⟩
  · rfl
  · have giveable : r ≠ .notReady := by rintro rfl; cases cannot
    rw [takenAs_cannot cannot, if_neg giveable]
  · cases r with
    | ok => exact absurd rfl notOk
    | notReady | endOfMedium | blank | mediumError | hardwareError => rfl

theorem positionAfter_of_fault (h : isFault name (takenAs name r) = true) :
    positionAfter cmd (takenAs name r) pos found = none := by
  rw [takenAs_of_fault h]
  split <;> rfl

theorem blankAtStart_iff : blankAtStart cmd = true ↔ cmd = .read 0 ∨ cmd = .locate 0 := by
  cases cmd <;> simp [blankAtStart]

/-- BLANK leaves the position at 0 for a READ 0 or a LOCATE 0, and otherwise UNKNOWN (R124). -/
theorem positionAfter_blank :
    positionAfter cmd (takenAs cmd.name .blank) pos found =
      if cmd = .read 0 ∨ cmd = .locate 0 then some 0 else none := by
  simp only [← blankAtStart_iff]
  cases cmd <;> rfl

/-- A result after which the position is UNKNOWN whatever the command (R124). -/
theorem positionAfter_lost (h : r = .mediumError ∨ r = .notReady ∨ r = .hardwareError) :
    positionAfter cmd (takenAs name r) pos found = none := by
  unfold takenAs
  split
  · rcases h with rfl | rfl | rfl <;> rfl
  · rfl

end

/-! #### Completions discarded, and completions that are faults (R123, R140) -/

/-- Commands that make the same change have the same outcome. -/
theorem next_settle_congr (s : State) {a b : Device} (h : a = b) :
    (Host.Outcome.next { s with dev := a.settle } : Host.Outcome State Fault Refusal) =
      .next { s with dev := b.settle } := by
  rw [h]

section
variable {d : Device} {i : DriveId} {n : BitVec 16} {name : CmdName} {r : DriveResult} {found : Nat}
  {k : Device → DriveCmd → DriveResult → Device}

theorem Device.completion_discarded
    (h : ¬∃ o os, (d.drive i).outstanding = o :: os ∧ o.number = n ∧ o.cmd.name = name) :
    d.completion i n name r found k = d := by
  unfold Device.completion
  split
  · rfl
  · next o os ho => exact if_neg fun answers => h ⟨o, os, ho, answers⟩

/-- A drive fault takes the oldest command off the list and leaves the position UNKNOWN (R124, R140). -/
theorem Device.completion_faulted
    (h : ∃ o os, (d.drive i).outstanding = o :: os ∧ o.number = n ∧ o.cmd.name = name)
    (hf : isFault name (takenAs name r) = true) :
    d.completion i n name r found k =
      (d.modDrive i fun x => { x with outstanding := x.outstanding.tail, position := none }).driveFault i
        ⟨name, if r = .notReady then .notReady else .hardwareError⟩ := by
  obtain ⟨o, os, ho, answers⟩ := h
  have port : (d.modDrive i fun x =>
      { x with outstanding := os, position := positionAfter o.cmd (takenAs name r) x.position found }) =
      d.modDrive i fun x => { x with outstanding := x.outstanding.tail, position := none } :=
    Device.modDrive_congr (by rw [positionAfter_of_fault hf, ho, List.tail_cons])
  unfold Device.completion
  simp only [ho, if_pos answers, if_pos hf, port]
  rw [takenAs_of_fault hf]

end

/-- Settles O45: a completion either answers the oldest outstanding command or is discarded; one that answers it is a
fault for the results `isFault_takenAs_iff` names, and the position follows the command and the result taken. -/
theorem driveCompletionsAreTakenInOrder : Obligations.DriveCompletionsAreTakenInOrder := by
  unfold Obligations.DriveCompletionsAreTakenInOrder
  refine ⟨fun s i n r => ?commands, fun cmd r pos found => ?positions⟩
  case commands =>
    intro discarded open_ faulted
    let arrives : CmdName → Nat → (Device → DriveCmd → DriveResult → Device) → Host.Outcome State Fault Refusal :=
      fun name found k => .next { s with dev := (s.dev.begun.completion i n name r found k).settle }
    have discards : ∀ {name found k}, ¬open_ name → arrives name found k = discarded := fun h =>
      next_settle_congr s (Device.completion_discarded (d := s.dev.begun) h)
    have faults : ∀ {name found k}, open_ name → isFault name (takenAs name r) = true →
        arrives name found k = faulted name := fun h hf =>
      next_settle_congr s (Device.completion_faulted (d := s.dev.begun) h hf)
    refine ⟨discards, discards, discards, fun h _ => discards h, fun h _ => discards h, discards, discards, discards,
      fun h hr => faults h ?load, fun h ok notReady => faults h ?unload, fun h hr => faults h ?locate, ?locateEnd,
      fun h hr _ => faults h ?read, fun h hr => faults h ?write, fun h ok notReady => faults h ?speed, ?clean⟩
    case load => exact isFault_takenAs_iff.mpr (.inr (.inr ⟨rfl, hr⟩))
    case unload | speed =>
      cases r with
      | ok => exact absurd rfl ok
      | notReady => exact absurd rfl notReady
      | endOfMedium | blank | mediumError | hardwareError => rfl
    case locate | read => rcases hr with rfl | rfl <;> rfl
    case write => subst hr; rfl
    case locateEnd => rintro h (rfl | rfl | rfl) e <;> exact faults h rfl
    case clean => rintro h (rfl | rfl | rfl) <;> exact faults h rfl
  case positions =>
    intro after
    refine ⟨fun hr => ?_, fun hr => ?_, fun hr => ?_, positionAfter_lost⟩
    · subst hr; cases cmd <;> rfl
    · subst hr; cases cmd <;> rfl
    · subst hr; exact positionAfter_blank

end Sys2Proof.Machine

/-! ### O50: the drives' timers, CLEAN_REQUEST and CLEAN (R124, R127, R128, R136, R137) -/

namespace Sys2Proof.Machine

section
variable {d e : Device} {i : DriveId} {c : CartId}

/-! #### The timers (R124, R128, R136) -/

theorem Device.commandDue_iff {o : Outstanding} {os : List Outstanding} (ho : (d.drive i).outstanding = o :: os) :
    d.commandDue i = true ↔ o.issued + o.cmd.name.timeout ≤ d.mu.elapsed := by
  simp only [Device.commandDue, ho, decide_eq_true_iff]
  rfl

theorem Device.commandDue_none (ho : (d.drive i).outstanding = []) : d.commandDue i = false := by
  simp only [Device.commandDue, ho]

/-- The oldest outstanding command taken as answered HARDWARE_ERROR at its timeout (R124). -/
theorem Device.commandTimedOut_due {o : Outstanding} {os : List Outstanding}
    (ho : (d.drive i).outstanding = o :: os) (due : d.commandDue i = true) :
    d.commandTimedOut i =
      (d.modDrive i fun x => { x with outstanding := os, position := none }).driveFault i
        ⟨o.cmd.name, .hardwareError⟩ := by
  unfold Device.commandTimedOut
  simp only [ho]
  exact if_pos ((Device.commandDue_iff ho).mp due)

/-- A drive that has been idle for a time (R136). -/
theorem Device.idleFor_iff {limit : Nat} :
    d.idleFor i limit = true ↔ (d.drive i).state = .mountedIdle ∧ (d.drive i).phase = .rest ∧
      (d.drive i).active = none ∧ ∃ t, (d.drive i).idleSince = some t ∧ t + limit ≤ d.mu.elapsed := by
  simp only [Device.idleFor, Bool.and_eq_true, beq_iff_eq, Option.isNone_iff_eq_none, Option.any_eq_true,
    decide_eq_true_iff, and_assoc]
  rfl

/-! #### CLEAN_REQUEST (R137) -/

/-- A drive port written as it is. -/
theorem Device.modDrive_same {g : Drive → Drive} (h : g (d.drive i) = d.drive i) : d.modDrive i g = d := by
  simp only [Device.modDrive, h]
  simp only [Device.drive, Fin.getElem_fin, Vector.set_getElem_self]

theorem Device.cleanRequested_again (h : (d.drive i).cleaningDue = true) :
    d.cleanRequested i = d.raise .cleanDue (.due i) := by
  have same : d.modDrive i (fun x => { x with cleaningDue := true }) = d := Device.modDrive_same (by rw [← h])
  simp only [Device.cleanRequested, h, same]
  rfl

theorem Device.cleanRequested_first (h : (d.drive i).cleaningDue = false) :
    d.cleanRequested i =
      ((d.modDrive i fun x => { x with cleaningDue := true }).raise .cleanDue (.due i)).placeClaim .cleaning
        (.cleaning i) (.drive i) := by
  simp only [Device.cleanRequested, h]
  rfl

/-! #### What withdrawing or returning a claim leaves (R126) -/

theorem Device.row_of_carts (h : e.media.carts = d.media.carts) (y : CartId) : e.row y = d.row y := by
  simp only [Device.row, h]

theorem Device.cart_of_carts (h : e.media.carts = d.media.carts) (y : CartId) : e.cart y = d.cart y := by
  simp only [Device.cart, Device.row_of_carts h]

theorem Device.event_of_mu (h : e.mu = d.mu) (k : EventKind) : e.event k = d.event k := by
  simp only [Device.event, h]

/-- An operation on claims: the cartridge entries and the management unit are as they were, and of a drive port at most
the assigned claim, the suspension in progress and the phase change. -/
structure Device.ClaimsOnly (d e : Device) : Prop where
  carts : e.media.carts = d.media.carts
  mu : e.mu = d.mu
  drive : ∀ j, ∃ k f p, e.drive j = { d.drive j with claim := k, suspendFor := f, phase := p }

namespace Device.ClaimsOnly

theorem of_eq (hc : e.media.carts = d.media.carts) (hm : e.mu = d.mu) (hd : e.drives = d.drives) : d.ClaimsOnly e :=
  ⟨hc, hm, fun j => ⟨(d.drive j).claim, (d.drive j).suspendFor, (d.drive j).phase, by simp only [Device.drive, hd]⟩⟩

theorem refl (d : Device) : d.ClaimsOnly d := of_eq rfl rfl rfl

theorem trans {a b c : Device} (h : a.ClaimsOnly b) (g : b.ClaimsOnly c) : a.ClaimsOnly c := by
  refine ⟨g.carts.trans h.carts, g.mu.trans h.mu, fun j => ?_⟩
  obtain ⟨_, _, _, hj⟩ := h.drive j
  obtain ⟨k, f, p, gj⟩ := g.drive j
  exact ⟨k, f, p, by rw [gj, hj]⟩

theorem foldl {α : Type} {g : Device → α → Device} (hg : ∀ (d : Device) a, d.ClaimsOnly (g d a)) (l : List α)
    (d : Device) : d.ClaimsOnly (l.foldl g d) := by
  induction l generalizing d with
  | nil => exact refl d
  | cons a l ih => exact (hg d a).trans (ih _)

theorem post (d : Device) (t : Task) : d.ClaimsOnly (d.post t) := of_eq (by simp) (by simp) (by simp)

theorem modDrive (d : Device) (i : DriveId) {g : Drive → Drive}
    (hg : ∀ x, ∃ k f p, g x = { x with claim := k, suspendFor := f, phase := p }) :
    d.ClaimsOnly (d.modDrive i g) := by
  refine ⟨rfl, rfl, fun j => ?_⟩
  rw [Device.drive_modDrive_cases]
  split
  · next h => exact h ▸ hg _
  · exact (refl d).drive j

theorem unassign (d : Device) (i : DriveId) : d.ClaimsOnly (d.modDrive i fun x => { x with claim := none }) :=
  modDrive d i fun x => ⟨none, x.suspendFor, x.phase, rfl⟩

theorem cancelSuspension (d : Device) (order : Nat) : d.ClaimsOnly (d.cancelSuspension order) := by
  refine foldl (fun d i => ?_) _ _
  split
  · exact (modDrive d i (g := fun x => { x with suspendFor := none }) fun x => ⟨x.claim, none, x.phase, rfl⟩).trans
      (post _ _)
  · exact refl d

theorem withdrawMoves (d : Device) (i : DriveId) : d.ClaimsOnly (d.withdrawMoves i) :=
  foldl (g := fun d m => d.dropMove (Move.id m)) (fun _ _ => of_eq rfl rfl rfl) _ _

theorem withdrawClaim (d : Device) (order : Nat) : d.ClaimsOnly (d.withdrawClaim order) := by
  have removed : d.ClaimsOnly ((d.removeClaim order).cancelSuspension order) :=
    trans (b := d.removeClaim order) (of_eq rfl rfl rfl) (cancelSuspension _ _)
  unfold Device.withdrawClaim
  split
  · exact refl d
  · dsimp only
    split
    · exact removed
    · next i _ =>
      refine removed.trans ((unassign _ i).trans (.trans ?_ (post _ _)))
      split
      · exact (withdrawMoves _ i).trans
          (modDrive _ i (g := fun x => { x with phase := .rest }) fun x => ⟨x.claim, x.suspendFor, .rest, rfl⟩)
      · exact refl _

theorem withdrawOf (d : Device) (o : Owner) : d.ClaimsOnly (d.withdrawOf o) := by
  unfold Device.withdrawOf
  split
  · exact withdrawClaim _ _
  · exact refl d

end Device.ClaimsOnly

/-! #### An assigned claim returned (R126) -/

theorem Device.returnClaim_unassigned (h : d.assigned i = none) :
    d.returnClaim i = d.modDrive i fun x => { x with claim := none } := by
  unfold Device.returnClaim
  split
  · next hc => exact (Device.modDrive_same (by rw [← hc])).symm
  · next o ho =>
    have gone : (d.modDrive i fun x => { x with claim := none }).claim? o = none := by
      rw [Device.assigned, ho] at h
      exact h
    simp only [gone]

/-- A return changes the claim of its port, and otherwise claims, moves and decisions alone. -/
theorem Device.returnClaim_rest :
    (d.returnClaim i).drives = (d.modDrive i fun x => { x with claim := none }).drives ∧
      (d.returnClaim i).media.carts = d.media.carts ∧ (d.returnClaim i).mu = d.mu := by
  cases h : d.assigned i with
  | none => rw [Device.returnClaim_unassigned h]; exact ⟨rfl, rfl, rfl⟩
  | some k =>
    rw [Device.returnClaim_assigned h, Device.post_drives, Device.post_media, Device.post_mu, Device.postTarget_eq]
    cases k.owner <;> exact ⟨rfl, rfl, rfl⟩

theorem Device.returnClaim_claims {k : Claim} (h : d.assigned i = some k) :
    (d.returnClaim i).arb.claims = d.arb.claims.map fun y =>
      if y.order = k.order then
        { y with
          kind := d.kindAtReturn k, drive := none, chosen := none, scratch := false, reported := false,
          prepared := false }
      else y := by
  rw [Device.returnClaim_assigned h, Device.post_arb, Device.postTarget_eq]
  dsimp only
  rw [Device.unreadyOwner_arb]
  rfl

/-- A claim of an entry order that no claim has is not made by a return. -/
theorem Device.returnClaim_orders {order : Nat} (h : ∀ k ∈ d.arb.claims, k.order ≠ order) :
    ∀ k ∈ (d.returnClaim i).arb.claims, k.order ≠ order := by
  cases ha : d.assigned i with
  | none => rwa [Device.returnClaim_unassigned ha]
  | some k =>
    rw [Device.returnClaim_claims ha, List.forall_mem_map]
    intro y hy
    split <;> exact h y hy

theorem Device.withdrawOf_gone {o : Owner} {k : Claim} (h : d.claimOf o = some k) :
    ∀ z ∈ (d.withdrawOf o).arb.claims, z.order ≠ k.order := by
  simpa only [Device.withdrawOf, h] using Device.withdrawClaim_gone d k.order

/-! #### A CLEAN completed (R137) -/

/-- One use of a cleaning cartridge spent, with CLEAN_DUE at the last (R137). -/
def Device.spendUse (d : Device) (c : CartId) : Device :=
  let spent := d.editCart c fun e => { e with uses := e.uses - 1 }
  if (d.cart c).any fun e => e.uses == 1 then spent.raise .cleanDue (.expiredCart c) else spent

/-- The CLEANING claim of a drive withdrawn and its flag cleared (R137). -/
def Device.cleaned (d : Device) (i : DriveId) : Device :=
  (d.withdrawOf (.cleaning i)).modDrive i fun x => { x with cleaningDue := false }

theorem Device.cleanEnd_eq (hc : (d.drive i).cart = some c) (r : DriveResult) :
    d.cleanEnd i r =
      let spent := (d.spendUse c).modDrive i fun x => { x with active := none }
      ((if r = .ok then spent.cleaned i else spent).returnClaim i).startUnmount i := by
  unfold Device.cleanEnd
  simp only [hc]
  rfl

section
variable {x : Cart} (hx : d.cart c = some x)
include hx

theorem Device.spendUse_eq :
    d.spendUse c =
      if x.uses = 1 then (d.editCart c fun e => { e with uses := e.uses - 1 }).raise .cleanDue (.expiredCart c)
      else d.editCart c fun e => { e with uses := e.uses - 1 } := by
  simp only [Device.spendUse, hx, Option.any_some, beq_iff_eq]

theorem Device.cart_spendUse : (d.spendUse c).cart c = some { x with uses := x.uses - 1 } := by
  have edited := Device.cart_editCart d c c fun e => { e with uses := e.uses - 1 }
  rw [if_pos rfl, hx] at edited
  rw [Device.spendUse_eq hx]
  split <;> exact edited

theorem Device.row_spendUse {y : CartId} (hy : y ≠ c) : (d.spendUse c).row y = d.row y := by
  have edited : (d.editCart c fun e => { e with uses := e.uses - 1 }).row y = d.row y := by
    rw [Device.editCart_eq hx]
    exact Device.row_setRow_ne (d := d) _ hy
  rw [Device.spendUse_eq hx]
  split <;> exact edited

theorem Device.spendUse_rest :
    (d.spendUse c).drives = d.drives ∧ (d.spendUse c).arb = d.arb ∧
      (d.spendUse c).mu.elapsed = d.mu.elapsed := by
  rw [Device.spendUse_eq hx, Device.editCart_eq hx]
  split <;> exact ⟨rfl, rfl, rfl⟩

/-- CLEAN_DUE is raised for a cartridge brought to 0 uses, and only then (R137). -/
theorem Device.event_spendUse :
    (d.spendUse c).event .cleanDue =
      if x.uses = 1 then some (raiseEvent (d.event .cleanDue) (.expiredCart c)) else d.event .cleanDue := by
  rw [Device.spendUse_eq hx, Device.editCart_eq hx]
  split
  · rw [Device.event_raise]; rfl
  · rfl

end

/-- The port after its claim is returned and its unmount begun (R126, R135). -/
def Drive.unmounting (x : Drive) (now : Nat) : Drive :=
  { x with
    claim := none, state := .unloading, phase := .unload, idleSince := none,
    outstanding := x.outstanding ++ [⟨x.cmdNo, now, .unload⟩], cmdNo := x.cmdNo + 1 }

theorem Device.returnClaim_startUnmount :
    let e := (d.returnClaim i).startUnmount i
    e.drive i = (d.drive i).unmounting d.mu.elapsed ∧ e.media.carts = d.media.carts ∧ e.mu = d.mu ∧
      e.arb = (d.returnClaim i).arb := by
  obtain ⟨drives, carts, mu⟩ := Device.returnClaim_rest (d := d) (i := i)
  have port : (d.returnClaim i).drive i = { d.drive i with claim := none } := by
    rw [Device.drive, drives]
    exact Device.drive_modDrive i _
  rw [Device.startUnmount, Device.startUnload_eq]
  refine ⟨?_, carts, mu, rfl⟩
  rw [Device.drive_modDrive, port, mu]
  rfl

theorem Device.cleaned_leaves :
    (d.cleaned i).media.carts = d.media.carts ∧ (d.cleaned i).mu = d.mu ∧ ∃ k f p, (d.cleaned i).drive i =
      { d.drive i with claim := k, suspendFor := f, phase := p, cleaningDue := false } := by
  obtain ⟨carts, mu, drive⟩ := Device.ClaimsOnly.withdrawOf d (.cleaning i)
  obtain ⟨k, f, p, port⟩ := drive i
  refine ⟨carts, mu, k, f, p, ?_⟩
  rw [Device.cleaned, Device.drive_modDrive, port]

section
variable {x : Cart} {r : DriveResult} (hc : (d.drive i).cart = some c) (hx : d.cart c = some x)
include hc hx

/-- What a CLEAN completed makes of the cartridge entries, of CLEAN_DUE and of the port, whatever its result (R137). -/
theorem Device.cleanEnd_leaves (ho : (d.drive i).outstanding = []) :
    let e := d.cleanEnd i r
    e.cart c = some { x with uses := x.uses - 1 } ∧ (∀ y, y ≠ c → e.row y = d.row y) ∧
      (e.event .cleanDue =
        if x.uses = 1 then some (raiseEvent (d.event .cleanDue) (.expiredCart c)) else d.event .cleanDue) ∧
      (e.drive i).cleaningDue = (if r = .ok then false else (d.drive i).cleaningDue) ∧
      (e.drive i).active = none ∧ (e.drive i).claim = none ∧ (e.drive i).state = .unloading ∧
      (e.drive i).outstanding = [⟨(d.drive i).cmdNo, d.mu.elapsed, .unload⟩] := by
  let spent := (d.spendUse c).modDrive i fun x => { x with active := none }
  let b := if r = .ok then spent.cleaned i else spent
  obtain ⟨drives, -, elapsed⟩ := Device.spendUse_rest hx
  have spentPort : spent.drive i = { d.drive i with active := none } := by
    rw [Device.drive_modDrive, Device.drive, drives]; rfl
  obtain ⟨carts, mu, k, f, p, port⟩ : b.media.carts = spent.media.carts ∧ b.mu = spent.mu ∧ ∃ k f p, b.drive i =
      { spent.drive i with
        claim := k, suspendFor := f, phase := p,
        cleaningDue := if r = .ok then false else (spent.drive i).cleaningDue } := by
    unfold b
    split
    · exact Device.cleaned_leaves
    · exact ⟨rfl, rfl, _, _, _, rfl⟩
  obtain ⟨port', carts', mu', -⟩ := Device.returnClaim_startUnmount (d := b) (i := i)
  rw [Device.cleanEnd_eq hc]
  refine ⟨?_, fun y hy => ?_, ?_, ?_⟩
  · exact (Device.cart_of_carts (carts'.trans carts) c).trans (Device.cart_spendUse hx)
  · exact (Device.row_of_carts (carts'.trans carts) y).trans (Device.row_spendUse hx hy)
  · exact (Device.event_of_mu (mu'.trans mu) _).trans (Device.event_spendUse hx)
  · have now : b.mu.elapsed = d.mu.elapsed := (congrArg Management.elapsed mu).trans elapsed
    dsimp only
    rw [port', port, spentPort, now]
    simp [Drive.unmounting, ho]

/-- The CLEANING claim leaves the list at OK (R137). -/
theorem Device.cleanEnd_ok_claim {k : Claim} (hk : d.claimOf (.cleaning i) = some k) :
    k ∉ (d.cleanEnd i .ok).arb.claims := by
  let spent := (d.spendUse c).modDrive i fun x => { x with active := none }
  obtain ⟨-, arb, -⟩ := Device.spendUse_rest hx
  have gone : ∀ z ∈ (spent.cleaned i).arb.claims, z.order ≠ k.order :=
    Device.withdrawOf_gone (d := spent) (by rw [Device.claimOf, show spent.arb = d.arb from arb]; exact hk)
  rw [Device.cleanEnd_eq hc]
  exact fun h => Device.returnClaim_orders gone k h rfl

/-- After any other result the claim assigned waits again (R126, R137). -/
theorem Device.cleanEnd_failed_claims {k : Claim} (hr : r ≠ .ok) (hk : d.assigned i = some k)
    (own : k.owner = .cleaning i) :
    (d.cleanEnd i r).arb.claims = d.arb.claims.map fun y =>
      if y.order = k.order then
        { y with
          kind := k.kind, drive := none, chosen := none, scratch := false, reported := false, prepared := false }
      else y := by
  let spent := (d.spendUse c).modDrive i fun x => { x with active := none }
  obtain ⟨drives, arb, -⟩ := Device.spendUse_rest hx
  have claim : (spent.drive i).claim = (d.drive i).claim := by
    rw [Device.drive_modDrive, Device.drive, drives]; rfl
  have assigned : spent.assigned i = some k := by
    rw [← hk, Device.assigned, claim]
    exact congrArg (fun a : Arbiter => (d.drive i).claim.bind fun o => a.claims.find? fun y => y.order == o) arb
  have kind : spent.kindAtReturn k = k.kind := Device.kindAtReturn_other fun v hv => by rw [own] at hv; cases hv
  have returned := Device.returnClaim_claims assigned
  rw [kind, show spent.arb.claims = d.arb.claims from congrArg Arbiter.claims arb] at returned
  rw [Device.cleanEnd_eq hc]
  simp only [if_neg hr]
  exact returned

end

/-- A CLEAN completion that is not a drive fault, the command the only one outstanding (R124, R137). -/
theorem exec_cleanCompletion {s : State} {n : BitVec 16} {t : Nat} {r : DriveResult}
    (ho : (s.dev.drive i).outstanding = [⟨n, t, .clean⟩]) (hr : canAnswer .clean r = true)
    (hf : isFault .clean r = false) :
    exec (.cleanCompletion i n r) s =
      .next { s with
        dev := (((s.dev.begun.modDrive i fun x =>
          { x with outstanding := [], position := positionAfter .clean r x.position 0 }).cleanEnd i r).post
            (.suspendCheck i)).settle } :=
  next_settle_congr s (Device.completion_answered (d := s.dev.begun) (k := fun d _ r => d.cleanEnd i r)
    (g := fun p => positionAfter .clean r p 0) ho rfl rfl hr hf fun _ => rfl)

end

/-- Settles O50: a timer acts exactly when its limit is reached; a CLEAN completed spends a use, gives up or returns the
drive's claim, and unmounts. -/
theorem driveTimersAndCleaning : Obligations.DriveTimersAndCleaning := by
  unfold Obligations.DriveTimersAndCleaning
  refine ⟨fun s i => ?timers, fun s i => ⟨fun again => ?again, fun first => ?first, fun n t c e ho hc he => ?clean⟩⟩
  case timers =>
    intro x now limit
    have hlimit : ∀ c, limit c = c.name.timeout := fun c => by cases c <;> rfl
    refine ⟨fun o os ho due => ?_, fun o os ho early => ?_, fun ho => ?_, fun t mounted ht due => ?_,
      fun t ht early => ?_, fun t mounted rest idle ht due => ?_, fun t ht early => ?_, fun other => ⟨?_, ?_⟩⟩
    · have due : s.dev.commandDue i = true := (Device.commandDue_iff ho).mpr (hlimit _ ▸ due)
      refine (State.runIf_due due).trans ?_
      rw [Device.commandTimedOut_due (d := s.dev.begun) ho due]
    · exact State.runIf_not_due
        (Bool.eq_false_iff.mpr fun due => Nat.not_le.mpr early (hlimit _ ▸ (Device.commandDue_iff ho).mp due))
    · exact State.runIf_not_due (Device.commandDue_none ho)
    · exact State.runIf_due (Bool.and_eq_true_iff.mpr ⟨beq_iff_eq.mpr mounted, Device.dwellPassed_iff.mpr ⟨t, ht, due⟩⟩)
    · refine State.runIf_not_due (Bool.and_eq_false_iff.mpr (.inr (Bool.eq_false_iff.mpr fun passed => ?_)))
      obtain ⟨u, hu, due⟩ := Device.dwellPassed_iff.mp passed
      cases ht.symm.trans hu
      exact Nat.not_le.mpr early due
    · refine (State.runIf_due (Device.idleFor_iff.mpr ⟨mounted, rest, idle, t, ht, due⟩)).trans ?_
      rw [Device.startUnmount, Device.startUnload_eq]
      exact next_settle_congr s (Device.modDrive_congr rfl)
    · refine State.runIf_not_due (Bool.eq_false_iff.mpr fun passed => ?_)
      obtain ⟨-, -, -, u, hu, due⟩ := Device.idleFor_iff.mp passed
      cases ht.symm.trans hu
      exact Nat.not_le.mpr early due
    · exact State.runIf_not_due (Bool.and_eq_false_iff.mpr (.inl (beq_eq_false_iff_ne.mpr other)))
    · exact State.runIf_not_due (Bool.eq_false_iff.mpr fun passed => other (Device.idleFor_iff.mp passed).1)
  case again => exact next_settle_congr s (Device.cleanRequested_again (d := s.dev.begun) again)
  case first =>
    exact ⟨_, next_settle_congr s
      ((Device.cleanRequested_first (d := s.dev.begun) first).trans (Device.placeClaim_eq ..))⟩
  case clean =>
    let answered : DriveResult → Device := fun r => s.dev.begun.modDrive i fun x =>
      { x with outstanding := [], position := positionAfter .clean r x.position 0 }
    have port : ∀ r, (answered r).drive i =
        { s.dev.drive i with outstanding := [], position := positionAfter .clean r (s.dev.drive i).position 0 } :=
      fun r => Device.drive_modDrive i _
    have hcart : ∀ r, ((answered r).drive i).cart = some c := fun r => by rw [port]; exact hc
    refine ⟨⟨_, exec_cleanCompletion ho rfl rfl, ?ok⟩, fun r k hr hk own => ⟨_, exec_cleanCompletion ho ?_ ?_, ?failed⟩⟩
    case ok =>
      obtain ⟨cart, row, event, due, active, claim, state, outstanding⟩ :=
        Device.cleanEnd_leaves (d := answered .ok) (r := .ok) (hcart _) he (by rw [port])
      rw [port] at outstanding
      simp only [Device.cart_post, Device.row_post, Device.event_post, Device.drive_post, Device.post_arb]
      exact ⟨cart, row, fun last => event.trans (if_pos last), fun more => event.trans (if_neg more), due, active,
        claim, state, outstanding, fun k hk => Device.cleanEnd_ok_claim (d := answered .ok) (hcart _) he hk⟩
    case failed =>
      have notOk : r ≠ .ok := by rcases hr with rfl | rfl <;> decide
      have assigned : (answered r).assigned i = some k := by rw [Device.assigned, port]; exact hk
      obtain ⟨cart, row, -, due, active, claim, state, outstanding⟩ :=
        Device.cleanEnd_leaves (d := answered r) (r := r) (hcart r) he (by rw [port])
      rw [port] at outstanding due
      simp only [Device.cart_post, Device.row_post, Device.drive_post, Device.post_arb]
      exact ⟨cart, row, due.trans (if_neg notOk), active, claim, state, outstanding,
        Device.cleanEnd_failed_claims (d := answered r) (hcart r) he notOk assigned own⟩
    · rcases hr with rfl | rfl <;> rfl
    · rcases hr with rfl | rfl <;> rfl

end Sys2Proof.Machine

/-! ### Restore entries in the queue (R144) -/

namespace Sys2Proof.Machine

section
variable {d : Device} {r : RestoreId} {e x : Restore} {g h : Restore → Restore}

theorem Device.restore?_chan (he : d.restore? r = some e) : e.chan = r := by simpa using List.find?_some he

/-- Changes that agree on the entries of a channel are one change of the queue. -/
theorem Device.modRestore_congr (hgh : ∀ x ∈ d.ru.queue, x.chan = r → g x = h x) :
    d.modRestore r g = d.modRestore r h := by
  have queue : (d.ru.queue.map fun x => if x.chan = r then g x else x) =
      d.ru.queue.map fun x => if x.chan = r then h x else x :=
    List.map_congr_left fun x hx => by
      split
      · next hc => exact hgh x hx hc
      · rfl
  simp only [Device.modRestore, queue]

/-- An entry changed twice. -/
theorem Device.modRestore_modRestore (hg : ∀ x, x.chan = r → (g x).chan = r) :
    (d.modRestore r g).modRestore r h = d.modRestore r fun x => h (g x) := by
  have queue : ((d.ru.queue.map fun x => if x.chan = r then g x else x).map fun x => if x.chan = r then h x else x) =
      d.ru.queue.map fun x => if x.chan = r then h (g x) else x := by
    rw [List.map_map]
    refine List.map_congr_left fun x _ => ?_
    by_cases hc : x.chan = r
    · simp only [Function.comp, hc, hg x hc, if_true]
    · simp only [Function.comp, hc, if_false]
  simp only [Device.modRestore, queue]

/-- An entry written anew and then changed. -/
theorem Device.modRestore_written (hx : x.chan = r) :
    (d.modRestore r fun _ => x).modRestore r h = d.modRestore r fun _ => h x :=
  Device.modRestore_modRestore fun _ _ => hx

/-- An entry written anew is found. -/
theorem Device.restore?_written (he : d.restore? r = some e) (hx : x.chan = r) :
    (d.modRestore r fun _ => x).restore? r = some x := by
  obtain ⟨-, before, after, hl, hb⟩ := List.find?_eq_some_iff_append.mp he
  refine List.find?_eq_some_iff_append.mpr ⟨by simpa using hx,
    before.map fun y => if y.chan = r then x else y, after.map fun y => if y.chan = r then x else y, ?_, ?_⟩
  · simp only [Device.modRestore, hl, List.map_append, List.map_cons, if_pos (Device.restore?_chan he)]
  · intro y hy
    obtain ⟨z, hz, rfl⟩ := List.mem_map.mp hy
    have hne : ¬z.chan = r := by simpa using hb z hz
    simpa only [if_neg hne] using hb z hz

end

end Sys2Proof.Machine

/-! ### O54: RESTORE, promotion, GRANT, CANCEL_RESTORE and RESTORE_STALL (R146, R147, R153, R154, R158) -/

namespace Sys2Proof.Machine

/-! #### RESTORE (R146) -/

section
variable {d : Device} {r : RestoreId} {p : Part} {pr : Priority} {first count : Option Nat} {follow : Bool}

theorem followSet_known (b : Bool) : followSet (.known b) = b := by cases b <;> rfl

theorem Device.restore?_eq_none : d.restore? r = none ↔ ∀ e ∈ d.ru.queue, e.chan ≠ r := by
  simp [Device.restore?]

/-- A RESTORE that passes every check in its turn (R146). -/
theorem Device.restoreRefusal_none (hp : d.part? p.id = some p)
    (args : restoreArgsBad p.id (.known pr) first count (.known follow) = false)
    (room : d.ru.queue.length < 16) (closed : p.state ≠ .open) (good : p.state ≠ .bad)
    (range : rangeBad p first count follow = false) (channel : d.restore? r = none) (pins : p.restorePins < 4) :
    d.restoreRefusal (r.val + 33) p.id (.known pr) first count (.known follow) = none := by
  have pin : p.restorePinFree = true := Part.restorePinFree_iff.mpr ⟨closed, pins⟩
  simp [Device.restoreRefusal_eq, hp, args, followSet_known, range, channel, pin, firstFailing, Nat.not_le.mpr room,
    closed, good]

theorem restoreArgsBad_eq_false (low : 1 ≤ p.id) (high : p.id ≤ 0xFFFFFFFF) (last : p.lastSeq ≤ 0xFFFFFFFF)
    (from_ : ∀ q, first = some q → p.firstSeq ≤ q ∧ q ≤ p.lastSeq)
    (counted : ∀ n, count = some n → 1 ≤ n ∧ n ≤ 2 ^ 32 ∧
      (first ≠ none → first.getD p.firstSeq + n - 1 ≤ 0xFFFFFFFF)) :
    restoreArgsBad p.id (.known pr) first count (.known follow) = false := by
  refine Bool.eq_false_iff.mpr fun bad => ?_
  rcases restoreArgsBad_iff.mp bad with h | h | h | h | ⟨q, hq, h⟩ | ⟨n, hn, h⟩ | ⟨q, n, hq, hn, h⟩
  · omega
  · omega
  · nomatch h
  · nomatch h
  · have := from_ q hq; omega
  · have := counted n hn; omega
  · obtain ⟨-, -, wide⟩ := counted n hn
    have := wide (by rw [hq]; exact Option.some_ne_none q)
    rw [hq, Option.getD_some] at this
    omega

theorem rangeBad_eq_false (from_ : ∀ q, first = some q → p.firstSeq ≤ q ∧ q ≤ p.lastSeq)
    (counted : ∀ n, count = some n → follow = true ∨ first.getD p.firstSeq + n - 1 ≤ p.lastSeq) :
    rangeBad p first count follow = false := by
  refine Bool.eq_false_iff.mpr fun bad => ?_
  rw [← followSet_known follow] at bad
  rcases rangeBad_iff.mp bad with ⟨q, hq, h⟩ | ⟨notFollow, n, hn, h⟩
  · have := from_ q hq; omega
  · rcases counted n hn with h' | h'
    · exact notFollow (by rw [h'])
    · omega

/-- A RESTORE that is not refused is accepted (R146). -/
theorem exec_restore {s : State} {tag : Tag} (up : s.dev.link.up = true) (hp : s.dev.part? p.id = some p)
    (accepted : s.dev.restoreRefusal (r.val + 33) p.id (.known pr) first count (.known follow) = none) :
    exec (.restore tag (r.val + 33) p.id (.known pr) first count (.known follow)) s =
      .next { s with dev := (s.dev.begun.acceptRestore tag r pr p first count follow).settle } := by
  refine (State.request_accepted up accepted).trans (next_settle_congr s ?_)
  have chan : restoreOf? (r.val + 33) = some r := restoreOf_restoreChannel r
  have part : s.dev.begun.part? p.id = some p := hp
  simp only [chan, part, followSet_known]
  rfl

end

/-! #### Promotion (R147) -/

theorem Restore.before_iff {a b : Restore} : a.before b = true ↔
    (a.priority = .urgent ∧ b.priority = .normal) ∨ (a.priority = b.priority ∧ a.arrival < b.arrival) := by
  cases ha : a.priority <;> cases hb : b.priority <;> simp [Restore.before, ha, hb]

theorem Restore.before_asymm {a b : Restore} (h : a.before b = true) : ¬b.before a = true := by
  rw [Restore.before_iff] at h ⊢
  rcases h with ⟨ha, hb⟩ | ⟨hp, ht⟩
  · simp [ha, hb]
  · rintro (⟨hb, ha⟩ | ⟨-, ht'⟩)
    · rw [ha, hb] at hp; nomatch hp
    · exact Nat.lt_asymm ht ht'

theorem firstInQueue_mem {l : List Restore} {e : Restore} (h : firstInQueue l = some e) : e ∈ l := by
  induction l generalizing e with
  | nil => nomatch h
  | cons x l ih =>
    unfold firstInQueue at h
    split at h
    · rw [Option.some.inj h]; exact List.mem_cons_self
    · next b hb =>
      split at h
      · rw [← Option.some.inj h]; exact List.mem_cons_of_mem x (ih hb)
      · rw [Option.some.inj h]; exact List.mem_cons_self

theorem firstInQueue_ne_none {l : List Restore} (h : l ≠ []) : firstInQueue l ≠ none := by
  cases l with
  | nil => exact absurd rfl h
  | cons x l =>
    unfold firstInQueue
    split
    · simp
    · split <;> simp

/-- The entry that goes before every other is the first in queue order (R147). -/
theorem firstInQueue_eq {l : List Restore} {e : Restore} (he : e ∈ l)
    (first : ∀ y ∈ l, y ≠ e → e.before y = true) : firstInQueue l = some e := by
  induction l with
  | nil => exact absurd he List.not_mem_nil
  | cons x l ih =>
    have ofTail : e ∈ l → firstInQueue l = some e := fun h =>
      ih h fun y hy => first y (List.mem_cons_of_mem x hy)
    unfold firstInQueue
    split
    · next hn =>
      rcases List.mem_cons.mp he with rfl | h
      · rfl
      · rw [ofTail h] at hn; nomatch hn
    · next b hb =>
      by_cases hx : x = e
      · subst hx
        split
        · next hbx =>
          by_cases hbe : b = x
          · rw [hbe]
          · exact absurd hbx (Restore.before_asymm (first b (List.mem_cons_of_mem x (firstInQueue_mem hb)) hbe))
        · rfl
      · have := ofTail ((List.mem_cons.mp he).resolve_left (Ne.symm hx))
        rw [Option.some.inj (hb.symm.trans this), if_pos (first x List.mem_cons_self hx)]

section
variable {d : Device} {e : Restore}

/-- The number of active entries (R144). -/
def Device.activeRestores (d : Device) : Nat := (d.ru.queue.filter Restore.active).length

/-- The entries in QUEUED. -/
def Device.queued (d : Device) : List Restore := d.ru.queue.filter fun e => e.state == .queued

theorem Device.mem_queued : e ∈ d.queued ↔ e ∈ d.ru.queue ∧ e.state = .queued := by simp [Device.queued]

theorem Device.promoteOne_full (h : 4 ≤ d.activeRestores) : d.promoteOne = d := if_neg (Nat.not_lt.mpr h)

theorem Device.promoteOne_none (h : d.queued = []) : d.promoteOne = d := by
  unfold Device.promoteOne
  rw [show (d.ru.queue.filter fun e => e.state == .queued) = [] from h]
  exact ite_self _

theorem Device.promoteOne_first (hn : d.activeRestores < 4) (he : firstInQueue d.queued = some e) :
    d.promoteOne = (d.modRestore e.chan fun e => { e with state := .claiming }).claimRestore e e.cart := by
  have hf : firstInQueue (d.ru.queue.filter fun e => e.state == .queued) = some e := he
  unfold Device.promoteOne
  simp only [hf]
  exact if_pos hn

/-- An entry that enters CLAIMING is one more that is active. -/
theorem Device.activeRestores_modRestore (he : e ∈ d.queued) :
    d.activeRestores < (d.modRestore e.chan fun e => { e with state := .claiming }).activeRestores := by
  obtain ⟨hm, hq⟩ := Device.mem_queued.mp he
  obtain ⟨before, after, hl⟩ := List.append_of_mem hm
  have grows : ∀ l : List Restore, l.countP Restore.active ≤
      l.countP (Restore.active ∘ fun y => if y.chan = e.chan then { y with state := .claiming } else y) := fun l =>
    List.countP_mono_left fun y _ hy => by
      simp only [Function.comp]
      split
      · rfl
      · exact hy
  have old : e.active = false := by simp [Restore.active, hq]
  have new : Restore.active { e with state := .claiming } = true := rfl
  have hb := grows before
  have ha := grows after
  simp only [Device.activeRestores, Device.modRestore, ← List.countP_eq_length_filter, List.countP_map, hl,
    List.countP_append, List.countP_cons, old, Function.comp_apply, if_true, new, Bool.false_eq_true, if_false]
  omega

/-- A promotion changes nothing, or one more entry is active. -/
theorem Device.promoteOne_grows (d : Device) : d.promoteOne = d ∨ d.activeRestores < d.promoteOne.activeRestores := by
  by_cases hn : d.activeRestores < 4
  · cases he : firstInQueue d.queued with
    | none =>
      exact .inl (Device.promoteOne_none (by_contra fun h => firstInQueue_ne_none h he))
    | some e =>
      right
      rw [Device.promoteOne_first hn he, Device.claimRestore, Device.placeClaim_eq]
      exact Device.activeRestores_modRestore (firstInQueue_mem he)
  · exact .inl (Device.promoteOne_full (Nat.not_lt.mp hn))

/-- After n promotions no more are possible, or n entries are active. -/
theorem Device.repeat_promoteOne (d : Device) (n : Nat) :
    (Nat.repeat Device.promoteOne n d).promoteOne = Nat.repeat Device.promoteOne n d ∨
      n ≤ (Nat.repeat Device.promoteOne n d).activeRestores := by
  induction n with
  | zero => exact .inr (Nat.zero_le _)
  | succ n ih =>
    simp only [Nat.repeat]
    rcases ih with ih | ih
    · exact .inl (by rw [ih, ih])
    · rcases (Nat.repeat Device.promoteOne n d).promoteOne_grows with h | h
      · exact .inl (by rw [h, h])
      · exact .inr (by omega)

theorem Device.repeat_promoteOne_promoteOne (d : Device) (n : Nat) :
    Nat.repeat Device.promoteOne n d.promoteOne = (Nat.repeat Device.promoteOne n d).promoteOne := by
  induction n with
  | zero => rfl
  | succ n ih => simp only [Nat.repeat, ih]

/-- Nothing is left to promote after the promotion decision (R147). -/
theorem Device.promoteOne_promote (d : Device) : d.promote.promoteOne = d.promote :=
  (d.repeat_promoteOne 4).elim id Device.promoteOne_full

/-- The promotion decision goes on after a promotion as it would from there (R147). -/
theorem Device.promote_promoteOne (d : Device) : d.promoteOne.promote = d.promote :=
  (d.repeat_promoteOne_promoteOne 4).trans d.promoteOne_promote

theorem Device.promote_eq_self (h : d.promoteOne = d) : d.promote = d := by
  have fixed : ∀ n, Nat.repeat Device.promoteOne n d = d := fun n => by
    induction n with
    | zero => rfl
    | succ n ih => simp only [Nat.repeat, ih, h]
  exact fixed 4

theorem Device.arbiter_mem_placeClaim (kind : ClaimKind) (owner : Owner) (target : Target) (q : Option DriveId) :
    .arbiter ∈ (d.placeClaim kind owner target q).agenda :=
  Device.mem_postAll_of_mem (Device.mem_post _ _)

end

/-! #### GRANT, CANCEL_RESTORE and RESTORE_STALL (R153, R154, R158) -/

section
variable {s : State} {r : RestoreId} {n : Nat}

theorem exec_grant (up : s.dev.link.up = true) (hn : 1 ≤ n) :
    exec (.grant (r.val + 33) n) s = .next { s with dev := (s.dev.begun.takeGrant r n).settle } := by
  have chan : restoreOf? (r.val + 33) = some r := restoreOf_restoreChannel r
  simp only [exec, execGrant, State.inbound_up up, chan, if_neg (Nat.ne_of_gt hn), State.run_eq]

/-- A grant added, and the frames of a restore that waits sent (R153). -/
theorem Device.takeGrant_sending {d : Device} {e : Restore} (he : d.restore? r = some e) (hs : e.state = .sending) :
    d.takeGrant r n = (d.setGrants r (min 65535 (d.grants r + n))).sendFrames r := by
  have h : ((d.setGrants r (min 65535 (d.grants r + n))).restore? r).any (fun e => e.state == .sending) = true := by
    have found : (d.setGrants r (min 65535 (d.grants r + n))).restore? r = some e := he
    rw [found, Option.any_some, hs]; rfl
  exact if_pos h

theorem Device.takeGrant_other {d : Device} (h : ∀ e, d.restore? r = some e → e.state ≠ .sending) :
    d.takeGrant r n = d.setGrants r (min 65535 (d.grants r + n)) := by
  refine if_neg fun waits => ?_
  obtain ⟨e, he, hs⟩ := (Option.any_eq_true ..).mp waits
  exact h e he (by simpa using hs)

theorem exec_cancelRestore {tag : Tag} {e : Restore} (up : s.dev.link.up = true) (he : s.dev.restore? r = some e)
    (live : e.state ≠ .ended) :
    exec (.cancelRestore tag (r.val + 33)) s =
      .next { s with dev := ((s.dev.begun.respond tag .ok []).endRestore r .cancelled).settle } := by
  have chan : restoreOf? (r.val + 33) = some r := restoreOf_restoreChannel r
  have accepted : s.dev.cancelRefusal (r.val + 33) = none := by
    simp [Device.cancelRefusal, chan, firstFailing, Device.liveRestore, he, live]
  refine (State.request_accepted up accepted).trans (next_settle_congr s ?_)
  simp only [chan]

theorem exec_restoreStall (due : s.dev.stalledOut r = true) :
    exec (.restoreStall (r.val + 33)) s = .next { s with dev := (s.dev.begun.endRestore r .stalled).settle } := by
  have chan : restoreOf? (r.val + 33) = some r := restoreOf_restoreChannel r
  simp only [exec, execRestoreStall, chan, State.runIf_due due]

theorem exec_restoreStall_early (early : s.dev.stalledOut r = false) : exec (.restoreStall (r.val + 33)) s = .next s := by
  have chan : restoreOf? (r.val + 33) = some r := restoreOf_restoreChannel r
  simp only [exec, execRestoreStall, chan, State.runIf_not_due early]

/-- A restore waits for a grant up to the stall limit (R154; log entry 6). -/
theorem Device.stalledOut_iff {d : Device} : d.stalledOut r = true ↔ ∃ e t, d.restore? r = some e ∧
    e.state = .sending ∧ e.stall = some t ∧ t + d.mu.params.restoreStallLimit ≤ d.mu.elapsed := by
  simp only [Device.stalledOut, Device.stallDue, Option.any_eq_true, Bool.and_eq_true, beq_iff_eq,
    decide_eq_true_iff, exists_and_left]
  rfl

end

/-! #### The obligation -/

/-- Settles O54: the checks of RESTORE pass, a promotion is the first entry's and the decision goes on from there, and
each of the other commands is taken as its rule has it. -/
theorem restoreCommandsStartFeedAndEnd : Obligations.RestoreCommandsStartFeedAndEnd := by
  unfold Obligations.RestoreCommandsStartFeedAndEnd
  refine ⟨fun s r up => ⟨?accepted, ?grant, fun e tag he live => exec_cancelRestore up he live, ?stall, ?other⟩,
    fun d => ?promotion⟩
  case accepted =>
    intro tag p before after pr first count follow hl hb low high last closed good pins room channel from_ start counted
    have part := Device.part?_of_first hl hb
    have args := restoreArgsBad_eq_false (pr := pr) (follow := follow) low high last from_ fun n hn =>
      have ⟨h1, h2, wide, _⟩ := counted n hn
      ⟨h1, h2, wide⟩
    have range := rangeBad_eq_false (follow := follow) from_ fun n hn =>
      have ⟨_, _, _, within⟩ := counted n hn
      within
    exact exec_restore up part (Device.restoreRefusal_none part args room closed good range
      (Device.restore?_eq_none.mpr channel) pins)
  case grant =>
    intro n hn d
    exact ⟨fun h => (exec_grant up hn).trans (next_settle_congr s (Device.takeGrant_other h)),
      fun e he hs => (exec_grant up hn).trans (next_settle_congr s (Device.takeGrant_sending he hs))⟩
  case stall =>
    intro e t he hs ht
    refine ⟨fun due => exec_restoreStall (Device.stalledOut_iff.mpr ⟨e, t, he, hs, ht, due⟩), fun early =>
      exec_restoreStall_early (Bool.eq_false_iff.mpr fun due => ?_)⟩
    obtain ⟨x, u, hx, -, hu, due⟩ := Device.stalledOut_iff.mp due
    obtain rfl := Option.some.inj (he.symm.trans hx)
    obtain rfl := Option.some.inj (ht.symm.trans hu)
    omega
  case other =>
    intro h
    refine exec_restoreStall_early (Bool.eq_false_iff.mpr fun due => ?_)
    obtain ⟨x, -, hx, hs, -⟩ := Device.stalledOut_iff.mp due
    exact h x hx hs
  case promotion =>
    intro active sooner
    refine ⟨fun h => ?full, fun e he hn hq first => ?promoted⟩
    case full =>
      refine Device.promote_eq_self ?_
      rcases h with h | h
      · exact Device.promoteOne_full h
      · exact Device.promoteOne_none (List.eq_nil_iff_forall_not_mem.mpr fun e he =>
          have ⟨hm, hq⟩ := Device.mem_queued.mp he
          h e hm hq)
    case promoted =>
      have head : firstInQueue d.queued = some e := firstInQueue_eq (Device.mem_queued.mpr ⟨he, hq⟩) fun y hy hne =>
        have ⟨hm, hyq⟩ := Device.mem_queued.mp hy
        Restore.before_iff.mpr (first y hm hyq hne)
      refine ⟨_, Device.arbiter_mem_placeClaim (d := d.modRestore e.chan fun e => { e with state := .claiming })
        (if e.priority = .urgent then .urgent else .normal) (.restore e.chan) (.cart e.cart) none, ?_⟩
      rw [← Device.promote_promoteOne, Device.promoteOne_first hn head, Device.claimRestore, Device.placeClaim_eq]
      rfl

end Sys2Proof.Machine

/-! ### O55: the frames of a record, and the end of a restore (R153, R155, R157) -/

namespace Sys2Proof.Machine

/-! #### The frames of a record (R153) -/

/-- Frame k begins 4096 bytes after frame k - 1, and takes 4096 bytes of what is left. -/
theorem getElem?_cutFrames {fuel at_ k : Nat} {bs : Bytes} {f : Nat × Bytes} (h : (cutFrames fuel at_ bs)[k]? = some f) :
    f = (at_ + 4096 * k, (bs.drop (4096 * k)).take 4096) ∧ 4096 * k < bs.length := by
  induction fuel generalizing at_ bs k with
  | zero => nomatch h
  | succ fuel ih =>
    unfold cutFrames at h
    split at h
    · nomatch h
    · next hne =>
      cases k with
      | zero => exact ⟨(Option.some.inj h).symm, List.length_pos_of_ne_nil hne⟩
      | succ k =>
        obtain ⟨hf, hk⟩ := ih h
        simp only [Config.maxPayload, List.drop_drop, List.length_drop] at hf hk
        refine ⟨hf.trans ?_, by omega⟩
        rw [show at_ + 4096 + 4096 * k = at_ + 4096 * (k + 1) by omega,
          show 4096 + 4096 * k = 4096 * (k + 1) by omega]

/-- With fuel enough the frames are the bytes, and as many as their length calls for. -/
theorem cutFrames_covers {fuel at_ : Nat} {bs : Bytes} (h : bs.length ≤ 4096 * fuel) :
    (cutFrames fuel at_ bs).flatMap (·.2) = bs ∧ (cutFrames fuel at_ bs).length = (bs.length + 4095) / 4096 := by
  induction fuel generalizing at_ bs with
  | zero =>
    have : bs = [] := List.length_eq_zero_iff.mp (by omega)
    subst this
    exact ⟨rfl, rfl⟩
  | succ fuel ih =>
    unfold cutFrames
    split
    · next hb => subst hb; exact ⟨rfl, rfl⟩
    · next hne =>
      have hpos := List.length_pos_of_ne_nil hne
      have left : (bs.drop Config.maxPayload).length = bs.length - 4096 := List.length_drop ..
      obtain ⟨bytes, count⟩ := ih (at_ := at_ + Config.maxPayload) (bs := bs.drop Config.maxPayload) (by omega)
      refine ⟨?_, ?_⟩
      · rw [List.flatMap_cons, bytes, List.take_append_drop]
      · rw [List.length_cons, count, left]; omega

/-! #### Frames sent, one for each grant (R153) -/

theorem Device.foldl_emit {α : Type} (g : α → OutFrame) (l : List α) (d : Device) :
    l.foldl (fun d a => d.emit (g a)) d =
      { d with link := { d.link with outbound := d.link.outbound ++ l.map g } } := by
  induction l generalizing d with
  | nil => simp
  | cons a l ih => rw [List.foldl_cons, ih]; simp [Device.emit]

section
variable {d : Device} {r : RestoreId} {e : Restore}

/-- Frames of a restore that have left, each at the cost of a grant (R153). -/
def Device.framesSent (d : Device) (r : RestoreId) (e : Restore) (n : Nat) : Device :=
  { d with
    link := { d.link with
      outbound := d.link.outbound ++ (e.frames.take n).map fun f => .rdata r e.part e.frameSeq f.1 f.2
      grants := d.link.grants.set r (d.grants r - n) } }

/-- Without a grant for each frame, the rest waits in SENDING (R153, R154). -/
theorem Device.sendFrames_waits (he : d.restore? r = some e) (h : d.grants r < e.frames.length) :
    d.sendFrames r = (d.framesSent r e (d.grants r)).modRestore r fun y =>
      { y with state := .sending, frames := e.frames.drop (d.grants r), stall := some d.mu.elapsed } := by
  have rest : e.frames.drop (d.grants r) ≠ [] := fun hn => by rw [List.drop_eq_nil_iff] at hn; omega
  simp only [Device.sendFrames, he, Nat.min_eq_left (Nat.le_of_lt h), if_neg rest, Device.foldl_emit]
  rfl

/-- With a grant for each frame, all leave and the restore goes on (R153). -/
theorem Device.sendFrames_all (he : d.restore? r = some e) (h : e.frames.length ≤ d.grants r) :
    d.sendFrames r = ((d.framesSent r e e.frames.length).modRestore r fun y =>
      { y with state := .reading, frames := [], stall := none }).restoreGoOn r := by
  simp only [Device.sendFrames, he, Nat.min_eq_right h, List.drop_length, if_true, Device.foldl_emit]
  rfl

end

/-! #### What an end leaves of the segment map, the link and the entry (R157) -/

/-- The segment map, the link and the entry of restore r are the same in two devices. -/
structure Device.KeepsEntry (d d' : Device) (r : RestoreId) : Prop where
  map : d'.map = d.map
  link : d'.link = d.link
  entry : d'.restore? r = d.restore? r

namespace Device.KeepsEntry

variable {r : RestoreId}

theorem refl (d : Device) : d.KeepsEntry d r := ⟨rfl, rfl, rfl⟩

theorem trans {a b c : Device} (h : a.KeepsEntry b r) (g : b.KeepsEntry c r) : a.KeepsEntry c r :=
  ⟨g.map.trans h.map, g.link.trans h.link, g.entry.trans h.entry⟩

/-- An operation on other blocks. -/
theorem of_eq {d d' : Device} (hm : d'.map = d.map) (hl : d'.link = d.link) (hr : d'.ru = d.ru) : d.KeepsEntry d' r :=
  ⟨hm, hl, by simp only [Device.restore?, hr]⟩

theorem foldl {α : Type} {g : Device → α → Device} (hg : ∀ (d : Device) a, d.KeepsEntry (g d a) r) (l : List α)
    (d : Device) : d.KeepsEntry (l.foldl g d) r := by
  induction l generalizing d with
  | nil => exact refl d
  | cons a l ih => exact (hg d a).trans (ih _)

theorem post (d : Device) (t : Task) : d.KeepsEntry (d.post t) r := of_eq (by simp) (by simp) (by simp)

theorem modDrive (d : Device) (i : DriveId) (g : Drive → Drive) : d.KeepsEntry (d.modDrive i g) r := ⟨rfl, rfl, rfl⟩

theorem cancelSuspension (d : Device) (order : Nat) : d.KeepsEntry (d.cancelSuspension order) r := by
  refine foldl (fun d i => ?_) _ _
  split
  · exact (modDrive d i _).trans (post _ _)
  · exact refl d

theorem withdrawMoves (d : Device) (i : DriveId) : d.KeepsEntry (d.withdrawMoves i) r :=
  foldl (g := fun d m => d.dropMove (Move.id m)) (fun _ _ => ⟨rfl, rfl, rfl⟩) _ _

theorem withdrawClaim (d : Device) (order : Nat) : d.KeepsEntry (d.withdrawClaim order) r := by
  have removed : d.KeepsEntry ((d.removeClaim order).cancelSuspension order) r :=
    trans (b := d.removeClaim order) ⟨rfl, rfl, rfl⟩ (cancelSuspension _ _)
  unfold Device.withdrawClaim
  split
  · exact refl d
  · dsimp only
    split
    · exact removed
    · next i _ =>
      refine removed.trans ((modDrive _ i fun x => { x with claim := none }).trans (.trans ?_ (post _ _)))
      split
      · exact (withdrawMoves _ i).trans (modDrive _ i _)
      · exact refl _

theorem withdrawOf (d : Device) (o : Owner) : d.KeepsEntry (d.withdrawOf o) r := by
  unfold Device.withdrawOf
  split
  · exact withdrawClaim _ _
  · exact refl d

theorem dropContext (d : Device) (w : Work) : d.KeepsEntry (d.dropContext w) r := by
  refine foldl (fun d i => ?_) _ _
  split
  · exact modDrive d i _
  · exact refl d

theorem givesUp (d : Device) : d.KeepsEntry (d.givesUp r) r :=
  (withdrawOf d (.restore r)).trans (trans (b := (d.withdrawOf (.restore r)).dropXe (.restore r)) ⟨rfl, rfl, rfl⟩
    (dropContext _ _))

theorem idleOrUnmount (d : Device) (i : DriveId) : d.KeepsEntry (d.idleOrUnmount i) r := by
  have idle : d.KeepsEntry (d.toIdle i) r := (modDrive d i _).trans (post _ _)
  unfold Device.idleOrUnmount
  dsimp only
  split
  · exact idle
  · exact idle.trans ⟨rfl, rfl, rfl⟩

/-- The entry of another restore than the one whose context is popped is as it was (R139). -/
theorem popContext (d : Device) (i : DriveId) (k : Context) (below : List Context) (hk : k.work ≠ .restore r) :
    d.KeepsEntry (d.popContext i k below) r := by
  cases hw : k.work with
  | restore a =>
    have ha : r ≠ a := fun h => hk (by rw [hw, h])
    rw [Device.popContext_restore below hw]
    refine ⟨rfl, rfl, ?_⟩
    have other : ((fun e : Restore => e.chan == r) ∘
        fun e => if e.chan = a then { e with state := .positioning } else e) = fun e => e.chan == r := by
      funext x
      simp only [Function.comp]
      split <;> rfl
    show (d.ru.queue.map _).find? _ = _
    rw [List.find?_map, other]
    cases hf : d.ru.queue.find? fun e => e.chan == r with
    | none => exact hf.symm
    | some x =>
      have hx : x.chan = r := Device.restore?_chan hf
      rw [Option.map_some, if_neg (by rw [hx]; exact ha)]
      exact hf.symm
  | verify c => rw [Device.popContext_verify below hw]; exact ⟨rfl, rfl, rfl⟩
  | feed | finalize | cleaning =>
    simp only [Device.popContext, hw]
    exact ⟨rfl, rfl, rfl⟩

/-- The end of a drive's work (R136, R139), with no context of restore r on its stack. -/
theorem workEnded (d : Device) (i : DriveId) (without : ∀ k ∈ (d.drive i).stack, k.work ≠ .restore r) :
    d.KeepsEntry (d.workEnded i) r := by
  have rested := modDrive (r := r) d i fun x => { x with active := none, phase := .rest, suspendFor := none }
  have same : ((d.modDrive i fun x => { x with active := none, phase := .rest, suspendFor := none }).drive i).stack =
      (d.drive i).stack := by rw [Device.drive_modDrive]
  rw [← same] at without
  unfold Device.workEnded
  dsimp only
  generalize d.modDrive i (fun x => { x with active := none, phase := .rest, suspendFor := none }) = a at *
  refine rested.trans ?_
  split
  · exact idleOrUnmount a i
  · next top below hst =>
    have pop := popContext a i top below.reverse
      (without top (List.mem_reverse.mp (by rw [hst]; exact List.mem_cons_self)))
    split
    · split
      · exact trans (b := (a.removeClaim _).modDrive i _) ⟨rfl, rfl, rfl⟩ (post _ _)
      · exact pop
    · exact pop

theorem endWorkOf (d : Device) (w : Work) (without : d.Without r) : d.KeepsEntry (d.endWorkOf w) r := by
  unfold Device.endWorkOf Device.endWork
  split
  · split
    · exact workEnded d _ (without.stack _)
    · exact modDrive d _ _
  · exact refl d

end Device.KeepsEntry

/-! #### The end of a restore (R157) -/

theorem EndStatus.early_eq_false {st : EndStatus} : st.early = false ↔ st = .complete ∨ st = .partial_ := by
  cases st <;> simp [EndStatus.early]

theorem Device.driveOf_congr {d d' : Device} (h : ∀ i, (d'.drive i).active = (d.drive i).active) (w : Work) :
    d'.driveOf w = d.driveOf w := by
  simp only [Device.driveOf, h]

/-- A drive's work ended: an outstanding command is let complete first (R139, R157). -/
theorem Device.endWorkOf_eq {d : Device} {w : Work} {i : DriveId} (hi : d.driveOf w = some i) :
    d.endWorkOf w = if (d.drive i).outstanding = [] then d.workEnded i
      else d.modDrive i fun x => { x with active := none, phase := .ending, suspendFor := none } := by
  simp only [Device.endWorkOf, hi]
  rfl

theorem Device.grants_setGrants (d : Device) (r y : RestoreId) (n : Nat) :
    (d.setGrants r n).grants y = if y = r then n else d.grants y := by
  simp only [Device.setGrants, Device.grants, Fin.getElem_fin, Vector.getElem_set, Fin.val_inj, eq_comm]

/-- A context dropped changes no more of a drive than its stack. -/
theorem Device.drive_dropContext (d : Device) (w : Work) (j : DriveId) :
    ∃ s, (d.dropContext w).drive j = { d.drive j with stack := s } := by
  unfold Device.dropContext
  generalize allDrives = l
  induction l generalizing d with
  | nil => exact ⟨_, rfl⟩
  | cons i l ih =>
    obtain ⟨s, hs⟩ := ih (if (d.drive i).stack.any fun k => k.work == w then
      d.modDrive i fun x => { x with stack := x.stack.filter fun k => k.work != w } else d)
    refine ⟨s, hs.trans ?_⟩
    split
    · rw [Device.drive_modDrive_cases]
      split
      · next h => rw [h]
      · rfl
    · rfl

theorem Device.givesUp_outstanding (d : Device) (r : RestoreId) (i : DriveId) :
    ((d.givesUp r).drive i).outstanding = (d.drive i).outstanding := by
  unfold Device.givesUp
  obtain ⟨-, -, drive⟩ := ClaimsOnly.withdrawOf d (.restore r)
  obtain ⟨_, _, _, hb⟩ := drive i
  generalize d.withdrawOf (.restore r) = b at hb
  obtain ⟨_, hs⟩ := (b.dropXe (.restore r)).drive_dropContext (.restore r) i
  have same : (b.dropXe (.restore r)).drive i = b.drive i := rfl
  rw [hs, same, hb]

theorem Device.leaveRestore_eq (d : Device) (r : RestoreId) (e : Restore) :
    d.leaveRestore r e = ((d.modRestore r fun _ => e.over).givesUp r).unpinRestore e.part := rfl

theorem Device.drive_unpinRestore (d : Device) (id : Nat) (i : DriveId) : (d.unpinRestore id).drive i = d.drive i := rfl

theorem Device.restore?_unpinRestore (d : Device) (id : Nat) (r : RestoreId) :
    (d.unpinRestore id).restore? r = d.restore? r := rfl

theorem Device.unpinRestore_link (d : Device) (id : Nat) : (d.unpinRestore id).link = d.link := rfl

theorem Device.unpinRestore_parts (d : Device) (id : Nat) :
    (d.unpinRestore id).map.parts = d.map.parts.map fun p =>
      if p.id = id then { p with restorePins := p.restorePins - 1 } else p := rfl

theorem Device.leaveRestore_outstanding (d : Device) (r : RestoreId) (e : Restore) (i : DriveId) :
    ((d.leaveRestore r e).drive i).outstanding = (d.drive i).outstanding := by
  rw [Device.leaveRestore_eq, Device.drive_unpinRestore, Device.givesUp_outstanding]
  rfl

section
variable {d : Device} {r : RestoreId} {e : Restore} {st : EndStatus}

/-- The RMARK of a restore sent, its grants given up and the promotion decision due (R157, steps 5 and 6). -/
def Device.reported (d : Device) (r : RestoreId) (mark : OutFrame) : Device :=
  ((d.emit mark).setGrants r 0).post .promote

theorem Device.reported_drive (mark : OutFrame) (i : DriveId) : (d.reported r mark).drive i = d.drive i := by
  rw [Device.reported, Device.drive_post]; rfl

theorem Device.reported_rest (mark : OutFrame) :
    (d.reported r mark).map = d.map ∧ (d.reported r mark).arb = d.arb ∧ (d.reported r mark).xe = d.xe ∧
      (d.reported r mark).ru = d.ru := by
  rw [Device.reported, Device.post_eq]; exact ⟨rfl, rfl, rfl, rfl⟩

theorem Device.reported_outbound (mark : OutFrame) :
    (d.reported r mark).link.outbound = d.link.outbound ++ [mark] := by
  rw [Device.reported, Device.post_link]; rfl

theorem Device.grants_reported (mark : OutFrame) (y : RestoreId) :
    (d.reported r mark).grants y = if y = r then 0 else d.grants y := by
  rw [Device.reported, Device.grants, Device.post_link]
  exact Device.grants_setGrants ..

theorem Device.endRestore_eq (he : d.restore? r = some e) (live : e.state ≠ .ended) :
    let x := d.countMissing e st
    d.endRestore r st =
      ((d.leaveRestore r x).endWorkOf (.restore r)).reported r (.rmark r x.part x.missing st x.chainEnd) := by
  simp only [Device.endRestore, he, if_neg live]
  rfl

/-- Steps 1 to 3 of a restore's end leave the segment map but for its pin, and the link (R157). -/
theorem Device.leaveRestore_rest (d : Device) (r : RestoreId) (e : Restore) :
    (d.leaveRestore r e).link = d.link ∧ (d.leaveRestore r e).map.parts = d.map.parts.map fun p =>
      if p.id = e.part then { p with restorePins := p.restorePins - 1 } else p := by
  obtain ⟨map, link, -⟩ := KeepsEntry.givesUp (r := r) (d.modRestore r fun _ => e.over)
  rw [Device.leaveRestore_eq, Device.unpinRestore_link, Device.unpinRestore_parts, link, map]
  exact ⟨rfl, rfl⟩

theorem Device.restore?_leaveRestore (he : d.restore? r = some e) {x : Restore} (hx : x.chan = r) :
    (d.leaveRestore r x).restore? r = some x.over := by
  obtain ⟨-, -, entry⟩ := KeepsEntry.givesUp (r := r) (d.modRestore r fun _ => x.over)
  rw [Device.leaveRestore_eq, Device.restore?_unpinRestore, entry]
  exact Device.restore?_written he hx

end

/-! #### The obligation -/

/-- Settles O55: the frames of a record by induction on how many there may be, and the end of a restore step by step:
what it gives up, that its drive's work ends, and that nothing after that brings back what it held. -/
theorem aRestoreSendsItsRecordsAndEnds : Obligations.ARestoreSendsItsRecordsAndEnds := by
  unfold Obligations.ARestoreSendsItsRecordsAndEnds
  refine ⟨⟨fun raw _ high => ?frames, fun d r e he h => ?waits⟩, fun d r e he h => ?all, fun d r e st he live => ?ended⟩
  case frames =>
    obtain ⟨bytes, count⟩ := cutFrames_covers (fuel := 16) (at_ := 0) (bs := raw) (by omega)
    refine ⟨bytes, count, fun k f hf => ?_⟩
    rw [show (recordFrames raw).length = _ from count]
    obtain ⟨rfl, hk⟩ := getElem?_cutFrames hf
    simp only [List.length_take, List.length_drop]
    omega
  case waits =>
    rw [Device.sendFrames_waits he h, Device.framesSent, Nat.sub_self]
    rfl
  case all =>
    rw [Device.sendFrames_all he h, Device.framesSent, List.take_length]
    rfl
  case ended =>
    intro d' missing final left
    have counted : d.countMissing e st = { e with missing } := by
      simp only [missing, Device.countMissing]
      cases d.part? e.part with
      | none => dsimp only; rw [ite_self]
      | some p =>
        dsimp only
        cases hs : st.early
        · rw [if_neg Bool.false_ne_true, if_pos (EndStatus.early_eq_false.mp hs)]
        · rw [if_pos rfl, if_neg (mt EndStatus.early_eq_false.mpr (by rw [hs]; decide))]
          rfl
    let x : Restore := { e with missing }
    have hx : x.chan = r := Device.restore?_chan (e := e) he
    have hleft : left = d.leaveRestore r x := rfl
    have hd' : d' = (left.endWorkOf (.restore r)).reported r (.rmark r e.part missing st e.chainEnd) := by
      rw [hleft]
      exact (Device.endRestore_eq he live).trans (by rw [counted])
    clear_value left d'
    obtain ⟨shrinks, without, active, claim, -⟩ := d.leaveRestore_gives r x
    obtain ⟨link, parts⟩ := d.leaveRestore_rest r x
    have entry := Device.restore?_leaveRestore he hx
    have outstanding := d.leaveRestore_outstanding r x
    rw [← hleft] at shrinks without active claim link parts entry outstanding
    have keeps := Device.KeepsEntry.endWorkOf left (.restore r) without
    obtain ⟨ends, -, -⟩ := left.endWorkOf_gives (.restore r)
    generalize hended : left.endWorkOf (.restore r) = ended at hd' keeps ends
    have drive : ∀ j, d'.drive j = ended.drive j := fun j => hd' ▸ Device.reported_drive _ j
    obtain ⟨rmap, rarb, rxe, rru⟩ := Device.reported_rest (d := ended) (r := r) (.rmark r e.part missing st e.chainEnd)
    rw [← hd'] at rmap rarb rxe rru
    have works : ∀ {i}, d.driveOf (.restore r) = some i → left.driveOf (.restore r) = some i := fun hi =>
      (Device.driveOf_congr active _).trans hi
    refine ⟨hd', ?parts, fun i hi ho => ?waits, fun i hi ho => ?idle, ?outbound, ?spent,
      fun y hy => ?others, ?promote, fun k hk hm => ?claims, fun q hq => ?xe, fun i k hk => ?stack, ?entry⟩
    case parts => rw [rmap, keeps.map, parts]
    case waits =>
      rw [drive, ← hended, Device.endWorkOf_eq (works hi), outstanding, if_neg ho, Device.drive_modDrive]
      exact ⟨rfl, rfl, outstanding i⟩
    case idle => rw [← hended, Device.endWorkOf_eq (works hi), outstanding, if_pos ho]
    case outbound => rw [hd', Device.reported_outbound, keeps.link, link]
    case spent => rw [hd', Device.grants_reported, if_pos rfl]
    case others =>
      rw [hd', Device.grants_reported, if_neg hy, Device.grants, keeps.link, link]
      rfl
    case promote => rw [hd']; exact Device.mem_post _ _
    case claims =>
      rw [rarb] at hm
      exact claim k hk (ends.mem hm)
    case xe =>
      rw [rxe] at hq
      exact without.xe q (ends.xe q hq)
    case stack =>
      rw [drive] at hk
      exact without.stack i k (ends.stack i k hk)
    case entry =>
      refine ⟨x.over, ?_, rfl, rfl, rfl, rfl⟩
      rw [Device.restore?, rru]
      exact keeps.entry.trans entry

end Sys2Proof.Machine

/-! ### O56: a restore positions, reads, selects and goes on through its chain (R148 to R156) -/

namespace Sys2Proof.Machine

/-! #### The completions of a restore's drive (R124, R149, R151) -/

section
variable {s : State} {i : DriveId} {n : BitVec 16} {t m : Nat} {r : RestoreId} {y : DriveResult}

/-- The results of a LOCATE or a READ that are no drive fault (R124). -/
def unfaulted (y : DriveResult) : Prop := y = .ok ∨ y = .mediumError ∨ y = .notReady ∨ y = .blank

theorem positionAfter_read (hy : unfaulted y) (p : Option Nat) : positionAfter (.read m) y p 0 =
    if y = .ok then some (m + 1) else if y = .blank ∧ m = 0 then some 0 else none := by
  rcases hy with rfl | rfl | rfl | rfl
  · rfl
  · rfl
  · rfl
  · simp [positionAfter, blankAtStart]

theorem positionAfter_locate (hy : unfaulted y) (p : Option Nat) : positionAfter (.locate m) y p 0 =
    if y = .ok then some m else if y = .blank ∧ m = 0 then some 0 else none := by
  rcases hy with rfl | rfl | rfl | rfl
  · rfl
  · rfl
  · rfl
  · simp [positionAfter, blankAtStart]

theorem canAnswer_read (hy : unfaulted y) :
    (canAnswer .read y = true ∧ isFault .read y = false) ∧ canAnswer .locate y = true ∧ isFault .locate y = false := by
  rcases hy with rfl | rfl | rfl | rfl <;> exact ⟨⟨rfl, rfl⟩, rfl, rfl⟩

/-- A READ completed for the restore at work on its drive (R124, R151). -/
theorem exec_readCompletion_restore (ho : (s.dev.drive i).outstanding = [⟨n, t, .read m⟩])
    (hp : (s.dev.drive i).phase = .working) (ha : (s.dev.drive i).active = some (.restore r)) (hy : unfaulted y)
    (block : Bytes) {p : Option Nat}
    (hpos : (if y = .ok then some (m + 1) else if y = .blank ∧ m = 0 then some 0 else none) = p) :
    exec (.readCompletion i n y block) s = .next { s with
      dev := (((s.dev.begun.modDrive i fun x => { x with outstanding := [], position := p }).restoreRead r i y
        block).post (.suspendCheck i)).settle } := by
  obtain ⟨can, fault⟩ := (canAnswer_read hy).1
  refine next_settle_congr s ((Device.completion_answered (d := s.dev.begun) (k := fun d _ y => d.readDone i y block)
    (g := fun _ => p) ho rfl rfl can fault fun q => (positionAfter_read hy q).trans hpos).trans ?_)
  simp only [Device.readDone, Device.drive_modDrive, Device.drive_begun, hp, ha]

/-- The LOCATE of a restore's start completed, whatever its result short of a fault (R149). -/
theorem exec_locateCompletion_restore (ho : (s.dev.drive i).outstanding = [⟨n, t, .locate m⟩])
    (hp : (s.dev.drive i).phase = .startLocate) (ha : (s.dev.drive i).active = some (.restore r)) (hy : unfaulted y) :
    exec (.locateCompletion i n y) s = .next { s with
      dev := (((((s.dev.begun.modDrive i fun x =>
        { x with
          state := .reading, phase := .working, outstanding := []
          position := if y = .ok then some m else if y = .blank ∧ m = 0 then some 0 else none }).modRestore r fun e =>
        { e with state := .reading }).restoreGoOn r).post (.suspendCheck i))).settle } := by
  obtain ⟨-, can, fault⟩ := canAnswer_read hy
  refine next_settle_congr s ((Device.completion_answered (d := s.dev.begun) (k := fun d cmd y => d.locateDone i cmd y)
    (g := fun _ => if y = .ok then some m else if y = .blank ∧ m = 0 then some 0 else none) ho rfl rfl can fault
    (positionAfter_locate hy)).trans ?_)
  simp only [Device.locateDone, Device.startReading, Device.drive_modDrive, Device.drive_begun, hp, ha,
    Device.setDrive, Device.modDrive_modDrive]

end

/-! #### The next READ, and the push it gives way to (R138, R150) -/

section
variable {d : Device} {i : DriveId} {n : Nat}

theorem Device.readOn_suspended (h : (d.drive i).suspendFor ≠ none) : d.readOn i n = d.post (.pushReady i) :=
  if_pos (Option.isSome_iff_ne_none.mpr h)

theorem Device.readOn_free (h : (d.drive i).suspendFor = none) : d.readOn i n = d.modDrive i fun x =>
    { x with outstanding := x.outstanding ++ [⟨x.cmdNo, d.mu.elapsed, .read n⟩], cmdNo := x.cmdNo + 1 } := by
  refine if_neg ?_
  rw [Device.suspending, h]
  exact Bool.false_ne_true

theorem Device.pushIfReady_eq : d.pushIfReady i =
    if (d.drive i).suspendFor ≠ none ∧ (d.drive i).outstanding = [] then d.post (.pushReady i) else d := by
  simp only [Device.pushIfReady, Device.suspending, Bool.and_eq_true, Option.isSome_iff_ne_none, List.isEmpty_iff]

end

/-! #### A READ completed (R151) -/

section
variable {d : Device} {r : RestoreId} {e : Restore} {i : DriveId} {y : DriveResult} {bs : Bytes}

theorem Device.restoreRead_notReady (he : d.restore? r = some e) :
    d.restoreRead r i .notReady bs = d.endRestore r .drive := by
  simp only [Device.restoreRead, he, if_true]

/-- A good block is buffered and its records handled (R151). -/
theorem Device.restoreRead_good (he : d.restore? r = some e) {records : List TapeRecord}
    (hg : goodBlock bs (e.readPos.getD 0) (((d.cart e.cart).map fun x => x.serial).getD 0) = some records) :
    d.restoreRead r i .ok bs = ((d.modRestore r fun e' =>
      { e' with
        buffer := some ⟨e.readPos.getD 0, records⟩, retries := 0
        readPos := some (e.readPos.getD 0 + 1) }).restoreGoOn r).pushIfReady i := by
  simp only [Device.restoreRead, he, reduceCtorEq, if_false, if_true, hg]

/-- Any other result but NOT_READY is read again up to the read retries, and is then lost (R151). -/
theorem Device.restoreRead_bad (he : d.restore? r = some e)
    (hy : (y = .ok ∧ goodBlock bs (e.readPos.getD 0) (((d.cart e.cart).map fun x => x.serial).getD 0) = none) ∨
      y = .mediumError ∨ y = .blank) :
    d.restoreRead r i y bs =
      if e.retries < d.readRetries e.cart then
        (d.modRestore r fun e => { e with retries := e.retries + 1 }).readOn i (e.readPos.getD 0)
      else
        (((d.modRestore r fun e' =>
          { e' with retries := 0, readPos := some (e.readPos.getD 0 + 1) }).markSuspect e.part).restoreGoOn
            r).pushIfReady i := by
  rcases hy with ⟨rfl, hg⟩ | rfl | rfl
  · simp only [Device.restoreRead, he, reduceCtorEq, if_false, if_true, hg]
  · simp only [Device.restoreRead, he, reduceCtorEq, if_false]
  · simp only [Device.restoreRead, he, reduceCtorEq, if_false]

end

/-! #### The records of a block (R152) -/

theorem withinStop_iff {stop : Option Nat} {q : Nat} : withinStop stop q = true ↔ ∀ n, stop = some n → q ≤ n := by
  cases stop <;> simp [withinStop]

/-- A record that a restore selects (R152). -/
def selects (jobTag next last : Nat) (stop : Option Nat) (q : TapeRecord) : Prop :=
  q.jobTag = jobTag ∧ next ≤ q.seq ∧ q.seq ≤ last ∧ withinStop stop q.seq = true

section
variable {jobTag next last : Nat} {stop : Option Nat}

/-- What is passed over before the first record selected on. -/
theorem selectFrom_append {before after : List TapeRecord} (hb : ∀ z ∈ before, ¬selects jobTag next last stop z) :
    selectFrom jobTag next last stop (before ++ after) = selectFrom jobTag next last stop after := by
  induction before with
  | nil => rfl
  | cons z before ih =>
    exact (if_neg (hb z List.mem_cons_self)).trans (ih fun y hy => hb y (List.mem_cons_of_mem z hy))

theorem selectFrom_selected {q : TapeRecord} {after : List TapeRecord} (hq : selects jobTag next last stop q) :
    selectFrom jobTag next last stop (q :: after) = q :: after := if_pos hq

theorem selectFrom_none {l : List TapeRecord} (h : ∀ z ∈ l, ¬selects jobTag next last stop z) :
    selectFrom jobTag next last stop l = [] := by
  rw [← List.append_nil l, selectFrom_append h]; rfl

end

/-! #### A restore goes on (R151, R152, R155) -/

/-- The conditions under which a restore selects a record or reads on (R151, R152). -/
theorem readsOn {e : Restore} {p : Part} (hs : e.state = .reading) (hx : e.atXe = none) (hl : e.next ≤ p.lastSeq)
    (hw : withinStop e.stop e.next = true) :
    (e.state != .reading || e.atXe.isSome) = false ∧
      (decide (p.lastSeq < e.next) || !withinStop e.stop e.next) = false := by
  simp [hs, hx, hw, hl]

section
variable {d : Device} {r : RestoreId} {e : Restore} {p : Part} (he : d.restore? r = some e)
  (hp : d.part? e.part = some p)

theorem Device.nextRead_over (h : p.lastBlock < e.readPos.getD p.firstBlock) : d.nextRead e p = d.partEnd e p :=
  if_pos h

include he

theorem Device.nextRead_reads {i : DriveId} (h : e.readPos.getD p.firstBlock ≤ p.lastBlock)
    (hd : d.driveOf (.restore r) = some i) : d.nextRead e p = d.readOn i (e.readPos.getD p.firstBlock) := by
  simp only [Device.nextRead, if_neg (Nat.not_lt.mpr h), Device.restore?_chan he, hd]

include hp

theorem Device.restoreGoOn_waits (h : e.state ≠ .reading ∨ e.atXe ≠ none) : d.restoreGoOn r = d := by
  simp only [Device.restoreGoOn, he, hp]
  exact if_pos (by simpa [Option.isSome_iff_ne_none] using h)

variable (hs : e.state = .reading) (hx : e.atXe = none)

include hs hx

theorem Device.restoreGoOn_over (h : p.lastSeq < e.next ∨ ¬withinStop e.stop e.next = true) :
    d.restoreGoOn r = d.partEnd e p := by
  have ready : (e.state != .reading || e.atXe.isSome) = false := by rw [hs, hx]; rfl
  have beyond : (decide (p.lastSeq < e.next) || !withinStop e.stop e.next) = true := by simpa using h
  simp only [Device.restoreGoOn, he, hp, ready, beyond, Bool.false_eq_true, if_false, if_true]

variable (hl : e.next ≤ p.lastSeq) (hw : withinStop e.stop e.next = true)

include hl hw

theorem Device.restoreGoOn_empty (hb : e.buffer = none) : d.restoreGoOn r = d.nextRead e p := by
  obtain ⟨ready, within⟩ := readsOn hs hx hl hw
  simp only [Device.restoreGoOn, he, hp, ready, within, hb, Bool.false_eq_true, if_false]

theorem Device.restoreGoOn_record {b : Buffer} {q : TapeRecord} {qs : List TapeRecord} (hb : e.buffer = some b)
    (hq : selectFrom p.jobTag e.next p.lastSeq e.stop b.records = q :: qs) :
    d.restoreGoOn r = (d.modRestore r fun e =>
      { e with next := q.seq, buffer := some { b with records := q :: qs }, atXe := some q }).present (.restore r) q
        e.arrival := by
  obtain ⟨ready, within⟩ := readsOn hs hx hl hw
  simp only [Device.restoreGoOn, he, hp, ready, within, hb, hq, Bool.false_eq_true, if_false]

/-- A block without a record left to select is done with, and the next one is due (R152). -/
theorem Device.restoreGoOn_passed {b : Buffer} (hb : e.buffer = some b)
    (hq : selectFrom p.jobTag e.next p.lastSeq e.stop b.records = []) :
    d.restoreGoOn r = (d.modRestore r fun e => { e with buffer := none }).restoreGoOn r := by
  have he' : (d.modRestore r fun e => { e with buffer := none }).restore? r = some { e with buffer := none } :=
    Device.restore?_modRestore he fun _ => rfl
  have here : d.restoreGoOn r = (d.modRestore r fun e => { e with buffer := none }).nextRead e p := by
    obtain ⟨ready, within⟩ := readsOn hs hx hl hw
    simp only [Device.restoreGoOn, he, hp, ready, within, hb, hq, Bool.false_eq_true, if_false]
  exact here.trans (Device.restoreGoOn_empty he' hp hs hx hl hw rfl).symm

end

/-! #### The result of a record (R40, R152, R153) -/

section
variable {d : Device} {r : RestoreId} {e : Restore} {q : TapeRecord} (he : d.restore? r = some e)
  (hx : e.atXe = some q)

/-- A restore with its record's result taken (R152). -/
def Device.resultTaken (d : Device) (r : RestoreId) (q : TapeRecord) : Device :=
  d.modRestore r fun e =>
    { e with
      atXe := none, kept := none, next := q.seq + 1
      buffer := e.buffer.map fun b => { b with records := b.records.tail } }

include he

theorem Device.resultToRestore_reading (hs : e.state = .reading) (res : XeResult) :
    d.resultToRestore r res = d.restoreResult r res := by
  simp only [Device.resultToRestore, he, hs]

include hx

theorem Device.restoreResult_good (raw : Bytes) (crc : Word32) :
    d.restoreResult r (.good raw crc) = ((d.resultTaken r q).modRestore r fun e =>
      { e with delivered := e.delivered + 1, frameSeq := q.seq, frames := recordFrames raw }).sendFrames r := by
  simp only [Device.restoreResult, he, hx]
  rfl

theorem Device.restoreResult_bad {res : XeResult} (h : ∀ raw crc, res ≠ .good raw crc) :
    d.restoreResult r res = ((d.resultTaken r q).setBad e.part).restoreGoOn r := by
  simp only [Device.restoreResult, he, hx]
  cases res with
  | good raw crc => exact absurd rfl (h raw crc)
  | _ => rfl

end

/-! #### The end of a part (R155) -/

/-- The sequences of a part within a range, in the rule's words (R155). -/
theorem inRange_eq (e : Restore) (p : Part) :
    inRange e p = (match e.stop with | some n => min n p.lastSeq | none => p.lastSeq) + 1 - max e.start p.firstSeq := by
  unfold inRange lowerStop
  cases e.stop <;> rfl

/-- The status of a restore whose range or chain was read to its end (R155). -/
def readStatus (missing : Nat) : EndStatus := if missing = 0 then .complete else .partial_

section
variable {d : Device} {r : RestoreId} {e x : Restore} {p q : Part}

/-- An entry written anew, and its reading at an end (R155). -/
theorem Device.endRead_written (he : d.restore? r = some e) (hx : x.chan = r) :
    (d.modRestore r fun _ => x).endRead r = (d.modRestore r fun _ => x).endRestore r (readStatus x.missing) := by
  simp only [Device.endRead, Device.restore?_written he hx]
  rfl

/-- The entry of a restore whose part has ended (R155). -/
def Restore.counted (e : Restore) (p : Part) : Restore := { e.missRest p with buffer := none }

variable (he : d.restore? r = some e) (only : ∀ x ∈ d.ru.queue, x.chan = r → x = e)

include he only

/-- What was not delivered of the range is missing, and the restore ends or goes on through its chain (R155). -/
theorem Device.partEnd_eq : d.partEnd e p =
    if !e.follow || e.stop.any (fun n => decide (n ≤ p.lastSeq)) then
      (d.modRestore r fun _ => e.counted p).endRead r
    else (d.modRestore r fun _ => e.counted p).chainStep e p := by
  have hc := Device.restore?_chan he
  have counted : (d.modRestore r fun e => { e.missRest p with buffer := none }) = d.modRestore r fun _ => e.counted p :=
    Device.modRestore_congr fun y hy hyc => by rw [only y hy hyc]; rfl
  simp only [Device.partEnd, hc, counted]

theorem Device.partEnd_ends (h : e.follow = false ∨ ∃ n, e.stop = some n ∧ n ≤ p.lastSeq) :
    d.partEnd e p =
      (d.modRestore r fun _ => e.counted p).endRestore r (readStatus (e.counted p).missing) := by
  have hc : (e.counted p).chan = r := Device.restore?_chan (e := e) he
  rw [Device.partEnd_eq he only, if_pos, Device.endRead_written he hc]
  simpa [Option.any_eq_true] using h

theorem Device.partEnd_follows (hf : e.follow = true) (h : ¬∃ n, e.stop = some n ∧ n ≤ p.lastSeq) :
    d.partEnd e p = (d.modRestore r fun _ => e.counted p).chainStep e p := by
  rw [Device.partEnd_eq he only, if_neg]
  simpa [hf, Option.any_eq_true] using h

end

/-! #### The chain step (R156) -/

section
variable {d : Device} {p q : Part}

/-- A part that follows another in its chain (R156). -/
def Part.follows (q p : Part) : Prop := q.jobTag = p.jobTag ∧ q.number = p.number + 1 ∧ q.firstSeq = p.lastSeq + 1

theorem Device.nextPart_none (h : ∀ q ∈ d.map.parts, ¬q.follows p) : d.nextPart p = none :=
  List.find?_eq_none.mpr fun q hq => by simpa [Part.follows, and_assoc] using h q hq

/-- The part of the lowest id that qualifies (R156). -/
theorem Device.nextPart_first {before after : List Part} (hl : d.map.parts = before ++ q :: after)
    (hb : ∀ z ∈ before, ¬z.follows p) (hq : q.follows p) : d.nextPart p = some q :=
  List.find?_eq_some_iff_append.mpr ⟨by simpa [Part.follows, and_assoc] using hq, before, after, hl,
    fun z hz => by simpa [Part.follows, or_iff_not_imp_left, and_imp] using hb z hz⟩

variable {r : RestoreId} {e x : Restore}

theorem Device.chainStep_goesOn (hq : d.nextPart p = some q) (ho : q.state ≠ .open) (hb : q.state ≠ .bad)
    (hp : q.restorePins < 4) :
    (d.modRestore r fun _ => x).chainStep e p = (d.modRestore r fun _ => x).chainTo e q := by
  have next : (d.modRestore r fun _ => x).nextPart p = some q := hq
  have free : q.restorePinFree = true := Part.restorePinFree_iff.mpr ⟨ho, hp⟩
  simp only [Device.chainStep, next, if_neg ho, if_neg hb, if_pos free]

variable (he : d.restore? r = some e) (hx : x.chan = r)

include he hx

/-- A chain end of a restore whose entry was written anew (R156). -/
theorem Device.chainEnd_written (c : ChainEnd) :
    ((d.modRestore r fun _ => x).modRestore r fun e => { e with chainEnd := some c }).endRead r =
      (d.modRestore r fun _ => { x with chainEnd := some c }).endRestore r (readStatus x.missing) := by
  rw [Device.modRestore_written hx]
  exact Device.endRead_written he hx

theorem Device.chainStep_none (hn : d.nextPart p = none) :
    (d.modRestore r fun _ => x).chainStep e p =
      (d.modRestore r fun _ => { x with chainEnd := some .noPart }).endRestore r (readStatus x.missing) := by
  have next : (d.modRestore r fun _ => x).nextPart p = none := hn
  simp only [Device.chainStep, next, Device.restore?_chan he]
  exact Device.chainEnd_written he hx .noPart

variable (hq : d.nextPart p = some q)

include hq

theorem Device.chainStep_open (ho : q.state = .open) :
    (d.modRestore r fun _ => x).chainStep e p =
      (d.modRestore r fun _ => { x with chainEnd := some .open }).endRestore r (readStatus x.missing) := by
  have next : (d.modRestore r fun _ => x).nextPart p = some q := hq
  simp only [Device.chainStep, next, Device.restore?_chan he, if_pos ho]
  exact Device.chainEnd_written he hx .open

/-- A BAD part's sequences within the range are missing too (R156). -/
theorem Device.chainStep_bad (hb : q.state = .bad) :
    (d.modRestore r fun _ => x).chainStep e p =
      (d.modRestore r fun _ => { x.miss (inRange x q) with chainEnd := some .bad }).endRestore r
        (readStatus (x.miss (inRange x q)).missing) := by
  have next : (d.modRestore r fun _ => x).nextPart p = some q := hq
  have ho : q.state ≠ .open := by rw [hb]; decide
  simp only [Device.chainStep, next, Device.restore?_chan he, if_neg ho, if_pos hb, Device.modRestore_written hx]
  exact Device.chainEnd_written (x := x.miss (inRange x q)) he hx .bad

theorem Device.chainStep_pinLimit (ho : q.state ≠ .open) (hb : q.state ≠ .bad) (hp : 4 ≤ q.restorePins) :
    (d.modRestore r fun _ => x).chainStep e p =
      (d.modRestore r fun _ => { x with chainEnd := some .pinLimit }).endRestore r (readStatus x.missing) := by
  have next : (d.modRestore r fun _ => x).nextPart p = some q := hq
  have full : ¬q.restorePinFree = true := fun h => Nat.not_lt.mpr hp (Part.restorePinFree_iff.mp h).2
  simp only [Device.chainStep, next, Device.restore?_chan he, if_neg ho, if_neg hb, if_neg full]
  exact Device.chainEnd_written he hx .pinLimit

end

/-! #### Positioning (R148, R149, R156) -/

section
variable {d : Device} {r : RestoreId} {e x : Restore} {i : DriveId} {q : Part}

/-- The LOCATE of a restore's start block: the drive is POSITIONING for it (R149). -/
theorem Device.locateStart_eq (d : Device) (r : RestoreId) (i : DriveId) (n : Nat) : d.locateStart r i n =
    (d.modRestore r fun e =>
      { e with state := .positioning, drive := some i, readPos := some n, retries := 0 }).modDrive i fun y =>
      { y with
        state := .positioning, active := some (.restore r), phase := .startLocate, idleSince := none
        outstanding := y.outstanding ++ [⟨y.cmdNo, d.mu.elapsed, .locate n⟩], cmdNo := y.cmdNo + 1 } := by
  simp only [Device.locateStart, Device.issue, Device.modDrive_modDrive]
  rfl

/-- The restore's entry on its next part (R156). -/
def Restore.onto (x : Restore) (q : Part) : Restore :=
  { x with
    part := q.id, cart := q.cart, delivered := 0, next := max x.start q.firstSeq, readPos := none, buffer := none }

/-- A part of the chain on the same cartridge is located at once (R156; log entry 66). -/
theorem Device.chainTo_same (hx : x.chan = r) (hc : e.chan = r) (same : q.cart = e.cart)
    (hi : d.driveOf (.restore r) = some i) :
    (d.modRestore r fun _ => x).chainTo e q =
      (((d.pinRestore q.id).unpinRestore e.part).modRestore r fun _ =>
        { x.onto q with
          state := .positioning, drive := some i, readPos := some q.firstBlock, retries := 0 }).modDrive i fun y =>
        { y with
          state := .positioning, active := some (.restore r), phase := .startLocate, idleSince := none
          outstanding := y.outstanding ++ [⟨y.cmdNo, d.mu.elapsed, .locate q.firstBlock⟩], cmdNo := y.cmdNo + 1 } := by
  have pinned : ((d.modRestore r fun _ => x).pinRestore q.id).unpinRestore e.part =
      ((d.pinRestore q.id).unpinRestore e.part).modRestore r fun _ => x := rfl
  simp only [Device.chainTo, hc, if_pos same, pinned, Device.modRestore_written hx]
  have drive : (((d.pinRestore q.id).unpinRestore e.part).modRestore r fun _ => x.onto q).driveOf (.restore r) =
      some i := hi
  simp only [Restore.onto] at drive
  simp only [drive, Device.locateStart_eq]
  rw [Device.modRestore_written]
  · rfl
  · exact hx

/-- One on another cartridge is claimed anew (R156). -/
theorem Device.chainTo_other (hx : x.chan = r) (hc : e.chan = r) (other : q.cart ≠ e.cart) :
    (d.modRestore r fun _ => x).chainTo e q =
      (((((d.pinRestore q.id).unpinRestore e.part).modRestore r fun _ =>
        { x.onto q with state := .claiming, drive := none }).endWorkOf (.restore r)).placeClaim
          (if e.priority = .urgent then .urgent else .normal) (.restore r) (.cart q.cart)) := by
  have pinned : ((d.modRestore r fun _ => x).pinRestore q.id).unpinRestore e.part =
      ((d.pinRestore q.id).unpinRestore e.part).modRestore r fun _ => x := rfl
  simp only [Device.chainTo, hc, if_neg other, pinned, Device.modRestore_written hx, Device.claimRestore]
  rw [Device.modRestore_written]
  · rfl
  · exact hx

/-- A served claim's drive takes up the restore that waits in CLAIMING (R148, R149). -/
theorem Device.perform_serve (ha : (d.drive i).active = some (.restore r)) :
    d.perform (.serve i (.restore r)) = d.restoreServed r i := if_pos ha

theorem Device.restoreServed_claiming {p : Part} (he : d.restore? r = some e) (hp : d.part? e.part = some p)
    (hs : e.state = .claiming) : d.restoreServed r i = d.locateStart r i p.firstBlock := by
  simp only [Device.restoreServed, he, hp, hs]

theorem Device.restoreServed_other (he : d.restore? r = some e) (hs : e.state ≠ .claiming) :
    d.restoreServed r i = d.endWorkOf (.restore r) := by
  simp only [Device.restoreServed, he]
  split
  · next h _ => exact absurd h hs
  · rfl

end

/-! #### The obligation -/

/-- Settles O56: a completion is handed to the restore at work; whether it reads on, selects or is done with its part
follows the conditions of R151 and R152; and each outcome of a part's end is the entry written anew once. -/
theorem aRestoreReadsItsPartsInOrder : Obligations.ARestoreReadsItsPartsInOrder := by
  unfold Obligations.ARestoreReadsItsPartsInOrder
  refine ⟨⟨?reads, ?goesOn, ?result, ?ends, fun d w i hi => Device.endWorkOf_eq hi⟩, ?served,
    fun s i n t m r y ho hp ha hy => exec_locateCompletion_restore ho hp ha hy⟩
  case reads =>
    intro s i n t m r e ho hp ha he block serial d goesOn handled
    have handles : ∀ d : Device, (d.restoreGoOn r).pushIfReady i = handled d := fun d => Device.pushIfReady_eq
    have found : ∀ p, (d p).restore? r = some e := fun p => he
    refine ⟨fun bs => ?_, fun bs records hg => ?_, ?bad⟩
    · exact (exec_readCompletion_restore ho hp ha (.inr (.inr (.inl rfl))) bs rfl).trans
        (congrArg goesOn (Device.restoreRead_notReady (found none)))
    · exact (exec_readCompletion_restore ho hp ha (.inl rfl) bs rfl).trans
        (congrArg goesOn ((Device.restoreRead_good (found (some (m + 1))) hg).trans (handles _)))
    case bad =>
      intro bs y hy p kept
      have hy' : unfaulted y := hy.elim (fun h => .inl h.1) fun h => .inr (h.imp_right .inr)
      have done := (exec_readCompletion_restore ho hp ha hy' bs rfl).trans
        (congrArg goesOn (Device.restoreRead_bad (found p) hy))
      refine ⟨fun again => ⟨fun free => ?again, fun suspended => ?held⟩, fun spent => ?lost⟩
      case again =>
        have port : (kept.drive i).suspendFor = none := by
          show ((d p).drive i).suspendFor = none
          rw [Device.drive_modDrive]; exact free
        refine done.trans (congrArg goesOn ((if_pos again).trans ((Device.readOn_free port).trans ?_)))
        refine Device.modDrive_congr ?_
        have out : (kept.drive i).outstanding = [] := by
          show ((d p).drive i).outstanding = []
          rw [Device.drive_modDrive]
        rw [out]
        rfl
      case held =>
        have port : (kept.drive i).suspendFor ≠ none := by
          show ((d p).drive i).suspendFor ≠ none
          rw [Device.drive_modDrive]; exact suspended
        exact done.trans (congrArg goesOn ((if_pos again).trans (Device.readOn_suspended port)))
      case lost =>
        exact done.trans (congrArg goesOn ((if_neg (Nat.not_lt.mpr spent)).trans (handles _)))
  case goesOn =>
    intro d r e p he hp within wanted block
    have hwithin : ∀ q, withinStop e.stop q = true ↔ within q := fun q => withinStop_iff
    have hwanted : ∀ q, selects p.jobTag e.next p.lastSeq e.stop q ↔ wanted q := fun q =>
      and_congr_right fun _ => and_congr_right fun _ => and_congr_right fun _ => hwithin q.seq
    refine ⟨Device.restoreGoOn_waits he hp, fun hs hx =>
      ⟨fun h => Device.restoreGoOn_over he hp hs hx (h.imp_right (mt (hwithin _).mp)), fun hl hw => ?_⟩⟩
    have hw := (hwithin _).mpr hw
    refine ⟨fun hb h => ?_, fun i hb h hi => ⟨fun hsus => ?_, fun hsus => ?_⟩, fun b before q after hb hr none hq => ?_,
      fun b hb none => ?_⟩
    · exact (Device.restoreGoOn_empty he hp hs hx hl hw hb).trans (Device.nextRead_over h)
    · exact (Device.restoreGoOn_empty he hp hs hx hl hw hb).trans
        ((Device.nextRead_reads he h hi).trans (Device.readOn_suspended hsus))
    · exact (Device.restoreGoOn_empty he hp hs hx hl hw hb).trans
        ((Device.nextRead_reads he h hi).trans (Device.readOn_free hsus))
    · refine Device.restoreGoOn_record he hp hs hx hl hw hb ?_
      rw [hr, selectFrom_append fun z hz => mt (hwanted z).mp (none z hz), selectFrom_selected ((hwanted q).mpr hq)]
    · exact Device.restoreGoOn_passed he hp hs hx hl hw hb
        (selectFrom_none fun z hz => mt (hwanted z).mp (none z hz))
  case result =>
    intro d r e q he hx hs taken
    exact ⟨fun raw crc => (Device.resultToRestore_reading he hs _).trans (Device.restoreResult_good he hx raw crc),
      fun res h => (Device.resultToRestore_reading he hs res).trans (Device.restoreResult_bad he hx h)⟩
  case ends =>
    intro d r e p he only inRange missing d' covered status chainEnds follows
    have hin : ∀ q, Machine.inRange e q = inRange q := fun q => inRange_eq e q
    have counted : e.counted p = { e with missing, buffer := none } := by
      simp only [Restore.counted, Restore.missRest, Restore.miss, hin]
      rfl
    have hc : e.chan = r := Device.restore?_chan he
    have hx : (e.counted p).chan = r := hc
    refine ⟨fun h => ?_, fun hf hn => ?_⟩
    · rw [Device.partEnd_ends he only h, counted]; rfl
    · rw [Device.partEnd_follows he only hf hn]
      refine ⟨fun none => ?_, fun before q after hl hb hq => ?_⟩
      · rw [Device.chainStep_none he hx (Device.nextPart_none none), counted]; rfl
      · have next := Device.nextPart_first hl hb hq
        refine ⟨fun ho => ?_, fun hbad => ?_, fun ho hbad hpins => ?_, fun ho hbad hpins => ?goesOn⟩
        · rw [Device.chainStep_open he hx next ho, counted]; rfl
        · rw [Device.chainStep_bad he hx next hbad, counted]
          have same : Machine.inRange { e with missing, buffer := none } q = inRange q := hin q
          rw [same]
          rfl
        · rw [Device.chainStep_pinLimit he hx next ho hbad hpins, counted]; rfl
        case goesOn =>
          intro y pinned
          rw [Device.chainStep_goesOn next ho hbad hpins, counted]
          exact ⟨fun i same hi => Device.chainTo_same hc hc same hi, fun other => Device.chainTo_other hc hc other⟩
  case served =>
    intro d r i e p ha he hp
    refine ⟨fun hs => ?_, fun hs => (Device.perform_serve ha).trans (Device.restoreServed_other he hs)⟩
    rw [Device.perform_serve ha, Device.restoreServed_claiming he hp hs, Device.locateStart_eq]
    refine Device.modDrive_congr ?_
    rw [← ha]
    rfl

end Sys2Proof.Machine

/-! ### O16: SET_PARAM, SET_TIME and the second (R164, R177 to R179) -/

namespace Sys2Proof.Machine

/-! #### A parameter's value (R177) -/

theorem clampParam_eq (k : Param) (v : Nat) : clampParam k v =
    if v < (paramRange k).1 then (paramRange k).1 else if (paramRange k).2 < v then (paramRange k).2 else v := by
  have range : (paramRange k).1 ≤ (paramRange k).2 := by cases k <;> decide
  unfold clampParam
  split
  · omega
  · split <;> omega

theorem Params.get_put (p : Params) (k : Param) (v : Nat) : (p.put k v).get k = v := by cases k <;> rfl

theorem Params.get_put_ne (p : Params) {k j : Param} (h : j ≠ k) (v : Nat) : (p.put k v).get j = p.get j := by
  cases k <;> cases j <;> simp_all [Params.put, Params.get]

theorem exec_setParam {s : State} (up : s.dev.link.up = true) (tag : Tag) (k : Param) (v : Nat) :
    exec (.setParam tag (.known k) (some v)) s = .next { s with dev := (s.dev.begun.setParam tag k v).settle } :=
  State.request_accepted (tag := tag) up rfl

/-! #### The effects of a change (R178) -/

/-- What a change of one kind of thing does to each of them: where no change alters the test of another, each test is
made of the device as it was. -/
theorem foldl_tested {α : Type} {t : Device → α → Bool} {g : Device → α → Device} {l : List α} {d : Device}
    (apart : l.Pairwise fun a b => ∀ e, t (g e a) b = t e b) :
    l.foldl (fun e a => if t e a then g e a else e) d = l.foldl (fun e a => if t d a then g e a else e) d := by
  induction l generalizing d with
  | nil => rfl
  | cons a l ih =>
    obtain ⟨head, tail⟩ := List.pairwise_cons.mp apart
    simp only [List.foldl_cons]
    refine (ih tail).trans (List.foldl_ext _ _ _ fun e b hb => ?_)
    have same : t (if t d a then g d a else d) b = t d b := by
      split
      · exact head b hb d
      · rfl
    rw [same]

theorem allFeeds_eq : allFeeds = [0, 1, 2, 3] := by decide

theorem allDrives_eq : allDrives = [0, 1, 2, 3] := by decide

section
variable {d : Device}

theorem Device.closePending_mu (f : FeedId) : (d.closePending f).mu = d.mu := by
  obtain ⟨v, h | h | h⟩ := d.closePending_cases f <;> rw [h]
  · rfl
  · rw [Device.post_mu]; rfl

/-- A close leaves the feed's state. -/
theorem Device.closePending_state (p : FeedState → Bool) (f g : FeedId) :
    (((d.closePending f).feed g).any fun x => p x.state) = (d.feed g).any fun x => p x.state := by
  by_cases hg : g = f
  · subst hg
    cases hx : d.feed g with
    | none => simp only [Device.closePending, hx]
    | some x =>
      cases ha : x.assembly with
      | none => rw [Device.closePending_none hx ha, hx]
      | some a =>
        rcases Nat.lt_or_ge x.staging.length 64 with room | full
        · rw [Device.closePending_room hx ha room, Device.feed_post, Device.feed_setFeed, Feed.close_some ha]; rfl
        · rw [Device.closePending_full hx ha full, Device.feed_setFeed]; rfl
  · rw [(d.closePending_rest f).2 g hg]

/-- An assembly block is older than the assembly timeout (R178). -/
def Device.tooOld (d : Device) (f : FeedId) : Bool :=
  ((d.feed f).bind (·.assembly)).any fun a => a.firstTime + d.mu.params.assemblyTimeout < d.mu.elapsed

theorem Device.closeOld_eq : d.closeOld = allFeeds.foldl (fun y f => if d.tooOld f then y.closePending f else y) d := by
  refine foldl_tested (t := Device.tooOld) ((List.nodup_finRange 4).imp fun {a b} hab e => ?_)
  simp only [Device.tooOld, (e.closePending_rest a).2 b hab.symm, Device.closePending_mu]

/-- The closes leave which feeds are to decide. -/
theorem Device.decideWaiting_closeOld : d.closeOld.decideWaiting =
    d.closeOld.postAll ((allFeeds.filter fun f =>
      (d.feed f).any fun x => x.state == .filling || x.state == .paused).map .feedDecide) := by
  have state : ∀ f, (d.closeOld.feed f).any (fun x => x.state == .filling || x.state == .paused) =
      (d.feed f).any fun x => x.state == .filling || x.state == .paused := by
    intro f
    rw [Device.closeOld_eq]
    suffices h : ∀ (l : List FeedId) (y : Device),
        ((l.foldl (fun y f => if d.tooOld f then y.closePending f else y) y).feed f).any
          (fun x => x.state == .filling || x.state == .paused) =
        (y.feed f).any fun x => x.state == .filling || x.state == .paused from h allFeeds d
    intro l
    induction l with
    | nil => intro y; rfl
    | cons g l ih =>
      intro y
      rw [List.foldl_cons, ih]
      split
      · exact Device.closePending_state (fun z => z == .filling || z == .paused) g f
      · rfl
  simp only [Device.decideWaiting, state]

theorem Device.unmountIdle_eq : d.unmountIdle =
    allDrives.foldl (fun y i => if d.idleFor i d.mu.params.idleUnmount then y.startUnmount i else y) d := by
  refine foldl_tested (t := fun e i => e.idleFor i e.mu.params.idleUnmount)
    ((List.nodup_finRange 4).imp fun {a b} hab e => ?_)
  have drive : (e.startUnmount a).drive b = e.drive b := by
    rw [Device.startUnmount, Device.startUnload_eq, Device.drive_modDrive_ne _ hab.symm]
  simp only [Device.idleFor, drive]
  rfl

theorem Device.endStalled_eq : d.endStalled =
    d.ru.queue.foldl (fun y e => if d.stallDue e then y.endRestore e.chan .stalled else y) d := by
  refine foldl_tested (t := Device.stallDue) (g := fun d e => d.endRestore e.chan .stalled)
    (List.pairwise_of_forall fun a b e => ?_)
  have fixed := e.endRestore_fixed a.chan .stalled
  simp only [Device.stallDue, Device.now, show (e.endRestore a.chan .stalled).mu.params = e.mu.params from
    congrArg Fixed.params fixed, show (e.endRestore a.chan .stalled).mu.elapsed = e.mu.elapsed from
    congrArg Fixed.elapsed fixed]
  rfl

end

/-! #### Library time (R164, R179) -/

theorem exec_setTime {s : State} (up : s.dev.link.up = true) (tag : Tag) {v : Nat} (h : v ≤ 0xFFFFFFFF) :
    exec (.setTime tag (some v)) s = .next { s with dev := (s.dev.begun.setTime tag v).settle } := by
  have passed : firstFailing [((some v).isNone || (some v).any fun t => decide (Config.max32 < t), .badArgument)] =
      none := by
    simp [firstFailing, Config.max32, Nat.not_lt.mpr h]
  exact State.request_accepted (tag := tag) up passed

/-- Every entry of the verify list is to be tested after a change of library time (R164). -/
theorem Device.timeChanged_tests {d : Device} {e : VerifyEntry} (he : e ∈ d.vu.list) (old : Nat) :
    .verifyOverdue e.cart ∈ (d.timeChanged old).agenda := by
  have tested : ∀ (ts : List Task) (d : Device), .verifyOverdue e.cart ∈ ts →
      .verifyOverdue e.cart ∈ (d.postAll ts).agenda := by
    intro ts
    induction ts with
    | nil => intro d h; exact absurd h List.not_mem_nil
    | cons t ts ih =>
      intro d h
      rcases List.mem_cons.mp h with rfl | h
      · exact Device.mem_postAll_of_mem (d := d.post _) (Device.mem_post ..)
      · exact ih (d.post t) h
  have posted := tested _ d (List.mem_map_of_mem (f := fun e => Task.verifyOverdue e.cart) he)
  unfold Device.timeChanged
  dsimp only
  split
  · exact Device.mem_post_of_mem posted
  · exact posted

/-! #### The obligation -/

/-- Settles O16: a parameter's effect is written with each test made of the device before it, and no decision that
follows changes a parameter or library time. -/
theorem setParamAndTimeApplyTheirValues : Obligations.SetParamAndTimeApplyTheirValues := by
  unfold Obligations.SetParamAndTimeApplyTheirValues
  refine ⟨fun s tag k v up => ?param, fun s => ⟨fun tag v up hv => exec_setTime up tag hv, rfl, fun t h => ?_,
    fun tag v t up hv h => ?_, fun d e old he => Device.timeChanged_tests he old⟩⟩
  case param =>
    intro lo hi new d
    have hnew : clampParam k v = new := clampParam_eq k v
    have unchanged (h : new = s.dev.mu.params.get k) : s.dev.begun.setParam tag k v = d := by
      rw [Device.setParam, hnew]; exact if_pos h
    have changed (h : new ≠ s.dev.mu.params.get k) : s.dev.begun.setParam tag k v =
        ({ d with mu := { d.mu with params := s.dev.mu.params.put k new } } : Device).paramEffects k := by
      rw [Device.setParam, hnew]; exact if_neg h
    have exec_eq := exec_setParam up tag k v
    refine ⟨fun h => by rw [exec_eq, unchanged h], ?_⟩
    intro x now waiting
    refine ⟨fun h => ?_, _, exec_eq, ?_⟩
    · rw [exec_eq, changed h]
      clear_value new
      cases k with
      | startLevel => rfl
      | assemblyTimeout =>
        refine next_settle_congr s (Device.decideWaiting_closeOld.trans ?_)
        rw [Device.closeOld_eq, allFeeds_eq]
        rfl
      | minimumDwell => rfl
      | idleUnmount =>
        refine next_settle_congr s (Device.unmountIdle_eq.trans ?_)
        rw [allDrives_eq]
        rfl
      | verifyDriveLimit => rfl
      | restoreStallLimit => exact next_settle_congr s Device.endStalled_eq
    · show (s.dev.begun.setParam tag k v).settle.mu.params.get k = new ∧ _
      have settled : (s.dev.begun.setParam tag k v).settle.mu.params = (s.dev.begun.setParam tag k v).mu.params :=
        congrArg Fixed.params (Device.settle_fixed _)
      rw [settled]
      by_cases h : new = s.dev.mu.params.get k
      · rw [unchanged h]
        exact ⟨h.symm, fun _ _ => rfl⟩
      · have effects := congrArg Fixed.params (Device.paramEffects_fixed x k)
        have written : (s.dev.begun.setParam tag k v).mu.params = s.dev.mu.params.put k new := by
          rw [changed h]; exact effects
        rw [written]
        exact ⟨Params.get_put .., fun j hj => Params.get_put_ne _ hj _⟩
  · cases h
    exact (congrArg Fixed.time (Device.settle_fixed _)).trans (congrArg Fixed.time (Device.timeChanged_fixed _ _))
  · rw [exec_setTime up tag hv] at h
    cases h
    exact (congrArg Fixed.time (Device.settle_fixed _)).trans (congrArg Fixed.time (Device.timeChanged_fixed _ _))

end Sys2Proof.Machine

/-! ### The verify list (R160, R162) -/

namespace Sys2Proof.Machine

/-! #### The order of the list (R162) -/

/-- Entry a may stand before entry b in the list (R162). -/
def VerifyEntry.notAfter (a b : VerifyEntry) : Prop :=
  a.deadline < b.deadline ∨ (a.deadline = b.deadline ∧ a.order ≤ b.order)

theorem VerifyEntry.notAfter_trans {a b c : VerifyEntry} (h : a.notAfter b) (g : b.notAfter c) : a.notAfter c := by
  unfold VerifyEntry.notAfter at *; omega

theorem VerifyEntry.notAfter_of_before {a b : VerifyEntry} (h : a.before b = true) : a.notAfter b := by
  simp only [VerifyEntry.before, Bool.or_eq_true, Bool.and_eq_true, decide_eq_true_eq, beq_iff_eq] at h
  unfold VerifyEntry.notAfter; omega

theorem VerifyEntry.notAfter_of_not_before {a b : VerifyEntry} (h : ¬a.before b = true) : b.notAfter a := by
  simp only [VerifyEntry.before, Bool.or_eq_true, Bool.and_eq_true, decide_eq_true_eq, beq_iff_eq] at h
  unfold VerifyEntry.notAfter; omega

/-- An entry is put between two parts of the list, and an ordered list stays in order. -/
theorem insertEntry_splits (e : VerifyEntry) (l : List VerifyEntry) : ∃ before after,
    before ++ after = l ∧ insertEntry e l = before ++ e :: after ∧
      (l.Pairwise VerifyEntry.notAfter → (before ++ e :: after).Pairwise VerifyEntry.notAfter) := by
  induction l with
  | nil => exact ⟨[], [], rfl, rfl, fun _ => List.pairwise_singleton _ _⟩
  | cons x xs ih =>
    unfold insertEntry
    split
    · next he =>
      refine ⟨[], x :: xs, rfl, rfl, fun h => List.pairwise_cons.mpr ⟨fun z hz => ?_, h⟩⟩
      have hex := VerifyEntry.notAfter_of_before he
      rcases List.mem_cons.mp hz with rfl | hz
      · exact hex
      · exact VerifyEntry.notAfter_trans hex ((List.pairwise_cons.mp h).1 z hz)
    · next he =>
      obtain ⟨before, after, hl, hi, hs⟩ := ih
      refine ⟨x :: before, after, by rw [List.cons_append, hl], by rw [hi]; rfl, fun h => ?_⟩
      obtain ⟨hx, hxs⟩ := List.pairwise_cons.mp h
      refine List.pairwise_cons.mpr ⟨fun z hz => ?_, hs hxs⟩
      rcases List.mem_append.mp hz with hz | hz
      · exact hx z (hl ▸ List.mem_append_left _ hz)
      · rcases List.mem_cons.mp hz with rfl | hz
        · exact VerifyEntry.notAfter_of_not_before he
        · exact hx z (hl ▸ List.mem_append_right _ hz)

/-- The entries that pass a test the new one fails are those of the list. -/
theorem filter_insertEntry {p : VerifyEntry → Bool} {e : VerifyEntry} (h : p e = false) (l : List VerifyEntry) :
    (insertEntry e l).filter p = l.filter p := by
  obtain ⟨before, after, hl, hi, -⟩ := insertEntry_splits e l
  rw [hi, ← hl, List.filter_append, List.filter_append, List.filter_cons_of_neg (by simp [h])]

/-! #### Entries written and read back -/

section
variable {d : Device} {c x : CartId} {e y : VerifyEntry}

theorem Device.entry?_cart (he : d.entry? c = some e) : e.cart = c := by simpa using List.find?_some he

theorem Device.entry?_of_list {d' : Device} (h : d'.vu.list = d.vu.list) (x : CartId) : d'.entry? x = d.entry? x := by
  simp only [Device.entry?, h]

theorem Device.entry?_post (t : Task) : (d.post t).entry? x = d.entry? x :=
  Device.entry?_of_list (by rw [Device.post_vu]) x

/-- The entries of other cartridges (R162). -/
def Device.others (d : Device) (c : CartId) : List VerifyEntry := d.vu.list.filter fun e => e.cart != c

/-- An entry written is one insertion among the others. -/
theorem Device.putEntry_eq (d : Device) (e : VerifyEntry) :
    d.putEntry e = { d with vu := { d.vu with list := insertEntry e (d.others e.cart) } } := rfl

/-- The entry last written stays. -/
theorem Device.putEntry_putEntry (h : y.cart = e.cart) : (d.putEntry e).putEntry y = d.putEntry y := by
  have others : (d.putEntry e).others y.cart = d.others y.cart := by
    rw [h]
    refine (filter_insertEntry (by simp) _).trans ?_
    exact (List.filter_filter ..).trans (List.filter_congr fun z _ => Bool.and_self _)
  rw [Device.putEntry_eq, others]
  rfl

theorem Device.entry?_putEntry (d : Device) (hc : e.cart = c) : (d.putEntry e).entry? c = some e := by
  subst hc
  obtain ⟨before, after, hl, hi, -⟩ := insertEntry_splits e (d.others e.cart)
  refine List.find?_eq_some_iff_append.mpr ⟨by simp, before, after, hi, fun z hz => ?_⟩
  have : z ∈ d.others e.cart := hl ▸ List.mem_append_left _ hz
  simpa [Device.others] using (List.mem_filter.mp this).2

theorem Device.entry?_putEntry_ne (h : x ≠ e.cart) : (d.putEntry e).entry? x = d.entry? x := by
  have passes : ∀ l : List VerifyEntry, l.find? (fun z => z.cart == x) = (l.filter fun z => z.cart == x).head? :=
    fun l => (List.head?_filter ..).symm
  have kept : (d.others e.cart).filter (fun z => z.cart == x) = d.vu.list.filter fun z => z.cart == x := by
    rw [Device.others, List.filter_filter]
    refine List.filter_congr fun z _ => ?_
    by_cases hz : z.cart = x
    · simp [hz, h]
    · simp [hz]
  have written : (d.putEntry e).vu.list = insertEntry e (d.others e.cart) := rfl
  simp only [Device.entry?, passes]
  rw [written, filter_insertEntry (by simpa using h.symm), kept]

theorem Device.modEntry_eq (he : d.entry? c = some e) (g : VerifyEntry → VerifyEntry) :
    d.modEntry c g = d.putEntry (g e) := by simp only [Device.modEntry, he]

theorem Device.modEntry_none (he : d.entry? c = none) (g : VerifyEntry → VerifyEntry) : d.modEntry c g = d := by
  simp only [Device.modEntry, he]

/-- An entry just written is changed before it is put in its place. -/
theorem Device.modEntry_putEntry (hc : e.cart = c) {g : VerifyEntry → VerifyEntry} (hg : (g e).cart = c) :
    (d.putEntry e).modEntry c g = d.putEntry (g e) := by
  rw [Device.modEntry_eq (d.entry?_putEntry hc), Device.putEntry_putEntry (hg.trans hc.symm)]

/-- An entry changed: the list alone is another. -/
theorem Device.modEntry_list (d : Device) (c : CartId) (g : VerifyEntry → VerifyEntry) :
    ∃ l, d.modEntry c g = { d with vu := { d.vu with list := l } } := by
  cases he : d.entry? c with
  | none => exact ⟨d.vu.list, Device.modEntry_none he g⟩
  | some e => exact ⟨_, Device.modEntry_eq he g⟩

theorem Device.entry?_modEntry (he : d.entry? c = some e) {g : VerifyEntry → VerifyEntry} (hg : (g e).cart = e.cart) :
    (d.modEntry c g).entry? c = some (g e) := by
  rw [Device.modEntry_eq he]
  exact Device.entry?_putEntry d (hg.trans (Device.entry?_cart he))

theorem Device.entry?_modEntry_ne (h : x ≠ c) {g : VerifyEntry → VerifyEntry} (hg : ∀ e, (g e).cart = e.cart) :
    (d.modEntry c g).entry? x = d.entry? x := by
  cases he : d.entry? c with
  | none => rw [Device.modEntry_none he]
  | some e =>
    rw [Device.modEntry_eq he, Device.entry?_putEntry_ne]
    rw [hg, Device.entry?_cart he]
    exact h

end

/-! #### What leaves the verify list alone -/

/-- The verify list and the cartridges with a pass are the same in two devices, and what is due in the first is due in
the second. -/
structure Device.KeepsList (d d' : Device) : Prop where
  list : d'.vu.list = d.vu.list
  passes : d'.vu.passes.map (fun p => p.cart) = d.vu.passes.map fun p => p.cart
  agenda : ∀ t ∈ d.agenda, t ∈ d'.agenda

namespace Device.KeepsList

theorem refl (d : Device) : d.KeepsList d := ⟨rfl, rfl, fun _ h => h⟩

theorem trans {a b c : Device} (h : a.KeepsList b) (g : b.KeepsList c) : a.KeepsList c :=
  ⟨g.list.trans h.list, g.passes.trans h.passes, fun t ht => g.agenda t (h.agenda t ht)⟩

/-- An operation on other blocks. -/
theorem of_eq {d d' : Device} (hv : d'.vu = d.vu) (ha : d'.agenda = d.agenda) : d.KeepsList d' :=
  ⟨by rw [hv], by rw [hv], fun t ht => ha ▸ ht⟩

theorem foldl {α : Type} {g : Device → α → Device} (hg : ∀ (d : Device) a, d.KeepsList (g d a)) (l : List α)
    (d : Device) : d.KeepsList (l.foldl g d) := by
  induction l generalizing d with
  | nil => exact refl d
  | cons a l ih => exact (hg d a).trans (ih _)

theorem post (d : Device) (t : Task) : d.KeepsList (d.post t) :=
  ⟨by rw [Device.post_vu], by rw [Device.post_vu], fun _ h => Device.mem_post_of_mem h⟩

theorem modDrive (d : Device) (i : DriveId) (g : Drive → Drive) : d.KeepsList (d.modDrive i g) := of_eq rfl rfl

theorem cancelSuspension (d : Device) (order : Nat) : d.KeepsList (d.cancelSuspension order) := by
  refine foldl (fun d i => ?_) _ _
  split
  · exact (modDrive d i _).trans (post _ _)
  · exact refl d

theorem withdrawMoves (d : Device) (i : DriveId) : d.KeepsList (d.withdrawMoves i) :=
  foldl (g := fun d m => d.dropMove (Move.id m)) (fun _ _ => of_eq rfl rfl) _ _

theorem withdrawClaim (d : Device) (order : Nat) : d.KeepsList (d.withdrawClaim order) := by
  have removed : d.KeepsList ((d.removeClaim order).cancelSuspension order) :=
    trans (b := d.removeClaim order) (of_eq rfl rfl) (cancelSuspension _ _)
  unfold Device.withdrawClaim
  split
  · exact refl d
  · dsimp only
    split
    · exact removed
    · next i _ =>
      refine removed.trans ((modDrive _ i fun x => { x with claim := none }).trans (.trans ?_ (post _ _)))
      split
      · exact (withdrawMoves _ i).trans (modDrive _ i _)
      · exact refl _

theorem withdrawOf (d : Device) (o : Owner) : d.KeepsList (d.withdrawOf o) := by
  unfold Device.withdrawOf
  split
  · exact withdrawClaim _ _
  · exact refl d

theorem dropContext (d : Device) (w : Work) : d.KeepsList (d.dropContext w) := by
  refine foldl (fun d i => ?_) _ _
  split
  · exact modDrive d i _
  · exact refl d

theorem modPass (d : Device) (c : CartId) {g : Pass → Pass} (hg : ∀ p, (g p).cart = p.cart) :
    d.KeepsList (d.modPass c g) := by
  refine ⟨rfl, ?_, fun _ h => h⟩
  simp only [Device.modPass, List.map_map]
  refine List.map_congr_left fun p _ => ?_
  simp only [Function.comp]
  split
  · exact hg p
  · rfl

theorem idleOrUnmount (d : Device) (i : DriveId) : d.KeepsList (d.idleOrUnmount i) := by
  have idle : d.KeepsList (d.toIdle i) := (modDrive d i _).trans (post _ _)
  unfold Device.idleOrUnmount
  dsimp only
  split
  · exact idle
  · exact idle.trans (of_eq rfl rfl)

theorem popContext (d : Device) (i : DriveId) (k : Context) (below : List Context) :
    d.KeepsList (d.popContext i k below) := by
  cases hw : k.work with
  | verify c =>
    rw [Device.popContext_verify below hw]
    exact trans (b := d.modPass c fun p => { p with state := .positioning }) (modPass d c fun _ => rfl) (modDrive _ i _)
  | restore a => rw [Device.popContext_restore below hw]; exact of_eq rfl rfl
  | feed | finalize | cleaning =>
    simp only [Device.popContext, hw]
    exact of_eq rfl rfl

theorem workEnded (d : Device) (i : DriveId) : d.KeepsList (d.workEnded i) := by
  have rested := modDrive d i fun x => { x with active := none, phase := .rest, suspendFor := none }
  unfold Device.workEnded
  dsimp only
  generalize d.modDrive i (fun x => { x with active := none, phase := .rest, suspendFor := none }) = a at *
  refine rested.trans ?_
  split
  · exact idleOrUnmount a i
  · split
    · split
      · exact trans (b := (a.removeClaim _).modDrive i _) (of_eq rfl rfl) (post _ _)
      · exact popContext ..
    · exact popContext ..

theorem endWorkOf (d : Device) (w : Work) : d.KeepsList (d.endWorkOf w) := by
  unfold Device.endWorkOf Device.endWork
  split
  · split
    · exact workEnded d _
    · exact modDrive d _ _
  · exact refl d

theorem entry? {d d' : Device} (h : d.KeepsList d') (c : CartId) : d'.entry? c = d.entry? c :=
  Device.entry?_of_list h.list c

/-- A cartridge without a pass has none afterwards. -/
theorem pass?_none {d d' : Device} (h : d.KeepsList d') {c : CartId} (hc : d.pass? c = none) : d'.pass? c = none := by
  have none_iff : ∀ d : Device, d.pass? c = none ↔ c ∉ d.vu.passes.map fun p => p.cart := by
    simp [Device.pass?]
  rw [none_iff, h.passes, ← none_iff]
  exact hc

end Device.KeepsList

end Sys2Proof.Machine

/-! ### O57: deadlines, the list and its tests, the scheduling rounds and the MEDIA block (R161 to R166) -/

namespace Sys2Proof.Machine

/-! #### Deadlines and membership (R161, R162) -/

/-- The most extreme, in an order R, of a number and a list of numbers: an operation that picks one of two, and goes
before both, finds it. -/
theorem foldl_extreme {op : Nat → Nat → Nat} {R : Nat → Nat → Prop} (refl : ∀ a, R a a)
    (trans : ∀ {a b c}, R a b → R b c → R a c) (left : ∀ a b, R (op a b) a) (right : ∀ a b, R (op a b) b)
    (picks : ∀ a b, op a b = a ∨ op a b = b) (l : List Nat) (m : Nat) :
    R (l.foldl op m) m ∧ (∀ a ∈ l, R (l.foldl op m) a) ∧ (l.foldl op m = m ∨ l.foldl op m ∈ l) := by
  induction l generalizing m with
  | nil => exact ⟨refl m, fun a ha => absurd ha List.not_mem_nil, .inl rfl⟩
  | cons b l ih =>
    obtain ⟨bound, extreme, attained⟩ := ih (op m b)
    rw [List.foldl_cons]
    refine ⟨trans bound (left m b), fun a ha => ?_, ?_⟩
    · rcases List.mem_cons.mp ha with rfl | ha
      · exact trans bound (right m a)
      · exact extreme a ha
    · rcases attained with h | h
      · rw [h, List.mem_cons]
        exact (picks m b).imp_right .inl
      · exact .inr (List.mem_cons_of_mem b h)

theorem foldl_min_spec (l : List Nat) (m : Nat) :
    l.foldl min m ≤ m ∧ (∀ a ∈ l, l.foldl min m ≤ a) ∧ (l.foldl min m = m ∨ l.foldl min m ∈ l) :=
  foldl_extreme (R := (· ≤ ·)) Nat.le_refl Nat.le_trans Nat.min_le_left Nat.min_le_right min_choice l m

theorem Part.unsettled_iff {p : Part} : p.unsettled = true ↔ p.state = .closed ∨ p.state = .suspect := by
  simp [Part.unsettled]

section
variable {d : Device} {c : CartId} {forced : Option Nat} {p : Part}

theorem Device.mem_partsOn : p ∈ d.partsOn c ↔ p ∈ d.map.parts ∧ p.cart = c := by simp [Device.partsOn]

theorem Device.mem_dueParts : p ∈ d.dueParts c ↔
    (p ∈ d.map.parts ∧ p.cart = c ∧ (p.state = .closed ∨ p.state = .suspect)) ∧ 0 < d.interval c := by
  simp only [Device.dueParts, List.mem_filter, Device.mem_partsOn, Device.partDue, Bool.and_eq_true,
    Part.unsettled_iff, decide_eq_true_eq]
  constructor
  · rintro ⟨⟨hp, rfl⟩, hu, hi⟩; exact ⟨⟨hp, rfl, hu⟩, hi⟩
  · rintro ⟨⟨hp, rfl, hu⟩, hi⟩; exact ⟨⟨hp, rfl⟩, hu, hi⟩

theorem Device.deadline_spec (d : Device) (c : CartId) (forced : Option Nat) :
    d.deadline c forced ≤ Config.max32 ∧ (∀ t, forced = some t → d.deadline c forced ≤ t) ∧
      (∀ p ∈ d.dueParts c, d.deadline c forced ≤ contribution p (d.interval c)) ∧
      (d.deadline c forced = Config.max32 ∨ forced = some (d.deadline c forced) ∨
        ∃ p ∈ d.dueParts c, contribution p (d.interval c) = d.deadline c forced) := by
  obtain ⟨bound, least, attained⟩ := foldl_min_spec
    (forced.toList ++ (d.dueParts c).map fun p => contribution p (d.interval c)) Config.max32
  refine ⟨bound, fun t ht => least t (List.mem_append_left _ (by simp [ht])),
    fun p hp => least _ (List.mem_append_right _ (List.mem_map_of_mem hp)), attained.imp_right fun h => ?_⟩
  rcases List.mem_append.mp h with h | h
  · exact .inl (Option.mem_toList.mp h)
  · exact .inr (List.mem_map.mp h)

theorem Device.belongs_iff : d.belongs c forced = true ↔
    (∃ p, p ∈ d.dueParts c) ∨
      (forced ≠ none ∧ ∃ p, p ∈ d.map.parts ∧ p.cart = c ∧ (p.state = .closed ∨ p.state = .suspect)) := by
  simp only [Device.belongs, Bool.or_eq_true, Bool.and_eq_true, Bool.not_eq_true', List.isEmpty_eq_false_iff_exists_mem,
    Option.isSome_iff_ne_none, List.any_eq_true, Device.mem_partsOn, Part.unsettled_iff, and_assoc]

end

/-! #### VERIFY_NOW (R163) -/

section
variable {d : Device} {c : CartId} {e y : VerifyEntry}

/-- A list with an entry put among the others: its place, and its order. -/
theorem Device.putEntry_splits (d : Device) (y : VerifyEntry) : ∃ before after,
    before ++ after = d.others y.cart ∧ d.putEntry y = { d with vu := { d.vu with list := before ++ y :: after } } ∧
      (∀ z ∈ before, z.cart ≠ y.cart) ∧
      (d.vu.list.Pairwise VerifyEntry.notAfter → (before ++ y :: after).Pairwise VerifyEntry.notAfter) := by
  obtain ⟨before, after, hl, hi, hs⟩ := insertEntry_splits y (d.others y.cart)
  refine ⟨before, after, hl, by rw [Device.putEntry_eq, hi], fun z hz => ?_, fun h => hs (h.filter _)⟩
  have hz : z ∈ d.others y.cart := hl ▸ List.mem_append_left after hz
  simpa [Device.others] using (List.mem_filter.mp hz).2

/-- An entry as VERIFY_NOW leaves it: forced now, and unblocked (R163). -/
def Device.forcedEntry (d : Device) (c : CartId) (e : VerifyEntry) : VerifyEntry :=
  { e with forced := some d.time, block := .none, deadline := d.deadline c (some d.time) }

/-- A new entry for a cartridge (R162). -/
def Device.newEntry (d : Device) (c : CartId) : VerifyEntry :=
  ⟨c, d.deadline c none, d.vu.nextOrder, none, false, .none, .none⟩

theorem Device.insertNew_eq (d : Device) (c : CartId) :
    d.insertNew c = ({ d with vu := { d.vu with nextOrder := d.vu.nextOrder + 1 } } : Device).putEntry (d.newEntry c) :=
  rfl

/-- What VERIFY_NOW makes of an entry in the list (R163). -/
theorem Device.force_entry (he : d.entry? c = some e) :
    (d.modEntry c fun e => { e with forced := some d.time, block := .none }).recompute c =
      d.putEntry (d.forcedEntry c e) := by
  have hc := Device.entry?_cart he
  rw [Device.modEntry_eq he]
  exact Device.modEntry_putEntry (by exact hc) (by exact hc)

/-- VERIFY_NOW writes one entry, answers, and makes the test and the decision due at once (R163). -/
theorem Device.verifyNow_eq (d : Device) (tag : Tag) (c : CartId) : ∃ (e : VerifyEntry) (n : Nat),
    e.cart = c ∧ (∀ x, d.entry? c = some x → e = x) ∧
      let d' := ({ d with vu := { d.vu with nextOrder := n } } : Device).putEntry (d.forcedEntry c e)
      d.verifyNow tag c = (d'.respond tag .ok (d'.verifyItems c)).entryChanged c := by
  cases he : d.entry? c with
  | some e =>
    refine ⟨e, d.vu.nextOrder, Device.entry?_cart he, fun x hx => Option.some.inj hx, ?_⟩
    simp only [Device.verifyNow, he, Option.isSome_some, if_true, Device.force_entry he]
  | none =>
    refine ⟨d.newEntry c, d.vu.nextOrder + 1, rfl, fun x hx => (nomatch hx), ?_⟩
    have made : (d.insertNew c).entry? c = some (d.newEntry c) := Device.entry?_putEntry _ rfl
    have forced : ((d.insertNew c).modEntry c fun e =>
        { e with forced := some (d.insertNew c).time, block := .none }).recompute c =
          ({ d with vu := { d.vu with nextOrder := d.vu.nextOrder + 1 } } : Device).putEntry
            (d.forcedEntry c (d.newEntry c)) :=
      (Device.force_entry made).trans (Device.putEntry_putEntry (e := d.newEntry c) rfl)
    simp only [Device.verifyNow, he, Option.isSome_none, Bool.false_eq_true, if_false, forced]

theorem entryPlace_append {before after : List VerifyEntry} (hb : ∀ z ∈ before, z.cart ≠ c) (hy : y.cart = c)
    (n : Nat) : entryPlace c n (before ++ y :: after) = n + before.length := by
  induction before generalizing n with
  | nil => exact if_pos hy
  | cons z before ih =>
    refine (if_neg (hb z List.mem_cons_self)).trans ((ih (fun x hx => hb x (List.mem_cons_of_mem z hx)) _).trans ?_)
    rw [List.length_cons]; omega

/-- The items of VERIFY_NOW's answer (R163). -/
theorem Device.verifyItems_eq {before after : List VerifyEntry} (he : d.entry? c = some y)
    (hl : d.vu.list = before ++ y :: after) (hb : ∀ z ∈ before, z.cart ≠ c) :
    d.verifyItems c = [numItem "DEADLINE" 4 y.deadline, numItem "POSITION" 1 (before.length + 1),
      nameItem "ACTIVITY" (d.activityName y)] := by
  simp only [Device.verifyItems, he, hl, entryPlace_append hb (Device.entry?_cart he), Nat.add_comm 1]

/-- A device in which VERIFY_NOW has forced the entry it found or made, and has answered (R163). -/
structure Device.Forces (d d' : Device) (tag : Tag) (c : CartId) (e : VerifyEntry) (before after : List VerifyEntry) :
    Prop where
  cart : e.cart = c
  entry : ∀ x, d.entry? c = some x → e = x
  list : d'.vu.list = before ++ d.forcedEntry c e :: after
  first : ∀ z ∈ before, z.cart ≠ c
  sorted : d.vu.list.Pairwise VerifyEntry.notAfter → d'.vu.list.Pairwise VerifyEntry.notAfter
  found : d'.entry? c = some (d.forcedEntry c e)
  others : ∀ x, x ≠ c → d'.entry? x = d.entry? x
  answer : d'.link.outbound = d.link.outbound ++ [.resp tag .ok
    [numItem "DEADLINE" 4 (d.forcedEntry c e).deadline, numItem "POSITION" 1 (before.length + 1),
     nameItem "ACTIVITY" (d.activityName (d.forcedEntry c e))] none]

theorem Device.verifyNow_forces (d : Device) (tag : Tag) (c : CartId) : ∃ d' e before after,
    d.verifyNow tag c = d'.entryChanged c ∧ d.Forces d' tag c e before after := by
  obtain ⟨e, n, hc, entry, made⟩ := d.verifyNow_eq tag c
  dsimp only at made
  have hy : (d.forcedEntry c e).cart = c := hc
  obtain ⟨before, after, -, put, first, ordered⟩ :=
    ({ d with vu := { d.vu with nextOrder := n } } : Device).putEntry_splits (d.forcedEntry c e)
  have found := ({ d with vu := { d.vu with nextOrder := n } } : Device).entry?_putEntry hy
  have others : ∀ x, x ≠ c → (({ d with vu := { d.vu with nextOrder := n } } : Device).putEntry
      (d.forcedEntry c e)).entry? x = d.entry? x := fun x hx => Device.entry?_putEntry_ne (hy ▸ hx)
  generalize ({ d with vu := { d.vu with nextOrder := n } } : Device).putEntry (d.forcedEntry c e) = a at *
  have list : a.vu.list = before ++ d.forcedEntry c e :: after := by rw [put]
  have first : ∀ z ∈ before, z.cart ≠ c := fun z hz => hy ▸ first z hz
  have named : a.activityName (d.forcedEntry c e) = d.activityName (d.forcedEntry c e) := by rw [put]; rfl
  refine ⟨a.respond tag .ok (a.verifyItems c), e, before, after, made,
    ⟨hc, entry, list, first, fun h => list ▸ ordered h, found, others, ?_⟩⟩
  rw [Device.verifyItems_eq found list first, named, put]
  rfl

theorem Device.verifyRefusal_none (hc : d.cart c ≠ none)
    (hp : ∃ p ∈ d.map.parts, p.cart = c ∧ (p.state = .closed ∨ p.state = .suspect))
    (idle : ∀ e, d.entry? c = some e → e.activity ≠ .pass) : d.verifyRefusal c = none := by
  obtain ⟨p, hp, hpc, hu⟩ := hp
  have unsettled : (d.partsOn c).any Part.unsettled = true :=
    List.any_eq_true.mpr ⟨p, Device.mem_partsOn.mpr ⟨hp, hpc⟩, Part.unsettled_iff.mpr hu⟩
  have entered : (d.cart c).isNone = false := by simpa using Option.isSome_iff_ne_none.mpr hc
  have free : ((d.entry? c).any fun e => e.activity == .pass) = false := by
    rw [Option.any_eq_false]
    simpa using idle
  simp [Device.verifyRefusal, firstFailing, unsettled, entered, free]

end

/-! #### ENTRY_OVERDUE (R164) -/

section
variable {d : Device} {c : CartId} {e : VerifyEntry} {k : Claim}

theorem Device.claimOf_modClaim {o : Owner} (hk : d.claimOf o = some k) {g : Claim → Claim}
    (hg : ∀ z, (g z).owner = z.owner) : (d.modClaim k.order g).claimOf o = some (g k) := by
  have same : ((fun z : Claim => z.owner == o) ∘ fun z => if z.order = k.order then g z else z) =
      fun z => z.owner == o := by
    funext z
    simp only [Function.comp]
    split
    · rw [hg]
    · rfl
  have hk' : d.arb.claims.find? (fun z => z.owner == o) = some k := hk
  simp only [Device.claimOf, Device.modClaim, List.find?_map, same, hk', Option.map_some, if_true]

/-- A reclassing changes the claims alone (R164). -/
theorem Device.reclass_rest (src dst : ClaimKind) :
    (d.reclass c src dst).vu = d.vu ∧ (d.reclass c src dst).mu = d.mu := by
  unfold Device.reclass
  split
  · split
    · simp
    · exact ⟨rfl, rfl⟩
  · exact ⟨rfl, rfl⟩

theorem Device.claimOf_reclass {src dst : ClaimKind} (hk : d.claimOf (.verify c) = some k) (hs : k.kind = src)
    (hd : k.drive = none) : (d.reclass c src dst).claimOf (.verify c) = some { k with kind := dst } := by
  have waits : (k.drive.isNone && k.kind == src) = true := by simp [hs, hd]
  simp only [Device.reclass, hk, waits, if_true]
  simp only [Device.claimOf, Device.post_arb]
  exact Device.claimOf_modClaim (g := fun z => { z with kind := dst }) hk fun _ => rfl

/-- The overdue test of an entry whose event is to be raised (R164). -/
theorem Device.overdueTest_raises (he : d.entry? c = some e) (due : e.deadline ≤ d.mu.time) (hf : e.forced = none)
    (hr : e.raised = false) :
    d.overdueTest c = ((((d.putEntry { e with raised := true }).raise .verifyOverdue (.number c)).post
      .verifySchedule).reclass c .verify .overdue) := by
  have overdue : e.overdue d.time = true := decide_eq_true due
  simp only [Device.overdueTest, he, overdue, hf, hr, Device.modEntry_eq he, Option.isNone_none, Bool.not_false,
    Bool.and_self, if_true]

/-- What the overdue test does to the event, the entry and the waiting claim (R164). -/
theorem Device.overdueTest_effects (he : d.entry? c = some e) (due : e.deadline ≤ d.mu.time) (hf : e.forced = none)
    (hr : e.raised = false) :
    (d.overdueTest c).event .verifyOverdue = some (raiseEvent (d.event .verifyOverdue) (.number c)) ∧
      (∀ x, (d.overdueTest c).entry? x = (d.putEntry { e with raised := true }).entry? x) ∧
      ∀ k, d.claimOf (.verify c) = some k → k.kind = .verify → k.drive = none →
        (d.overdueTest c).claimOf (.verify c) = some { k with kind := .overdue } := by
  rw [Device.overdueTest_raises he due hf hr]
  obtain ⟨vu, mu⟩ := Device.reclass_rest (d := ((d.putEntry { e with raised := true }).raise .verifyOverdue
    (.number c)).post .verifySchedule) (c := c) .verify .overdue
  refine ⟨?_, Device.entry?_of_list (by rw [vu, Device.post_vu]; rfl), fun k hk hkind hd =>
    Device.claimOf_reclass ?_ hkind hd⟩
  · rw [Device.event_of_mu mu, Device.event_post]
    exact Device.event_raise ..
  · simp only [Device.claimOf, Device.post_arb]
    exact hk

theorem exec_entryOverdue {s : State} (due : s.dev.overdueDue c = true) :
    exec (.entryOverdue c) s =
      .next { s with dev := ((s.dev.begun.overdueTest c).post .verifySchedule).settle } := by
  simp only [exec, execEntryOverdue, finOf_val]
  exact State.runIf_due due

theorem exec_entryOverdue_not_due {s : State} (h : s.dev.overdueDue c = false) :
    exec (.entryOverdue c) s = .next s := by
  simp only [exec, execEntryOverdue, finOf_val]
  exact State.runIf_not_due h

theorem Device.overdueDue_of_unraised (he : d.entry? c = some e) (due : e.deadline ≤ d.mu.time) (hf : e.forced = none)
    (hr : e.raised = false) : d.overdueDue c = true := by
  simp [Device.overdueDue, he, VerifyEntry.overdue, Device.time, due, hf, hr]

theorem Device.overdueDue_early (he : d.entry? c = some e) (early : d.mu.time < e.deadline) :
    d.overdueDue c = false := by
  have waits : e.overdue d.time = false := decide_eq_false (Nat.not_le.mpr early)
  simp [Device.overdueDue, he, waits]

theorem Device.overdueDue_done (he : d.entry? c = some e) (raised : e.forced ≠ none ∨ e.raised = true)
    (claimed : ∀ k, d.claimOf (.verify c) = some k → k.kind ≠ .verify ∨ k.drive ≠ none) :
    d.overdueDue c = false := by
  have unraised : (e.forced.isNone && !e.raised) = false := by
    rcases raised with h | h <;> simp [h]
  have waits : (d.claimOf (.verify c)).any Claim.idleVerify = false := by
    rw [Option.any_eq_false]
    intro k hk
    rcases claimed k hk with h | h
    · simp [Claim.idleVerify, h]
    · simp [Claim.idleVerify, Option.isSome_iff_ne_none.mpr h]
  simp [Device.overdueDue, he, unraised, waits]

end

/-! #### Notifications (R162) -/

section
variable {d : Device} {c : CartId} {e : VerifyEntry}

theorem Device.verifyNotify_absent (he : d.entry? c = none) (h : d.belongs c none = false) : d.verifyNotify c = d := by
  simp only [Device.verifyNotify, he, h, Bool.false_eq_true, if_false]

theorem Device.verifyNotify_new (he : d.entry? c = none) (h : d.belongs c none = true) : d.verifyNotify c =
    (({ d with vu := { d.vu with nextOrder := d.vu.nextOrder + 1 } } : Device).putEntry
      (d.newEntry c)).entryChanged c := by
  simp only [Device.verifyNotify, he, h, if_true, Device.insertNew_eq]

theorem Device.verifyNotify_stays (he : d.entry? c = some e) (h : d.belongs c e.forced = true) :
    d.verifyNotify c = (d.putEntry { e with deadline := d.deadline c e.forced }).entryChanged c := by
  simp only [Device.verifyNotify, he, h, if_true, Device.recompute, Device.modEntry_eq he]

theorem Device.verifyNotify_leaves (he : d.entry? c = some e) (h : d.belongs c e.forced = false)
    (ha : e.activity ≠ .pass) :
    d.verifyNotify c = ((d.withdrawOf (.verify c)).removeEntry c).entryChanged c := by
  simp only [Device.verifyNotify, he, h, Bool.false_eq_true, if_false, if_neg ha]

theorem Device.verifyNotify_pass (he : d.entry? c = some e) (h : d.belongs c e.forced = false)
    (ha : e.activity = .pass) : d.verifyNotify c = d := by
  simp only [Device.verifyNotify, he, h, Bool.false_eq_true, if_false, if_pos ha]

end

/-! #### The rounds of the scheduling decision (R165) -/

theorem VerifyEntry.free_iff {e : VerifyEntry} : e.free = true ↔ e.activity = .none ∧ e.block = .none := by
  simp [VerifyEntry.free]

theorem Claim.idleVerify_iff {k : Claim} : k.idleVerify = true ↔ k.kind = .verify ∧ k.drive = none := by
  simp [Claim.idleVerify]

/-- The newest waiting class-7 claim (R165). -/
theorem newestClaim_eq {claims older newer : List Claim} {k : Claim} (hl : claims = older ++ k :: newer)
    (hk : k.idleVerify = true) (hn : ∀ z ∈ newer, ¬z.idleVerify = true) :
    newestClaim (claims.filter Claim.idleVerify) = some k := by
  rw [hl, List.filter_append, List.filter_cons_of_pos hk, List.filter_eq_nil_iff.mpr hn]
  exact List.getLast?_concat ..

section
variable {d : Device} {e : VerifyEntry} {n : Nat}

/-- An overdue entry free to claim (R165, step 1). -/
def Device.overdueFree (d : Device) (e : VerifyEntry) : Bool := e.free && e.overdue d.time

theorem Device.scheduleLoop_claims (hf : d.vu.list.find? d.overdueFree = some e) (h : d.activities < 4) :
    Device.scheduleLoop (n + 1) d = Device.scheduleLoop n (d.claimVerify e .overdue) := by
  have hf : (d.vu.list.find? fun e => e.free && e.overdue d.time) = some e := hf
  have h : d.activities < Config.maxActive := h
  simp only [Device.scheduleLoop, hf, h, if_true]

theorem Device.scheduleLoop_withdraws (hf : d.vu.list.find? d.overdueFree = some e) (h : 4 ≤ d.activities) {k : Claim}
    {c : CartId} (hk : newestClaim (d.arb.claims.filter Claim.idleVerify) = some k) (ho : k.owner = .verify c) :
    Device.scheduleLoop (n + 1) d = Device.scheduleLoop n (d.withdrawVerify c) := by
  have hf : (d.vu.list.find? fun e => e.free && e.overdue d.time) = some e := hf
  have h : ¬d.activities < Config.maxActive := Nat.not_lt.mpr h
  simp only [Device.scheduleLoop, hf, h, if_false, hk, ho]

theorem Device.scheduleLoop_full (hf : d.vu.list.find? d.overdueFree = some e) (h : 4 ≤ d.activities)
    (hk : newestClaim (d.arb.claims.filter Claim.idleVerify) = none) : Device.scheduleLoop (n + 1) d = d := by
  have hf : (d.vu.list.find? fun e => e.free && e.overdue d.time) = some e := hf
  have h : ¬d.activities < Config.maxActive := Nat.not_lt.mpr h
  simp only [Device.scheduleLoop, hf, h, if_false, hk]

/-- The condition for the head entry's claim (R165, step 3). -/
theorem Device.headMayClaim (h : d.activities < 4) (hw : ∀ k ∈ d.arb.claims, ¬k.idleVerify = true) :
    (decide (d.activities < Config.maxActive) && !d.arb.claims.any Claim.idleVerify) = true := by
  rw [Bool.and_eq_true, decide_eq_true_eq, Bool.not_eq_true', List.any_eq_false]
  exact ⟨h, hw⟩

theorem Device.scheduleLoop_head (hf : d.vu.list.find? d.overdueFree = none) (h : d.activities < 4)
    (hw : ∀ k ∈ d.arb.claims, ¬k.idleVerify = true) (he : d.vu.list.find? VerifyEntry.free = some e) :
    Device.scheduleLoop (n + 1) d = d.claimVerify e .verify := by
  have hf : (d.vu.list.find? fun e => e.free && e.overdue d.time) = none := hf
  simp only [Device.scheduleLoop, hf, Device.headMayClaim h hw, if_true, he]

theorem Device.scheduleLoop_unfree (hf : d.vu.list.find? d.overdueFree = none)
    (he : d.vu.list.find? VerifyEntry.free = none) : Device.scheduleLoop (n + 1) d = d := by
  have hf : (d.vu.list.find? fun e => e.free && e.overdue d.time) = none := hf
  simp only [Device.scheduleLoop, hf, he, ite_self]

theorem Device.scheduleLoop_rests (hf : d.vu.list.find? d.overdueFree = none)
    (h : 4 ≤ d.activities ∨ ∃ k ∈ d.arb.claims, k.idleVerify = true) : Device.scheduleLoop (n + 1) d = d := by
  have hf : (d.vu.list.find? fun e => e.free && e.overdue d.time) = none := hf
  have shut : (decide (d.activities < Config.maxActive) && !d.arb.claims.any Claim.idleVerify) = false := by
    rw [Bool.and_eq_false_iff, decide_eq_false_iff_not, Bool.not_eq_false', List.any_eq_true]
    exact h.imp_left Nat.not_lt.mpr
  simp only [Device.scheduleLoop, hf, shut, Bool.false_eq_true, if_false]

end

/-! #### The MEDIA block (R166) -/

section
variable {d : Device} {c : CartId} {e : VerifyEntry} {k : Claim}

/-- An entry blocked has no claim and no activity (R166). -/
theorem Device.blockEntry_eq (he : d.entry? c = some e) (r : BlockReason) : d.blockEntry c r =
    ((d.withdrawOf (.verify c)).putEntry { e with activity := .none, block := r }).post .verifySchedule := by
  have hc := Device.entry?_cart he
  have kept : (d.withdrawOf (.verify c)).entry? c = some e := by rw [(Device.KeepsList.withdrawOf d _).entry?, he]
  simp only [Device.blockEntry, Device.withdrawVerify, Device.modEntry_eq kept]
  rw [Device.modEntry_putEntry (e := { e with activity := .none }) hc hc]

/-- Without a claim or a drive for it, no FINALIZE ends with its cartridge (R93). -/
theorem Device.finalizeLost_none (hk : d.claimOf (.finalize c) = none) (hd : d.driveOf (.finalize c) = none) :
    d.finalizeLost c = d := by
  simp only [Device.finalizeLost, hk, hd, Option.isSome_none, Bool.or_self, Bool.false_eq_true, if_false]

theorem Device.claimOf_withdrawOf_none {o : Owner} (w : Owner) (h : d.claimOf o = none) :
    (d.withdrawOf w).claimOf o = none := by
  obtain ⟨q, hq⟩ := (Device.SameRestores.withdrawOf d w).claims
  refine List.find?_eq_none.mpr fun z hz => List.find?_eq_none.mp h z ?_
  rw [hq] at hz
  exact (List.mem_filter.mp hz).1

/-- A verify claim's cartridge found OUTSIDE or UNKNOWN (R127, R166). -/
theorem Device.locationChanged_lost {x : Location} (hx : entryLocation (d.cart c) = some x)
    (away : x = .outside ∨ x = .unknown)
    (only : (d.arb.claims.filter fun k => k.drive.isNone && k.target == .cart c) = [k]) (ho : k.owner = .verify c)
    (hk : d.claimOf (.finalize c) = none) (hd : d.driveOf (.finalize c) = none) (he : d.entry? c = some e) :
    d.locationChanged c = (((d.withdrawOf (.verify c)).putEntry { e with activity := .none, block := .media }).post
      .verifySchedule).post .arbiter := by
  have told : d.locationChanged c = ((d.blockEntry c .media).finalizeLost c).post .arbiter := by
    rcases away with rfl | rfl <;>
      simp only [Device.locationChanged, hx, only, List.foldl_cons, List.foldl_nil, Device.tellLost, ho]
  have active : ∀ i, ((d.blockEntry c .media).drive i).active = (d.drive i).active := fun i => by
    rw [Device.blockEntry_eq he, Device.drive_post]
    exact (Device.SameRestores.withdrawOf d (.verify c)).active i
  have claim : (d.blockEntry c .media).claimOf (.finalize c) = none := by
    rw [Device.blockEntry_eq he]
    simp only [Device.claimOf, Device.post_arb]
    exact Device.claimOf_withdrawOf_none (.verify c) hk
  rw [told, Device.finalizeLost_none claim ((Device.driveOf_congr active _).trans hd), Device.blockEntry_eq he]

theorem Device.locationChanged_at {y : ElemId} (hx : entryLocation (d.cart c) = some (.at y)) :
    d.locationChanged c = (if y = 0 then d else d.unblock c .media).post .arbiter := by
  simp only [Device.locationChanged, hx]
  rfl

theorem Device.unblock_blocked {r : BlockReason} (he : d.entry? c = some e) (hb : e.block = r) :
    d.unblock c r = (d.putEntry { e with block := .none }).post .verifySchedule := by
  simp only [Device.unblock, he, if_pos hb, Device.modEntry_eq he]

theorem Device.unblock_other {r : BlockReason} (he : d.entry? c = some e) (hb : e.block ≠ r) : d.unblock c r = d := by
  simp only [Device.unblock, he, if_neg hb]

end

/-! #### The obligation -/

/-- Settles O57: VERIFY_NOW and a notification write one entry at its place by its deadline; the deadline is a least
number; each round of the decision turns on the first entry free to claim and on the newest waiting claim; and a
cartridge's new location blocks or unblocks its entry. -/
theorem verifyCommandsForceAndRaise : Obligations.VerifyCommandsForceAndRaise := by
  unfold Obligations.VerifyCommandsForceAndRaise
  refine ⟨fun s c => ⟨?verifyNow, ?overdue, ?done, ?early, ?absent⟩, ?deadline, ?notified, ?schedule, ?location⟩
  case verifyNow =>
    intro tag up hc hp idle sorted
    obtain ⟨d, e, before, after, made, forces⟩ := s.dev.begun.verifyNow_forces tag c
    obtain ⟨-, forced, -, -⟩ := s.dev.begun.deadline_spec c (some s.dev.begun.time)
    refine ⟨d, before, after, s.dev.begun.forcedEntry c e, ?_, forces.list, forces.first, forces.sorted, forces.found,
      rfl, rfl, forced _ rfl, fun x hx => ?_, forces.others, ?_⟩
    · exact (State.request_accepted up (by exact Device.verifyRefusal_none hc hp idle)).trans
        (next_settle_congr s (by simp only [finOf_val]; exact made))
    · rw [← forces.entry x hx]
      exact ⟨rfl, rfl⟩
    · intro answer
      have answered : ∀ activity, s.dev.begun.activityName (s.dev.begun.forcedEntry c e) = activity →
          answer activity := fun activity h => h ▸ forces.answer
      refine ⟨fun h => answered _ (by simp only [Device.activityName, h]), fun o k h hk => answered _ ?_⟩
      have hk : s.dev.begun.claim? o = some k := hk
      simp only [Device.activityName, h, hk]
  case overdue =>
    intro e he due hf hr
    have hc := Device.entry?_cart he
    obtain ⟨event, entry, claim⟩ := Device.overdueTest_effects (d := s.dev.begun) he due hf hr
    refine ⟨_, exec_entryOverdue (Device.overdueDue_of_unraised he due hf hr), ?_, ?_, fun x hx => ?_,
      fun k hk hkind hdrive => ?_⟩
    · rw [Device.event_post]; exact event
    · rw [Device.entry?_post, entry]
      exact Device.entry?_putEntry (e := { e with raised := true }) _ hc
    · rw [Device.entry?_post, entry, Device.entry?_putEntry_ne (by exact hc ▸ hx)]
      rfl
    · simp only [Device.claimOf, Device.post_arb]
      exact claim k hk hkind hdrive
  case done => exact fun e he h claimed => exec_entryOverdue_not_due (Device.overdueDue_done he h claimed)
  case early => exact fun e he early => exec_entryOverdue_not_due (Device.overdueDue_early he early)
  case absent => exact fun he => exec_entryOverdue_not_due (by simp only [Device.overdueDue, he, Option.any_none])
  case deadline =>
    intro d c forced interval unsettled due gives n
    have mem : ∀ p, due p ↔ p ∈ d.dueParts c := fun p => Device.mem_dueParts.symm
    obtain ⟨limit, forcedLe, dueLe, attained⟩ := d.deadline_spec c forced
    refine ⟨⟨limit, forcedLe, fun p hp => dueLe p ((mem p).mp hp), ?_⟩, ?_⟩
    · refine attained.imp_right (Or.imp_right ?_)
      rintro ⟨p, hp, hn⟩
      exact ⟨p, (mem p).mpr hp, hn⟩
    · exact Device.belongs_iff.trans (or_congr_left (exists_congr fun p => (mem p).symm))
  case notified =>
    intro d c sorted others puts
    have put : ∀ (n : Nat) (y : VerifyEntry), y.cart = c → d.verifyNotify c =
        (({ d with vu := { d.vu with nextOrder := n } } : Device).putEntry y).entryChanged c → puts y n := by
      intro n y hy hn
      obtain ⟨before, after, ho, hp, -, hs⟩ :=
        ({ d with vu := { d.vu with nextOrder := n } } : Device).putEntry_splits y
      rw [hy] at ho
      exact ⟨before, after, ho, hs, by rw [hn, hp]; rfl⟩
    refine ⟨Device.verifyNotify_absent, fun he h => put _ _ rfl (Device.verifyNotify_new he h),
      fun e he => ⟨fun h => put d.vu.nextOrder { e with deadline := d.deadline c e.forced }
        (Device.entry?_cart (e := e) he) (Device.verifyNotify_stays he h), fun h ha => ?_,
        Device.verifyNotify_pass he⟩⟩
    rw [Device.verifyNotify_leaves he h ha]
    have list := (Device.KeepsList.withdrawOf d (.verify c)).list
    simp only [Device.removeEntry, list]
    rfl
  case schedule =>
    intro d n overdue free activities waits claims
    have first : ∀ z, free z ∧ overdue z ↔ d.overdueFree z = true := fun z => by
      rw [Device.overdueFree, Bool.and_eq_true, VerifyEntry.free_iff, VerifyEntry.overdue, decide_eq_true_eq]
      rfl
    have freed : ∀ z, free z ↔ z.free = true := fun z => VerifyEntry.free_iff.symm
    have waiting : ∀ k, waits k ↔ k.idleVerify = true := fun k => Claim.idleVerify_iff.symm
    refine ⟨rfl, fun before e after hl hb hf ho => ?_, fun unfound => ?_⟩
    · have found : d.vu.list.find? d.overdueFree = some e :=
        List.find?_eq_some_iff_append.mpr ⟨(first e).mp ⟨hf, ho⟩, before, after, hl, fun z hz => by
          simpa using mt (first z).mpr (hb z hz)⟩
      refine ⟨Device.scheduleLoop_claims found, fun full => ⟨fun older k newer c hk hw hn howner => ?_, fun hw => ?_⟩⟩
      · have newest := newestClaim_eq hk ((waiting k).mp hw) fun z hz => mt (waiting z).mpr (hn z hz)
        exact Device.scheduleLoop_withdraws found full newest howner
      · have no : d.arb.claims.filter Claim.idleVerify = [] :=
          List.filter_eq_nil_iff.mpr fun k hk => mt (waiting k).mpr (hw k hk)
        exact Device.scheduleLoop_full found full (by rw [no]; rfl)
    · have notFound : d.vu.list.find? d.overdueFree = none :=
        List.find?_eq_none.mpr fun z hz => mt (first z).mpr (unfound z hz)
      refine ⟨fun room hw => ?_, fun h => Device.scheduleLoop_rests notFound
        (h.imp_right fun ⟨k, hk, hw⟩ => ⟨k, hk, (waiting k).mp hw⟩)⟩
      have unclaimed : ∀ k ∈ d.arb.claims, ¬k.idleVerify = true := fun k hk => mt (waiting k).mpr (hw k hk)
      refine ⟨fun before e after hl hb hf => ?_, fun hf => ?_⟩
      · have found : d.vu.list.find? VerifyEntry.free = some e :=
          List.find?_eq_some_iff_append.mpr ⟨(freed e).mp hf, before, after, hl, fun z hz => by
            simpa using mt (freed z).mpr (hb z hz)⟩
        rw [Device.scheduleLoop_head notFound room unclaimed found]
        rfl
      · exact Device.scheduleLoop_unfree notFound (List.find?_eq_none.mpr fun z hz => mt (freed z).mpr (hf z hz))
  case location =>
    intro d c e x he hx d'
    have hc := Device.entry?_cart he
    have located : ∀ y, x.location = y → entryLocation (d.cart c) = some y := fun y h => by
      rw [entryLocation, hx, ← h]; rfl
    refine ⟨fun k away only ho hk hfin hdrive => ?_, fun y hy hy0 hb => ?_, fun y hy h => ?_⟩
    · have lost : d' = _ := Device.locationChanged_lost (located _ rfl) away only ho hfin hdrive he
      rw [lost]
      refine ⟨?_, fun hm => ?_, Device.mem_post_of_mem (Device.mem_post ..)⟩
      · rw [Device.entry?_post, Device.entry?_post]
        exact Device.entry?_putEntry (e := { e with activity := .none, block := .media }) _ hc
      · rw [Device.post_arb, Device.post_arb] at hm
        exact Device.withdrawOf_gone hk k hm rfl
    · have back : d' = _ := (Device.locationChanged_at (located _ hy)).trans
        (congrArg (Device.post · .arbiter) ((if_neg hy0).trans (Device.unblock_blocked he hb)))
      rw [back]
      refine ⟨?_, Device.mem_post_of_mem (Device.mem_post ..)⟩
      rw [Device.entry?_post, Device.entry?_post]
      exact Device.entry?_putEntry (e := { e with block := .none }) _ hc
    · refine (Device.locationChanged_at (located _ hy)).trans (congrArg (Device.post · .arbiter) ?_)
      split
      · rfl
      · next hy0 => exact Device.unblock_other he (h.resolve_left hy0)

end Sys2Proof.Machine

/-! ### O58: a pass starts, reads, compares and ends (R167 to R172) -/

namespace Sys2Proof.Machine

/-! #### The completions of a pass's drive (R124, R167, R168) -/

section
variable {s : State} {i : DriveId} {n : BitVec 16} {t m : Nat} {c : CartId} {y : DriveResult}

/-- A READ completed for the pass at work on its drive (R124, R168). -/
theorem exec_readCompletion_pass (ho : (s.dev.drive i).outstanding = [⟨n, t, .read m⟩])
    (hp : (s.dev.drive i).phase = .working) (ha : (s.dev.drive i).active = some (.verify c)) (hy : unfaulted y)
    (block : Bytes) {p : Option Nat}
    (hpos : (if y = .ok then some (m + 1) else if y = .blank ∧ m = 0 then some 0 else none) = p) :
    exec (.readCompletion i n y block) s = .next { s with
      dev := (((s.dev.begun.modDrive i fun x => { x with outstanding := [], position := p }).passRead c i y
        block).post (.suspendCheck i)).settle } := by
  obtain ⟨can, fault⟩ := (canAnswer_read hy).1
  refine next_settle_congr s ((Device.completion_answered (d := s.dev.begun) (k := fun d _ y => d.readDone i y block)
    (g := fun _ => p) ho rfl rfl can fault fun q => (positionAfter_read hy q).trans hpos).trans ?_)
  simp only [Device.readDone, Device.drive_modDrive, Device.drive_begun, hp, ha]

/-- The LOCATE of a pass's start completed, whatever its result short of a fault (R167). -/
theorem exec_locateCompletion_pass (ho : (s.dev.drive i).outstanding = [⟨n, t, .locate m⟩])
    (hp : (s.dev.drive i).phase = .startLocate) (ha : (s.dev.drive i).active = some (.verify c)) (hy : unfaulted y) :
    exec (.locateCompletion i n y) s = .next { s with
      dev := ((((s.dev.begun.modDrive i fun x =>
        { x with
          state := .verifying, phase := .working, outstanding := []
          position := if y = .ok then some m else if y = .blank ∧ m = 0 then some 0 else none }).modPass c fun p =>
        { p with state := .reading }).passGoOn c).post (.suspendCheck i)).settle } := by
  obtain ⟨-, can, fault⟩ := canAnswer_read hy
  refine next_settle_congr s ((Device.completion_answered (d := s.dev.begun) (k := fun d cmd y => d.locateDone i cmd y)
    (g := fun _ => if y = .ok then some m else if y = .blank ∧ m = 0 then some 0 else none) ho rfl rfl can fault
    (positionAfter_locate hy)).trans ?_)
  simp only [Device.locateDone, Device.startReading, Device.drive_modDrive, Device.drive_begun, hp, ha,
    Device.setDrive, Device.modDrive_modDrive]

end

/-! #### A READ completed (R168) -/

section
variable {d : Device} {c : CartId} {p : Pass} {i : DriveId} {y : DriveResult} {bs : Bytes}

theorem Device.passRead_notReady (hp : d.pass? c = some p) : d.passRead c i .notReady bs = d.abandonPass c true := by
  simp only [Device.passRead, hp, if_true]

/-- A good block is buffered and its records handled (R168). -/
theorem Device.passRead_good (hp : d.pass? c = some p) {records : List TapeRecord}
    (hg : goodBlock bs p.readPos (((d.cart c).map fun x => x.serial).getD 0) = some records) :
    d.passRead c i .ok bs = ((d.modPass c fun p' =>
      { p' with
        buffer := some ⟨p.readPos, records⟩, retries := 0, readPos := p.readPos + 1 }).passGoOn c).pushIfReady i := by
  simp only [Device.passRead, hp, reduceCtorEq, if_false, if_true, hg]

/-- Any other result but NOT_READY is read again up to the read retries, and is then lost (R168). -/
theorem Device.passRead_bad (hp : d.pass? c = some p)
    (hy : (y = .ok ∧ goodBlock bs p.readPos (((d.cart c).map fun x => x.serial).getD 0) = none) ∨
      y = .mediumError ∨ y = .blank) :
    d.passRead c i y bs =
      if p.retries < d.readRetries c then
        (d.modPass c fun p => { p with retries := p.retries + 1 }).readOn i p.readPos
      else
        (((d.modPass c fun p' => { p' with retries := 0, readPos := p.readPos + 1 }).passLost c p.readPos).passGoOn
          c).pushIfReady i := by
  rcases hy with ⟨rfl, hg⟩ | rfl | rfl
  · simp only [Device.passRead, hp, reduceCtorEq, if_false, if_true, hg]
  · simp only [Device.passRead, hp, reduceCtorEq, if_false]
  · simp only [Device.passRead, hp, reduceCtorEq, if_false]

end

/-! #### Passes and parts changed (R168, R169) -/

section
variable {d : Device} {c : CartId} {p : Pass}

theorem Device.pass?_cart (hp : d.pass? c = some p) : p.cart = c := by simpa using List.find?_some hp

theorem Device.modPass_modPass {g h : Pass → Pass} (hg : ∀ x, (g x).cart = x.cart) :
    (d.modPass c g).modPass c h = d.modPass c fun x => h (g x) := by
  have passes : ((d.vu.passes.map fun x => if x.cart = c then g x else x).map fun x => if x.cart = c then h x else x) =
      d.vu.passes.map fun x => if x.cart = c then h (g x) else x := by
    rw [List.map_map]
    refine List.map_congr_left fun x _ => ?_
    by_cases hc : x.cart = c
    · simp only [Function.comp, hc, hg x, if_true]
    · simp only [Function.comp, hc, if_false]
  simp only [Device.modPass, passes]

/-- A decision made due and a pass changed, in either order. -/
theorem Device.modPass_post (t : Task) (g : Pass → Pass) : (d.post t).modPass c g = (d.modPass c g).post t := by
  unfold Device.post Device.modPass
  dsimp only
  split <;> rfl

/-- A part set BAD and a pass changed, in either order. -/
theorem Device.modPass_setBad (id : Nat) (g : Pass → Pass) :
    (d.setBad id).modPass c g = (d.modPass c g).setBad id := by
  have same : (d.modPass c g).part? id = d.part? id := rfl
  unfold Device.setBad
  rw [same]
  split
  · rfl
  · split
    · rfl
    · exact Device.modPass_post ..

/-- The verify unit is as it was after a part is set BAD. -/
theorem Device.setBad_vu (id : Nat) : (d.setBad id).vu = d.vu := by
  unfold Device.setBad
  split
  · rfl
  · split
    · rfl
    · rw [Device.post_vu]; rfl

/-- A part of a pass marked failed (R168, R169). -/
def Pass.failed (p : Pass) (id : Nat) : Pass :=
  { p with parts := p.parts.map fun q => if q.id = id then { q with failed := true } else q }

theorem Device.failPart_eq (id : Nat) : d.failPart c id = (d.modPass c fun p => p.failed id).setBad id := rfl

theorem Device.pass?_failPart (hp : d.pass? c = some p) (id : Nat) :
    (d.failPart c id).pass? c = some (p.failed id) := by
  rw [Device.failPart_eq, Device.pass?, Device.setBad_vu]
  exact Device.pass?_modPass hp fun _ => rfl

theorem Device.entry?_failPart (id : Nat) (x : CartId) : (d.failPart c id).entry? x = d.entry? x :=
  Device.entry?_of_list (by rw [Device.failPart_eq, Device.setBad_vu]; rfl) x

/-- A lost block fails the live parts that cover it (R168). -/
theorem Device.passLost_eq (hp : d.pass? c = some p) (n : Nat) : d.passLost c n =
    (p.parts.filter fun q => decide (q.firstBlock ≤ n ∧ n ≤ q.lastBlock ∧ q.failed = false)).foldl
      (fun d q => d.failPart c q.id) d := by
  simp only [Device.passLost, hp]
  congr 1
  refine List.filter_congr fun q _ => ?_
  simp [Bool.and_assoc]

end

/-! #### The part a record belongs to (R169) -/

/-- A part of the pass that covers a record of a block (R169). -/
def PassPart.covers (x : PassPart) (n : Nat) (q : TapeRecord) : Prop :=
  x.jobTag = q.jobTag ∧ x.firstSeq ≤ q.seq ∧ q.seq ≤ x.lastSeq ∧ x.firstBlock ≤ n ∧ n ≤ x.lastBlock

section
variable {parts : List PassPart} {n : Nat} {q : TapeRecord} {x : PassPart}

/-- The parts that cover a record, as the pass looks for them (R169). -/
def covering (parts : List PassPart) (n : Nat) (q : TapeRecord) : List PassPart :=
  parts.filter fun p =>
    p.jobTag == q.jobTag && p.firstSeq ≤ q.seq && q.seq ≤ p.lastSeq && p.firstBlock ≤ n && n ≤ p.lastBlock

theorem mem_covering : x ∈ covering parts n q ↔ x ∈ parts ∧ x.covers n q := by
  simp [covering, PassPart.covers, and_assoc]

theorem passPartOf_none (h : ∀ x ∈ parts, ¬x.covers n q) : passPartOf parts n q = none := by
  have empty : covering parts n q = [] :=
    List.eq_nil_iff_forall_not_mem.mpr fun x hx => h x (mem_covering.mp hx).1 (mem_covering.mp hx).2
  exact (congrArg (fun l : List PassPart => l.find? fun p => l.all fun x => p.id ≤ x.id) empty).trans rfl

/-- Of several parts that cover a record, it belongs to the one of the lowest id (R169). -/
theorem passPartOf_lowest (ids : (parts.map fun x => x.id).Nodup) (hx : x ∈ parts) (hc : x.covers n q)
    (low : ∀ y ∈ parts, y.covers n q → x.id ≤ y.id) : passPartOf parts n q = some x := by
  have lowest : ((covering parts n q).all fun y => x.id ≤ y.id) = true :=
    List.all_eq_true.mpr fun y hy => decide_eq_true (low y (mem_covering.mp hy).1 (mem_covering.mp hy).2)
  have found := (List.find?_isSome (p := fun p : PassPart => (covering parts n q).all fun y => p.id ≤ y.id)).mpr
    ⟨x, mem_covering.mpr ⟨hx, hc⟩, lowest⟩
  obtain ⟨z, hz⟩ := Option.isSome_iff_exists.mp found
  have zmem := mem_covering.mp (List.mem_of_find?_eq_some hz)
  have zleast := List.find?_some hz
  have zlow := List.all_eq_true.mp zleast x (mem_covering.mpr ⟨hx, hc⟩)
  have same : z.id = x.id := Nat.le_antisymm (of_decide_eq_true zlow) (low z zmem.1 zmem.2)
  rw [← List.inj_on_of_nodup_map ids zmem.1 hx same]
  exact hz

end

/-! #### The records of a block (R169) -/

section
variable {d : Device} {c : CartId} {p : Pass} {n order : Nat} {q : TapeRecord} {qs : List TapeRecord} {x : PassPart}

/-- A pass with another block buffered. -/
def Device.buffered (d : Device) (c : CartId) (b : Option Buffer) : Device :=
  d.modPass c fun p => { p with buffer := b }

/-- What a pass does with records of a block: it presents one, or is done with the block (R168, R169). -/
def Device.handles (d : Device) (c : CartId) (n order : Nat) (l : List TapeRecord) : Device :=
  let shown := Device.passRecords c n order l d
  if shown.2 then shown.1 else shown.1.passNextRead c

theorem Device.pass?_buffered (hp : d.pass? c = some p) (b : Option Buffer) :
    (d.buffered c b).pass? c = some { p with buffer := b } := Device.pass?_modPass hp fun _ => rfl

/-- A change of a pass that writes the buffer does not depend on the one before. -/
theorem Device.modPass_buffered {b : Option Buffer} {g : Pass → Pass} (hg : ∀ x, g { x with buffer := b } = g x) :
    (d.buffered c b).modPass c g = d.modPass c g := by
  rw [Device.buffered, Device.modPass_modPass (g := fun p => { p with buffer := b }) fun _ => rfl]
  simp only [hg]

theorem Device.failPart_buffered (b : Option Buffer) (id : Nat) :
    (d.buffered c b).failPart c id = (d.failPart c id).buffered c b := by
  rw [Device.buffered, Device.failPart_eq, Device.failPart_eq, Device.buffered, Device.modPass_setBad,
    Device.modPass_modPass (g := fun p => { p with buffer := b }) fun _ => rfl,
    Device.modPass_modPass (g := fun p => p.failed id) fun _ => rfl]
  rfl

/-- Which records a pass handles does not depend on what it has buffered. -/
theorem Device.passRecords_buffered (hp : d.pass? c = some p) (b : Option Buffer) (l : List TapeRecord) :
    Device.passRecords c n order l (d.buffered c b) = Device.passRecords c n order l d := by
  induction l generalizing d p with
  | nil => exact congrArg (·, false) (Device.modPass_buffered fun _ => rfl)
  | cons q qs ih =>
    have bad : ∀ id, (d.buffered c b).isBad id = d.isBad id := fun _ => rfl
    simp only [Device.passRecords, hp, Device.pass?_buffered hp, Option.bind_some, bad]
    split
    · exact ih hp
    · split
      · exact ih hp
      · split
        · rw [Device.modPass_buffered fun _ => rfl]
        · rw [Device.failPart_buffered]
          exact ih (Device.pass?_failPart hp _)

theorem Device.handles_buffered (hp : d.pass? c = some p) (b : Option Buffer) (l : List TapeRecord) :
    (d.buffered c b).handles c n order l = d.handles c n order l := by
  simp only [Device.handles, Device.passRecords_buffered hp]

/-- A part of the pass that has neither failed nor become BAD (R169). -/
theorem Device.live_iff : (x.failed || d.isBad x.id) = false ↔
    x.failed = false ∧ ∀ z, d.part? x.id = some z → z.state ≠ .bad := by
  simp [Device.isBad, Option.any_eq_false]

theorem Device.handles_skips (hp : d.pass? c = some p)
    (h : ∀ x, passPartOf p.parts n q = some x → (x.failed || d.isBad x.id) = true) :
    d.handles c n order (q :: qs) = d.handles c n order qs := by
  have skipped : Device.passRecords c n order (q :: qs) d = Device.passRecords c n order qs d := by
    cases hx : passPartOf p.parts n q with
    | none => simp only [Device.passRecords, hp, Option.bind_some, hx]
    | some x => simp only [Device.passRecords, hp, Option.bind_some, hx, h x hx, if_true]
  simp only [Device.handles, skipped]

variable (hp : d.pass? c = some p) (hx : passPartOf p.parts n q = some x) (live : (x.failed || d.isBad x.id) = false)

include hp hx live

theorem Device.handles_fails (hq : q.seq ≠ x.next) :
    d.handles c n order (q :: qs) = (d.failPart c x.id).handles c n order qs := by
  simp only [Device.handles, Device.passRecords, hp, Option.bind_some, hx, live, Bool.false_eq_true, if_false,
    if_neg hq]

theorem Device.handles_presents (hq : q.seq = x.next) :
    d.handles c n order (q :: qs) = (d.modPass c fun p =>
      { p with buffer := some ⟨n, q :: qs⟩, atXe := some (x.id, q) }).present (.pass c) q order := by
  simp only [Device.handles, Device.passRecords, hp, Option.bind_some, hx, live, Bool.false_eq_true, if_false,
    if_pos hq, if_true]

end

/-! #### A pass goes on (R168, R169) -/

section
variable {d : Device} {c : CartId} {p : Pass} {i : DriveId} {n : Nat} {q : TapeRecord} {l : List TapeRecord}

theorem Device.passNextRead_over (hp : d.pass? c = some p) (h : p.last < p.readPos) :
    d.passNextRead c = d.endPass c := by simp only [Device.passNextRead, hp, if_pos h]

theorem Device.passNextRead_reads (hp : d.pass? c = some p) (h : p.readPos ≤ p.last)
    (hi : d.driveOf (.verify c) = some i) : d.passNextRead c = d.readOn i p.readPos := by
  simp only [Device.passNextRead, hp, if_neg (Nat.not_lt.mpr h), hi]

theorem Device.passGoOn_waits (hp : d.pass? c = some p) (h : p.state ≠ .reading ∨ p.atXe ≠ none) :
    d.passGoOn c = d := by
  simp only [Device.passGoOn, hp]
  exact if_pos (by simpa [Option.isSome_iff_ne_none] using h)

/-- The age of a verify list entry, which its records are presented with (R36, R169). -/
def Device.entryAge (d : Device) (c : CartId) : Nat := ((d.entry? c).map fun e => e.order).getD 0

variable (hp : d.pass? c = some p) (hs : p.state = .reading) (hx : p.atXe = none)

include hp hs hx

theorem Device.passGoOn_empty (hb : p.buffer = none) : d.passGoOn c = d.passNextRead c := by
  have reads : (p.state != .reading || p.atXe.isSome) = false := by rw [hs, hx]; rfl
  simp only [Device.passGoOn, hp, reads, hb, Bool.false_eq_true, if_false]

theorem Device.passGoOn_handles (hb : p.buffer = some ⟨n, l⟩) : d.passGoOn c = d.handles c n (d.entryAge c) l := by
  have reads : (p.state != .reading || p.atXe.isSome) = false := by rw [hs, hx]; rfl
  simp only [Device.passGoOn, hp, reads, hb, Bool.false_eq_true, if_false]
  rfl

/-- A pass that goes on with the other records of its block (R169). -/
theorem Device.passGoOn_buffered :
    (d.buffered c (some ⟨n, l⟩)).passGoOn c = d.handles c n (d.entryAge c) l :=
  (Device.passGoOn_handles (Device.pass?_buffered hp _) (by exact hs) (by exact hx) rfl).trans
    (Device.handles_buffered hp _ _)

/-- A pass that goes on with the other records of its block after a part of it has failed (R169). -/
theorem Device.passGoOn_failed (id : Nat) :
    ((d.buffered c (some ⟨n, l⟩)).failPart c id).passGoOn c = (d.failPart c id).handles c n (d.entryAge c) l := by
  have age : (d.failPart c id).entryAge c = d.entryAge c := by rw [Device.entryAge, Device.entry?_failPart]; rfl
  rw [Device.failPart_buffered, Device.passGoOn_buffered (Device.pass?_failPart hp id) (by exact hs) (by exact hx), age]

end

/-! #### The result of a record (R40, R169) -/

section
variable {d : Device} {c : CartId} {p : Pass} {id : Nat} {q : TapeRecord} (hp : d.pass? c = some p)

/-- A pass with its record's result taken (R169). -/
def Device.passTaken (d : Device) (c : CartId) : Device :=
  d.modPass c fun p =>
    { p with atXe := none, kept := none, buffer := p.buffer.map fun b => { b with records := b.records.tail } }

include hp

theorem Device.resultToPass_reading (hs : p.state = .reading) (res : XeResult) :
    d.resultToPass c res = d.passResult c res := by simp only [Device.resultToPass, hp, if_pos hs]

variable (hx : p.atXe = some (id, q))

include hx

theorem Device.passResult_good (raw : Bytes) (crc : Word32) :
    d.passResult c (.good raw crc) = ((d.passTaken c).modPass c fun p => { p with
      parts := p.parts.map fun x =>
        if x.id = id then { x with acc := x.acc + crc, next := q.seq + 1 } else x }).passGoOn c := by
  simp only [Device.passResult, hp, hx]
  rfl

theorem Device.passResult_bad {res : XeResult} (h : ∀ raw crc, res ≠ .good raw crc) :
    d.passResult c res = ((d.passTaken c).failPart c id).passGoOn c := by
  simp only [Device.passResult, hp, hx]
  cases res with
  | good raw crc => exact absurd rfl (h raw crc)
  | _ => rfl

end

/-! #### The outcome of a part (R170) -/

section
variable {d : Device} {p : PassPart} {x : Part} (hx : d.part? p.id = some x)

include hx

theorem Device.isBad_iff : d.isBad p.id = true ↔ x.state = .bad := by simp [Device.isBad, hx]

theorem Device.settlePart_stays (h : p.failed = true ∨ x.state = .bad) : d.settlePart p = d :=
  if_pos (by rw [Bool.or_eq_true, Device.isBad_iff hx]; exact h)

variable (hf : p.failed = false) (hb : x.state ≠ .bad)

include hf hb

theorem Device.settlePart_live : d.settlePart p =
    if p.next = p.lastSeq + 1 ∧ x.check = p.acc then d.setVerified p.id else d.setBad p.id := by
  have live : ¬(p.failed || d.isBad p.id) = true := by
    rw [Bool.or_eq_true, Device.isBad_iff hx, hf]
    exact fun h => h.elim Bool.false_ne_true hb
  rw [Device.settlePart, if_neg live]
  simp only [hx, Option.any_some, beq_iff_eq]

end

/-! #### Pins (R78, R167, R170) -/

/-- Several part records changed in turn by a change that made twice is made once. -/
theorem Device.foldl_modPart {g : Part → Part} (hid : ∀ p, (g p).id = p.id) (hg : ∀ p, g (g p) = g p) (ids : List Nat)
    (d : Device) : ids.foldl (fun d id => d.modPart id g) d =
      { d with map := { d.map with parts := d.map.parts.map fun p => if p.id ∈ ids then g p else p } } := by
  induction ids generalizing d with
  | nil => simp
  | cons id ids ih =>
    have each : ∀ p : Part, (if (if p.id = id then g p else p).id ∈ ids then g (if p.id = id then g p else p)
        else if p.id = id then g p else p) = if p.id ∈ id :: ids then g p else p := by
      intro p
      by_cases h : p.id = id
      · simp only [h, if_true, hid, hg, ite_self, List.mem_cons_self]
      · simp only [h, if_false, List.mem_cons, false_or]
    rw [List.foldl_cons, ih]
    simp only [Device.modPart, List.map_map, Function.comp_def, each]

section
variable {d : Device} {c : CartId} {p : Pass}

/-- The parts of a pass with their verify pins given back (R170, R172). -/
theorem Device.foldl_unpinVerify (parts : List PassPart) (d : Device) :
    parts.foldl (fun d q => d.unpinVerify q.id) d = { d with
      map := { d.map with
        parts := d.map.parts.map fun x =>
          if x.id ∈ parts.map (fun q => q.id) then { x with verifyPin := false } else x } } :=
  List.foldl_map.symm.trans
    (Device.foldl_modPart (g := fun p => { p with verifyPin := false }) (fun _ => rfl) (fun _ => rfl) _ d)

/-- The parts a pass takes with their verify pins taken (R167). -/
theorem Device.foldl_pinVerify (parts : List Part) (d : Device) :
    parts.foldl (fun d q => d.pinVerify q.id) d = { d with
      map := { d.map with
        parts := d.map.parts.map fun x =>
          if x.id ∈ parts.map (fun q => q.id) then { x with verifyPin := true } else x } } :=
  List.foldl_map.symm.trans
    (Device.foldl_modPart (g := fun p => { p with verifyPin := true }) (fun _ => rfl) (fun _ => rfl) _ d)

/-! #### The end of a pass, and its abandonment (R170, R172) -/

theorem Device.endPass_eq (hp : d.pass? c = some p) :
    d.endPass c = ((((p.parts.foldl Device.settlePart d).freePass p).entryAfterPass c).endWorkOf (.verify c)).post
      .verifySchedule := by simp only [Device.endPass, hp]

theorem Device.abandonPass_eq (hp : d.pass? c = some p) (work : Bool) :
    d.abandonPass c work =
      (let d' := (((d.dropXe (.pass c)).dropContext (.verify c)).freePass p).modEntry c fun e =>
        { e with activity := .none }
      if work then d'.endWorkOf (.verify c) else d').post .verifySchedule := by
  simp only [Device.abandonPass, hp]

/-- A context freed changes no more than pins, the passes and the agenda (R170, R172). -/
theorem Device.freePass_eq (d : Device) (p : Pass) : ∃ agenda, .arbiter ∈ agenda ∧ d.freePass p = { d with
    map := { d.map with
      parts := d.map.parts.map fun x =>
        if x.id ∈ p.parts.map (fun q => q.id) then { x with verifyPin := false } else x }
    vu := { d.vu with passes := d.vu.passes.filter fun x => x.cart != p.cart }
    agenda } := by
  refine ⟨_, Device.mem_post (d := { p.parts.foldl (fun d q => d.unpinVerify q.id) d with
    vu := { (p.parts.foldl (fun d q => d.unpinVerify q.id) d).vu with
      passes := (p.parts.foldl (fun d q => d.unpinVerify q.id) d).vu.passes.filter fun x => x.cart != p.cart } })
    .arbiter, ?_⟩
  rw [Device.freePass, Device.post_eq, Device.foldl_unpinVerify]

/-- What an abandoned pass has given up before the work of its drive ends (R172). -/
structure Device.PassLeft (d d' : Device) (c : CartId) (p : Pass) : Prop where
  pass : d'.pass? c = none
  xe : ∀ q ∈ d'.xe.requests, q.client ≠ .pass c
  stack : ∀ i, ∀ k ∈ (d'.drive i).stack, k.work ≠ .verify c
  pins : ∀ q ∈ p.parts, ∀ x, d'.part? q.id = some x → x.verifyPin = false
  entry : ∀ e, d.entry? c = some e → d'.entry? c = some { e with activity := .none }
  others : ∀ y, y ≠ c → d'.entry? y = d.entry? y
  arbiter : Task.arbiter ∈ d'.agenda

/-- What follows brings nothing of the pass back. -/
theorem Device.PassLeft.mono {a b : Device} (h : d.PassLeft a c p) (list : a.KeepsList b) (shrinks : a.Shrinks b)
    (map : b.map = a.map) : d.PassLeft b c p where
  pass := list.pass?_none h.pass
  xe q hq := h.xe q (shrinks.xe q hq)
  stack i k hk := h.stack i k (shrinks.stack i k hk)
  pins q hq x hx := h.pins q hq x (by rw [Device.part?, ← map]; exact hx)
  entry e he := (list.entry? c).trans (h.entry e he)
  others y hy := (list.entry? y).trans (h.others y hy)
  arbiter := list.agenda _ h.arbiter

/-- The record, the contexts, the pins, the context and the activity of an abandoned pass are given up (R172). -/
theorem Device.passLeft (hc : p.cart = c) : d.PassLeft
    ((((d.dropXe (.pass c)).dropContext (.verify c)).freePass p).modEntry c fun e => { e with activity := .none })
    c p := by
  have kept := Device.KeepsList.dropContext (d.dropXe (.pass c)) (.verify c)
  have stack := Device.dropContext_stack (d.dropXe (.pass c)) (.verify c)
  obtain ⟨xe, -, -⟩ := (d.dropXe (.pass c)).dropContext_rest (.verify c)
  generalize (d.dropXe (.pass c)).dropContext (.verify c) = a at kept stack xe
  have entry : ∀ y, a.entry? y = d.entry? y := kept.entry?
  obtain ⟨agenda, arbiter, freed⟩ := a.freePass_eq p
  have list : ∀ y, (a.freePass p).entry? y = a.entry? y := Device.entry?_of_list (by rw [freed])
  obtain ⟨l, modified⟩ := (a.freePass p).modEntry_list c fun e => { e with activity := .none }
  constructor
  case pass =>
    rw [modified, freed]
    exact List.find?_eq_none.mpr fun x hx => by simpa [hc] using (List.mem_filter.mp hx).2
  case xe =>
    rw [modified, freed]
    intro q hq
    have hq : q ∈ (d.dropXe (.pass c)).xe.requests := xe ▸ hq
    simpa using (List.mem_filter.mp hq).2
  case stack =>
    rw [modified, freed]
    intro i k hk
    have hk : k ∈ (a.drive i).stack := hk
    rw [stack] at hk
    simpa using (List.mem_filter.mp hk).2
  case pins =>
    rw [modified, freed]
    intro q hq x hx
    have id := Device.part?_id hx
    obtain ⟨z, -, hz⟩ := List.mem_map.mp (List.mem_of_find?_eq_some hx)
    have zid : z.id = x.id := by rw [← hz]; split <;> rfl
    rw [if_pos (by rw [zid, id]; exact List.mem_map_of_mem hq)] at hz
    rw [← hz]
  case entry =>
    exact fun e he => Device.entry?_modEntry (by rw [list, entry]; exact he) rfl
  case others =>
    exact fun y hy => (Device.entry?_modEntry_ne (g := fun e => { e with activity := .none }) hy fun _ => rfl).trans
      ((list y).trans (entry y))
  case arbiter =>
    rw [modified, freed]
    exact arbiter

/-- An abandoned pass is given up, and the scheduling decision is due (R172). -/
theorem Device.abandonPass_leaves (hp : d.pass? c = some p) (work : Bool) :
    d.PassLeft (d.abandonPass c work) c p ∧ Task.verifySchedule ∈ (d.abandonPass c work).agenda := by
  have left := Device.passLeft (d := d) (Device.pass?_cart hp)
  rw [Device.abandonPass_eq hp]
  refine ⟨.mono (a := if work then _ else _) ?_ (.post _ _) ?_ ?_, Device.mem_post ..⟩
  · cases work with
    | false => exact left
    | true =>
      obtain ⟨shrinks, map, -⟩ := Device.endWorkOf_gives _ (.verify c)
      exact left.mono (.endWorkOf _ _) shrinks map
  · obtain ⟨xe, drives, arb, -⟩ := Device.post_other _ .verifySchedule
    exact .of_eq xe drives arb
  · exact (Device.post_other ..).2.2.2

end

/-! #### The start of a pass (R167) -/

/-- Part p may stand before part q in the order of a pass (R167). -/
def Part.notAfter (p q : Part) : Prop := p.firstBlock < q.firstBlock ∨ (p.firstBlock = q.firstBlock ∧ p.id ≤ q.id)

theorem insertCandidate_perm (p : Part) (l : List Part) : (insertCandidate p l).Perm (p :: l) := by
  induction l with
  | nil => exact .refl _
  | cons q l ih =>
    unfold insertCandidate
    split
    · exact .refl _
    · exact (ih.cons q).trans (.swap p q l)

theorem insertCandidate_sorted {p : Part} {l : List Part} (h : l.Pairwise Part.notAfter) :
    (insertCandidate p l).Pairwise Part.notAfter := by
  induction l with
  | nil => exact List.pairwise_singleton _ _
  | cons q l ih =>
    obtain ⟨hq, hl⟩ := List.pairwise_cons.mp h
    unfold insertCandidate
    split
    · next hp =>
      simp only [Bool.or_eq_true, Bool.and_eq_true, decide_eq_true_eq, beq_iff_eq] at hp
      refine List.pairwise_cons.mpr ⟨fun z hz => ?_, h⟩
      rcases List.mem_cons.mp hz with rfl | hz
      · unfold Part.notAfter; omega
      · have := hq z hz
        unfold Part.notAfter at *; omega
    · next hp =>
      simp only [Bool.or_eq_true, Bool.and_eq_true, decide_eq_true_eq, beq_iff_eq] at hp
      refine List.pairwise_cons.mpr ⟨fun z hz => ?_, ih hl⟩
      rcases List.mem_cons.mp ((insertCandidate_perm p l).mem_iff.mp hz) with rfl | hz
      · unfold Part.notAfter; omega
      · exact hq z hz

theorem candidates_sorted (l : List Part) :
    (l.foldr insertCandidate []).Perm l ∧ (l.foldr insertCandidate []).Pairwise Part.notAfter := by
  induction l with
  | nil => exact ⟨.refl _, .nil⟩
  | cons p l ih => exact ⟨(insertCandidate_perm p _).trans (ih.1.cons p), insertCandidate_sorted ih.2⟩

theorem foldl_max_spec (l : List Nat) (m : Nat) :
    m ≤ l.foldl max m ∧ (∀ a ∈ l, a ≤ l.foldl max m) ∧ (l.foldl max m = m ∨ l.foldl max m ∈ l) :=
  foldl_extreme (R := (· ≥ ·)) Nat.le_refl (fun h g => Nat.le_trans g h) Nat.le_max_left Nat.le_max_right max_choice l m

section
variable {d : Device} {c : CartId} {e : VerifyEntry} {i : DriveId}

/-- The candidates of a pass, in the rule's words (R167, step 1). -/
theorem Device.candidates_eq (d : Device) (c : CartId) (forced : Option Nat) : d.candidates c forced =
    d.map.parts.filter fun p => decide
      (p.cart = c ∧ (p.state = .closed ∨ p.state = .suspect) ∧ (forced ≠ none ∨ 0 < d.interval c)) := by
  cases forced with
  | some t =>
    refine (List.filter_filter ..).trans (List.filter_congr fun p _ => Bool.eq_iff_iff.mpr ?_)
    simp [Part.unsettled_iff, and_comm]
  | none =>
    refine (List.filter_filter ..).trans (List.filter_congr fun p _ => Bool.eq_iff_iff.mpr ?_)
    simp only [Device.partDue, Bool.and_eq_true, Part.unsettled_iff, decide_eq_true_eq, beq_iff_eq]
    constructor
    · rintro ⟨⟨hu, hi⟩, rfl⟩; exact ⟨rfl, hu, .inr hi⟩
    · rintro ⟨rfl, hu, hi⟩; exact ⟨⟨hu, hi.resolve_left fun h => h rfl⟩, rfl⟩

/-- The parts a pass takes: of the first 64 candidates, those without a verify pin (R167, steps 2 and 3). -/
theorem Device.passParts_eq (d : Device) (c : CartId) (forced : Option Nat) : d.passParts c forced =
    (((d.candidates c forced).foldr insertCandidate []).take 64).filter fun p => !p.verifyPin := by
  refine List.filter_congr fun p hp => ?_
  have hp := (candidates_sorted _).1.mem_iff.mp (List.mem_of_mem_take hp)
  rw [Device.candidates_eq] at hp
  obtain ⟨-, hu, -⟩ := of_decide_eq_true (List.mem_filter.mp hp).2
  rcases hu with h | h <;> simp [Part.verifyPinFree, h]

/-- The first block of the parts a pass takes (R167, step 4). -/
def firstOf (taken : List Part) : Nat := (taken.map fun p => p.firstBlock).foldl min Config.max32

/-- The last block of the parts a pass takes (R167, step 4). -/
def lastOf (taken : List Part) : Nat := (taken.map fun p => p.lastBlock).foldl max 0

/-- The range of a pass reaches from the smallest first block of its parts to the largest last one (R167). -/
theorem passRange {taken : List Part} (some : taken ≠ []) (small : ∀ p ∈ taken, p.firstBlock ≤ Config.max32) :
    (∀ p ∈ taken, firstOf taken ≤ p.firstBlock ∧ p.lastBlock ≤ lastOf taken) ∧
      (∃ p ∈ taken, p.firstBlock = firstOf taken) ∧ ∃ p ∈ taken, p.lastBlock = lastOf taken := by
  obtain ⟨-, least, first⟩ := foldl_min_spec (taken.map fun p => p.firstBlock) Config.max32
  obtain ⟨-, greatest, last⟩ := foldl_max_spec (taken.map fun p => p.lastBlock) 0
  have bounds : ∀ p ∈ taken, firstOf taken ≤ p.firstBlock ∧ p.lastBlock ≤ lastOf taken := fun p hp =>
    ⟨least _ (List.mem_map_of_mem hp), greatest _ (List.mem_map_of_mem hp)⟩
  obtain ⟨q, hq⟩ := List.exists_mem_of_ne_nil _ some
  refine ⟨bounds, ?_, ?_⟩
  · rcases first with h | h
    · exact ⟨q, hq, Nat.le_antisymm ((small q hq).trans h.ge) (bounds q hq).1⟩
    · exact List.mem_map.mp h
  · rcases last with h | h
    · exact ⟨q, hq, Nat.le_antisymm (bounds q hq).2 (h.le.trans (Nat.zero_le _))⟩
    · exact List.mem_map.mp h

/-- A pass at its start, with the parts it takes (R167, step 4). -/
def newPass (c : CartId) (i : DriveId) (taken : List Part) : Pass :=
  { cart := c, drive := i, state := .positioning, parts := taken.map PassPart.of, first := firstOf taken,
    last := lastOf taken, readPos := firstOf taken }

/-- A device with a pass entered and its parts pinned (R167, steps 3 and 4). -/
def Device.passHeld (d : Device) (c : CartId) (taken : List Part) (p : Pass) : Device :=
  ({ d with
    map := { d.map with
      parts := d.map.parts.map fun x =>
        if x.id ∈ taken.map (fun q => q.id) then { x with verifyPin := true } else x }
    vu := { d.vu with passes := d.vu.passes ++ [p] } } : Device).modEntry c fun e => { e with activity := .pass }

theorem Device.passHeld_rest (taken : List Part) (p : Pass) :
    (d.passHeld c taken p).drives = d.drives ∧ (d.passHeld c taken p).mu = d.mu := by
  obtain ⟨l, hl⟩ := Device.modEntry_list _ c fun e => { e with activity := .pass }
  rw [Device.passHeld, hl]
  exact ⟨rfl, rfl⟩

theorem Device.passStart_eq (he : d.entry? c = some e) {taken : List Part} (ht : d.passParts c e.forced = taken) :
    d.passStart c i =
      if taken = [] then (d.passHeld c taken (newPass c i taken)).endPass c
      else ((d.passHeld c taken (newPass c i taken)).modDrive i fun x =>
        { x with state := .positioning, active := some (.verify c), phase := .startLocate, idleSince := none }).issue i
        (.locate (firstOf taken)) := by
  subst ht
  simp only [Device.passStart, he, Device.foldl_pinVerify]
  rfl

/-- The LOCATE of a pass's start: the drive, which works for it already, is POSITIONING (R167, step 5). -/
theorem Device.passStart_locates {h : Device} (ha : (h.drive i).active = some (.verify c)) (n : Nat) :
    (h.modDrive i fun x =>
      { x with state := .positioning, active := some (.verify c), phase := .startLocate, idleSince := none }).issue i
      (.locate n) = h.modDrive i fun x =>
        { x with
          state := .positioning, phase := .startLocate, idleSince := none,
          outstanding := x.outstanding ++ [⟨x.cmdNo, h.mu.elapsed, .locate n⟩], cmdNo := x.cmdNo + 1 } := by
  refine (Device.modDrive_modDrive _ _).trans (Device.modDrive_congr ?_)
  rw [← ha]
  rfl

end

/-! #### The obligation -/

/-- Settles O58: a completion is handed to the pass at work; what a pass does with the records of a block follows the
part each belongs to, whatever it has buffered; and a start, an end and an abandonment are one change each of the map,
the passes and the entry. -/
theorem aPassReadsComparesAndEnds : Obligations.APassReadsComparesAndEnds := by
  unfold Obligations.APassReadsComparesAndEnds
  refine ⟨⟨?read, ?fails, ?goesOn, ?result, ?settles, ?ends⟩, ?starts, ?located⟩
  case read =>
    intro s i n t m c p ho hp ha hpass block serial d goesOn handled
    have drive : ∀ q, (d q).drive i = { s.dev.drive i with outstanding := [], position := q } := fun q =>
      Device.drive_modDrive i _
    have found : ∀ q, (d q).pass? c = some p := fun _ => hpass
    have handles : ∀ x : Device, (x.passGoOn c).pushIfReady i = handled x := fun x => Device.pushIfReady_eq
    refine ⟨fun bs => ?_, fun bs records hg => ?_, fun bs y hy => ?_⟩
    · refine (exec_readCompletion_pass ho hp ha (.inr (.inr (.inl rfl))) bs rfl).trans (congrArg goesOn ?_)
      exact Device.passRead_notReady (found _)
    · refine (exec_readCompletion_pass ho hp ha (.inl rfl) bs rfl).trans (congrArg goesOn ?_)
      exact (Device.passRead_good (found _) hg).trans (handles _)
    · intro at_ kept
      have hu : unfaulted y := by
        rcases hy with ⟨rfl, -⟩ | rfl | rfl
        exacts [.inl rfl, .inr (.inl rfl), .inr (.inr (.inr rfl))]
      have done := (exec_readCompletion_pass ho hp ha hu bs rfl).trans
        (congrArg goesOn (Device.passRead_bad (d := d at_) (found _) hy))
      have port : (kept.drive i).outstanding = [] ∧ (kept.drive i).suspendFor = (s.dev.drive i).suspendFor := by
        rw [show kept.drive i = (d at_).drive i from rfl, drive]
        exact ⟨rfl, rfl⟩
      refine ⟨fun again => ⟨fun hs => ?_, fun hs => ?_⟩, fun spent => ?lost⟩
      · refine done.trans (congrArg goesOn ((if_pos again).trans ((Device.readOn_free (port.2.trans hs)).trans ?_)))
        refine Device.modDrive_congr ?_
        rw [port.1, List.nil_append]
        rfl
      · have suspended : (kept.drive i).suspendFor ≠ none := port.2 ▸ hs
        exact done.trans (congrArg goesOn ((if_pos again).trans (Device.readOn_suspended suspended)))
      case lost => exact done.trans (congrArg goesOn ((if_neg (Nat.not_lt.mpr spent)).trans (handles _)))
  case fails => exact fun d c id => ⟨rfl, fun n p hp => Device.passLost_eq hp n⟩
  case goesOn =>
    intro d c p hp order belongs owner live buffered
    have dead : ∀ x, ¬live x → (x.failed || d.isBad x.id) = true := fun x h =>
      Bool.of_not_eq_false fun hf => h (Device.live_iff.mp hf)
    refine ⟨Device.passGoOn_waits hp, fun hs hx => ⟨fun hb h => ?_, fun i hb h hi => ⟨fun hsus => ?_, fun hsus => ?_⟩,
      fun n hb => ?_, fun n q qs hb ids => ?_⟩⟩
    · exact (Device.passGoOn_empty hp hs hx hb).trans (Device.passNextRead_over hp h)
    · exact (Device.passGoOn_empty hp hs hx hb).trans
        ((Device.passNextRead_reads hp h hi).trans (Device.readOn_suspended hsus))
    · exact (Device.passGoOn_empty hp hs hx hb).trans
        ((Device.passNextRead_reads hp h hi).trans (Device.readOn_free hsus))
    · exact (Device.passGoOn_handles hp hs hx hb).trans
        (Device.passGoOn_empty (Device.pass?_buffered hp none) (by exact hs) (by exact hx) rfl).symm
    · intro next
      have here := Device.passGoOn_handles hp hs hx hb
      have rest : next = d.handles c n order qs := Device.passGoOn_buffered hp hs hx
      refine ⟨fun none => ?_, fun x hx' => ?_⟩
      · have nobody := passPartOf_none fun x hm hc => none x ⟨hm, hc⟩
        exact here.trans ((Device.handles_skips hp fun x h => by rw [nobody] at h; cases h).trans rest.symm)
      · obtain ⟨⟨hm, hc⟩, low⟩ := hx'
        have part := passPartOf_lowest ids hm hc fun y hy hyc => low y ⟨hy, hyc⟩
        refine ⟨fun h => ?_, fun h hq => ?_, fun h hq => ?_⟩
        · exact here.trans ((Device.handles_skips hp fun z hz =>
            Option.some.inj (part.symm.trans hz) ▸ dead x h).trans rest.symm)
        · exact here.trans ((Device.handles_fails hp part (Device.live_iff.mpr h) hq).trans
            (Device.passGoOn_failed hp hs hx x.id).symm)
        · exact here.trans (Device.handles_presents hp part (Device.live_iff.mpr h) hq)
  case result =>
    intro d c p id q hp hx hs taken
    exact ⟨fun raw crc => (Device.resultToPass_reading hp hs _).trans (Device.passResult_good hp hx raw crc),
      fun res h => (Device.resultToPass_reading hp hs res).trans (Device.passResult_bad hp hx h)⟩
  case settles =>
    intro d p x hx
    refine ⟨Device.settlePart_stays hx, fun hf hb => ⟨fun hn hc => ?_, fun h => ?_⟩⟩
    · exact (Device.settlePart_live hx hf hb).trans (if_pos ⟨hn, hc⟩)
    · exact (Device.settlePart_live hx hf hb).trans (if_neg fun ⟨hn, hc⟩ => h.elim (· hn) (· hc))
  case ends =>
    intro d c p hp freed
    refine ⟨Device.endPass_eq hp, fun work _ => ?_⟩
    obtain ⟨left, scheduled⟩ := Device.abandonPass_leaves hp work
    exact ⟨left.pass, left.xe, left.stack, left.pins, left.entry, left.others, scheduled, left.arbiter⟩
  case starts =>
    intro d c i e ha he small interval candidates
    have chosen : d.candidates c e.forced = candidates := Device.candidates_eq d c e.forced
    obtain ⟨perm, sorted⟩ := candidates_sorted candidates
    refine ⟨candidates.foldr insertCandidate [], firstOf (d.passParts c e.forced),
      lastOf (d.passParts c e.forced), perm, sorted, ?_⟩
    intro taken pass held
    have parts : d.passParts c e.forced = taken := by rw [Device.passParts_eq, chosen]
    have entered : held = d.passHeld c taken (newPass c i taken) := by simp only [held, pass, parts]; rfl
    have start : d.perform (.serve i (.verify c)) = _ := (if_pos ha).trans (Device.passStart_eq he parts)
    rw [← entered] at start
    refine ⟨fun none => start.trans (if_pos none), fun some => ?_⟩
    have taken_mem : ∀ p ∈ taken, p ∈ d.map.parts := fun p hp =>
      (List.mem_filter.mp (perm.mem_iff.mp (List.mem_of_mem_take (List.mem_filter.mp hp).1))).1
    obtain ⟨drives, mu⟩ : held.drives = d.drives ∧ held.mu = d.mu := entered ▸ Device.passHeld_rest ..
    have working : (held.drive i).active = .some (.verify c) := by rw [Device.drive, drives]; exact ha
    rw [parts]
    obtain ⟨bounds, first, last⟩ := passRange some fun p hp => small p (taken_mem p hp)
    refine ⟨bounds, first, last, (start.trans (if_neg some)).trans ((Device.passStart_locates working _).trans ?_)⟩
    rw [mu]
  case located =>
    intro s i n t m c y ho hp ha hy found
    exact exec_locateCompletion_pass ho hp ha hy

end Sys2Proof.Machine

/-! ### O1 and O4: a step, and the reset state -/

namespace Sys2Proof.Machine

/-- Settles O1: the two branches of `step`. -/
theorem stepCarriesOutTheFrontCommand : Obligations.StepCarriesOutTheFrontCommand :=
  ⟨fun c rest s h => by simp only [step, h], fun s h => by simp only [step, h]⟩

/-- The parameters' power-on values stand in their ranges (Table 0-4). -/
theorem Params.powerOn_legal : Params.Legal {} := by
  intro k; cases k <;> decide

theorem Pool.scratch_legal : Pool.scratch.Legal :=
  ⟨by decide, by decide, by decide, by decide⟩

theorem Pool.data_legal : Pool.data.Legal :=
  ⟨by decide, by decide, by decide, by decide⟩

/-- The pools at power-on, one by one (Table 5-3). -/
theorem Device.powerOn_pool (door hold : Bool) (p : PoolId) :
    (Device.powerOn door hold).pool p = if p = 0 then Pool.scratch else Pool.data := by
  by_cases hp : p = 0
  · subst hp; rfl
  · have : ¬0 = p.val := fun h => hp (Fin.ext h.symm)
    simp [Device.pool, Device.powerOn, hp, this]

/-- The power-on values stand in their ranges. -/
theorem Device.powerOn_legal (door hold : Bool) : (Device.powerOn door hold).fixed.Legal where
  params := Params.powerOn_legal
  time := Nat.zero_le _
  errors := Nat.zero_le _
  scratch := rfl
  pools p := by
    show ((Device.powerOn door hold).pool p).Legal
    rw [Device.powerOn_pool]
    split
    · exact Pool.scratch_legal
    · exact Pool.data_legal

/-- Settles O4: reset is power-on with both lines inactive, and the power-on values keep all three. -/
theorem resetStandsInItsRangesAndTables : Obligations.ResetStandsInItsRangesAndTables :=
  ⟨Device.powerOn_legal false false, Device.powerOn_sound false false, Device.powerOn_lawful false false⟩

end Sys2Proof.Machine

/-! ### O3: the power-on values -/

namespace Sys2Proof.Machine

/-- The events at power-on (R180, R186). -/
theorem Device.powerOn_event (door hold : Bool) (k : EventKind) :
    (Device.powerOn door hold).event k = if k = .powerOn then some ⟨1, .number 0⟩ else none := by
  cases k <;> rfl

/-- Settles O3: each field is read off `Device.powerOn`. -/
theorem powerOnGivesEveryBlockItsValues : Obligations.PowerOnGivesEveryBlockItsValues := by
  refine ⟨fun door hold s => ⟨Device.powerOn door hold, rfl, rfl, fun c => ?_, rfl, rfl, rfl, rfl, rfl, rfl, rfl, rfl,
    rfl, fun f => ?_, rfl, rfl, rfl, fun c => ?_, ?_, fun p hp => ?_, fun e => ?_, rfl, rfl, fun i => ?_, rfl, rfl,
    rfl, rfl, rfl, rfl, ?_, fun k hk => ?_, rfl, rfl, fun r => ?_, rfl, rfl, rfl, rfl⟩, rfl⟩
  · simp [Device.stream, Device.powerOn]
  · simp [Device.feed, Device.powerOn]
  · simp [Device.row, Device.powerOn]
  · exact Device.powerOn_pool door hold 0
  · rw [Device.powerOn_pool, if_neg hp]; rfl
  · simp [Device.elem, Device.powerOn]
  · simp [Device.drive, Device.powerOn, Drive.powerOn]
  · exact Device.powerOn_event door hold .powerOn
  · rw [Device.powerOn_event, if_neg hk]
  · simp [Device.grants, Device.powerOn]

end Sys2Proof.Machine

/-! ### O17: events raised, and POLL (R180, R181) -/

namespace Sys2Proof.Machine

/-- Table 10-3 lists every kind at its index. -/
theorem allEvents_index (k : EventKind) : allEvents[k.index.val]? = some k := by cases k <;> rfl

theorem EventKind.index_injective : Function.Injective EventKind.index := fun j k h =>
  Option.some.inj ((allEvents_index j).symm.trans (h ▸ allEvents_index k))

/-- A kind's event after another kind's was raised (R180). -/
theorem Device.raise_event_other {d : Device} {j k : EventKind} (a : EventArg) (h : j ≠ k) :
    (d.raise k a).event j = d.event j := by
  have hv : ¬k.index.val = j.index.val := fun e => h (EventKind.index_injective (Fin.ext e.symm))
  simp [Device.raise, Device.setEvent, Device.event, hv]

/-- Every kind stands in the priority of Table 10-3 at its index. -/
theorem EventKind.allEvents_split (k : EventKind) :
    allEvents = allEvents.take k.index ++ k :: allEvents.drop (k.index + 1) := by
  cases k <;> rfl

/-- What stands before a kind in the priority of Table 10-3 has a smaller index. -/
theorem EventKind.index_lt_of_before (k : EventKind) : ∀ j ∈ allEvents.take k.index, j.index < k.index := by
  cases k <;> decide

/-- The pending kind of highest priority (R181). -/
theorem Device.topEvent_eq_some {d : Device} {k : EventKind} {e : Event} (he : d.event k = some e)
    (first : ∀ j : EventKind, j.index < k.index → d.event j = none) : d.topEvent = some (k, e) :=
  List.findSome?_eq_some_iff.mpr ⟨_, k, _, k.allEvents_split, by rw [he]; rfl, fun j hj => by
    rw [first j (k.index_lt_of_before j hj)]; rfl⟩

theorem Device.topEvent_eq_none {d : Device} (none : ∀ k, d.event k = none) : d.topEvent = .none :=
  List.findSome?_eq_none_iff.mpr fun k _ => by rw [none k]; rfl

/-- Settles O17: a raise by whether its kind is pending, and the two answers of POLL. -/
theorem eventsCountAndArePolled : Obligations.EventsCountAndArePolled := by
  refine ⟨fun d k a => ⟨fun h => ?_, fun e h => ?_, fun j hj => Device.raise_event_other a hj, rfl⟩,
    fun s tag up => ⟨fun k e he first => ?_, fun none => ?_⟩⟩
  · rw [Device.event_raise, h]; rfl
  · rw [Device.event_raise, h]; rfl
  · rw [exec, execPoll, State.inbound_up up, State.just_eq]
    simp only [Device.poll, Device.topEvent_eq_some he first]
    rfl
  · rw [exec, execPoll, State.inbound_up up, State.just_eq]
    simp only [Device.poll, Device.topEvent_eq_none none]
    rfl

end Sys2Proof.Machine

/-! ### What the commands' own changes do to the fixed part of the device (R98, R176, R177, R179) -/

namespace Sys2Proof.Machine

@[simp] theorem Device.linkError_fixed (d : Device) :
    d.linkError.fixed = { d.fixed with errors := min 65535 (d.fixed.errors + 1) } := rfl

@[simp] theorem Device.sendFrame_fixed (d : Device) (f : OutFrame) (rest : List OutFrame) :
    (d.sendFrame f rest).fixed = { d.fixed with wire := some (f.bytes d.attention) } := by
  rw [Device.sendFrame, Device.freeMarked_fixed]; rfl

@[simp] theorem Device.loadPool_fixed (d : Device) (tag : Tag) (p : PoolId) (a : PoolArgs) :
    (d.loadPool tag p a).fixed = { d.fixed with pools := d.fixed.pools.set p ((d.pool p).load a) } := by
  simp only [Device.loadPool, Device.poolEffects_fixed, Device.respond_fixed]; rfl

/-- SET_PARAM writes the clamped value, and a value that does not change is written all the same (R177). -/
@[simp] theorem Device.setParam_fixed (d : Device) (tag : Tag) (k : Param) (v : Nat) :
    (d.setParam tag k v).fixed = { d.fixed with params := d.fixed.params.put k (clampParam k v) } := by
  unfold Device.setParam
  dsimp only
  split
  · rename_i same
    have : d.mu.params.put k (clampParam k v) = d.mu.params := by rw [same]; cases k <;> rfl
    rw [Device.respond_fixed]
    simp only [Device.fixed, this]
  · rw [Device.paramEffects_fixed]; rfl

@[simp] theorem Device.setTime_fixed (d : Device) (tag : Tag) (v : Nat) :
    (d.setTime tag v).fixed = { d.fixed with time := v } := by
  rw [Device.setTime, Device.timeChanged_fixed]; rfl

@[simp] theorem Device.second_fixed (d : Device) :
    d.second.fixed =
      { d.fixed with time := min Config.max32 (d.fixed.time + 1), elapsed := d.fixed.elapsed + 1 } := by
  rw [Device.second, Device.timeChanged_fixed]; rfl

@[simp] theorem Device.removeEmptied_fixed (d : Device) : d.removeEmptied.fixed = d.fixed := by
  refine Device.fixed_foldl _ (fun d f => ?_) _ _
  split <;> simp

@[simp] theorem Device.linkReset_fixed (d : Device) : d.linkReset.fixed = { d.fixed with errors := 0 } := by
  have streams : (allStreams.foldl (fun d c => if (d.stream c).state = .closed then d else d.abort c) d).fixed =
      d.fixed := Device.fixed_foldl _ (fun d c => by split <;> simp) _ _
  have cleared (x : Device) :
      ({ x with link := { x.link with grants := .replicate 8 0, errors := 0 } } : Device).fixed =
        { x.fixed with errors := 0 } := rfl
  refine (cleared _).trans (congrArg (fun y : Fixed => { y with errors := 0 }) ?_)
  rw [Device.cancelRestores_fixed, Device.removeEmptied_fixed, streams]

@[simp] theorem Device.doorOpens_fixed (d : Device) : d.doorOpens.fixed = { d.fixed with doorOpen := true } := by
  simp [Device.doorOpens, Device.fixed_changer]; rfl

@[simp] theorem Device.doorCloses_fixed (d : Device) : d.doorCloses.fixed = { d.fixed with doorOpen := false } := by
  simp [Device.doorCloses, Device.fixed_changer]; rfl

end Sys2Proof.Machine

/-! ### What settling does (spec/95) -/

namespace Sys2Proof.Machine

section
variable {d : Device}

theorem Device.settleLoop_of_quiet (h : d.Quiet) (n : Nat) : d.settleLoop n = d := by
  cases n with
  | zero => rfl
  | succ n => rw [Device.settleLoop, show d.agenda = [] from h]

theorem Device.settle_of_quiet (h : d.Quiet) : d.settle = d := Device.settleLoop_of_quiet h _

/-- The oldest decision is carried out first. -/
theorem Device.settleLoop_succ {t : Task} {ts : List Task} (h : d.agenda = t :: ts) (n : Nat) :
    d.settleLoop (n + 1) = (({ d with agenda := ts } : Device).perform t).settleLoop n := by
  rw [Device.settleLoop, h]

/-- A device that is settled after some decisions stays as it is, whatever more the bound allows. -/
theorem Device.settleLoop_stable {n m : Nat} (h : (d.settleLoop n).Quiet) (le : n ≤ m) :
    d.settleLoop m = d.settleLoop n := by
  induction n generalizing d m with
  | zero => exact Device.settleLoop_of_quiet h m
  | succ n ih =>
    cases ha : d.agenda with
    | nil => rw [Device.settleLoop_of_quiet ha, Device.settleLoop_of_quiet ha]
    | cons t ts =>
      obtain ⟨m, rfl⟩ : ∃ k, m = k + 1 := ⟨m - 1, by omega⟩
      rw [Device.settleLoop_succ ha] at h ⊢
      rw [Device.settleLoop_succ ha, ih h (by omega)]

/-- Settling is the oldest decision, and settling what it leaves, where the bound suffices for them all. -/
theorem Device.settleLoop_first {t : Task} {ts : List Task} {n : Nat} (ha : d.agenda = t :: ts)
    (h : (d.settleLoop (n + 1)).Quiet) :
    d.settleLoop (n + 1) = (({ d with agenda := ts } : Device).perform t).settleLoop (n + 1) := by
  rw [Device.settleLoop_succ ha] at h ⊢
  exact (Device.settleLoop_stable h (Nat.le_succ n)).symm

end

end Sys2Proof.Machine

/-! ### What stands in its range (Tables 0-4, 5-3) -/

namespace Sys2Proof.Machine

theorem clampParam_range (k : Param) (v : Nat) :
    (paramRange k).1 ≤ clampParam k v ∧ clampParam k v ≤ (paramRange k).2 :=
  ⟨le_max_left _ _, max_le (by cases k <;> decide) (min_le_left _ _)⟩

/-- A parameter written with a value in its range (R177). -/
theorem Params.Legal.put {p : Params} (h : p.Legal) {k : Param} {v : Nat}
    (hv : (paramRange k).1 ≤ v ∧ v ≤ (paramRange k).2) : (p.put k v).Legal := by
  intro j
  by_cases hj : j = k
  · subst hj; rw [Params.get_put]; exact hv
  · rw [Params.get_put_ne p hj]; exact h j

/-- A field that a request may give takes the value given, or stays. -/
theorem getD_of {P : Nat → Prop} {o : Option Nat} {x : Nat} (given : ∀ n, o = some n → P n) (stays : P x) :
    P (o.getD x) := by
  cases o with
  | none => exact stays
  | some n => exact given n rfl

/-- A pool loaded with fields in their ranges (R98). -/
theorem Pool.Legal.load {p : Pool} (h : p.Legal) {a : PoolArgs} (ha : poolArgsBad a = false) : (p.load a).Legal := by
  have good : ¬poolArgsBad a = true := by simp [ha]
  simp only [poolArgsBad_iff, not_or, not_exists, not_and] at good
  obtain ⟨multiplex, interval, retries, -, -, capacity⟩ := good
  unfold Pool.load
  extract_lets q
  have hq : q.Legal :=
    { multiplex := getD_of (P := fun n => 1 ≤ n ∧ n ≤ 8) (fun n hn => by have := multiplex n hn; omega) h.multiplex
      interval := getD_of (P := (· ≤ 8760)) (fun n hn => by have := interval n hn; omega) h.interval
      retries := getD_of (P := (· ≤ 3)) (fun n hn => by have := retries n hn; omega) h.retries
      capacity := getD_of (P := fun n => 128 ≤ n ∧ n ≤ Config.maxCapacity)
        (fun n hn => by have := capacity n hn; simp only [Config.maxCapacity]; omega) h.capacity }
  split
  · exact h
  · exact ⟨hq.multiplex, hq.interval, hq.retries, hq.capacity⟩

/-- A pool other than pool 0 written with values in its ranges (R97, R98). -/
theorem Fixed.Legal.setPool {x : Fixed} (h : x.Legal) {p : PoolId} {v : Pool} (hp : p ≠ 0) (hv : v.Legal) :
    Fixed.Legal { x with pools := x.pools.set p v } where
  params := h.params
  time := h.time
  errors := h.errors
  scratch := by
    have : p.val ≠ 0 := fun e => hp (Fin.ext e)
    simpa [Vector.getElem_set, this] using h.scratch
  pools q := by
    by_cases hq : p = q
    · subst hq; simpa using hv
    · have := h.pools q
      simpa [Vector.getElem_set, Fin.val_ne_of_ne hq] using this

/-- What a LOAD_POOL that is not refused has passed (R98, check 1). -/
theorem Device.poolRefusal_none {d : Device} {n : Nat} {e : Expected} {a : PoolArgs} {p : PoolId}
    (h : d.poolRefusal n e a = none) (hp : finOf? 8 n = some p) : p ≠ 0 ∧ poolArgsBad a = false := by
  cases bad : p == 0 || expectWide e || poolArgsBad a with
  | true => simp [Device.poolRefusal, hp, conditional, firstFailing, bad] at h
  | false =>
    simp only [Bool.or_eq_false_iff, beq_eq_false_iff_ne] at bad
    exact ⟨bad.1.1, bad.2⟩

end Sys2Proof.Machine

/-! ### What a command makes of the device (R174, R185) -/

namespace Sys2Proof.Machine

/-- What a command makes of a device: it is settled if it owed no decision, and keeps its ranges. -/
structure Device.Carried (d d' : Device) : Prop where
  settled : d.Quiet → ∃ e : Device, d' = e.settle
  ranges : d.fixed.Legal → d'.fixed.Legal

/-- An outcome of a command: a next state, its queue as it was. -/
def State.Completes (s : State) (o : Host.Outcome State Fault Refusal) : Prop :=
  ∃ d, o = .next { s with dev := d } ∧ s.dev.Carried d

section
variable {s : State} {g : Device → Device} {tag : Tag} {r : Option RefusalOf}

/-- A change that makes no decision due leaves a settled device settled. -/
theorem Device.Carried.of_agenda {d d' : Device} (ha : d'.agenda = d.agenda) (hf : d.fixed.Legal → d'.fixed.Legal) :
    d.Carried d' :=
  ⟨fun quiet => ⟨d', (Device.settle_of_quiet (ha.trans quiet)).symm⟩, hf⟩

theorem Device.Carried.respond (d : Device) (tag : Tag) (st : Status) (items : List Item) :
    d.Carried (d.respond tag st items) := .of_agenda rfl fun h => h

theorem State.Completes.nothing (s : State) : s.Completes (.next s) := ⟨s.dev, rfl, .of_agenda rfl id⟩

theorem State.Completes.just (ha : (g s.dev).agenda = s.dev.agenda)
    (hf : s.dev.fixed.Legal → (g s.dev).fixed.Legal) : s.Completes (s.just g) := ⟨_, rfl, .of_agenda ha hf⟩

theorem State.Completes.run (hf : s.dev.begun.fixed.Legal → (g s.dev.begun).fixed.Legal) : s.Completes (s.run g) :=
  ⟨_, rfl, fun _ => ⟨_, rfl⟩, fun h => by
    rw [Device.settle_fixed]
    exact hf ⟨h.params, h.time, h.errors, h.scratch, h.pools⟩⟩

theorem State.Completes.runIf {due : Bool} (hf : s.dev.begun.fixed.Legal → (g s.dev.begun).fixed.Legal) :
    s.Completes (s.runIf due g) := by
  cases due with
  | false => exact .nothing s
  | true => exact .run hf

theorem State.Completes.inbound {o : Host.Outcome State Fault Refusal} (h : s.Completes o) :
    s.Completes (s.inbound o) := by
  unfold State.inbound
  split
  · exact h
  · exact .nothing s

theorem State.Completes.request (hf : r = none → s.dev.begun.fixed.Legal → (g s.dev.begun).fixed.Legal) :
    s.Completes (s.request tag r g) := by
  unfold State.request
  split
  · cases r with
    | none => exact .run (hf rfl)
    | some x => exact ⟨_, rfl, .respond ..⟩
  · exact .nothing s

theorem State.Completes.answer {items : Device → List Item} : s.Completes (s.answer tag r items) := by
  unfold State.answer
  split
  · cases r with
    | none => exact ⟨_, rfl, .respond ..⟩
    | some x => exact ⟨_, rfl, .respond ..⟩
  · exact .nothing s

end

theorem Device.linkError_legal {d : Device} (h : d.fixed.Legal) : d.linkError.fixed.Legal := by
  rw [Device.linkError_fixed]
  exact { h with errors := Nat.min_le_left _ _ }

theorem Device.takeData_legal {d : Device} (c : StreamId) (p : Bytes) (h : d.fixed.Legal) :
    (d.takeData c p).fixed.Legal := by
  unfold Device.takeData
  dsimp only
  split
  · exact Device.linkError_legal h
  · split <;> simpa using h

theorem Device.takeCut_legal {d : Device} (c : StreamId) (h : d.fixed.Legal) : (d.takeCut c).fixed.Legal := by
  unfold Device.takeCut
  split
  · simpa using h
  · exact Device.linkError_legal h

theorem Device.takeEnd_legal {d : Device} (c : StreamId) (h : d.fixed.Legal) : (d.takeEnd c).fixed.Legal := by
  unfold Device.takeEnd
  split
  · simpa using h
  · exact Device.linkError_legal h

theorem Device.poll_agenda (d : Device) (tag : Tag) : (d.poll tag).agenda = d.agenda := by
  unfold Device.poll; split <;> rfl

theorem Device.sendFrame_agenda (d : Device) (f : OutFrame) (rest : List OutFrame) :
    (d.sendFrame f rest).agenda = d.agenda := by cases f <;> rfl

/-- Every command is carried out: each form of a command completes, what it changes itself standing in its ranges. -/
theorem exec_completes (c : Instr) (s : State) : s.Completes (exec c s) := by
  have discarded : s.Completes (s.just Device.linkError) := .just rfl Device.linkError_legal
  have frame {ch : Nat} {g : StreamId → Device → Device} (hg : ∀ c (d : Device), d.fixed.Legal → (g c d).fixed.Legal) :
      s.Completes
        (s.inbound (match streamOf? ch with | some c => s.run (g c) | none => s.just Device.linkError)) := by
    refine .inbound ?_
    split
    · exact .run (hg _ _)
    · exact discarded
  cases c with
  | data ch p => exact frame fun c _ => Device.takeData_legal c p
  | markCut ch => exact frame fun c _ => Device.takeCut_legal c
  | markEnd ch => exact frame fun c _ => Device.takeEnd_legal c
  | grant ch n =>
    refine .inbound ?_
    split
    · split
      · exact discarded
      · exact .run fun h => by simpa using h
    · exact discarded
  | frameRefused f => exact .inbound discarded
  | unknownRequest | listSegments =>
    simp only [exec, execUnknownRequest, execListSegments]
    exact .answer
  | readElement | readDrive | readStream =>
    simp only [exec, execReadElement, execReadDrive, execReadStream]
    split <;> exact .answer
  | readFeed | readCartridge | readSegment =>
    simp only [exec, execReadFeed, execReadCartridge, execReadSegment]
    split
    · exact .answer
    · split <;> exact .answer
  | openStream | abortStream | loadCartridgeCreate | loadCartridgeRemove | restore | cancelRestore | verifyNow
  | loadSegment | releaseSegment | finalize =>
    refine .request fun _ h => ?_
    split <;> simpa using h
  | lock | unlock | hold | recycle | inventory | resetChanger => exact .request fun _ h => by simpa using h
  | loadCartridgeEdit | move =>
    refine .request fun _ h => ?_
    split
    · split <;> simpa using h
    · exact h
  | loadPool tag n x a =>
    refine .request fun passed h => ?_
    split
    · rename_i p hp
      obtain ⟨data, good⟩ := Device.poolRefusal_none passed hp
      rw [Device.loadPool_fixed]
      exact h.setPool data (Pool.Legal.load (h.pools p) good)
    · exact h
  | setParam tag k v =>
    simp only [exec, execSetParam]
    split
    · exact .answer
    · exact .answer
    · refine .request fun _ h => ?_
      rw [Device.setParam_fixed]
      exact { h with params := h.params.put (clampParam_range _ _) }
  | setTime tag v =>
    refine .request fun passed h => ?_
    have inRange : v.getD 0 ≤ Config.max32 := by
      have := firstFailing_none passed _ List.mem_cons_self
      cases v <;> simp_all
    rw [Device.setTime_fixed]
    exact { h with time := inRange }
  | libraryTimeAdvance =>
    refine .run fun h => ?_
    rw [Device.second_fixed]
    exact { h with time := Nat.min_le_left _ _ }
  | poll tag => exact .inbound (.just (Device.poll_agenda _ _) fun h => by simpa using h)
  | resetLink tag v =>
    refine .request fun _ h => ?_
    rw [Device.discardUnsent_fixed, Device.linkReset_fixed]
    exact { h with errors := Nat.zero_le _ }
  | linkDown =>
    rw [exec, execLinkDown]
    refine .run fun h => ?_
    have reset : (s.dev.begun.linkReset.discardUnsent fun _ => false).fixed.Legal := by
      rw [Device.discardUnsent_fixed, Device.linkReset_fixed]
      exact { h with errors := Nat.zero_le _ }
    generalize s.dev.begun.linkReset.discardUnsent _ = e at reset
    exact ⟨reset.params, reset.time, reset.errors, reset.scratch, reset.pools⟩
  | resetDrive tag v =>
    simp only [exec, execResetDrive]
    split
    · exact .request fun _ h => by simpa using h
    · exact .request fun _ h => h
  | linkUp | retentionHoldChange =>
    simp only [exec, execLinkUp, execRetentionHoldChange]
    refine .just rfl fun h => ?_
    exact ⟨h.params, h.time, h.errors, h.scratch, h.pools⟩
  | powerOn door hold =>
    have quiet : (Device.powerOn door hold).Quiet := rfl
    exact ⟨_, rfl, fun _ => ⟨_, (Device.settle_of_quiet quiet).symm⟩, fun _ => Device.powerOn_legal door hold⟩
  | mailDoorOpen | mailDoorClosed =>
    refine .runIf fun h => ?_
    simp only [Device.doorOpens_fixed, Device.doorCloses_fixed]
    exact ⟨h.params, h.time, h.errors, h.scratch, h.pools⟩
  | compressionCompletion | placement | expansionCompletion | assemblyTimeout | oldestBlockTimeout | governorPeriod
  | commandTimeout | minimumDwell | idleUnmount =>
    exact .runIf fun h => by simpa using h
  | loadCompletion | unloadCompletion | locateCompletion | locateEndCompletion | readCompletion | writeCompletion
  | speedCompletion | cleanCompletion =>
    simp only [exec, execLoadCompletion, execUnloadCompletion, execLocateCompletion, execLocateEndCompletion,
      execReadCompletion, execWriteCompletion, execSpeedCompletion, execCleanCompletion]
    refine .run fun h => ?_
    rw [Device.completion_fixed]
    · exact h
    · simp
  | cleanRequest | transferCompletion | scanCompletion | rehomeCompletion =>
    simp only [exec, execCleanRequest, execTransferCompletion, execScanCompletion, execRehomeCompletion]
    exact .run fun h => by simpa using h
  | orderTimeout =>
    simp only [exec, execOrderTimeout]
    split
    · exact .run fun h => by simpa using h
    · exact .nothing s
  | restoreStall | entryOverdue =>
    simp only [exec, execRestoreStall, execEntryOverdue]
    split
    · exact .runIf fun h => by simpa using h
    · exact .nothing s
  | outboundFrameLeaves ch =>
    simp only [exec, execOutboundFrameLeaves]
    split
    · split
      · refine .just (Device.sendFrame_agenda ..) fun h => ?_
        rw [Device.sendFrame_fixed]
        exact ⟨h.params, h.time, h.errors, h.scratch, h.pools⟩
      · exact .nothing s
    · exact .nothing s

/-- Settles O5: a step is the front command's, and every command keeps the ranges. -/
theorem everyStepKeepsTheRanges : Obligations.EveryStepKeepsTheRanges := by
  intro s t legal h
  cases hp : s.pending with
  | nil =>
    rw [stepCarriesOutTheFrontCommand.2 s hp] at h
    cases h
    exact legal
  | cons c rest =>
    obtain ⟨d, outcome, carried⟩ := exec_completes c { s with pending := rest }
    rw [stepCarriesOutTheFrontCommand.1 c rest s hp, outcome] at h
    cases h
    exact carried.ranges legal

/-- Settles O2: every command completes, and settling carries the decisions out one by one. -/
theorem everyCommandCompletesAndSettles : Obligations.EveryCommandCompletesAndSettles := by
  have bound : Device.settleBound = 999999 + 1 := rfl
  refine ⟨fun c s => ?_, fun d => Device.settle_of_quiet, fun d t ts ha quiet => ?_, fun d => ?_,
    fun d t => ⟨fun due => if_pos due, fun new => if_neg new⟩⟩
  · obtain ⟨d, outcome, carried⟩ := exec_completes c s
    exact ⟨d, outcome, carried.settled⟩
  · unfold Device.settle at quiet ⊢
    rw [bound] at quiet ⊢
    exact Device.settleLoop_first ha quiet
  · by_cases quiet : d.settle.Quiet
    · exact .inl quiet
    · refine .inr fun n le early => quiet ?_
      rw [Device.settle, Device.settleLoop_stable (m := Device.settleBound) early le]
      exact early

end Sys2Proof.Machine

/-! ### O12: a refused request, and the checks of LOCK, UNLOCK, HOLD, INVENTORY, ABORT_STREAM and CANCEL_RESTORE -/

namespace Sys2Proof.Machine

/-- A RESET_DRIVE without a drive number in 0..3 is refused (R184). -/
theorem exec_resetDrive_refused {s : State} (tag : Tag) {v : Option Nat} (up : s.dev.link.up = true)
    (h : v.bind (finOf? 4) = none) :
    exec (.resetDrive tag v) s = .next { s with dev := s.dev.respond tag .badArgument } := by
  simp only [exec, execResetDrive, h]
  exact State.request_refused up rfl

/-- A request on one entry is refused by what the request's own checks give. -/
theorem Device.entryRefusal_congr {d : Device} {index : Nat} {x : Expected}
    {own own' : CartId → Cart → List (Bool × Status)}
    (h : ∀ c e, firstFailing (own c e) = firstFailing (own' c e)) :
    d.entryRefusal index x own = d.entryRefusal index x own' := by
  unfold Device.entryRefusal conditional
  simp only [h]

/-- The refusals of Table 5-2 as checks in a row (R91, R92). -/
def tableChecks (line : Bool) (e : Cart) : ProtectionRequest → List (Bool × Status)
  | .lock =>
    [(e.protection == some .locked || e.protection == some .held, .state),
     (e.protection == some .finalized, .protected_)]
  | .unlock =>
    [(e.protection == some .writable, .state),
     (e.protection == some .held && line || e.protection == some .finalized, .protected_)]
  | .hold => [(e.protection == some .held, .state), (e.protection == some .finalized, .protected_)]

/-- A protection request's own checks: that the cartridge is a data cartridge, and those of Table 5-2. -/
theorem Device.protectRefusal_eq (d : Device) (q : ProtectionRequest) (index : Nat) (x : Expected) :
    d.protectRefusal q index x = d.entryRefusal index x fun _ e =>
      (e.kind == .cleaning || e.protection.isNone, .state) :: tableChecks d.media.holdLine e q := by
  refine Device.entryRefusal_congr fun c e => ?_
  cases hk : e.kind with
  | cleaning => simp [firstFailing]
  | data =>
    cases hp : e.protection with
    | none => simp [firstFailing]
    | some p => cases q <;> cases p <;> cases d.media.holdLine <;> simp [tableChecks, hp] <;> rfl

/-- A protection request's checks agree with the rule's when those of Table 5-2 do. -/
theorem Ordered.of_protect {d : Device} {c : CartId} {x : Expected} {q : ProtectionRequest}
    {ps : List (Prop × Status)} (h : ∀ e, d.cart c = some e → Agree ps (tableChecks d.media.holdLine e q)) :
    Ordered [genItem (d.row c).gen] (d.protectRefusal q c x)
      ((∃ n, x = .exactly n ∧ 255 < n, .badArgument) :: (d.cart c = none, .noEntry) ::
        (∃ n, x = .exactly n ∧ n ≠ (d.row c).gen.toNat, .stale) ::
        (∃ e, d.cart c = some e ∧ (e.kind = .cleaning ∨ e.protection = none), .state) :: ps) := by
  rw [Device.protectRefusal_eq]
  refine .of_entry (fun e => by cases q <;> rfl) fun e he => .cons ?_ fun _ => h e he
  simp [he]

/-- Settles O12: every request answers a refusal in one form, and the checks of the six agree with their rules'. -/
theorem refusedRequestsChangeNothing : Obligations.RefusedRequestsChangeNothing := by
  unfold Obligations.RefusedRequestsChangeNothing
  refine ⟨?_, ?_⟩
  · intro s tag x up t
    have refused {i : Instr} {r : Option RefusalOf} {g : Device → Device} (hi : exec i s = s.request tag r g)
        (h : r = some x) : exec i s = t := hi.trans (State.request_refused up h)
    refine ⟨fun _ _ _ _ _ => refused rfl, fun _ => refused rfl, fun _ _ _ => refused rfl, fun _ _ _ _ => refused rfl,
      fun _ _ _ => refused rfl, fun _ _ => refused rfl, fun _ _ => refused rfl, fun _ _ => refused rfl,
      fun _ _ => refused rfl, fun _ _ => refused rfl, fun _ _ => refused rfl, fun _ _ => refused rfl,
      fun _ _ => refused rfl, fun _ _ _ _ _ _ => refused rfl, fun _ => refused rfl, fun _ => refused rfl,
      fun _ => refused rfl, fun _ => refused rfl, fun hx => ?_⟩
    subst hx
    have noDrive {v : Option Nat} (h : v.bind (finOf? 4) = none) : exec (.resetDrive tag v) s = t :=
      exec_resetDrive_refused tag up h
    refine ⟨fun v => State.answer_refused (items := fun _ => []) up rfl, ?_, fun v hv => ?_,
      fun i => ⟨?_, ?_, fun hi => noDrive (finOf_none hi)⟩, noDrive rfl⟩ <;>
      simp only [exec, execSetTime, execResetLink, execResetChanger] <;> refine State.request_refused up ?_
    · rfl
    · simp [firstFailing, Config.max32, hv]
    · rfl
    · rfl
  · intro s tag up answer entry is inOrder
    refine ⟨fun i x hi => ?_, fun c x => ?_, ?_, fun ch hch => ?_, fun c => ?_,
      fun ch hch => ?_, fun r => ?_⟩
    -- LOCK, UNLOCK and HOLD
    · refine ⟨?_, ?_, ?_⟩ <;> refine State.request_badArgument up rfl ?_ <;>
        rw [Device.protectRefusal, Device.entryRefusal, finOf_none hi]
    · refine ⟨?_, ?_, ?_⟩ <;>
        refine State.request_inOrder up rfl (.of_protect fun e he => .cons ?_ fun _ => .cons ?_ fun _ => .nil) <;>
        simp [is, entry, he]
    -- INVENTORY
    · intro first last a b
      refine State.request_inOrder up rfl (.of_firstFailing rfl <| .cons ?_ fun _ => .cons ?_ fun _ => .nil)
      · simp only [Bool.or_eq_true, decide_eq_true_iff, or_assoc, a, b]
      · exact Option.isSome_iff_ne_none.symm
    -- ABORT_STREAM
    · refine State.request_badArgument up rfl ?_
      rw [Device.abortRefusal, streamOf_none hch]
    · have hc : streamOf? (c.val + 1) = some c := streamOf_streamChannel c
      refine State.request_inOrder up rfl ?_
      simp only [Device.abortRefusal, hc]
      exact .of_firstFailing rfl <| .cons beq_iff_eq.symm fun _ => .nil
    -- CANCEL_RESTORE
    · refine State.request_badArgument up rfl ?_
      rw [Device.cancelRefusal, restoreOf_none hch]
    · have hr : restoreOf? (r.val + 33) = some r := restoreOf_restoreChannel r
      refine State.request_inOrder up rfl ?_
      simp only [Device.cancelRefusal, hr]
      refine .of_firstFailing rfl <| .cons ?_ fun _ => .nil
      cases he : s.dev.restore? r <;> simp [Device.liveRestore, he]

end Sys2Proof.Machine

/-! ### O60: inbound frames (R175, R187 to R189) -/

namespace Sys2Proof.Decode
open Sys2Proof.Machine

/-! #### The envelope (R188) -/

theorem frameBytes_length (ch : Nat) (kind flags : Byte) (p : Bytes) :
    (frameBytes ch kind flags p).length = p.length + 9 := by
  simp [frameBytes]; omega

theorem envelopeOk_iff {f : Bytes} : envelopeOk f = true ↔
    (10 ≤ f.length ∧ f.length ≤ 4117) ∧ leNat (f.take 2) = f.length ∧
      BitVec.ofNat 32 (leNat (f.drop (f.length - 4))) = crc32 (f.take (f.length - 4)) := by
  simp [envelopeOk, and_assoc]

/-- A frame laid out as Table 11-1 has it passes the first two checks, if its length is in bounds. -/
theorem envelopeOk_frameBytes {p : Bytes} (ch : Nat) (kind flags : Byte) (h1 : 1 ≤ p.length) (h2 : p.length ≤ 4108) :
    envelopeOk (frameBytes ch kind flags p) = true := by
  have length : leNat (leBytes 2 (p.length + 9)) = p.length + 9 := leNat_leBytes_of_lt (by omega)
  have field : (frameBytes ch kind flags p).take 2 = leBytes 2 (p.length + 9) := rfl
  obtain ⟨head, hhead⟩ : ∃ head, head = leBytes 2 (p.length + 9) ++ [BitVec.ofNat 8 ch, kind, flags] ++ p := ⟨_, rfl⟩
  have layout : frameBytes ch kind flags p = head ++ leBytes 4 (crc32 head).toNat := by rw [hhead]; rfl
  have before : head.length = p.length + 9 - 4 := by rw [hhead]; simp; omega
  rw [envelopeOk_iff, field, length, frameBytes_length, layout, ← before, List.take_left, List.drop_left, leNat_word]
  exact ⟨by omega, rfl, rfl⟩

/-- The last two checks of a frame and its routing, by its channel, its kind and its body (R175, R188). -/
def routed (f : Bytes) (ch : Nat) (kind : Byte) (body : Bytes) : Instr :=
  if 1 ≤ ch ∧ ch ≤ 32 ∧ kind = 0x01#8 then .data ch body
  else if 1 ≤ ch ∧ ch ≤ 32 ∧ kind = 0x02#8 then
    (if body = [0x01#8] then .markCut ch else if body = [0x02#8] then .markEnd ch else .frameRefused f)
  else if 33 ≤ ch ∧ ch ≤ 40 ∧ kind = 0x04#8 then
    (if body.length = 2 then .grant ch (leNat body) else .frameRefused f)
  else if ch = 0 ∧ kind = 0x05#8 then (if 2 ≤ body.length then request body else .frameRefused f)
  else .frameRefused f

theorem frameCommand_bad {f : Bytes} (h : envelopeOk f = false) : frameCommand f = .frameRefused f := by
  simp [frameCommand, h]

/-- A frame within bounds is routed by the fields it was laid out from. -/
theorem frameCommand_frameBytes {ch : Nat} {p : Bytes} (kind flags : Byte) (hc : ch ≤ 255) (h1 : 1 ≤ p.length)
    (h2 : p.length ≤ 4108) :
    frameCommand (frameBytes ch kind flags p) = routed (frameBytes ch kind flags p) ch kind p := by
  have channel : (((frameBytes ch kind flags p).drop 2).headD 0).toNat = ch := by
    show (BitVec.ofNat 8 ch).toNat = ch
    rw [BitVec.toNat_ofNat]; omega
  have body : ((frameBytes ch kind flags p).drop 5).take ((frameBytes ch kind flags p).length - 9) = p := by
    rw [frameBytes_length, Nat.add_sub_cancel]
    exact List.take_left
  rw [frameCommand, envelopeOk_frameBytes ch kind flags h1 h2, channel, body]
  rfl

/-- A frame out of bounds is refused. -/
theorem frameCommand_out_of_bounds {ch : Nat} {p : Bytes} (kind flags : Byte) (h : p.length < 1 ∨ 4108 < p.length) :
    frameCommand (frameBytes ch kind flags p) = .frameRefused (frameBytes ch kind flags p) := by
  refine frameCommand_bad (Bool.eq_false_iff.mpr fun ok => ?_)
  obtain ⟨⟨lo, hi⟩, -⟩ := envelopeOk_iff.mp ok
  rw [frameBytes_length] at lo hi
  omega

/-- A REQ is the command of its items, or an unknown request (R174, R189). -/
theorem frameCommand_req (flags : Byte) (tag : Tag) {b : Bytes} (h : b.length ≤ 4106) :
    frameCommand (frameBytes 0 0x05 flags (leBytes 2 tag.toNat ++ b)) =
      (requestOf tag b).getD (.unknownRequest tag b) := by
  have read : request (leBytes 2 tag.toNat ++ b) = (requestOf tag b).getD (.unknownRequest tag b) := by
    have ht : leNat (leBytes 2 tag.toNat) = tag.toNat := leNat_leBytes_of_lt tag.isLt
    have take : (leBytes 2 tag.toNat ++ b).take 2 = leBytes 2 tag.toNat := rfl
    have drop : (leBytes 2 tag.toNat ++ b).drop 2 = b := rfl
    rw [request, take, drop, ht, BitVec.ofNat_toNat, BitVec.setWidth_eq]
  rw [frameCommand_frameBytes _ _ (by omega) (by simp; omega) (by simp; omega), ← read]
  simp [routed]

/-! #### The items of a REQ (R189) -/

/-- An item's characters and lengths are those R189 allows. -/
def Readable (x : Item) : Prop :=
  1 ≤ x.name.length ∧ x.name.length ≤ 32 ∧ x.value.length ≤ 4096 ∧
    ∀ z ∈ x.name, (0x41 ≤ z.toNat ∧ z.toNat ≤ 0x5A) ∨ (0x30 ≤ z.toNat ∧ z.toNat ≤ 0x39) ∨ z.toNat = 0x5F

/-- An item as the argument that its name and its value are. -/
def argOf (x : Item) : Bytes × Bytes := (x.name, x.value)

/-- The item at the start of a body reads back (R189). -/
theorem readItem_bytes {x : Item} (h : Readable x) (rest : Bytes) :
    readItem (x.bytes ++ rest) = some (argOf x, rest) := by
  obtain ⟨h1, h2, h3, chars⟩ := h
  have layout : x.bytes ++ rest =
      BitVec.ofNat 8 x.name.length :: (x.name ++ (leBytes 2 x.value.length ++ (x.value ++ rest))) := by
    simp [Item.bytes]
  have hl : (BitVec.ofNat 8 x.name.length).toNat = x.name.length := by rw [BitVec.toNat_ofNat]; omega
  have hv : leNat (leBytes 2 x.value.length) = x.value.length := leNat_leBytes_of_lt (by omega)
  have good : x.name.all nameChar = true := by
    simpa [nameChar, or_assoc] using chars
  have length : (leBytes 2 x.value.length ++ (x.value ++ rest)).take 2 = leBytes 2 x.value.length := rfl
  have value : (leBytes 2 x.value.length ++ (x.value ++ rest)).drop 2 = x.value ++ rest := rfl
  have after : (leBytes 2 x.value.length ++ (x.value ++ rest)).drop (2 + x.value.length) = rest := by
    rw [← List.drop_drop, value, List.drop_left]
  rw [layout, readItem]
  simp only [hl, List.take_left, List.drop_left, length, hv, value, after, good]
  rw [if_pos ⟨h1, h2, trivial, trivial, by simp, h3, trivial⟩]
  rfl

/-- Items that can be read are read one after the other, and then what follows them. -/
theorem readItems_append {is : List Item} (h : ∀ x ∈ is, Readable x) (n : Nat) (rest : Bytes) :
    readItems (is.length + n) (itemsBytes is ++ rest) = (readItems n rest).map (is.map argOf ++ ·) := by
  induction is with
  | nil => simp [itemsBytes]
  | cons x is ih =>
    have layout : itemsBytes (x :: is) ++ rest = x.bytes ++ (itemsBytes is ++ rest) := by simp [itemsBytes]
    have nonempty : x.bytes ++ (itemsBytes is ++ rest) ≠ [] := by simp [Item.bytes]
    rw [List.length_cons, Nat.add_right_comm, layout, readItems, if_neg nonempty,
      readItem_bytes (h x List.mem_cons_self)]
    simp [ih fun y hy => h y (List.mem_cons_of_mem _ hy), Function.comp_def]

theorem length_le_itemsBytes (is : List Item) : is.length ≤ (itemsBytes is).length := by
  induction is with
  | nil => exact Nat.zero_le _
  | cons x is ih => simp [itemsBytes, Item.bytes] at ih ⊢; omega

/-- Items that can be read and end at the body's end are the arguments of the request. -/
theorem readItems_itemsBytes {is : List Item} (h : ∀ x ∈ is, Readable x) :
    readItems (itemsBytes is).length (itemsBytes is) = some (is.map argOf) := by
  obtain ⟨n, hn⟩ := Nat.exists_eq_add_of_le (length_le_itemsBytes is)
  have := readItems_append h n []
  rw [List.append_nil] at this
  rw [hn, this]
  cases n <;> simp [readItems]

/-- An item whose name has no length in 1..32 cannot be read. -/
theorem readItems_length {l : Byte} {rest : Bytes} (h : l.toNat = 0 ∨ 32 < l.toNat) :
    readItems (l :: rest).length (l :: rest) = none := by
  have bad : readItem (l :: rest) = none := if_neg fun good => by omega
  rw [List.length_cons, readItems, if_neg (List.cons_ne_nil _ _), bad]

theorem readItem_singleton (z : Byte) : readItem [z] = none := by
  simp [readItem]

/-- A single byte after the items cannot be read. -/
theorem readItems_tail {is : List Item} (h : ∀ x ∈ is, Readable x) (z : Byte) :
    readItems (itemsBytes is ++ [z]).length (itemsBytes is ++ [z]) = none := by
  have le : is.length ≤ (itemsBytes is ++ [z]).length := by
    have := length_le_itemsBytes is
    simp; omega
  obtain ⟨n, hn⟩ := Nat.exists_eq_add_of_le le
  rw [hn, readItems_append h n [z]]
  cases n <;> simp [readItems, readItem_singleton]

end Sys2Proof.Decode

namespace Sys2Proof.Decode
open Sys2Proof.Machine

/-! #### The requests of Table 10-1 (R174, R189) -/

theorem distinctNames_iff (is : List Item) :
    distinctNames (is.map argOf) = true ↔ (is.map fun x => x.name).Nodup := by
  induction is with
  | nil => simp [distinctNames]
  | cons x is ih => simp [distinctNames, ih, argOf]

theorem requestOf_unreadable (tag : Tag) {b : Bytes} (h : readItems b.length b = none) : requestOf tag b = none := by
  simp [requestOf, h]

/-- The request of a body whose items can be read. -/
theorem requestOf_items {x : Item} {rest : List Item} (h : ∀ y ∈ x :: rest, Readable y) (tag : Tag) :
    requestOf tag (itemsBytes (x :: rest)) =
      if x.name = ascii "NAME" ∧ ((x :: rest).map fun y => y.name).Nodup then
        (forms.find? fun f => ascii f.name == x.value).bind fun form =>
          if rest.all fun y => form.takes.any fun t => ascii t == y.name then form.make tag (rest.map argOf) else none
      else none := by
  rw [requestOf, readItems_itemsBytes h]
  simp only [← distinctNames_iff]
  simp [argOf, Function.comp_def]

/-- A name of no request of Table 10-1. -/
theorem forms_unknown {v : Bytes} (h : ∀ n ∈ forms.map Form.name, v ≠ ascii n) :
    forms.find? (fun f => ascii f.name == v) = none :=
  List.find?_eq_none.mpr fun f hf e => h f.name (List.mem_map_of_mem hf) (beq_iff_eq.mp e).symm

theorem forms_poll :
    forms.find? (fun f => ascii f.name == ascii "POLL") = some ⟨"POLL", [], fun tag _ => some (.poll tag)⟩ := rfl

theorem forms_readSegment : forms.find? (fun f => ascii f.name == ascii "READ_SEGMENT") =
    some (oneNumber "READ_SEGMENT" "PART_ID" .readSegment) := rfl

theorem readable_name : Readable ⟨ascii "NAME", ascii "POLL"⟩ ∧ Readable ⟨ascii "NAME", ascii "READ_SEGMENT"⟩ := by
  unfold Readable; decide

theorem readable_partId (n : Nat) : Readable ⟨ascii "PART_ID", leBytes 4 n⟩ := by
  refine ⟨?_, ?_, by simp, ?_⟩
  · change 1 ≤ (ascii "PART_ID").length; decide
  · change (ascii "PART_ID").length ≤ 32; decide
  · change ∀ z ∈ ascii "PART_ID", _; decide

theorem requestOf_poll (tag : Tag) : requestOf tag (itemsBytes [⟨ascii "NAME", ascii "POLL"⟩]) = some (.poll tag) := by
  rw [requestOf_items (by simpa using readable_name.1), if_pos (by simp), forms_poll]
  rfl

theorem requestOf_readSegment (tag : Tag) {n : Nat} (h : n ≤ 0xFFFFFFFF) :
    requestOf tag (itemsBytes [⟨ascii "NAME", ascii "READ_SEGMENT"⟩, ⟨ascii "PART_ID", leBytes 4 n⟩]) =
      some (.readSegment tag n) := by
  have value : leNat (leBytes 4 n) = n := leNat_leBytes_of_lt (by omega)
  have distinct : ascii "NAME" ≠ ascii "PART_ID" := by decide
  rw [requestOf_items (by simpa using ⟨readable_name.2, readable_partId n⟩), if_pos (by simpa using distinct),
    forms_readSegment]
  simp [oneNumber, num, arg, number, argOf, value]

/-- A POLL with an argument is none (R181). -/
theorem requestOf_poll_args {x : Item} {rest : List Item} (h : ∀ y ∈ x :: rest, Readable y) (tag : Tag)
    (name : x.value = ascii "POLL") (args : rest ≠ []) : requestOf tag (itemsBytes (x :: rest)) = none := by
  rw [requestOf_items h]
  split
  · obtain ⟨y, rest, rfl⟩ := List.exists_cons_of_ne_nil args
    simp [name, forms_poll]
  · rfl

/-- A READ_SEGMENT whose arguments are not one number as its part id is none (R81). -/
theorem requestOf_readSegment_args {x : Item} {rest : List Item} (h : ∀ y ∈ x :: rest, Readable y) (tag : Tag)
    (name : x.value = ascii "READ_SEGMENT")
    (args : (∀ y ∈ rest, y.name ≠ ascii "PART_ID") ∨ (∃ y ∈ rest, y.name ≠ ascii "PART_ID") ∨
      ∃ y ∈ rest, y.value.length = 0 ∨ 8 < y.value.length) : requestOf tag (itemsBytes (x :: rest)) = none := by
  rw [requestOf_items h]
  split
  · rename_i good
    rw [name, forms_readSegment, Option.bind_some]
    split
    · rename_i all
      have partIds : ∀ y ∈ rest, y.name = ascii "PART_ID" := fun y hy => by
        have taken := List.all_eq_true.mp all y hy
        exact .symm (by simpa [oneNumber] using taken)
      match rest, args, partIds, good with
      | [], _, _, _ => rfl
      | [y], args, partIds, _ =>
        have hy : y.name = ascii "PART_ID" := partIds y List.mem_cons_self
        have bad : ¬(1 ≤ y.value.length ∧ y.value.length ≤ 8) := by
          simp only [List.mem_singleton, forall_eq, exists_eq_left, hy, ne_eq, not_true, false_or] at args
          omega
        simp [oneNumber, num, arg, number, argOf, hy, bad]
      | y :: z :: _, _, partIds, good =>
        have hy := partIds y (by simp)
        have hz := partIds z (by simp)
        simp [hy, hz] at good
    · rfl
  · rfl

/-! #### The obligation -/

/-- A frame that its channel does not take is refused by its routing (R175). -/
theorem routed_refused {f : Bytes} {ch : Nat} {kind : Byte} {p : Bytes}
    (h : ¬((1 ≤ ch ∧ ch ≤ 32 ∧ (kind = 0x01 ∨ (kind = 0x02 ∧ (p = [0x01] ∨ p = [0x02])))) ∨
      (33 ≤ ch ∧ ch ≤ 40 ∧ kind = 0x04 ∧ p.length = 2) ∨ (ch = 0 ∧ kind = 0x05 ∧ 2 ≤ p.length))) :
    routed f ch kind p = .frameRefused f := by
  simp only [not_or, not_and] at h
  obtain ⟨stream, restore, req⟩ := h
  unfold routed
  split
  · rename_i data
    exact absurd data.2.2 (stream data.1 data.2.1).1
  split
  · rename_i mark
    obtain ⟨cut, end_⟩ := (stream mark.1 mark.2.1).2 mark.2.2
    exact (if_neg cut).trans (if_neg end_)
  split
  · rename_i grant
    rw [if_neg (restore grant.1 grant.2.1 grant.2.2)]
  split
  · rename_i request
    rw [if_neg (req request.1 request.2)]
  · rfl

end Sys2Proof.Decode

namespace Sys2Proof.Machine
open Sys2Proof.Decode

/-- Settles O60: a frame is routed by the fields it was laid out from, a REQ by the items it was laid out from. -/
theorem inboundFramesAreReadAsLaidOut : Obligations.InboundFramesAreReadAsLaidOut := by
  refine ⟨fun flags => ⟨fun ch p lo hi h1 h2 => ?_, fun ch lo hi => ⟨?_, ?_⟩, fun ch n lo hi hn => ?_,
    fun tag => ⟨?_, fun n hn => ?_⟩⟩, fun f bad => frameCommand_bad ?_, ?_, ?_, by decide +kernel, by decide +kernel⟩
  -- frames as laid out
  · rw [frameCommand_frameBytes _ _ (by omega) h1 (by omega), routed, if_pos ⟨lo, hi, rfl⟩]
  · rw [frameCommand_frameBytes _ _ (by omega) (by simp) (by simp), routed, if_neg (by simp), if_pos ⟨lo, hi, rfl⟩]
    exact if_pos rfl
  · rw [frameCommand_frameBytes _ _ (by omega) (by simp) (by simp), routed, if_neg (by simp), if_pos ⟨lo, hi, rfl⟩]
    exact (if_neg (by decide)).trans (if_pos rfl)
  · have count : leNat (leBytes 2 n) = n := leNat_leBytes_of_lt (by omega)
    rw [frameCommand_frameBytes _ _ (by omega) (by simp) (by simp), routed, if_neg (by simp), if_neg (by simp),
      if_pos ⟨lo, hi, rfl⟩, if_pos (leBytes_length ..), count]
  · rw [frameCommand_req flags tag (by decide), requestOf_poll, Option.getD_some]
  · rw [frameCommand_req flags tag (by simp [itemsBytes, Item.bytes]; decide), requestOf_readSegment tag hn,
      Option.getD_some]
  -- frames refused
  · refine Bool.eq_false_iff.mpr fun ok => ?_
    obtain ⟨⟨lo, hi⟩, length, check⟩ := envelopeOk_iff.mp ok
    rcases bad with bad | bad | bad | bad
    · omega
    · omega
    · exact bad length
    · exact bad check
  · intro ch kind flags p hc f takes refused
    by_cases bounds : 1 ≤ p.length ∧ p.length ≤ 4108
    · rw [frameCommand_frameBytes kind flags hc bounds.1 bounds.2, routed_refused refused]
    · exact frameCommand_out_of_bounds kind flags (by omega)
  -- requests answered BAD_ARGUMENT
  · intro flags tag b hb names readable unknown
    have of_none (h : requestOf tag b = none) : unknown := by
      simp only [unknown]
      rw [frameCommand_req flags tag hb, h, Option.getD_none]
    have named : forms.map Form.name = names := rfl
    refine ⟨fun h => of_none ?_, fun l rest h bad => of_none ?_, fun is good => ⟨fun z h => of_none ?_, fun h =>
      ⟨fun x rest hi name => of_none ?_, fun twice => of_none ?_, fun x rest hi name => of_none ?_,
        fun x rest hi name args => of_none ?_, fun x rest hi name args => of_none ?_⟩⟩⟩ <;> subst h
    · rfl
    · exact requestOf_unreadable tag (readItems_length bad)
    · exact requestOf_unreadable tag (readItems_tail good z)
    · subst hi
      rw [requestOf_items good, if_neg fun h => name h.1]
    · cases is with
      | nil => exact absurd List.nodup_nil twice
      | cons x rest => rw [requestOf_items good, if_neg fun h => twice h.2]
    · subst hi
      rw [requestOf_items good, forms_unknown (named ▸ name)]
      split <;> rfl
    · subst hi
      exact requestOf_poll_args good tag name args
    · subst hi
      exact requestOf_readSegment_args good tag name args

end Sys2Proof.Machine
